-- ==== Sys2Proof/Word.lean ====
section
/-! DEFINITION. The words of the KZ-2840: bytes, store words, node numbers and frames. -/

namespace Sys2Proof

/-- One byte of a frame, a packet or a request. -/
abbrev Byte := BitVec 8

/-- One sixteen-bit word of the store (R64). -/
abbrev Word := BitVec 16

/-- A node number of the cluster loop, 0 to 15, set by four straps (R165). -/
abbrev Node := BitVec 4

/-- The bytes of a loop frame, tag first and check byte last (R164). -/
abbrev Frame := List Byte

end Sys2Proof
end

