-- ==== Sys2Proof/Syntax.lean ====
section
/-! DEFINITION. The commands of the KZ-2840: one constructor for each row of spec/opcode_table.json, in its order.

A timer's expiry, a completion and an event carry what the outside world decides (which channel, the key lines, the
bytes received, whether the word was worn). A request carries its head (sender and sequence byte) and its argument
bytes, each field in the width section 10.5 of the manual gives it on the wire (R190, R191), so that every bit
pattern a sender can put there is an operand; a paged read carries its optional part number (R181). -/

namespace Sys2Proof

/-- The two compartments: a chime's zone and a player (sections 5 and 7.4). -/
inductive Zone where
  | front
  | rear
  deriving DecidableEq, Repr

/-- What every request frame carries before its arguments: the origin node and the sequence byte (R181). -/
structure Head where
  node : Node
  seq : Byte
  deriving DecidableEq, Repr

/-- The commands. -/
inductive Instr where
  /-- POWER_ON_RESET (R86): Battery connection resets every block, reads the node straps, starts the timers and begins the store scan. -/
  | powerOnReset (straps : Node) (programHeld : Word) (eraseRaised : List Word)
  /-- LOOP_FRAME_RECEIVED (R166): A received frame ends with a two-byte-time idle and is checked, then stripped, consumed, forwarded as flow, or forwarded and tapped. -/
  | loopFrameReceived (bytes : Frame) (longGap stopMissing : Bool)
  /-- LOOP_TRANSMIT_START (R170): At the end of the inter-frame gap, or when a frame becomes available, the transmitter chooses the own flow frame, the oldest forwarded frame or an allowed inserted frame and begins sending it. -/
  | loopTransmitStart
  /-- LOOP_FRAME_SENT (R170): The last byte of a frame leaves LOOP_OUT: an inserted frame enters the awaiting-return list with its return timer, and a sent HOLD or RELEASE sets or clears the hold-sent mark. -/
  | loopFrameSent
  /-- RETURN_TIMER_EXPIRY (R173): An awaiting-return entry's 100 ms timer expires and the entry is removed as missed. -/
  | returnTimerExpiry
  /-- HOLD_LIST_TIMER_EXPIRY (R177): A hold-list entry's 2 s timer expires, the node is removed and a HOLD_EXPIRED event is reported. -/
  | holdListTimerExpiry (node : Node)
  /-- REFRESH_TIMER_EXPIRY (R175): The own hold's 1 s refresh timer expires, a HOLD is wanted and the timer starts again. -/
  | refreshTimerExpiry
  /-- BROADCAST_TIMER_EXPIRY (R172): The 500 ms broadcast timer expires and a status broadcast is placed if more than 2 insert places are free, otherwise it is skipped. -/
  | broadcastTimerExpiry
  /-- CHANNEL_TAKE (R10): The idle Channel Table takes the oldest tapped frame, updates every referencing channel and then delivers the notices. -/
  | channelTake
  /-- FRESHNESS_EXPIRY (R19): A channel's freshness timer expires, the channel becomes STALE and every user receives the STALE notice. -/
  | freshnessExpiry (ch : Fin 48)
  /-- DRIVE_UPDATE (R30): A gauge's 20 ms drive update timer expires and the pointer steps by its state: tracking, returning, sweeping or holding. -/
  | driveUpdate (g : Fin 6)
  /-- KEY_SAMPLE (R192): The 10 ms key sample timer expires and the key lines are sampled and debounced, possibly changing the key state. -/
  | keySample (acc ign start : Bool)
  /-- SETTLE_TIMER_EXPIRY (R194): The 3 s settle timer expires, RUN_SETTLED is set and the Warning Controller tests its gates. -/
  | settleTimerExpiry
  /-- SECONDS_EVENT (R196): The 1 s seconds timer expires: the clock advances if valid, trip times count, warning gates are tested and the images are rebuilt. -/
  | secondsEvent
  /-- BULB_CHECK_EXPIRY (R126): The 3 s bulb check timer expires and the lamps return to their warning states. -/
  | bulbCheckExpiry
  /-- PRESENT_TIMER_EXPIRY (R121): A presented warning's present timer expires and the warning becomes IDLE or ACKNOWLEDGED by its latch mode. -/
  | presentTimerExpiry (w : Fin 32)
  /-- REMIND_TIMER_EXPIRY (R123): An acknowledged warning's remind timer expires and the warning becomes PENDING again. -/
  | remindTimerExpiry (w : Fin 32)
  /-- TONE_END (R140): A player's on-time expires: the player stops for a release or preemption, or goes on to its gap, next segment or repetition. -/
  | toneEnd (z : Zone)
  /-- GAP_END (R140): A player's off-time expires and it goes on to the next segment or repetition, or removes the played-out request. -/
  | gapEnd (z : Zone)
  /-- ERASE_WINDOW_EXPIRY (R69): The 10 ms erase window timer expires and erasing of the gathered set begins. -/
  | eraseWindowExpiry
  /-- PROGRAM_END (R65): A store program ends OK or EXCEEDED, its outcome goes to its class, and the controller takes the next step. -/
  | programEnd (worn : Bool)
  /-- SECTOR_ERASE_END (R70): One sector's erase ends ERASED or EXCEEDED, and the controller goes to the next sector of the set or finishes it. -/
  | sectorEraseEnd (failed : Bool) (raised : List Word)
  /-- SUSPENSION_REACHED (R71): An erase being suspended for an ODOMETER program stops, and that program is taken at once. -/
  | suspensionReached
  /-- SCAN_COMPLETE (R86): The power-on scan completes with a result per sector, the recoveries are made, the start-up report is held and the controller is READY. -/
  | scanComplete
  /-- HOLD_2S_EXPIRY (R153): A press record's 2 s timer expires and the record becomes LONG, resetting a trip on pages 1 to 3. -/
  | hold2sExpiry
  /-- HOLD_5S_EXPIRY (R153): A press record's 5 s timer expires and, on the SERVICE page, a service reset is asked for. -/
  | hold5sExpiry
  /-- NOT_AVAILABLE_EXPIRY (R153): The 3 s NOT AVAILABLE timer expires and the MC image is rebuilt. -/
  | notAvailableExpiry
  /-- MC_OFF_TIMER_EXPIRY (R147): The MC off timer expires after KEY_OFF and the blanked flag is set. -/
  | mcOffTimerExpiry
  /-- DL_WAKE_ASSERTED (R159): A head asserts the wake line: the head mark is set, the RP idle timer restarts, and the link wakes or a poll is wanted. -/
  | dlWakeAsserted
  /-- LINK_SETTLE_EXPIRY (R160): The 2 ms link settle timer expires and the transmitter sends LINK START. -/
  | linkSettleExpiry
  /-- LINK_START_SENT (R160): LINK START has been sent: the link is ACTIVE, all items are outstanding, the poll timer starts and the wants fill the queue. -/
  | linkStartSent
  /-- PACKET_DONE (R151): The idle transmitter takes the oldest display packet, fills it from the image and starts sending it. -/
  | packetDone
  /-- PACKET_SENT (R151): The last byte of a display packet is sent and the transmitter becomes IDLE, or LISTENING after a STATUS POLL. -/
  | packetSent
  /-- POLL_TIMER_EXPIRY (R155): The 100 ms poll timer expires and a STATUS POLL is placed or wanted. -/
  | pollTimerExpiry
  /-- STATUS_REPLY (R155): A reply from the rear panel is taken: a good reply clears the miss count and applies the request set, and a bad one counts a miss. -/
  | statusReply (bytes : List Byte)
  /-- REPLY_WINDOW_EXPIRY (R155): The 10 ms reply window expires, the poll counts as missed, and a third miss makes the RP ABSENT. -/
  | replyWindowExpiry
  /-- RP_IDLE_TIMER_EXPIRY (R161): The RP idle timer expires and the RP counts as idle if no rear warning stands. -/
  | rpIdleTimerExpiry
  /-- LINK_SHUTDOWN_SEND (R161): With the queue drained and the transmitter IDLE in SHUTTING_DOWN, LINK SHUTDOWN is sent. -/
  | linkShutdownSend
  /-- LINK_SHUTDOWN_SENT (R161): LINK SHUTDOWN has been sent and the 5 ms quiet timer starts. -/
  | linkShutdownSent
  /-- QUIET_TIMER_EXPIRY (R161): The 5 ms quiet timer expires and the link hibernates, or wakes again if the wake-after mark is set. -/
  | quietTimerExpiry
  /-- HELD_RESPONSE_PLACED (R182): A response held for finished store work is placed in the insert queue when a place is free. -/
  | heldResponsePlaced
  /-- EVENT_FRAME_BUILD (R186): With more than 2 insert places free, the oldest event is removed from the list and placed as an event frame. -/
  | eventFrameBuild
  /-- START_UP_REPORT (R186): The held start-up report is placed as an event frame once more than 2 insert places are free. -/
  | startUpReport
  /-- DUMP_FRAME_BUILD (R188): A streaming dump reads up to five store words and places a MORE, LAST or LAST_ERROR frame. -/
  | dumpFrameBuild
  /-- RESTART_EFFECT (R184): The RESTART response leaves LOOP_OUT and every block applies its own restart effect. -/
  | restartEffect
  /-- UNKNOWN_REQUEST (R180): A request that is too short, has an unknown code or a wrong argument length is answered BAD_REQUEST. -/
  | unknownRequest (node : Node) (payload : List Byte)
  /-- WRITE_CHANNEL (R4): Stores a disabled channel entry's loaded fields after checks. Request code 10h. -/
  | writeChannel (h : Head) (ch tag origin kind offset bit curve timeout shift debounce : Byte)
  /-- ENABLE_CHANNEL (R5): Enables a written channel whose curve is VALID, in state NEVER. Request code 11h. -/
  | enableChannel (h : Head) (ch : Byte)
  /-- DISABLE_CHANNEL (R6): Disables a channel, makes it NEVER and sends the STALE notice to its users. Request code 12h. -/
  | disableChannel (h : Head) (ch : Byte)
  /-- CURVE_POINT (R7): Writes one breakpoint slot of a curve not in use and makes the curve EDITING. Request code 13h. -/
  | curvePoint (h : Head) (curve slot : Byte) (x : BitVec 24) (y : Word)
  /-- COMMIT_CURVE (R8): Checks N points of a curve not in use for strictly increasing X and makes it VALID. Request code 14h. -/
  | commitCurve (h : Head) (curve count : Byte)
  /-- READ_CHANNEL_SETUP (R9): Returns a channel's written mark, enabled field and loaded fields. Request code 15h. -/
  | readChannelSetup (h : Head) (ch : Byte) (part : Option Byte)
  /-- READ_CHANNEL (R9): Returns a channel's runtime fields. Request code 16h. -/
  | readChannel (h : Head) (ch : Byte) (part : Option Byte)
  /-- READ_CURVE (R9): Returns a curve's state, point count and one slot. Request code 17h. -/
  | readCurve (h : Head) (curve slot : Byte) (part : Option Byte)
  /-- WRITE_GAUGE (R25): Stores a disabled gauge record, recomputes the coil levels and may start a return to a new park position. Request code 20h. -/
  | writeGauge (h : Head) (g source curve damping slew : Byte) (park : Word) (flags : Byte) (dial : Word)
  /-- ENABLE_GAUGE (R26): Enables a written gauge with a VALID curve and chooses its state from the key and the source. Request code 21h. -/
  | enableGauge (h : Head) (g : Byte)
  /-- DISABLE_GAUGE (R27): Disables a gauge, ends any sweep and returns the pointer to park. Request code 22h. -/
  | disableGauge (h : Head) (g : Byte)
  /-- READ_GAUGE_SETUP (R28): Returns a gauge record's written mark, enabled field and loaded fields. Request code 23h. -/
  | readGaugeSetup (h : Head) (g : Byte) (part : Option Byte)
  /-- READ_GAUGE (R28): Returns a gauge's state, position, target, pending flag and coil levels. Request code 24h. -/
  | readGauge (h : Head) (g : Byte) (part : Option Byte)
  /-- WRITE_TRIP_SETUP (R41): Stores the trip setup outside RUN, zeroes the residues and makes the rolling bases absent. Request code 30h. -/
  | writeTripSetup (h : Head) (distance fuel speed level : Byte) (pulses units maxDelta : Word) (gapDefault : BitVec 24)
  /-- READ_TRIP_SETUP (R42): Returns the trip setup, the residues and the rolling bases. Request code 31h. -/
  | readTripSetup (h : Head) (part : Option Byte)
  /-- READ_TRIP_FIGURES (R56): Returns a record's average speed and consumption, the range and its overflow flags. Request code 32h. -/
  | readTripFigures (h : Head) (r : Byte) (part : Option Byte)
  /-- SNAPSHOT_TRIP (R57): Latches a copy of a trip record unless one is already held. Request code 33h. -/
  | snapshotTrip (h : Head) (r : Byte)
  /-- READ_TRIP (R58): Returns and releases a trip record's snapshot, or returns its live fields. Request code 34h. -/
  | readTrip (h : Head) (r : Byte)
  /-- RESET_TRIP (R59): Zeroes a trip record and its flags, releases its snapshot and reports RESET with the cause REQUEST. Request code 35h. -/
  | resetTrip (h : Head) (r : Byte)
  /-- READ_STORE (R74): Returns a store word with its read status, sector flags and the controller state. Request code 40h. -/
  | readStore (h : Head) (addr : Byte) (part : Option Byte)
  /-- STORE_PROGRAM (R75): Places a program of an open-sector word in the EXTERNAL slot, answered when the program ends. Request code 41h. -/
  | storeProgram (h : Head) (addr : Byte) (value : Word)
  /-- STORE_ERASE (R76): Places an erase of open sectors in the EXTERNAL slot, answered with per-sector outcomes when it ends. Request code 42h. -/
  | storeErase (h : Head) (sectors : Byte)
  /-- READ_ODOMETER (R83): Returns the odometer's state, values, counts, spare flags and fault. Request code 43h. -/
  | readOdometer (h : Head) (part : Option Byte)
  /-- SET_ODOMETER (R89): Sets an INVALID odometer to a given value by ODOMETER steps, answered when they end. Request code 44h. -/
  | setOdometer (h : Head) (value : BitVec 24)
  /-- WRITE_SERVICE_ITEM (R93): Stores a service item's loaded fields and evaluates it if it is enabled. Request code 50h. -/
  | writeServiceItem (h : Head) (item message : Byte) (intervalKm intervalDays advanceKm overdueKm : Word) (advOverDays : BitVec 24)
  /-- ENABLE_SERVICE_ITEM (R94): Enables a written service item and evaluates it. Request code 51h. -/
  | enableServiceItem (h : Head) (item : Byte)
  /-- DISABLE_SERVICE_ITEM (R94): Disables a service item and makes its stage NOT_DUE. Request code 52h. -/
  | disableServiceItem (h : Head) (item : Byte)
  /-- READ_SERVICE_ITEM (R95): Returns a service item's fields, record, stage and remaining figures. Request code 53h. -/
  | readServiceItem (h : Head) (item : Byte) (part : Option Byte)
  /-- SERVICE_RESET (R100): Records the service of an enabled item when its conditions hold and requests a save of the service pair. Request code 54h. -/
  | serviceReset (h : Head) (item : Byte)
  /-- WRITE_WARNING_CONDITION (R108): Stores the condition half of a disabled warning entry. Request code 60h. -/
  | writeWarningCondition (h : Head) (w kind subject : Byte) (threshold hysteresis : Word) (counts keyGate : Byte) (speedGate : Word) (staleAction minStage : Byte)
  /-- WRITE_WARNING_ACTION (R109): Stores the action half of a disabled warning entry. Request code 61h. -/
  | writeWarningAction (h : Head) (w priority latch chime message lamp routing present remind : Byte)
  /-- ENABLE_WARNING (R110): Enables a fully written warning, tests its gate and takes up its condition. Request code 62h. -/
  | enableWarning (h : Head) (w : Byte)
  /-- DISABLE_WARNING (R111): Disables and unmasks a warning, makes it IDLE and releases its chimes. Request code 63h. -/
  | disableWarning (h : Head) (w : Byte)
  /-- MASK_WARNING (R112): Masks a warning, making a presented one PENDING and releasing its chimes. Request code 64h. -/
  | maskWarning (h : Head) (w : Byte)
  /-- UNMASK_WARNING (R112): Clears a warning's masked field and runs selection. Request code 65h. -/
  | unmaskWarning (h : Head) (w : Byte)
  /-- READ_WARNING_SETUP (R113): Returns both halves of a warning entry with their written marks. Request code 66h. -/
  | readWarningSetup (h : Head) (w : Byte) (part : Option Byte)
  /-- READ_WARNING (R113): Returns a warning's runtime state, counters, chime mark and timers. Request code 67h. -/
  | readWarning (h : Head) (w : Byte) (part : Option Byte)
  /-- READ_LAMPS (R126): Returns the twelve lamp states and whether a bulb check is running. Request code 68h. -/
  | readLamps (h : Head) (part : Option Byte)
  /-- WRITE_CHIME_SEGMENT (R130): Writes one segment slot of a chime pattern that is not in use. Request code 70h. -/
  | writeChimeSegment (h : Head) (p slot : Byte) (divisor : Word) (on off : Byte)
  /-- WRITE_CHIME_PATTERN (R131): Sets the repeat count and segment count of a chime pattern that is not in use. Request code 71h. -/
  | writeChimePattern (h : Head) (p repeats segments : Byte)
  /-- WRITE_CHIME_SETUP (R132): Stores the tick channel, tick pattern and answer pattern. Request code 72h. -/
  | writeChimeSetup (h : Head) (tickChannel tickPattern answerPattern : Byte)
  /-- READ_CHIME_PATTERN (R133): Returns a pattern's counts, whether it is in use, and one slot. Request code 73h. -/
  | readChimePattern (h : Head) (p slot : Byte) (part : Option Byte)
  /-- READ_CHIME_SETUP (R133): Returns the chime setup record. Request code 74h. -/
  | readChimeSetup (h : Head) (part : Option Byte)
  /-- READ_CHIMES (R133): Returns the chime queue and the state of both players. Request code 75h. -/
  | readChimes (h : Head) (part : Option Byte)
  /-- WRITE_MESSAGE (R144): Replaces one 10-character chunk of a message and rebuilds the images. Request code 80h. -/
  | writeMessage (h : Head) (message chunk : Byte) (chars : Vector Byte 10)
  /-- READ_MESSAGE (R144): Returns a message's 20 characters. Request code 81h. -/
  | readMessage (h : Head) (message : Byte) (part : Option Byte)
  /-- WRITE_DISPLAY_SETUP (R145): Stores the display setup, removes the press record if the button channel changes, and rebuilds the images. Request code 82h. -/
  | writeDisplaySetup (h : Head) (button temperature offDelay : Byte) (idleTime : Word) (mcBrightness rpBrightness : Byte)
  /-- READ_DISPLAY_SETUP (R145): Returns the display setup record. Request code 83h. -/
  | readDisplaySetup (h : Head) (part : Option Byte)
  /-- READ_DISPLAY (R162): Returns the link, transmitter, RP, page, press record, queue, wants and images. Request code 84h. -/
  | readDisplay (h : Head) (part : Option Byte)
  /-- ASSERT_HOLD (R176): Sets the force flag and asserts the own hold. Request code 90h. -/
  | assertHold (h : Head)
  /-- CLEAR_HOLD (R176): Clears the force flag and releases the own hold if the tap queue holds 7 or fewer. Request code 91h. -/
  | clearHold (h : Head)
  /-- READ_LOOP (R178): Returns the Loop Port's state, hold lists, queue counts and overrun flag. Request code 92h. -/
  | readLoop (h : Head) (part : Option Byte)
  /-- READ_STATUS (R183): Returns the 14-byte status content of the part. Request code A0h. -/
  | readStatus (h : Head) (part : Option Byte)
  /-- EVENTS (R185): Replaces the event class enable set. Request code A1h. -/
  | events (h : Head) (set : Byte)
  /-- RESTART (R184): Is answered OK and makes the restart pending until its response leaves LOOP_OUT. Request code A2h. -/
  | restart (h : Head)
  /-- STORE_DUMP (R187): Starts a dump stream of consecutive store words to the requester. Request code A3h. -/
  | storeDump (h : Head) (start : Byte) (count : Word)
  /-- DUMP_ABORT (R189): Stops a streaming dump and reports the next address and the remaining count. Request code A4h. -/
  | dumpAbort (h : Head)
  /-- DUMP_RESUME (R189): Resumes an aborted dump from its next address. Request code A5h. -/
  | dumpResume (h : Head)
  /-- SET_CLOCK (R197): Sets the time and day, makes the clock VALID and triggers service evaluation and an image rebuild. Request code B0h. -/
  | setClock (h : Head) (seconds : BitVec 24) (day : Word)
  /-- READ_CLOCK (R197): Returns the clock, the key state, RUN_SETTLED and the timestamps. Request code B1h. -/
  | readClock (h : Head) (part : Option Byte)
  /-- POWER_LOSS (R64): The battery supply is lost: every operation in progress ends, and a word being programmed or a sector being erased is left with each affected bit at its former value or at its target value. -/
  | powerLoss (programHeld : Word) (eraseRaised : List Word)
  deriving DecidableEq, Repr

end Sys2Proof
end

