-- ==== Sys2Proof/Decode.lean ====
section
/-! DEFINITION. The command a word spells by the opcode table's bits. The table of this block gives no row any bits
(its rows are events and in-band requests, not instruction words), so no word spells a command. The request bytes of
section 10.5 are read by Sys2Proof/Machine/Operands.lean. -/

namespace Sys2Proof

/-- The command that the word `w` of `nbits` bits spells by spec/opcode_table.json: none, as no row has bits. -/
def decodeTableWord (_nbits _w : Nat) : Option Instr := none

end Sys2Proof
end

