-- ==== Sys2Proof/Config.lean ====
section
/-! DEFINITION. The free values: what the manual leaves open in the contents of a read. Each is an opaque
constant, so that nothing can be proved of the value it takes. -/

namespace Sys2Proof.Config

/-- Whether a time left that is no whole number of tenths of a second is reported rounded up (R113, R178, R197
give the unit and no rounding). DESIGN CHOICE: log entry 13. -/
opaque tenthsRoundUp : Nat → Bool

/-- The time left on the MC off timer as READ DISPLAY reports it, for the milliseconds left: R162 names no unit.
DESIGN CHOICE: log entry 13. -/
opaque mcOffLeft : Nat → Word

/-- The time left on a press record's 2 s or 5 s timer as READ DISPLAY reports it, for the milliseconds left: R162 names
no unit. DESIGN CHOICE: log entry 13. -/
opaque pressTimerLeft : Nat → Word

/-- Byte `i` of READ ODOMETER's stored value, active sector, cleared count and spare flags while the odometer is
INVALID, when R79 gives it no active sector (R83). DESIGN CHOICE: log entry 13. -/
opaque invalidOdometerByte : Nat → Byte

/-- The byte by which READ CHIMES names the origin REAR_CALL beside the numbers 0 to 31 (R133, R134).
DESIGN CHOICE: log entry 13. -/
opaque rearCallOrigin : Byte

/-- The two bytes by which READ CHIMES gives the rank of a REAR_CALL request, which has no priority and no number
(R134). DESIGN CHOICE: log entry 13. -/
opaque rearCallRank : Nat → Byte

/-- The byte by which READ CHIMES gives UNTIL_RELEASED beside the numbers 1 to 15 (R134). DESIGN CHOICE: log entry 13. -/
opaque untilReleased : Byte

/-- The byte by which READ CHIMES says that a player plays a TICK (R133). DESIGN CHOICE: log entry 13. -/
opaque playingTick : Byte

/-- The byte by which READ CHIMES says that a player plays nothing (R133). DESIGN CHOICE: log entry 13. -/
opaque playingNothing : Byte

/-- The journey gap in minutes that R53's test uses while the setup is UNSET, when the field has no value (R40).
DESIGN CHOICE: log entry 28. -/
opaque unsetJourneyGap : Nat

end Sys2Proof.Config
end

