-- ==== Sys2Proof/Machine/State.lean ====
section
/-! DEFINITION. The state of the KZ-2840 as plain data, block by block, and its value after reset. -/

namespace Sys2Proof.Machine

/-- A timer: the milliseconds left while it runs, `none` while it is stopped (section 4.3 of About this manual). -/
abbrev Timer := Option Nat

/-! ### Chapter 1: channels and curves -/

/-- The kinds of a channel, in R1's order. -/
inductive ChanKind where
  | analogU8 | analogU16 | analogS8 | analogS16 | discrete | rolling
  deriving DecidableEq, Repr

/-- The loaded fields of a channel entry (R1). `origin = none` is ANY, `curve = none` is NONE. -/
structure ChanSetup where
  tag : Byte
  origin : Option Node
  kind : ChanKind
  offset : Nat
  bit : Nat
  curve : Option (Fin 16)
  timeout : Nat
  shift : Nat
  debounce : Nat
  deriving DecidableEq, Repr

/-- Whether a channel has received a sample within its timeout (R2). -/
inductive Freshness where
  | never | fresh | stale
  deriving DecidableEq, Repr

/-- One channel entry: its loaded fields once written (R1) and its runtime fields (R2). -/
structure Channel where
  setup : Option ChanSetup
  enabled : Bool
  state : Freshness
  value : Option Int
  limited : Bool
  candLevel : Bool
  candCount : Nat
  raw : Option Nat
  timer : Timer
  deriving DecidableEq, Repr

/-- A curve's state (R3). -/
inductive CurveState where
  | empty | editing | valid
  deriving DecidableEq, Repr

/-- One calibration curve: twelve breakpoint slots, the point count and the state (R3). -/
structure Curve where
  slots : Vector (Option (Int × Int)) 12
  count : Nat
  state : CurveState
  deriving DecidableEq, Repr

/-! ### Chapter 2: gauges -/

/-- The loaded fields of a gauge record (R23). -/
structure GaugeSetup where
  source : Fin 48
  curve : Fin 16
  damping : Nat
  slew : Nat
  park : Nat
  stalePark : Bool
  sweep : Bool
  fastSettle : Bool
  dial : Nat
  sineInverted : Bool
  cosineInverted : Bool
  deriving DecidableEq, Repr

/-- A gauge's state (R24). -/
inductive GaugeState where
  | parked | sweepUp | sweepDown | tracking | holding | returning
  deriving DecidableEq, Repr

/-- One gauge record: loaded fields (R23), runtime fields (R24) and the coil levels being driven (R38). -/
structure Gauge where
  written : Bool
  enabled : Bool
  setup : GaugeSetup
  state : GaugeState
  position : Nat
  target : Option Nat
  pending : Bool
  timer : Timer
  sine : Int
  cosine : Int
  deriving DecidableEq, Repr

/-! ### Chapter 3: trip computer -/

/-- The loaded fields of the trip setup record (R40). -/
structure TripSetup where
  distance : Fin 48
  fuel : Fin 48
  speed : Fin 48
  level : Fin 48
  pulsesPerKm : Nat
  unitsPerLitre : Nat
  maxDelta : Nat
  defaultConsumption : Nat
  journeyGap : Nat
  deriving DecidableEq, Repr

/-- The four fields of a trip record, in R49's order. -/
inductive TripField where
  | distance | fuel | elapsed | moving
  deriving DecidableEq, Repr

/-- One accumulating field with its overflow flag (R49). -/
structure Counter where
  value : Nat
  overflow : Bool
  deriving DecidableEq, Repr

/-- A trip record (R49). -/
structure TripRecord where
  distance : Counter
  fuel : Counter
  elapsed : Counter
  moving : Counter
  deriving DecidableEq, Repr

/-- The state of REAR_JOURNEY (R52). -/
inductive JourneyState where
  | idle | running | ended
  deriving DecidableEq, Repr

/-- A captured copy of TRIP_A and TRIP_B (R60). -/
structure Capture where
  tripA : TripRecord
  tripB : TripRecord
  deriving DecidableEq, Repr

/-- The Trip Computer. `setup = none` is UNSET (R40); the records are TRIP_A, TRIP_B, JOURNEY, REAR_JOURNEY (R49). -/
structure Trip where
  setup : Option TripSetup
  residueE : Nat
  residueF : Nat
  distanceBase : Option Nat
  fuelBase : Option Nat
  records : Vector TripRecord 4
  snapshots : Vector (Option TripRecord) 4
  rear : JourneyState
  saving : Bool
  pendingCapture : Option Capture
  savedCopy : Option Capture
  saveFault : Bool
  deriving DecidableEq, Repr

/-! ### Chapter 4: store, odometer and save pairs -/

/-- The classes of the Store Controller, highest first (R67, R68). -/
inductive StoreClass where
  | odometer | trip | service | external
  deriving DecidableEq, Repr

/-- A step: one word program or one erase of a set of sectors, bit `s` for sector `s` (R67). -/
inductive StoreStep where
  | program (addr : Fin 256) (value : Word)
  | erase (sectors : BitVec 8)
  deriving DecidableEq, Repr

/-- The controller's state, in R68's order. -/
inductive CtlState where
  | ready | eraseWindow | erasing | suspending | eraseSuspended | suspendedProgramming | programming | scanning
  deriving DecidableEq, Repr

/-- The flags of one sector (R66). -/
structure SectorFlags where
  bad : Bool
  worn : Bool
  erasedKnown : Bool
  deriving DecidableEq, Repr

/-- The outcome of one sector of an erase set (R70). -/
inductive EraseOutcome where
  | erased | exceeded | skippedBad | skippedActive
  deriving DecidableEq, Repr

/-- The program in progress. -/
structure Running where
  cls : StoreClass
  addr : Fin 256
  value : Word
  deriving DecidableEq, Repr

/-- The Store Controller and the store's words. `mem` lists the words that are not FFFFh, addresses rising (R64);
`eraseSet`, `outcomes`, `joined` and `current` are the erase set, the sectors of it that have their outcome, the
erase steps that share it, and the sector being erased (R69, R70). -/
structure Store where
  mem : List (Nat × Word)
  flags : Vector SectorFlags 8
  slotOdometer : Option StoreStep
  slotTrip : Option StoreStep
  slotService : Option StoreStep
  slotExternal : Option StoreStep
  ctl : CtlState
  running : Option Running
  eraseSet : BitVec 8
  outcomes : List (Fin 8 × EraseOutcome)
  joined : List (StoreClass × BitVec 8)
  current : Option (Fin 8)
  window : Timer
  deriving DecidableEq, Repr

/-- What the outstanding ODOMETER program is for (R80). -/
inductive OdometerWork where
  | recovery | increment | rotation | setting
  deriving DecidableEq, Repr

/-- A rotation in progress: the new base and the step, 1 to 5, placed or next (R81). -/
structure Rotation where
  base : Nat
  step : Nat
  deriving DecidableEq, Repr

/-- How far a SET ODOMETER has come (R89). -/
inductive SetPhase where
  | obsolete
  | erase
  | word (target : Fin 8) (k : Nat)
  | status (target : Fin 8)
  deriving DecidableEq, Repr

/-- A SET ODOMETER in progress (R89). -/
structure Setting where
  value : Nat
  phase : SetPhase
  deriving DecidableEq, Repr

/-- The Odometer (R79 to R82, R87, R89). `active` is sector 0 or 1. -/
structure Odometer where
  valid : Bool
  active : Fin 8
  stored : Nat
  cleared : Nat
  residue : Nat
  pending : Nat
  rotation : Option Rotation
  fault : Bool
  recovery : List (Fin 8)
  setting : Option Setting
  work : Option OdometerWork
  eraseOut : Bool
  deriving DecidableEq, Repr

/-- The save state of a pair (R85). -/
inductive PairState where
  | idle | saving | tidying
  deriving DecidableEq, Repr

/-- Which step of a save comes next or is outstanding (R85). -/
inductive SavePhase where
  | erase
  | word (k : Nat)
  | status
  | obsolete
  deriving DecidableEq, Repr

/-- A save in progress: its target, the words 1 onward to program, the old active sector, the phase, and whether
every step so far ended OK (R85). -/
structure SaveJob where
  target : Fin 8
  image : List Word
  old : Option (Fin 8)
  phase : SavePhase
  allOk : Bool
  deriving DecidableEq, Repr

/-- A pair context (R85, R88). `out` marks a step placed and not ended; `ended` holds the outcome of a save that is
still to be reported to its owner within the same event. -/
structure Pair where
  active : Option (Fin 8)
  lastNumber : Word
  state : PairState
  held : Option (List Word)
  recovery : List (Fin 8)
  recovered : Bool
  job : Option SaveJob
  tidy : Option (Fin 8)
  out : Bool
  ended : Option Bool
  deriving DecidableEq, Repr

/-- The two save pairs (R84). -/
inductive PairId where
  | trip | service
  deriving DecidableEq, Repr

/-- The result codes of the scan (R86). -/
inductive ScanCode where
  | erased | activeOk | obsolete | checkFail | corrupt | openSector
  deriving DecidableEq, Repr

/-! ### Chapter 5: service items -/

/-- A service item's stage (R92). -/
inductive Stage where
  | notDue | advance | due | overdue
  deriving DecidableEq, Repr

/-- One service item: loaded fields (R91) and runtime state (R92). `record = none` is UNKNOWN. -/
structure ServiceItem where
  written : Bool
  enabled : Bool
  message : Option (Fin 64)
  intervalKm : Nat
  intervalDays : Nat
  advanceKm : Nat
  advanceDays : Nat
  overdueKm : Nat
  overdueDays : Nat
  record : Option (Nat × Nat)
  stage : Stage
  remainingKm : Option Int
  remainingDays : Option Int
  deriving DecidableEq, Repr

/-- The Service Reminder (R91, R92, R99, R101). `lastKm` is the whole kilometres of the last shown-value notice. -/
structure Service where
  items : Vector ServiceItem 8
  saving : Bool
  saveAgain : Bool
  saveFault : Bool
  lastKm : Option Nat
  deriving DecidableEq, Repr

/-- Who asked for a service reset (R103). -/
inductive ResetSource where
  | button | request
  deriving DecidableEq, Repr

/-! ### Chapter 6: warnings -/

/-- The kinds of a warning, in R104's order. -/
inductive WarnKind where
  | high | low | discreteOn | discreteOff | stale | service | system
  deriving DecidableEq, Repr

/-- The key gates (R104). -/
inductive KeyGate where
  | any | notOff | run | runSettled
  deriving DecidableEq, Repr

/-- The condition half of a warning entry (R104). The last two bytes are kept as written, since only the kinds that
use them check them (R108, R190). -/
structure WarnCondition where
  kind : WarnKind
  subject : Nat
  threshold : Int
  hysteresis : Nat
  qualify : Nat
  clear : Nat
  keyGate : KeyGate
  speedGate : Nat
  staleAction : Byte
  minStage : Byte
  deriving DecidableEq, Repr

/-- The latch modes (R105). -/
inductive LatchMode where
  | selfClearing | latching | momentary
  deriving DecidableEq, Repr

/-- The routings (R105). -/
inductive Routing where
  | front | rear | both
  deriving DecidableEq, Repr

/-- The action half of a warning entry (R105). -/
structure WarnAction where
  priority : Nat
  latch : LatchMode
  chime : Option (Fin 16)
  message : Option (Fin 64)
  lamp : Option (Fin 12)
  routing : Routing
  present : Nat
  remind : Nat
  deriving DecidableEq, Repr

/-- A warning's state (R106). -/
inductive WarnState where
  | idle | pending | presented | acknowledged
  deriving DecidableEq, Repr

/-- One warning entry (R104 to R106). -/
structure Warning where
  condition : Option WarnCondition
  action : Option WarnAction
  enabled : Bool
  state : WarnState
  masked : Bool
  holds : Bool
  gate : Bool
  qualifyCount : Nat
  clearCount : Nat
  presentTimer : Timer
  remindTimer : Timer
  markFront : Bool
  markRear : Bool
  deriving DecidableEq, Repr

/-- The system conditions, in code order (R107). -/
inductive SysCond where
  | loopBroken | odometerFault | storeFault | clockInvalid | rearCall
  deriving DecidableEq, Repr

/-- The causes of a warning event, in R127's order. -/
inductive WarnCause where
  | qualify | present | displaced | acknowledge | timeout | clear | gate | remind | mask | disable
  deriving DecidableEq, Repr

/-- The Warning Controller: the table, the five system conditions (R107) and the bulb check timer (R126). -/
structure Warnings where
  entries : Vector Warning 32
  loopBroken : Bool
  odometerFault : Bool
  storeFault : Bool
  clockInvalid : Bool
  rearCall : Bool
  bulbCheck : Timer
  deriving DecidableEq, Repr

/-! ### Chapter 7: chimes -/

/-- One tone and its following silence (R129), times in units of 10 ms. -/
structure Segment where
  divisor : Nat
  onTime : Nat
  offTime : Nat
  deriving DecidableEq, Repr

/-- A chime pattern (R129). -/
structure Pattern where
  repeats : Nat
  segments : Nat
  slots : Vector (Option Segment) 6
  deriving DecidableEq, Repr

/-- Who asked for a chime (R134). -/
inductive ChimeOrigin where
  | warning (w : Fin 32)
  | rearCall
  deriving DecidableEq, Repr

/-- A queued chime request (R134). `rank` counts down: 32 × priority + number, and 256 for REAR_CALL, so that a
smaller number outranks a larger; `repeatsLeft = none` is UNTIL_RELEASED. -/
structure ChimeRequest where
  origin : ChimeOrigin
  zone : Zone
  pattern : Fin 16
  rank : Nat
  repeatsLeft : Option Nat
  released : Bool
  deriving DecidableEq, Repr

/-- A player's state (R138). -/
inductive PlayerState where
  | silent | tone | gap
  deriving DecidableEq, Repr

/-- What a player plays (R138): a queued request of its own zone, named by its origin, or a tick of a pattern. -/
inductive Current where
  | nothing
  | request (origin : ChimeOrigin)
  | tick (pattern : Fin 16)
  deriving DecidableEq, Repr

/-- A player (R138). `counter` is the divisor in the tone counter, `none` when it is off. -/
structure Player where
  state : PlayerState
  current : Current
  segment : Nat
  timer : Timer
  counter : Option Nat
  deriving DecidableEq, Repr

/-- The chime setup record (R132). -/
structure ChimeSetup where
  written : Bool
  tickChannel : Option (Fin 48)
  tickPattern : Fin 16
  answerPattern : Option (Fin 16)
  deriving DecidableEq, Repr

/-- The Chime Generator. -/
structure Chime where
  patterns : Vector Pattern 16
  setup : ChimeSetup
  queue : List ChimeRequest
  front : Player
  rear : Player
  deriving DecidableEq, Repr

/-! ### Chapter 8: displays -/

/-- The display setup's six fields (R145). -/
structure DisplaySetup where
  button : Option (Fin 48)
  temperature : Option (Fin 48)
  offDelay : Nat
  idleTime : Nat
  mcBrightness : Nat
  rpBrightness : Nat
  deriving DecidableEq, Repr

/-- The seven items of the images, in R146's order. -/
inductive Item where
  | mcText | mcAttr | rp1Text | rp1Attr | rp2Text | rp2Attr | rpClock
  deriving DecidableEq, Repr

/-- The images of both heads (R146). `clock = none` is INVALID. -/
structure Images where
  mcText : List Byte
  mcFlash : Bool
  mcBrightness : Nat
  rp1Text : List Byte
  rp1Flash : Bool
  rp1Brightness : Nat
  rp2Text : List Byte
  rp2Flash : Bool
  rp2Brightness : Nat
  clock : Option Nat
  deriving DecidableEq, Repr

/-- A packet of the display queue: it names its item only (R150, section 8.2). -/
inductive Packet where
  | item (i : Item)
  | poll
  | answered
  deriving DecidableEq, Repr

/-- The outstanding marks of the seven items (R150). -/
structure Outstanding where
  mcText : Bool
  mcAttr : Bool
  rp1Text : Bool
  rp1Attr : Bool
  rp2Text : Bool
  rp2Attr : Bool
  rpClock : Bool
  deriving DecidableEq, Repr

/-- What the display transmitter is sending. -/
inductive OnWire where
  | packet (p : Packet)
  | linkStart
  | linkShutdown
  deriving DecidableEq, Repr

/-- The display transmitter (R151). -/
inductive DisplayTx where
  | idle
  | sending (kind : OnWire) (bytes : List Byte)
  | listening
  deriving DecidableEq, Repr

/-- The link states (R159). -/
inductive LinkState where
  | hibernating | waking | active | shuttingDown
  deriving DecidableEq, Repr

/-- The states of the press record (R152). -/
inductive PressState where
  | held | long | cancelled
  deriving DecidableEq, Repr

/-- The press record (R152). -/
structure Press where
  page : Nat
  state : PressState
  timer2 : Timer
  timer5 : Timer
  deriving DecidableEq, Repr

/-- The Display Link Controller. `mcWarning` (message, flash) and `rearWarning` are the pieces of content last
notified by the Warning Controller (R125); `setup = none` is unwritten (R145). -/
structure Display where
  messages : Vector (List Byte) 64
  setup : Option DisplaySetup
  images : Images
  mcWarning : Option (Fin 64 × Bool)
  rearWarning : Option (Fin 64)
  queue : List Packet
  outstanding : Outstanding
  pollWant : Bool
  answerWant : Bool
  tx : DisplayTx
  page : Nat
  blanked : Bool
  offTimer : Timer
  naTimer : Timer
  press : Option Press
  link : LinkState
  headMark : Bool
  wakeAfter : Bool
  settleTimer : Timer
  pollTimer : Timer
  replyWindow : Timer
  idleTimer : Timer
  quietTimer : Timer
  present : Bool
  missed : Nat
  call : Bool
  journey : Bool
  deriving DecidableEq, Repr

/-! ### Chapter 9: loop port -/

/-- A frame of the insert queue, with the mark of the RESTART response (R171, R184). -/
structure Inserted where
  frame : Frame
  restart : Bool
  deriving DecidableEq, Repr

/-- An awaiting-return entry and the milliseconds left on its return timer (R173). -/
structure Awaiting where
  frame : Frame
  left : Nat
  deriving DecidableEq, Repr

/-- A hold-list entry and the milliseconds left on its expiry timer (R177). -/
structure Holder where
  node : Node
  left : Nat
  deriving DecidableEq, Repr

/-- The loop states (R174). -/
inductive LoopState where
  | intact | suspect | broken
  deriving DecidableEq, Repr

/-- The flow slot (R175). -/
inductive FlowSlot where
  | empty | hold | release
  deriving DecidableEq, Repr

/-- The loop transmitter (R170), with the bytes of the frame in progress. -/
inductive LoopTx where
  | idle
  | hold (f : Frame)
  | release (f : Frame)
  | forwarded (f : Frame)
  | inserted (x : Inserted)
  deriving DecidableEq, Repr

/-- The Loop Port. -/
structure LoopPort where
  node : Node
  forwardQ : List Frame
  tapQ : List Frame
  requestQ : List Frame
  insertQ : List Inserted
  awaiting : List Awaiting
  overrun : Bool
  tx : LoopTx
  state : LoopState
  asserted : Bool
  force : Bool
  holdSent : Bool
  flow : FlowSlot
  critical : Nat
  refresh : Timer
  holders : List Holder
  broadcast : Timer
  deriving DecidableEq, Repr

/-! ### Chapter 11: key and clock -/

/-- A combination of the key lines found present (R192). -/
structure Lines where
  acc : Bool
  ign : Bool
  start : Bool
  deriving DecidableEq, Repr

/-- The key states (R192). -/
inductive KeyState where
  | off | acc | run | crank
  deriving DecidableEq, Repr

/-- A day number and the seconds of the day (R194, R195). -/
structure Stamp where
  day : Nat
  seconds : Nat
  deriving DecidableEq, Repr

/-- The Key Monitor and Clock. -/
structure KeyClock where
  debounced : Lines
  candidate : Lines
  candCount : Nat
  state : KeyState
  sampleTimer : Timer
  settleTimer : Timer
  settled : Bool
  runStart : Option Stamp
  keyOff : Option Stamp
  valid : Bool
  seconds : Nat
  day : Nat
  secondsTimer : Timer
  deriving DecidableEq, Repr

/-! ### Chapter 10: request handler -/

/-- Why a trip record was reset (R62). -/
inductive TripCause where
  | request | button | gap
  deriving DecidableEq, Repr

/-- The events of every class with their detail (section 10.5.3). -/
inductive Event where
  | warning (w : Fin 32) (old new : WarnState) (masked : Bool) (cause : WarnCause)
  | stage (i : Fin 8) (old new : Stage)
  | serviceReset (i : Fin 8) (source : ResetSource) (odometer day : Nat)
  | loopState (old new : LoopState)
  | holdExpired (n : Node)
  | programFailed (c : StoreClass) (addr : Fin 256)
  | sectorBad (sector : Fin 8)
  | saveFailed (p : PairId)
  | odometerFault (set : Bool)
  | discontinuity (fuel : Bool) (delta : Nat)
  | overflow (r : Fin 4) (f : TripField)
  | tripReset (r : Fin 4) (cause : TripCause)
  | journeyStart
  | journeyEnd (distance elapsed : Nat)
  | keyChange (old new : KeyState)
  deriving DecidableEq, Repr

/-- What the handler keeps of an outstanding request: its origin, code and sequence byte (R182). -/
structure Requester where
  node : Node
  code : Byte
  seq : Byte
  deriving DecidableEq, Repr

/-- The external store operation outstanding (R75, R76): the program's address or the erase's original set. -/
inductive ExternalOp where
  | program (addr : Fin 256)
  | erase (named : BitVec 8)
  deriving DecidableEq, Repr

/-- The dump context's fields while it is not IDLE (R187). -/
structure DumpContext where
  recipient : Node
  seq : Byte
  next : Nat
  remaining : Nat
  deriving DecidableEq, Repr

/-- The dump context (R187). -/
inductive DumpState where
  | idle
  | streaming (c : DumpContext)
  | aborted (c : DumpContext)
  deriving DecidableEq, Repr

/-- The request handler (R180 to R189). `extRequester` and `setRequester` are forgotten by RESTART (R182). -/
structure Handler where
  restartPending : Bool
  ext : Option ExternalOp
  extRequester : Option Requester
  setRequester : Option Requester
  held : List Frame
  events : List Event
  eventsLost : Bool
  classes : BitVec 8
  startUp : Option (List ScanCode)
  dump : DumpState
  deriving DecidableEq, Repr

/-! ### The whole state -/

/-- The state of the part. `pending` is the model's queue of commands that wait, first in first out; `powered` is
whether the battery supply stands (rows POWER_ON_RESET and POWER_LOSS). DESIGN CHOICE: log entries 1 and 20. -/
structure State where
  pending : List Instr
  powered : Bool
  channels : Vector Channel 48
  curves : Vector Curve 16
  gauges : Vector Gauge 6
  trip : Trip
  store : Store
  odometer : Odometer
  tripPair : Pair
  servicePair : Pair
  service : Service
  warnings : Warnings
  chime : Chime
  display : Display
  loop : LoopPort
  handler : Handler
  key : KeyClock
  deriving DecidableEq, Repr

/-! ### Why a step can stop -/

/-- The faults. No command of the part ends in one: the manual gives every command an effect, and every address a
request can carry exists. -/
inductive Fault where
  /-- Raised by no meaning: kept for an access to a store address above 255, which no operand can spell. Safe. -/
  | absentAddress (a : Nat)
  deriving DecidableEq, Repr

/-- The refusals. -/
inductive Refusal where
  /-- Raised by an arm of `exec` whose command has no meaning yet; no arm does. Safe. -/
  | notModelled (mnemonic : String)
  deriving DecidableEq, Repr

/-! ### Reset -/

/-- A channel entry after power-on reset (R1, R2). The candidate level is DESIGN CHOICE: log entry 9. -/
def Channel.initial : Channel :=
  { setup := none, enabled := false, state := .never, value := none, limited := false, candLevel := false,
    candCount := 0, raw := none, timer := none }

/-- A curve after power-on reset (R3). -/
def Curve.initial : Curve := { slots := Vector.replicate 12 none, count := 0, state := .empty }

/-- A gauge record after power-on reset (R23, R24, R38). -/
def Gauge.initial : Gauge :=
  { written := false, enabled := false,
    setup := { source := 0, curve := 0, damping := 0, slew := 0, park := 0, stalePark := false, sweep := false,
               fastSettle := false, dial := 0, sineInverted := false, cosineInverted := false },
    state := .parked, position := 0, target := none, pending := false, timer := none, sine := 0, cosine := 0 }

/-- A field of a trip record at 0 with its flag clear. -/
def Counter.zero : Counter := { value := 0, overflow := false }

/-- A trip record with 0 in every field and every flag clear. -/
def TripRecord.zero : TripRecord :=
  { distance := .zero, fuel := .zero, elapsed := .zero, moving := .zero }

/-- The Trip Computer after power-on reset (R63). -/
def Trip.initial : Trip :=
  { setup := none, residueE := 0, residueF := 0, distanceBase := none, fuelBase := none,
    records := Vector.replicate 4 .zero, snapshots := Vector.replicate 4 none, rear := .idle, saving := false,
    pendingCapture := none, savedCopy := none, saveFault := false }

/-- The Store Controller after power-on reset, over the words `mem` that the store still holds (R64, R66 to R68). -/
def Store.initial (mem : List (Nat × Word)) : Store :=
  { mem := mem, flags := Vector.replicate 8 { bad := false, worn := false, erasedKnown := false },
    slotOdometer := none, slotTrip := none, slotService := none, slotExternal := none, ctl := .scanning,
    running := none, eraseSet := 0, outcomes := [], joined := [], current := none, window := none }

/-- The Odometer after power-on reset, until the recovery (R87). Sector, stored value and cleared count mean nothing
while INVALID; their zeros are DESIGN CHOICE: log entry 9. -/
def Odometer.initial : Odometer :=
  { valid := false, active := 0, stored := 0, cleared := 0, residue := 0, pending := 0, rotation := none,
    fault := false, recovery := [], setting := none, work := none, eraseOut := false }

/-- A pair context after power-on reset, until its recovery (R88). -/
def Pair.initial : Pair :=
  { active := none, lastNumber := 0xFFFF, state := .idle, held := none, recovery := [], recovered := false,
    job := none, tidy := none, out := false, ended := none }

/-- A service item after power-on reset (R91, R92). -/
def ServiceItem.initial : ServiceItem :=
  { written := false, enabled := false, message := none, intervalKm := 0, intervalDays := 0, advanceKm := 0,
    advanceDays := 0, overdueKm := 0, overdueDays := 0, record := none, stage := .notDue, remainingKm := none,
    remainingDays := none }

/-- The Service Reminder after power-on reset (R101, R102). -/
def Service.initial : Service :=
  { items := Vector.replicate 8 .initial, saving := false, saveAgain := false, saveFault := false, lastKm := none }

/-- A warning entry after power-on reset (R104 to R106). -/
def Warning.initial : Warning :=
  { condition := none, action := none, enabled := false, state := .idle, masked := false, holds := false,
    gate := false, qualifyCount := 0, clearCount := 0, presentTimer := none, remindTimer := none,
    markFront := false, markRear := false }

/-- The Warning Controller after power-on reset (R107, R126, R128); ODOMETER_FAULT until the recovery by R87. -/
def Warnings.initial : Warnings :=
  { entries := Vector.replicate 32 .initial, loopBroken := false, odometerFault := false, storeFault := false,
    clockInvalid := true, rearCall := false, bulbCheck := none }

/-- An empty chime pattern (R129). -/
def Pattern.initial : Pattern := { repeats := 0, segments := 0, slots := Vector.replicate 6 none }

/-- A player that plays nothing (R138). -/
def Player.silent : Player := { state := .silent, current := .nothing, segment := 0, timer := none, counter := none }

/-- The Chime Generator after power-on reset (R143). -/
def Chime.initial : Chime :=
  { patterns := Vector.replicate 16 .initial,
    setup := { written := false, tickChannel := none, tickPattern := 0, answerPattern := none },
    queue := [], front := .silent, rear := .silent }

/-- `n` spaces (20h). -/
def spaces (n : Nat) : List Byte := List.replicate n 0x20

/-- The text OUTSIDE, five spaces, --, a space and C: line 1 of the rear panel with no temperature (R149). -/
def outsideDashes : List Byte :=
  [0x4F, 0x55, 0x54, 0x53, 0x49, 0x44, 0x45, 0x20, 0x20, 0x20, 0x20, 0x20, 0x2D, 0x2D, 0x20, 0x43]

/-- The images that R147 to R149 build from the state after power-on reset: the MC blanked, no temperature, no
journey, the clock INVALID, brightness 3. -/
def Images.initial : Images :=
  { mcText := spaces 20, mcFlash := false, mcBrightness := 3, rp1Text := outsideDashes, rp1Flash := false,
    rp1Brightness := 3, rp2Text := spaces 16, rp2Flash := false, rp2Brightness := 3, clock := none }

/-- Every item's outstanding mark set (R150). -/
def Outstanding.all : Outstanding :=
  { mcText := true, mcAttr := true, rp1Text := true, rp1Attr := true, rp2Text := true, rp2Attr := true, rpClock := true }

/-- The Display Link Controller after power-on reset (R163). -/
def Display.initial : Display :=
  { messages := Vector.replicate 64 (spaces 20), setup := none, images := .initial, mcWarning := none,
    rearWarning := none, queue := [], outstanding := .all, pollWant := false, answerWant := false, tx := .idle,
    page := 1, blanked := true, offTimer := none, naTimer := none, press := none, link := .hibernating,
    headMark := false, wakeAfter := false, settleTimer := none, pollTimer := none, replyWindow := none,
    idleTimer := none, quietTimer := none, present := true, missed := 0, call := false, journey := false }

/-- The Loop Port after power-on reset with the node number its straps give (R165, R172, R179). -/
def LoopPort.initial (straps : Node) : LoopPort :=
  { node := straps, forwardQ := [], tapQ := [], requestQ := [], insertQ := [], awaiting := [], overrun := false,
    tx := .idle, state := .intact, asserted := false, force := false, holdSent := false, flow := .empty,
    critical := 0, refresh := none, holders := [], broadcast := some 500 }

/-- The request handler after power-on reset (R185, R187). -/
def Handler.initial : Handler :=
  { restartPending := false, ext := none, extRequester := none, setRequester := none, held := [], events := [],
    eventsLost := false, classes := 0, startUp := none, dump := .idle }

/-- No key line present. -/
def Lines.none : Lines := { acc := false, ign := false, start := false }

/-- The Key Monitor and Clock after power-on reset (R198). -/
def KeyClock.initial : KeyClock :=
  { debounced := .none, candidate := .none, candCount := 0, state := .off, sampleTimer := some 10,
    settleTimer := Option.none, settled := false, runStart := Option.none, keyOff := Option.none, valid := false,
    seconds := 0, day := 0, secondsTimer := some 1000 }

/-- Every block after power-on reset with the straps at `straps` and the store holding `mem`, the commands `queue`
still waiting. -/
def State.powerOn (straps : Node) (mem : List (Nat × Word)) (queue : List Instr) : State :=
  { pending := queue, powered := true, channels := Vector.replicate 48 .initial,
    curves := Vector.replicate 16 .initial, gauges := Vector.replicate 6 .initial, trip := .initial,
    store := .initial mem, odometer := .initial, tripPair := .initial, servicePair := .initial,
    service := .initial, warnings := .initial, chime := .initial, display := .initial, loop := .initial straps,
    handler := .initial, key := .initial }

/-- The part right after power-on reset. The node number 0 and a store whose every word is FFFFh are DESIGN CHOICE:
log entries 7 and 8. -/
def State.reset : State := State.powerOn 0 [] []

end Sys2Proof.Machine
end

