-- ==== Sys2Proof/Machine/Ops.lean ====
section
/-! DEFINITION. The shared operations: field encodings (R190), frames and packets, the store's words, the event
list, and the places of the insert queue with the frames that are built in the step that brings them about. -/

namespace Sys2Proof.Machine

/-! ### Field encoding (R190) -/

/-- One byte holding a number below 256. -/
def enc1 (n : Nat) : List Byte := [BitVec.ofNat 8 n]

/-- Two bytes holding a number below 65,536, most significant first. -/
def enc2 (n : Nat) : List Byte := [BitVec.ofNat 8 (n / 256), BitVec.ofNat 8 n]

/-- Three bytes, most significant first. -/
def enc3 (n : Nat) : List Byte := [BitVec.ofNat 8 (n / 65536), BitVec.ofNat 8 (n / 256), BitVec.ofNat 8 n]

/-- Four bytes, most significant first. -/
def enc4 (n : Nat) : List Byte := BitVec.ofNat 8 (n / 16777216) :: enc3 n

/-- Two bytes holding a number in two's complement. -/
def enc2i (i : Int) : List Byte := enc2 (BitVec.ofInt 16 i).toNat

/-- Three bytes holding a number in two's complement. -/
def enc3i (i : Int) : List Byte := enc3 (BitVec.ofInt 24 i).toNat

/-- Yes and set are 01h, no and clear are 00h. -/
def encBool (b : Bool) : List Byte := [if b then 1 else 0]

/-- A choice that may be NONE or ANY: FFh in that case. -/
def encChoice : Option Nat → List Byte
  | some n => enc1 n
  | none => [0xFF]

/-- A marked field: 00h and the value, or 01h and `width` zero bytes when it is absent, unavailable or stopped. -/
def encMarked {α : Type} (width : Nat) (enc : α → List Byte) : Option α → List Byte
  | some a => 0 :: enc a
  | none => 1 :: List.replicate width 0

/-- A time left in 0.1 s, from milliseconds: exact on whole tenths; the rounding of the rest is free
(log entry 13). -/
def tenthsLeft (ms : Nat) : Nat :=
  if ms % 100 = 0 then ms / 100 else ms / 100 + (if Config.tenthsRoundUp ms then 1 else 0)

/-- A timer's time left in 0.1 s, with a stopped marker. -/
def encTimer (t : Timer) : List Byte := encMarked 2 (fun ms => enc2 (tenthsLeft ms)) t

/-! ### Named values as their place in the owning table (R190) -/

def ChanKind.code : ChanKind → Nat
  | .analogU8 => 0 | .analogU16 => 1 | .analogS8 => 2 | .analogS16 => 3 | .discrete => 4 | .rolling => 5

def ChanKind.ofCode : Nat → Option ChanKind
  | 0 => some .analogU8 | 1 => some .analogU16 | 2 => some .analogS8 | 3 => some .analogS16 | 4 => some .discrete
  | 5 => some .rolling | _ => none

/-- The analog kinds are those that a curve may convert (R1). -/
def ChanKind.isAnalog : ChanKind → Bool
  | .analogU8 | .analogU16 | .analogS8 | .analogS16 => true
  | .discrete | .rolling => false

def Freshness.code : Freshness → Nat
  | .never => 0 | .fresh => 1 | .stale => 2

def CurveState.code : CurveState → Nat
  | .empty => 0 | .editing => 1 | .valid => 2

def GaugeState.code : GaugeState → Nat
  | .parked => 0 | .sweepUp => 1 | .sweepDown => 2 | .tracking => 3 | .holding => 4 | .returning => 5

def TripField.code : TripField → Nat
  | .distance => 0 | .fuel => 1 | .elapsed => 2 | .moving => 3

def JourneyState.code : JourneyState → Nat
  | .idle => 0 | .running => 1 | .ended => 2

def TripCause.code : TripCause → Nat
  | .request => 0 | .button => 1 | .gap => 2

def StoreClass.code : StoreClass → Nat
  | .odometer => 0 | .trip => 1 | .service => 2 | .external => 3

def CtlState.code : CtlState → Nat
  | .ready => 0 | .eraseWindow => 1 | .erasing => 2 | .suspending => 3 | .eraseSuspended => 4
  | .suspendedProgramming => 5 | .programming => 6 | .scanning => 7

def PairId.code : PairId → Nat
  | .trip => 0 | .service => 1

def ScanCode.code : ScanCode → Nat
  | .erased => 0 | .activeOk => 1 | .obsolete => 2 | .checkFail => 3 | .corrupt => 4 | .openSector => 5

/-- The stages in rising order (R92). -/
def Stage.code : Stage → Nat
  | .notDue => 0 | .advance => 1 | .due => 2 | .overdue => 3

def ResetSource.code : ResetSource → Nat
  | .button => 0 | .request => 1

def WarnKind.code : WarnKind → Nat
  | .high => 0 | .low => 1 | .discreteOn => 2 | .discreteOff => 3 | .stale => 4 | .service => 5 | .system => 6

def WarnKind.ofCode : Nat → Option WarnKind
  | 0 => some .high | 1 => some .low | 2 => some .discreteOn | 3 => some .discreteOff | 4 => some .stale
  | 5 => some .service | 6 => some .system | _ => none

/-- The sampled kinds, whose condition changes by counts of samples (R104). -/
def WarnKind.isSampled : WarnKind → Bool
  | .high | .low | .discreteOn | .discreteOff => true
  | .stale | .service | .system => false

/-- The byte of a key gate. DESIGN CHOICE for ANY: 00h (log entry 37). -/
def KeyGate.code : KeyGate → Nat
  | .any => 0 | .notOff => 1 | .run => 2 | .runSettled => 3

/-- The key gate that a byte names. R190 gives a named value its place in R104's list, and gives FFh to ANY: DESIGN
CHOICE for the gate ANY, its place 00h, so that FFh is none of the named values (log entry 37). -/
def KeyGate.ofCode : Nat → Option KeyGate
  | 0 => some .any | 1 => some .notOff | 2 => some .run | 3 => some .runSettled | _ => none

def LatchMode.code : LatchMode → Nat
  | .selfClearing => 0 | .latching => 1 | .momentary => 2

def LatchMode.ofCode : Nat → Option LatchMode
  | 0 => some .selfClearing | 1 => some .latching | 2 => some .momentary | _ => none

def Routing.code : Routing → Nat
  | .front => 0 | .rear => 1 | .both => 2

def Routing.ofCode : Nat → Option Routing
  | 0 => some .front | 1 => some .rear | 2 => some .both | _ => none

def WarnState.code : WarnState → Nat
  | .idle => 0 | .pending => 1 | .presented => 2 | .acknowledged => 3

def WarnCause.code : WarnCause → Nat
  | .qualify => 0 | .present => 1 | .displaced => 2 | .acknowledge => 3 | .timeout => 4 | .clear => 5 | .gate => 6
  | .remind => 7 | .mask => 8 | .disable => 9

def zoneCode : Zone → Nat
  | .front => 0 | .rear => 1

def PlayerState.code : PlayerState → Nat
  | .silent => 0 | .tone => 1 | .gap => 2

def LinkState.code : LinkState → Nat
  | .hibernating => 0 | .waking => 1 | .active => 2 | .shuttingDown => 3

def PressState.code : PressState → Nat
  | .held => 0 | .long => 1 | .cancelled => 2

def LoopState.code : LoopState → Nat
  | .intact => 0 | .suspect => 1 | .broken => 2

def FlowSlot.code : FlowSlot → Nat
  | .empty => 0 | .hold => 1 | .release => 2

def KeyState.code : KeyState → Nat
  | .off => 0 | .acc => 1 | .run => 2 | .crank => 3

/-- TRUE and FALSE are a choice among named values, in that order (R106, R190). DEDUCED: log entry 15. -/
def encTrueFalse (b : Bool) : List Byte := [if b then 0 else 1]

/-! ### Status codes (section 4.6) -/

/-- The status of a response. -/
inductive Status where
  | ok | badRequest | badArgument | inUse | notReady | isProtected | busy | invalidState | failed
  deriving DecidableEq, Repr

def Status.code : Status → Byte
  | .ok => 0 | .badRequest => 1 | .badArgument => 2 | .inUse => 3 | .notReady => 4 | .isProtected => 5 | .busy => 6
  | .invalidState => 7 | .failed => 8

/-! ### Frames and packets (section 4.4, R164) -/

/-- The sum of bytes modulo 256. -/
def byteSum : List Byte → Byte
  | [] => 0
  | b :: bs => b + byteSum bs

/-- Bytes with the check byte that makes them sum to 0 modulo 256. -/
def withCheck (bs : List Byte) : List Byte := bs ++ [-(byteSum bs)]

/-- A loop frame (section 10.5.2): tag, origin and length, payload, check. -/
def mkFrame (tag : Byte) (origin : Node) (payload : List Byte) : Frame :=
  withCheck (tag :: (origin ++ BitVec.ofNat 4 payload.length) :: payload)

/-- The tag F0h plus a node number: requests to it and responses to it (R165). -/
def nodeTag (n : Node) : Byte := 0xF0 ||| n.setWidth 8

/-- The origin node of a received frame: the high four bits of its second byte. -/
def frameOrigin (f : Frame) : Node := (f.getD 1 0).extractLsb' 4 4

/-- The payload length L of a frame: the low four bits of its second byte. -/
def frameLength (f : Frame) : Nat := ((f.getD 1 0).extractLsb' 0 4).toNat

/-- The payload of a frame: its L bytes from the third (R11, R164). -/
def framePayload (f : Frame) : List Byte := (f.drop 2).take (frameLength f)

/-- A received frame is intact when it has at least three bytes, its byte count is L + 3, no idle longer than a byte
time lies inside it, no stop bit is missing, and its bytes sum to 0 (R164). -/
def frameIntact (f : Frame) (longGap stopMissing : Bool) : Bool :=
  decide (3 ≤ f.length) && f.length == frameLength f + 3 && !longGap && !stopMissing && byteSum f == 0

/-! ### The store's words (R64) -/

/-- What a word that the list does not name reads as: the erased value FFFFh (R64). -/
def Memory.erased : Word := 0xFFFF

/-- The word at address `a`. -/
def Memory.read : List (Nat × Word) → Nat → Word
  | [], _ => Memory.erased
  | (b, v) :: r, a => if a = b then v else Memory.read r a

/-- Sets the word at `a`, keeping addresses rising and leaving out the erased value. -/
def Memory.write : List (Nat × Word) → Nat → Word → List (Nat × Word)
  | [], a, v => if v = Memory.erased then [] else [(a, v)]
  | (b, w) :: r, a, v =>
    if a < b then (if v = Memory.erased then (b, w) :: r else (a, v) :: (b, w) :: r)
    else if a = b then (if v = Memory.erased then r else (a, v) :: r)
    else (b, w) :: Memory.write r a v

/-- The canonical form from address `lo` on: addresses strictly rising and below 256, no erased word listed. -/
def Memory.wfFrom (lo : Nat) : List (Nat × Word) → Bool
  | [] => true
  | (a, v) :: r => decide (lo ≤ a) && decide (a < 256) && decide (v ≠ Memory.erased) && Memory.wfFrom (a + 1) r

/-- The canonical form of the store's words. -/
def Memory.wf (m : List (Nat × Word)) : Bool := Memory.wfFrom 0 m

/-- The address of word `w` of sector `s` (R64). -/
def wordAddr (sector : Fin 8) (w : Nat) : Nat := 32 * sector.val + w

/-- The sector of an address. -/
def sectorOf (a : Fin 256) : Fin 8 := ⟨a.val / 32, by omega⟩

/-- Word `w` of sector `s` as it stands. -/
def sectorWord (m : List (Nat × Word)) (sector : Fin 8) (w : Nat) : Word := Memory.read m (wordAddr sector w)

/-- Rewrites the words `w`, `w + 1`, … of a sector by `f` (word number, old word). -/
def Memory.mapSector (m : List (Nat × Word)) (sector : Fin 8) (f : Nat → Word → Word) : List (Nat × Word) :=
  (List.range 32).foldl (fun acc w => Memory.write acc (wordAddr sector w) (f w (sectorWord m sector w))) m

/-- The statuses of word 0 (R77). -/
def statusActive : Word := 0x00FF
def statusObsolete : Word := 0x0000

/-- Words as bytes, most significant first. -/
def encWord (w : Word) : List Byte := enc2 w.toNat

/-! ### Records of the state, one update each -/

def State.setChannel (s : State) (c : Fin 48) (x : Channel) : State := { s with channels := s.channels.set c x }
def State.setCurve (s : State) (c : Fin 16) (x : Curve) : State := { s with curves := s.curves.set c x }
def State.setGauge (s : State) (g : Fin 6) (x : Gauge) : State := { s with gauges := s.gauges.set g x }
def State.setWarning (s : State) (w : Fin 32) (x : Warning) : State :=
  { s with warnings := { s.warnings with entries := s.warnings.entries.set w x } }
def State.setItem (s : State) (i : Fin 8) (x : ServiceItem) : State :=
  { s with service := { s.service with items := s.service.items.set i x } }
def State.setFlags (s : State) (k : Fin 8) (x : SectorFlags) : State :=
  { s with store := { s.store with flags := s.store.flags.set k x } }

/-- The flags of a sector. -/
def State.sector (s : State) (k : Fin 8) : SectorFlags := s.store.flags[k]

/-- An index below `n` as a number of the table, if it is one. -/
def fin? (n : Nat) (i : Nat) : Option (Fin n) := if h : i < n then some ⟨i, h⟩ else none

/-! ### The event list (R185) -/

/-- The class of an event: its bit in the enable set, and its class byte less one (section 10.5.3). -/
def Event.cls : Event → Nat
  | .warning .. => 0
  | .stage .. => 1
  | .serviceReset .. => 1
  | .loopState .. => 2
  | .holdExpired .. => 2
  | .programFailed .. => 3
  | .sectorBad .. => 3
  | .saveFailed .. => 3
  | .odometerFault .. => 3
  | .discontinuity .. => 4
  | .overflow .. => 4
  | .tripReset .. => 4
  | .journeyStart => 4
  | .journeyEnd .. => 4
  | .keyChange .. => 5

/-- The kind byte and the detail of an event (section 10.5.3). -/
def Event.detail : Event → Nat × List Byte
  | .warning w o n m c => (0, enc1 w.val ++ enc1 o.code ++ enc1 n.code ++ encBool m ++ enc1 c.code)
  | .stage i o n => (0, enc1 i.val ++ enc1 o.code ++ enc1 n.code)
  | .serviceReset i src odo day => (1, enc1 i.val ++ enc1 src.code ++ enc3 odo ++ enc2 day)
  | .loopState o n => (0, enc1 o.code ++ enc1 n.code)
  | .holdExpired n => (1, enc1 n.toNat)
  | .programFailed c a => (0, enc1 c.code ++ enc1 a.val)
  | .sectorBad k => (1, enc1 k.val)
  | .saveFailed p => (2, enc1 p.code)
  | .odometerFault b => (3, encBool b)
  | .discontinuity fuel d => (0, enc1 (if fuel then 1 else 0) ++ enc2 d)
  | .overflow r f => (1, enc1 r.val ++ enc1 f.code)
  | .tripReset r c => (2, enc1 r.val ++ enc1 c.code)
  | .journeyStart => (3, [])
  | .journeyEnd d e => (4, enc3 d ++ enc3 e)
  | .keyChange o n => (0, enc1 o.code ++ enc1 n.code)

/-- The payload of the event frame of an entry, with the events-lost flag in bit 0 of its flags byte (R186). -/
def Event.payload (e : Event) (lost : Bool) : List Byte :=
  enc1 (e.cls + 1) ++ enc1 e.detail.1 ++ encBool lost ++ e.detail.2

/-- What a report does to the event list (R185): dropped if its class is disabled, listed at the tail if the list holds
fewer than 16, and else lost with the events-lost flag set. -/
def Handler.report (h : Handler) (e : Event) : Handler :=
  if h.classes.getLsbD e.cls then
    (if h.events.length < 16 then { h with events := h.events ++ [e] } else { h with eventsLost := true })
  else h

/-! ### The insert queue (R171) -/

/-- The free places of the insert queue. -/
def State.freePlaces (s : State) : Nat := 8 - s.loop.insertQ.length

/-- Places a frame at the tail of the insert queue. -/
def insertFrame (f : Frame) (restart : Bool) (s : State) : State :=
  { s with loop := { s.loop with insertQ := s.loop.insertQ ++ [{ frame := f, restart := restart }] } }

/-- A stream frame may be placed only when more than 2 places are free (R171). -/
def State.streamRoom (s : State) : Bool := decide (2 < s.freePlaces)

/-- An event frame (section 10.5.3); the events-lost flag is cleared when it has been carried (R186). -/
def placeEvent (payload : Bool → List Byte) (s : State) : State :=
  insertFrame (mkFrame 0xE1 s.loop.node (payload s.handler.eventsLost)) false
    { s with handler := { s.handler with eventsLost := false } }

/-- The oldest event leaves the list as an event frame, when more than 2 places are free (R186). -/
def buildEvent (s : State) : State :=
  match s.handler.events with
  | e :: rest =>
    if s.streamRoom then placeEvent e.payload { s with handler := { s.handler with events := rest } } else s
  | [] => s

/-- A listing builds an event frame at once when it finds more than 2 places free (R186). -/
def Handler.lists (h : Handler) (e : Event) : Bool := h.classes.getLsbD e.cls && decide (h.events.length < 16)

/-- A block reports an event to the handler: its class and the list decide (R185), and a listing that finds the places
free builds an event frame (R186). -/
def report (e : Event) (s : State) : State :=
  let s1 := { s with handler := s.handler.report e }
  if s.handler.lists e then buildEvent s1 else s1

/-- The payload of the start-up report. -/
def startUpPayload (codes : List ScanCode) (lost : Bool) : List Byte :=
  [0, 0] ++ encBool lost ++ codes.map (fun c => BitVec.ofNat 8 c.code)

/-- The held start-up report is placed, when more than 2 places are free (R186). -/
def buildStartUp (s : State) : State :=
  match s.handler.startUp with
  | some codes =>
    if s.streamRoom then
      placeEvent (startUpPayload codes) { s with handler := { s.handler with startUp := none } }
    else s
  | none => s

/-- A response takes a free place, and waits as a held one only when there is none (R171, R182). -/
def placeResponse (f : Frame) (restart : Bool) (s : State) : State :=
  if 0 < s.freePlaces then insertFrame f restart s
  else { s with handler := { s.handler with held := s.handler.held ++ [f] } }

/-- Builds the bytes of a response with the overrun flag in the status byte's top bit, and clears the flag (R181). -/
def buildResponse (r : Requester) (st : Status) (data : List Byte) (s : State) : Frame × State :=
  (mkFrame (nodeTag r.node) s.loop.node
      (r.code :: r.seq :: (st.code ||| (if s.loop.overrun then 0x80 else 0)) :: data),
   { s with loop := { s.loop with overrun := false } })

/-- The response of finished store work is placed at once if the insert queue has a free place and none is held before
it; otherwise it is held (R182). -/
def holdResponse (f : Frame) (s : State) : State :=
  if s.handler.held = [] then placeResponse f false s
  else { s with handler := { s.handler with held := s.handler.held ++ [f] } }

/-! ### Supply -/

/-- A command acts on a part that has its supply; without it the part does nothing (rows POWER_LOSS and
POWER_ON_RESET). DESIGN CHOICE: log entry 20. -/
def live (f : State → State) (s : State) : Host.Outcome State Fault Refusal :=
  .next (if s.powered then f s else s)

end Sys2Proof.Machine
end

