-- ==== Sys2Proof/Machine/Flags.lean ====
section
/-! DEFINITION. The computed values that decide a flag: conversion with the limited flag (R12 to R15), the saturation
of trip fields with their overflow flag (R49), the rounded quotients, and the coil levels (R38). -/

namespace Sys2Proof.Machine

/-! ### Conversion (R12 to R15) -/

/-- `num / den` to the nearest integer, halves away from zero (R13). -/
def roundAway (num : Int) (den : Nat) : Int :=
  let q : Nat := (2 * num.natAbs + den) / (2 * den)
  if num < 0 then -(q : Int) else q

/-- Breakpoints 1 to N of a curve, in slot order (R3). -/
def Curve.points (c : Curve) : List (Int × Int) := (c.slots.toList.take c.count).filterMap id

/-- The interpolation of R13 on the segment with Xi ≤ x < Xi+1. -/
def interpolate : List (Int × Int) → Int → Int
  | (x1, y1) :: (x2, y2) :: r, x =>
    if x < x2 then y1 + roundAway ((x - x1) * (y2 - y1)) (x2 - x1).natAbs else interpolate ((x2, y2) :: r) x
  | [(_, y)], _ => y
  | [], _ => 0

/-- A raw value through a curve's points: the engineering value and the limited flag (R12, R13). A VALID curve has
points; without any the value is 0, which no enabled channel or gauge meets (R5, R7, R8, R26). -/
def convertCurve (points : List (Int × Int)) (x : Int) : Int × Bool :=
  match points, points.getLast? with
  | (x1, y1) :: _, some (xn, yn) =>
    if x ≤ x1 then (y1, decide (x < x1))
    else if xn ≤ x then (yn, decide (xn < x))
    else (interpolate points x, false)
  | _, _ => (0, false)

/-- A raw value of a channel with curve NONE: saturated to 16 bits signed, with the limited flag (R14). -/
def convertPlain (x : Int) : Int × Bool :=
  if 32767 < x then (32767, true) else if x < -32768 then (-32768, true) else (x, false)

/-- One step of smoothing with shift `k` from `v` toward `y` (R15): sign(d) · ceil(|d| / 2^k). -/
def smooth (k : Nat) (v y : Int) : Int :=
  let d := y - v
  let step : Nat := (d.natAbs + 2 ^ k - 1) / 2 ^ k
  if d < 0 then v - step else v + step

/-! ### Saturation (R49) -/

/-- The limit of a field of a trip record. -/
def TripField.limit : TripField → Nat
  | .distance => 9999999 | .fuel => 9999999 | .elapsed => 359999 | .moving => 359999

/-- Adds `n` to a field: within the limit it takes the sum, past it it is set to the limit with its flag, and with
the flag set it does not change. The second component says that the flag was set by this addition (R49). -/
def Counter.add (limit : Nat) (c : Counter) (n : Nat) : Counter × Bool :=
  if c.overflow then (c, false)
  else if c.value + n ≤ limit then ({ c with value := c.value + n }, false)
  else ({ value := limit, overflow := true }, true)

/-! ### Quotients -/

/-- `a / b` rounded half up (section 3.5). -/
def roundHalfUp (a b : Nat) : Nat := (2 * a + b) / (2 * b)

/-! ### Coil levels (R38) -/

/-- The scale of the fixed-point sine. -/
def trigUnit : Nat := 10 ^ 30

/-- π in units of `trigUnit`. -/
def trigPi : Nat := 3141592653589793238462643383279

/-- The nested tail of the sine series: 1 − x²/(2k(2k+1)) · (the same for k + 1), `n` terms deep. -/
def sinTail (x2 : Nat) : Nat → Nat → Nat
  | 0, _ => trigUnit
  | n + 1, k => trigUnit - x2 * sinTail x2 n (k + 1) / (trigUnit * (2 * k * (2 * k + 1)))

/-- round(255 · sin) of the angle r / 1023 degrees, r from 0 to 92,070 (a right angle), halves up. The only exact
half is at 30 degrees (127.5). For every r the fixed-point error is below 10⁻²⁷ and the value lies at least 10⁻⁶
from the nearest other half, so the rounding is that of the exact sine: log entry 23. -/
def quarterSine (r : Nat) : Nat :=
  if r = 30690 then 128
  else
    let x := r * trigPi / 184140
    let x2 := x * x / trigUnit
    (510 * (x * sinTail x2 14 1 / trigUnit) + trigUnit) / (2 * trigUnit)

/-- round(255 · sin(angle)) for the angle n / 1023 degrees. -/
def sineLevel (n : Nat) : Int :=
  let r := n % 92070
  match n / 92070 % 4 with
  | 0 => quarterSine r
  | 1 => quarterSine (92070 - r)
  | 2 => -(quarterSine r : Int)
  | _ => -(quarterSine (92070 - r) : Int)

/-- round(255 · cos(angle)): the sine a right angle on. -/
def cosineLevel (n : Nat) : Int := sineLevel (n + 92070)

/-- The sine and cosine coil levels of a gauge at its position: 0 and 0 for an unwritten record, else by the dial
sweep and the polarities (R38). -/
def coilLevels (written : Bool) (g : GaugeSetup) (position : Nat) : Int × Int :=
  if written then
    let n := position * g.dial
    ((if g.sineInverted then -(sineLevel n) else sineLevel n),
     (if g.cosineInverted then -(cosineLevel n) else cosineLevel n))
  else (0, 0)

end Sys2Proof.Machine
end

