-- ==== Sys2Proof/Machine/Store.lean ====
section
/-! DEFINITION. The Store Controller (R64 to R71, R73): slots, the erase window, programs, erases, suspension, and the
read of one word. Every operation here maps a `Store` to a `Store`. -/

namespace Sys2Proof.Machine

/-! ### Slots -/

/-- The classes in the order in which READY takes their steps (R68). -/
def allClasses : List StoreClass := [.odometer, .trip, .service, .external]

def Store.slot (x : Store) : StoreClass → Option StoreStep
  | .odometer => x.slotOdometer | .trip => x.slotTrip | .service => x.slotService | .external => x.slotExternal

def Store.setSlot (x : Store) (c : StoreClass) (v : Option StoreStep) : Store :=
  match c with
  | .odometer => { x with slotOdometer := v }
  | .trip => { x with slotTrip := v }
  | .service => { x with slotService := v }
  | .external => { x with slotExternal := v }

/-- The address of word `w` of a sector as a number of the store. -/
def storeAddr (k : Fin 8) (w : Nat) : Fin 256 := ⟨wordAddr k w % 256, by omega⟩

/-- A sector named alone. -/
def oneSector (k : Fin 8) : BitVec 8 := BitVec.ofNat 8 (2 ^ k.val)

/-- The sectors of a set, in increasing number. -/
def sectorsOf (b : BitVec 8) : List (Fin 8) := (List.finRange 8).filter (fun k => b.getLsbD k.val)

/-! ### The erase set (R69, R70) -/

/-- The outcome that a sector of the erase set already has. -/
def outcomeOf (os : List (Fin 8 × EraseOutcome)) (k : Fin 8) : Option EraseOutcome :=
  (os.find? (fun o => o.1 = k)).map Prod.snd

/-- The sectors of the erase set that have no outcome yet. -/
def Store.todo (x : Store) : List (Fin 8) := (sectorsOf x.eraseSet).filter (fun k => (outcomeOf x.outcomes k).isNone)

/-- The outcome of a sector that is not erased: BAD, or ACTIVE in one of the sectors 0 to 5 (R70). -/
def Store.skip (x : Store) (k : Fin 8) : Option EraseOutcome :=
  if (x.flags[k]).bad then some .skippedBad
  else if k.val < 6 ∧ sectorWord x.mem k 0 = statusActive then some .skippedActive
  else none

/-- Goes through the sectors to do: skips those that are not erased and begins the first other, or finishes the set
and is READY (R70). -/
def Store.beginFrom : List (Fin 8) → Store → Store
  | [], x => { x with ctl := .ready, eraseSet := 0, current := none }
  | k :: r, x =>
    match x.skip k with
    | some o => Store.beginFrom r { x with outcomes := x.outcomes ++ [(k, o)] }
    | none => { x with ctl := .erasing, current := some k }

/-- Begins the next sector of the set. -/
def Store.beginNext (x : Store) : Store := Store.beginFrom x.todo x

/-- The window closes and erasing begins (R69). -/
def Store.closeWindow (x : Store) : Store := ({ x with window := none }).beginNext

/-- An erase step joins the window: it leaves its slot and adds its sectors (R69). -/
def Store.join (x : Store) (c : StoreClass) (b : BitVec 8) : Store :=
  { x.setSlot c none with eraseSet := x.eraseSet ||| b, joined := x.joined ++ [(c, b)] }

/-- A step is placed by its class (R67): it waits in its slot, except that in the erase window an erase joins and a
program closes the window (R69), and that an ODOMETER program suspends the erase (R71). -/
def Store.place (x : Store) (c : StoreClass) (step : StoreStep) : Store :=
  match step with
  | .erase b => if x.ctl = .eraseWindow then x.join c b else x.setSlot c (some step)
  | .program _ _ =>
    let x1 := x.setSlot c (some step)
    let x2 := if x.ctl = .eraseWindow then x1.closeWindow else x1
    if c = .odometer ∧ x2.ctl = .erasing then { x2 with ctl := .suspending } else x2

/-- Every erase step that waits in a slot joins the window. -/
def Store.gather (x : Store) (c : StoreClass) : Store :=
  match x.slot c with
  | some (.erase b) => x.join c b
  | _ => x

/-- In READY the waiting step of the highest class is taken: a program starts, an erase opens the window of 10 ms
(R68, R69). `none` when nothing is taken. -/
def Store.take (x : Store) : Option Store :=
  if x.ctl = .ready then
    match allClasses.find? (fun c => (x.slot c).isSome) with
    | none => none
    | some c =>
      match x.slot c with
      | some (.program a v) =>
        some { x.setSlot c none with ctl := .programming, running := some { cls := c, addr := a, value := v } }
      | some (.erase _) =>
        some (allClasses.foldl Store.gather { x with ctl := .eraseWindow, window := some 10, outcomes := [] })
      | none => none
  else none

/-! ### Completions (R65, R66, R71) -/

/-- What a program's end reports to its class (R65): the word as it stands, whether it ended EXCEEDED, and how many
bits it has cleared. -/
structure ProgramReport where
  cls : StoreClass
  addr : Fin 256
  word : Word
  exceeded : Bool
  cleared : Nat
  deriving DecidableEq, Repr

/-- The number of 1 bits of a word. -/
def ones (w : Word) : Nat := (List.range 16).countP (fun i => w.getLsbD i)

/-- The word after a program: (old AND new) (R65). -/
def programmed (old value : Word) : Word := old &&& value

/-- A program ends EXCEEDED when the new value has a 1 where the stored word has a 0, or the word is worn (R65). -/
def programExceeds (old value : Word) (worn : Bool) : Bool := worn || decide (programmed old value ≠ value)

/-- The running program ends: the word, the sector's flags, and the controller READY or erasing again (R65, R66, R71).
The interrupted sector begins again; with none interrupted the next one begins. -/
def Store.programEnd (x : Store) (worn : Bool) : Option (ProgramReport × Store) :=
  match x.running with
  | none => none
  | some r =>
    let old := Memory.read x.mem r.addr.val
    let new := programmed old r.value
    let exceeded := programExceeds old r.value worn
    let k := sectorOf r.addr
    let f := x.flags[k]
    let x1 : Store :=
      { x with mem := Memory.write x.mem r.addr.val new, running := none,
               flags := x.flags.set k { f with worn := f.worn || exceeded, erasedKnown := false } }
    let x2 :=
      if x.ctl = .suspendedProgramming then
        (match x.current with
         | some _ => { x1 with ctl := .erasing }
         | none => x1.beginNext)
      else { x1 with ctl := .ready }
    some ({ cls := r.cls, addr := r.addr, word := new, exceeded := exceeded, cleared := ones old - ones new }, x2)

/-- The suspending program is taken at once from ERASE_SUSPENDED (R71). -/
def Store.takeSuspending (x : Store) : Store :=
  match x.slotOdometer with
  | some (.program a v) =>
    { x with slotOdometer := none, ctl := .suspendedProgramming,
             running := some { cls := .odometer, addr := a, value := v } }
  | _ => { x with ctl := .eraseSuspended }

/-- The suspension is reached (R71). -/
def Store.suspensionReached (x : Store) : Store := if x.ctl = .suspending then x.takeSuspending else x

/-- The contents of a sector after its erase: FFFFh, or, where the erase failed, each word with the bits raised that
`raised` names (R66). -/
def eraseSector (mem : List (Nat × Word)) (k : Fin 8) (failed : Bool) (raised : List Word) : List (Nat × Word) :=
  Memory.mapSector mem k (fun w old => if failed then old ||| raised.getD w 0 else Memory.erased)

/-- The current sector's erase ends (R66, R70, R71); the second component is the sector that became BAD. -/
def Store.eraseEnd (x : Store) (failed : Bool) (raised : List Word) : Option (Fin 8 × Store) :=
  match x.current with
  | none => none
  | some k =>
    if x.ctl = .erasing ∨ x.ctl = .suspending then
      let f := x.flags[k]
      let x1 : Store :=
        { x with mem := eraseSector x.mem k failed raised, current := none,
                 flags := x.flags.set k { f with bad := f.bad || failed, erasedKnown := !failed },
                 outcomes := x.outcomes ++ [(k, if failed then EraseOutcome.exceeded else EraseOutcome.erased)] }
      let x2 :=
        if x.ctl = .erasing then x1.beginNext
        else if x1.todo = [] then { x1 with ctl := .ready, eraseSet := 0 }
        else x1.takeSuspending
      some (k, x2)
    else none

/-- The window timer expires (R69). -/
def Store.windowExpiry (x : Store) : Store :=
  if x.ctl = .eraseWindow ∧ x.window.isSome then x.closeWindow else x

/-- The first erase step of the window whose every sector has its outcome (R70). -/
def Store.finishedStep (x : Store) : Option (StoreClass × BitVec 8) :=
  x.joined.find? (fun j => (sectorsOf j.2).all (fun k => (outcomeOf x.outcomes k).isSome))

/-- Takes a finished erase step out; with the last one the set's outcomes go. -/
def Store.dropStep (x : Store) (j : StoreClass × BitVec 8) : Store :=
  let rest := x.joined.erase j
  { x with joined := rest, outcomes := if rest = [] then [] else x.outcomes }

/-! ### Reading (R73) -/

/-- The answer to a read of one word (R73): NOT_READY, FAILED for a BAD sector, or the word as it stands. For a word of a
BAD sector that stands in the erase set without its outcome both of the first two apply: DESIGN CHOICE, NOT_READY (log
entry 32). -/
def Store.readWord (x : Store) (a : Fin 256) : Status × Word :=
  let k := sectorOf a
  if x.eraseSet.getLsbD k.val ∧ outcomeOf x.outcomes k = none then (.notReady, 0)
  else if (match x.running with | some r => decide (r.addr = a) | none => false) then (.notReady, 0)
  else if x.ctl = .scanning then (.notReady, 0)
  else if (x.flags[k]).bad then (.failed, 0)
  else (.ok, Memory.read x.mem a.val)

/-! ### Loss of power (R64) -/

/-- What a loss of power leaves in the store: of a program in progress, each bit it was to clear that `held` names
keeps its former value; of an erase in progress (a suspended one included), each bit that `raised` names is 1. -/
def Store.afterLoss (x : Store) (held : Word) (raised : List Word) : List (Nat × Word) :=
  let m1 :=
    match x.running with
    | some r => Memory.write x.mem r.addr.val (Memory.read x.mem r.addr.val &&& (r.value ||| held))
    | none => x.mem
  match x.current with
  | some k => Memory.mapSector m1 k (fun w old => old ||| raised.getD w 0)
  | none => m1

end Sys2Proof.Machine
end

