-- ==== Sys2Proof/Machine/Pair.lean ====
section
/-! DEFINITION. The save pairs of the store (R84, R85, R88): layout, the steps of a save, the tidy erase, and the
recovery of a pair. The operations change the pair's context, the store's slots and the event list only. -/

namespace Sys2Proof.Machine

/-! ### Layout (R84) -/

/-- The lower and the higher sector of a pair. -/
def PairId.low : PairId → Fin 8
  | .trip => 2 | .service => 4

def PairId.high : PairId → Fin 8
  | .trip => 3 | .service => 5

/-- The number of data words. -/
def PairId.dataWords : PairId → Nat
  | .trip => 16 | .service => 24

def PairId.cls : PairId → StoreClass
  | .trip => .trip | .service => .service

/-- The other sector of a pair. -/
def PairId.other (p : PairId) (k : Fin 8) : Fin 8 := if k = p.low then p.high else p.low

def State.pair (s : State) : PairId → Pair
  | .trip => s.tripPair | .service => s.servicePair

def State.setPair (s : State) (p : PairId) (x : Pair) : State :=
  match p with
  | .trip => { s with tripPair := x }
  | .service => { s with servicePair := x }

/-- The sum of words modulo 65,536. -/
def wordSum : List Word → Word
  | [] => 0
  | w :: ws => w + wordSum ws

/-- Words 1 onward of a sector: the save number, the data and the check that makes them sum to 0. -/
def pairImage (number : Word) (data : List Word) : List Word := number :: data ++ [-(wordSum (number :: data))]

/-- A number below 2^31 as two words, high word first. -/
def twoWords (n : Nat) : List Word := [BitVec.ofNat 16 (n / 65536), BitVec.ofNat 16 n]

/-- A field of a trip record: two words, with the overflow flag in bit 15 of the high word. -/
def Counter.words (c : Counter) : List Word :=
  [(BitVec.ofNat 16 (c.value / 65536)) ||| (if c.overflow then 0x8000 else 0), BitVec.ofNat 16 c.value]

def TripRecord.words (r : TripRecord) : List Word :=
  r.distance.words ++ r.fuel.words ++ r.elapsed.words ++ r.moving.words

def Capture.words (c : Capture) : List Word := c.tripA.words ++ c.tripB.words

/-- A field of a trip record from its two words. -/
def Counter.ofWords (high low : Word) : Counter :=
  { value := (high &&& 0x7FFF).toNat * 65536 + low.toNat, overflow := high.getLsbD 15 }

/-- The trip record in eight words from word `w` of a sector. -/
def tripRecordAt (m : List (Nat × Word)) (k : Fin 8) (w : Nat) : TripRecord :=
  let c (i : Nat) := Counter.ofWords (sectorWord m k (w + i)) (sectorWord m k (w + i + 1))
  { distance := c 0, fuel := c 2, elapsed := c 4, moving := c 6 }

/-- The trip data of a sector of the trip pair. -/
def captureAt (m : List (Nat × Word)) (k : Fin 8) : Capture :=
  { tripA := tripRecordAt m k 2, tripB := tripRecordAt m k 10 }

/-- A last-service record as three words; UNKNOWN is 8000h, 0000h, 0000h. -/
def recordWords : Option (Nat × Nat) → List Word
  | some (odo, day) => twoWords odo ++ [BitVec.ofNat 16 day]
  | none => [0x8000, 0x0000, 0x0000]

/-- The last-service record of item `i` in a sector of the service pair; bit 15 of its high word marks UNKNOWN. -/
def recordAt (m : List (Nat × Word)) (k : Fin 8) (i : Nat) : Option (Nat × Nat) :=
  let high := sectorWord m k (2 + 3 * i)
  if high.getLsbD 15 then none
  else some (high.toNat * 65536 + (sectorWord m k (3 + 3 * i)).toNat, (sectorWord m k (4 + 3 * i)).toNat)

/-- Every field of a trip record is within its limit. -/
def TripRecord.inRange (r : TripRecord) : Bool :=
  decide (r.distance.value ≤ TripField.distance.limit) && decide (r.fuel.value ≤ TripField.fuel.limit) &&
    decide (r.elapsed.value ≤ TripField.elapsed.limit) && decide (r.moving.value ≤ TripField.moving.limit)

/-- The fields of a pair sector are within their ranges. -/
def pairInRange (m : List (Nat × Word)) (p : PairId) (k : Fin 8) : Bool :=
  match p with
  | .trip => (captureAt m k).tripA.inRange && (captureAt m k).tripB.inRange
  | .service => (List.range 8).all (fun i => match recordAt m k i with | some (o, _) => decide (o ≤ 9999999) | none => true)

/-- The check of a pair sector is good: words 1 to the check word sum to 0, and every field is in range. -/
def pairCheck (m : List (Nat × Word)) (p : PairId) (k : Fin 8) : Bool :=
  wordSum ((List.range (p.dataWords + 2)).map (fun i => sectorWord m k (i + 1))) == 0 && pairInRange m p k

/-- Save number `a` exceeds `b` by 1 to 32,767 modulo 65,536: its sector is the newer (R84). -/
def newer (a b : Word) : Bool := let d := (a - b).toNat; decide (1 ≤ d) && decide (d ≤ 32767)

/-! ### Saves (R85) -/

/-- A sector may receive data: neither BAD nor WORN (R66). -/
def State.usable (s : State) (k : Fin 8) : Bool := !(s.sector k).bad && !(s.sector k).worn

/-- The target of a save, if the pair has a good one (R85 step 1). -/
def State.saveTarget (s : State) (p : PairId) : Option (Fin 8) :=
  match (s.pair p).active with
  | some a => if s.usable (p.other a) then some (p.other a) else none
  | none => if s.usable p.low then some p.low else if s.usable p.high then some p.high else none

/-- A save ends as failed before step 4: IDLE, with SAVE_FAILED reported; its owner is still to be told. No rule says
whether the event (R85) or the owner's STORE_FAULT (R61, R101) comes first: DESIGN CHOICE, the event (log entry 10). -/
def failSave (p : PairId) (s : State) : State :=
  report (.saveFailed p) (s.setPair p { s.pair p with state := .idle, job := none, ended := some false })

/-- A save of an image of data words begins (R85 steps 1 and 2). -/
def beginSave (p : PairId) (data : List Word) (s : State) : State :=
  let x := s.pair p
  match s.saveTarget p with
  | none => failSave p s
  | some t =>
    s.setPair p
      { x with state := .saving,
               job := some { target := t, image := pairImage (x.lastNumber + 1) data, old := x.active, phase := .erase,
                             allOk := true } }

/-- An owner's save request (R85): it begins in IDLE once the pair is recovered, and its image is held otherwise. -/
def requestSave (p : PairId) (data : List Word) (s : State) : State :=
  let x := s.pair p
  if x.state = .idle ∧ x.recovered then beginSave p data s else s.setPair p { x with held := some data }

/-- A held image's save begins. -/
def beginHeld (p : PairId) (s : State) : State :=
  let x := s.pair p
  match x.held with
  | some data => beginSave p data (s.setPair p { x with held := none })
  | none => s

/-- The next step of a pair, when none of its steps is outstanding: a recovery's OBSOLETE program (R88), the next step
of a save, or the tidy erase (R85). The phase becomes that of the step. -/
def State.pairStep (s : State) (p : PairId) : Option (StoreStep × Option SaveJob) :=
  let x := s.pair p
  if x.out then none
  else
    match x.recovery with
    | k :: _ => some (.program (storeAddr k 0) statusObsolete, x.job)
    | [] =>
      match x.job with
      | some j =>
        match j.phase with
        | .erase =>
          if (s.sector j.target).erasedKnown then
            some (.program (storeAddr j.target 1) (j.image.getD 0 0), some { j with phase := .word 1 })
          else some (.erase (oneSector j.target), some j)
        | .word k => some (.program (storeAddr j.target k) (j.image.getD (k - 1) 0), some j)
        | .status => some (.program (storeAddr j.target 0) statusActive, some j)
        | .obsolete => some (.program (storeAddr (j.old.getD j.target) 0) statusObsolete, some j)
      | none => x.tidy.map (fun k => (.erase (oneSector k), none))

/-- Places the pair's next step in its class slot; `none` when there is nothing to place. -/
def pairPump (p : PairId) (s : State) : Option State :=
  match s.pairStep p with
  | none => none
  | some (step, job) =>
    some { s.setPair p { s.pair p with out := true, job := job } with store := s.store.place p.cls step }

/-- The end of step 5, or of step 4 with no old sector (R85): the target is the active sector, the tidy erase follows
where there is an old one, and the save ends. DESIGN CHOICE: SAVE_FAILED comes before the owner's STORE_FAULT, as in
`failSave` (log entry 10). -/
def finishSave (p : PairId) (j : SaveJob) (s : State) : State :=
  let s1 := s.setPair p
    { s.pair p with active := some j.target, lastNumber := j.image.getD 0 0, job := none, tidy := j.old,
                    state := if j.old.isSome then .tidying else .idle, ended := some j.allOk }
  if j.allOk then s1 else report (.saveFailed p) s1

/-- A program of the pair's class has ended (R85, R88). -/
def pairProgramEnd (p : PairId) (exceeded : Bool) (s : State) : State :=
  let x := { s.pair p with out := false }
  match x.recovery with
  | _ :: rest =>
    let s1 := s.setPair p { x with recovery := rest, recovered := rest.isEmpty }
    if rest.isEmpty then beginHeld p s1 else s1
  | [] =>
    match x.job with
    | none => s.setPair p x
    | some j =>
      match j.phase with
      | .erase => s.setPair p x
      | .word k =>
        if exceeded then failSave p (s.setPair p x)
        else s.setPair p
          { x with job := some { j with phase := if k < j.image.length then .word (k + 1) else .status } }
      | .status =>
        let j1 := { j with allOk := j.allOk && !exceeded, phase := .obsolete }
        if j.old.isSome then s.setPair p { x with job := some j1 } else finishSave p j1 (s.setPair p x)
      | .obsolete => finishSave p { j with allOk := j.allOk && !exceeded } (s.setPair p x)

/-- An erase of the pair's class has ended (R85). -/
def pairEraseEnd (p : PairId) (outcome : Option EraseOutcome) (s : State) : State :=
  let x := { s.pair p with out := false }
  match x.job with
  | some j =>
    if outcome = some .erased then s.setPair p { x with job := some { j with phase := .word 1 } }
    else failSave p (s.setPair p x)
  | none => beginHeld p (s.setPair p { x with tidy := none, state := .idle })

/-! ### Recovery (R88) -/

/-- The sectors of a pair whose code is ACTIVE_OK. -/
def pairActives (m : List (Nat × Word)) (p : PairId) : List (Fin 8) :=
  [p.low, p.high].filter (fun k => decide (sectorWord m k 0 = statusActive) && pairCheck m p k)

/-- The active sector that a pair recovers: the only good one, or of two the newer, and the lower where neither is. -/
def pairChoice (m : List (Nat × Word)) (p : PairId) : Option (Fin 8) :=
  match pairActives m p with
  | [] => none
  | [k] => some k
  | a :: b :: _ => if newer (sectorWord m b 1) (sectorWord m a 1) then some b else some a

/-- The other sectors of a pair whose word 0 reads 00FFh: they are to be programmed OBSOLETE (R88), the lower-numbered
first: DESIGN CHOICE, log entry 33. -/
def pairLosers (m : List (Nat × Word)) (p : PairId) : List (Fin 8) :=
  [p.low, p.high].filter (fun k => decide (sectorWord m k 0 = statusActive) && decide (pairChoice m p ≠ some k))

/-- A pair's context recovered at the end of the scan. An image asked for before is still held. -/
def recoverPair (p : PairId) (s : State) : State :=
  let m := s.store.mem
  let losers := pairLosers m p
  let s1 := s.setPair p
    { s.pair p with active := pairChoice m p,
                    lastNumber := (match pairChoice m p with | some k => sectorWord m k 1 | none => 0xFFFF),
                    recovery := losers, recovered := losers.isEmpty }
  if losers.isEmpty then beginHeld p s1 else s1

end Sys2Proof.Machine
end

