-- ==== Sys2Proof/Machine/Chime.lean ====
section
/-! DEFINITION. The Chime Generator (chapter 7): the queue, requests and releases, and the two players. Every
operation here maps a `Chime` to a `Chime`, so that it touches no other block. -/

namespace Sys2Proof.Machine

/-! ### Players and requests -/

/-- The player of a zone (R138). -/
def Chime.player (c : Chime) : Zone → Player
  | .front => c.front
  | .rear => c.rear

def Chime.setPlayer (c : Chime) (z : Zone) (p : Player) : Chime :=
  match z with
  | .front => { c with front := p }
  | .rear => { c with rear := p }

/-- The queued request of an origin and a zone; there is at most one (R134). -/
def Chime.find (c : Chime) (o : ChimeOrigin) (z : Zone) : Option ChimeRequest :=
  c.queue.find? (fun r => r.origin = o ∧ r.zone = z)

/-- A request is playing while a player has it as its current (R134). -/
def Chime.isPlaying (c : Chime) (r : ChimeRequest) : Bool := (c.player r.zone).current = .request r.origin

/-- Removes the request of an origin and a zone. -/
def Chime.remove (c : Chime) (o : ChimeOrigin) (z : Zone) : Chime :=
  { c with queue := c.queue.filter (fun r => !decide (r.origin = o ∧ r.zone = z)) }

/-- Changes the request of an origin and a zone in its place. -/
def Chime.modify (c : Chime) (o : ChimeOrigin) (z : Zone) (f : ChimeRequest → ChimeRequest) : Chime :=
  { c with queue := c.queue.map (fun r => if r.origin = o ∧ r.zone = z then f r else r) }

/-- Places a request by its rank, after those of its own rank (R134). -/
def insertByRank (r : ChimeRequest) : List ChimeRequest → List ChimeRequest
  | [] => [r]
  | q :: qs => if q.rank ≤ r.rank then q :: insertByRank r qs else r :: q :: qs

/-- A repeat count as repeats left: 0 is UNTIL_RELEASED (R129, R135). -/
def repeatsOf (n : Nat) : Option Nat := if n = 0 then none else some n

/-- A pattern is in use while a queued request names it or a player plays it as a tick (R129). -/
def Chime.inUse (c : Chime) (p : Fin 16) : Bool :=
  c.queue.any (fun r => r.pattern = p) || c.front.current = .tick p || c.rear.current = .tick p

/-! ### Playing (R139 to R141) -/

/-- The player becomes SILENT with nothing current. -/
def Chime.silence (c : Chime) (z : Zone) : Chime := c.setPlayer z .silent

/-- The player enters TONE with segment `k` of a pattern: its divisor in the tone counter, its on time in the segment
timer (R139, R140). A slot of a pattern in use within its segment count is never absent (R131). -/
def Chime.enterTone (c : Chime) (z : Zone) (cur : Current) (p : Fin 16) (k : Nat) : Chime :=
  match (c.patterns[p]).slots.toList.getD (k - 1) none with
  | some g => c.setPlayer z { state := .tone, current := cur, segment := k, timer := some (10 * g.onTime),
                              counter := some g.divisor }
  | none => c.silence z

/-- A SILENT player starts its zone's top-ranked request, if there is one, at segment 1 (R139). -/
def Chime.startTop (c : Chime) (z : Zone) : Chime :=
  match c.queue.find? (fun r => decide (r.zone = z) && !r.released) with
  | some r => c.enterTone z (.request r.origin) r.pattern 1
  | none => c

/-- The player stops what it plays and starts its zone's top-ranked request (R141). -/
def Chime.stopAndStart (c : Chime) (z : Zone) : Chime := (c.silence z).startTop z

/-- A queued request of the zone outranks what the player plays; any request outranks a tick (R141). -/
def Chime.outranked (c : Chime) (z : Zone) : Bool :=
  match (c.player z).current with
  | .nothing => false
  | .tick _ => c.queue.any (fun r => r.zone = z)
  | .request o =>
    match c.find o z with
    | some cur => c.queue.any (fun r => decide (r.zone = z) && decide (r.rank < cur.rank))
    | none => false

/-- The end of a segment: the next one, the next repetition, or the end of the request or the tick (R140). -/
def Chime.segmentEnd (c : Chime) (z : Zone) : Chime :=
  let pl := c.player z
  match pl.current with
  | .nothing => c
  | .tick p =>
    if pl.segment < (c.patterns[p]).segments then c.enterTone z pl.current p (pl.segment + 1) else c.stopAndStart z
  | .request o =>
    match c.find o z with
    | none => c.stopAndStart z
    | some r =>
      if pl.segment < (c.patterns[r.pattern]).segments then c.enterTone z pl.current r.pattern (pl.segment + 1)
      else
        match r.repeatsLeft with
        | none => c.enterTone z pl.current r.pattern 1
        | some n =>
          if n ≤ 1 then (c.remove o z).stopAndStart z
          else (c.modify o z (fun q => { q with repeatsLeft := some (n - 1) })).enterTone z pl.current r.pattern 1

/-- The silence that follows the segment the player is in, in units of 10 ms. -/
def Chime.offTime (c : Chime) (z : Zone) : Nat :=
  let pl := c.player z
  let slot (p : Fin 16) : Nat :=
    match (c.patterns[p]).slots.toList.getD (pl.segment - 1) none with
    | some g => g.offTime
    | none => 0
  match pl.current with
  | .nothing => 0
  | .tick p => slot p
  | .request o => match c.find o z with | some r => slot r.pattern | none => 0

/-- The current of the player is a request whose released flag is set (R141). -/
def Chime.currentReleased (c : Chime) (z : Zone) : Bool :=
  match (c.player z).current with
  | .request o => match c.find o z with | some r => r.released | none => false
  | _ => false

/-- The end of a player's on time (R140, R141): the counter is turned off, a released request is removed, an
outranked current is set aside, else the gap or the end of the segment follows. -/
def Chime.toneEnd (c : Chime) (z : Zone) : Chime :=
  let pl := c.player z
  if pl.state = .tone then
    if c.currentReleased z then
      match pl.current with
      | .request o => (c.remove o z).stopAndStart z
      | _ => c
    else if c.outranked z then c.stopAndStart z
    else if c.offTime z = 0 then (c.setPlayer z { pl with counter := none }).segmentEnd z
    else c.setPlayer z { pl with state := .gap, counter := none, timer := some (10 * c.offTime z) }
  else c

/-- The end of a player's off time (R140). -/
def Chime.gapEnd (c : Chime) (z : Zone) : Chime := if (c.player z).state = .gap then c.segmentEnd z else c

/-! ### Requests and releases (R135, R136) -/

/-- What the player of a zone does when a request is placed there (R135): SILENT it starts, in GAP it stops if
outranked, in TONE it waits. -/
def Chime.afterPlacing (c : Chime) (z : Zone) : Chime :=
  match (c.player z).state with
  | .silent => c.startTop z
  | .gap => if c.outranked z then c.stopAndStart z else c
  | .tone => c

/-- Places a new request by its rank. -/
def Chime.place (c : Chime) (r : ChimeRequest) : Chime :=
  ({ c with queue := insertByRank r c.queue }).afterPlacing r.zone

/-- A chime request of an origin, zone, pattern and rank, with the repeats a repeat count gives (R135): discarded when
the pattern is empty, a refresh of the queued request, a new place, or a place made by pushing out the lowest-ranked
request that is not playing. -/
def Chime.request (c : Chime) (o : ChimeOrigin) (z : Zone) (p : Fin 16) (rank : Nat)
    (repeats : Nat → Option Nat) : Chime :=
  if (c.patterns[p]).segments = 0 then c
  else
    let new : ChimeRequest :=
      { origin := o, zone := z, pattern := p, rank := rank, repeatsLeft := repeats (c.patterns[p]).repeats,
        released := false }
    match c.find o z with
    | some _ =>
      c.modify o z (fun r => { r with repeatsLeft := repeats (c.patterns[r.pattern]).repeats, released := false })
    | none =>
      if c.queue.length < 8 then c.place new
      else
        match c.queue.reverse.find? (fun r => !c.isPlaying r) with
        | some v => if rank < v.rank then (c.remove v.origin v.zone).place new else c
        | none => c

/-- A release of an origin and a zone (R136). -/
def Chime.release (c : Chime) (o : ChimeOrigin) (z : Zone) : Chime :=
  match c.find o z with
  | none => c
  | some r =>
    if c.isPlaying r then
      match (c.player z).state with
      | .tone => c.modify o z (fun q => { q with released := true })
      | _ => (c.remove o z).stopAndStart z
    else c.remove o z

/-- The answer request (R137): origin REAR_CALL in the zone REAR, ranked below every warning, played once where its
pattern's repeat count is 0; nothing while the setup is unwritten or its answer pattern is NONE. -/
def Chime.answer (c : Chime) : Chime :=
  match c.setup.written, c.setup.answerPattern with
  | true, some p => c.request .rearCall .rear p 256 (fun n => some (if n = 0 then 1 else n))
  | _, _ => c

/-- A tick edge (R142): a SILENT FRONT plays the tick pattern once unless it is empty; else the tick is dropped. -/
def Chime.tick (c : Chime) : Chime :=
  let p := c.setup.tickPattern
  if c.front.state = .silent ∧ (c.patterns[p]).segments ≠ 0 then c.enterTone .front (.tick p) p 1 else c

/-- The restart effect (R143): both players stop at once and the queue is emptied. -/
def Chime.restart (c : Chime) : Chime := { c with queue := [], front := .silent, rear := .silent }

end Sys2Proof.Machine
end

