-- ==== Sys2Proof/Machine/Figures.lean ====
section
/-! DEFINITION. Figures that blocks read of one another: channel values, the odometer's shown value (R79), the derived
trip figures (R54, R55), the car's motion (R51), and the most urgent service item (R99). All are reads of the state. -/

namespace Sys2Proof.Machine

/-- The value of a channel that is FRESH and has one. -/
def State.freshValue (s : State) (c : Fin 48) : Option Int :=
  if (s.channels[c]).state = .fresh then (s.channels[c]).value else none

/-- The greatest odometer value (R78, R79). -/
def odometerLimit : Nat := 9999999

/-- The odometer's shown value: stored plus pending, never above 9,999,999, absent while INVALID (R79). -/
def State.shown (s : State) : Option Nat :=
  if s.odometer.valid then some (min odometerLimit (s.odometer.stored + s.odometer.pending)) else none

/-- Average speed in 0.1 km/h, unavailable under 10 s of moving time (R54). -/
def averageSpeed (r : TripRecord) : Option Nat :=
  if r.moving.value < 10 then none else some (roundHalfUp (r.distance.value * 36) r.moving.value)

/-- Average consumption in 0.1 L/100 km, at most 999, unavailable under 1,000 m (R54). -/
def averageConsumption (r : TripRecord) : Option Nat :=
  if r.distance.value < 1000 then none else some (min 999 (roundHalfUp (r.fuel.value * 1000) r.distance.value))

/-- The consumption that range is computed from (R55 step 2). -/
def rangeConsumption (t : TripSetup) (journey : TripRecord) : Nat :=
  if 10000 ≤ journey.distance.value then (averageConsumption journey).getD t.defaultConsumption else t.defaultConsumption

/-- The range in km for a fuel level in 0.1 L (R55 steps 3 to 5). -/
def rangeFor (level : Int) (c : Nat) : Nat :=
  if level ≤ 0 then 0 else if c = 0 then 1999 else min 1999 (roundHalfUp (level.toNat * 100) c)

/-- The range of the car, unavailable while the setup is UNSET or the fuel level is not FRESH or has no value (R55). -/
def State.range (s : State) : Option Nat :=
  match s.trip.setup with
  | none => none
  | some t => (s.freshValue t.level).map (fun level => rangeFor level (rangeConsumption t s.trip.records[2]))

/-- The road speed: the value of the trip setup's speed channel while it is FRESH and has one (R51, R118, R172). -/
def State.roadSpeed (s : State) : Option Int :=
  match s.trip.setup with
  | none => none
  | some t => s.freshValue t.speed

/-- The car is moving when the speed is at least 3.0 km/h (R51). -/
def State.moving (s : State) : Bool :=
  match s.roadSpeed with
  | some v => decide (30 ≤ v)
  | none => false

/-- The more urgent of a candidate and item `i`, taken in increasing item number: a higher stage at or above ADVANCE
takes the place, an equal one does not (R99). -/
def moreUrgent (s : State) (best : Option (Fin 8)) (i : Fin 8) : Option (Fin 8) :=
  let it := s.service.items[i]
  if it.enabled ∧ 1 ≤ it.stage.code then
    match best with
    | none => some i
    | some b => if (s.service.items[b]).stage.code < it.stage.code then some i else some b
  else best

/-- The most urgent item (R99), while which exists the SERVICE page is offered (R148). -/
def State.mostUrgent (s : State) : Option (Fin 8) := (List.finRange 8).foldl (moreUrgent s) none

/-- The display setup in force: the working values while it is unwritten (R145). -/
def State.displaySetup (s : State) : DisplaySetup :=
  s.display.setup.getD
    { button := none, temperature := none, offDelay := 0, idleTime := 10, mcBrightness := 3, rpBrightness := 3 }

/-- A key-on leaves OFF or ACC for RUN or CRANK (R53, R193). -/
def isKeyOn (old new : KeyState) : Bool := (old = .off || old = .acc) && (new = .run || new = .crank)

/-! ### Notices of the Channel Table (R20) -/

/-- The content of a SAMPLE notice: the value and the limited flag, the debounced level and its edge (`some true` is
RISING, `some false` FALLING), or the raw count. -/
inductive Content where
  | analog (value : Int) (limited : Bool)
  | discrete (level : Bool) (edge : Option Bool)
  | rolling (count : Nat)
  deriving DecidableEq, Repr

/-- The two notices (R20). -/
inductive Notice where
  | sample (content : Content) (seeded : Bool)
  | stale
  deriving DecidableEq, Repr

end Sys2Proof.Machine
end

