-- ==== Sys2Proof/Machine/Text.lean ====
section
/-! DEFINITION. The characters of the pages and of the rear panel (R147 to R149). Texts are lists of character
codes. -/

namespace Sys2Proof.Machine

/-- The characters TRIP A. -/
def txtTripA : List Byte := [0x54, 0x52, 0x49, 0x50, 0x20, 0x41]
/-- The characters TRIP B. -/
def txtTripB : List Byte := [0x54, 0x52, 0x49, 0x50, 0x20, 0x42]
/-- The characters L/100KM. -/
def txtPer100 : List Byte := [0x4C, 0x2F, 0x31, 0x30, 0x30, 0x4B, 0x4D]
/-- The characters KM. -/
def txtKm : List Byte := [0x20, 0x4B, 0x4D]
/-- The characters +KM. -/
def txtPlusKm : List Byte := [0x2B, 0x4B, 0x4D]
/-- The characters KMH. -/
def txtKmh : List Byte := [0x20, 0x4B, 0x4D, 0x48]
/-- The characters ODO. -/
def txtOdo : List Byte := [0x4F, 0x44, 0x4F]
/-- The characters --. -/
def txtDashes2 : List Byte := [0x2D, 0x2D]
/-- The characters --.-. -/
def txtDashes21 : List Byte := [0x2D, 0x2D, 0x2E, 0x2D]
/-- The characters ---.-. -/
def txtDashes31 : List Byte := [0x2D, 0x2D, 0x2D, 0x2E, 0x2D]
/-- The characters ----. -/
def txtDashes4 : List Byte := [0x2D, 0x2D, 0x2D, 0x2D]
/-- The characters ------. -/
def txtDashes6 : List Byte := [0x2D, 0x2D, 0x2D, 0x2D, 0x2D, 0x2D]
/-- The characters SERVICE. -/
def txtService : List Byte := [0x53, 0x45, 0x52, 0x56, 0x49, 0x43, 0x45, 0x20]
/-- The characters ADVANCE. -/
def txtAdvance : List Byte := [0x41, 0x44, 0x56, 0x41, 0x4E, 0x43, 0x45]
/-- The characters DUE. -/
def txtDue : List Byte := [0x44, 0x55, 0x45]
/-- The characters OVERDUE. -/
def txtOverdue : List Byte := [0x4F, 0x56, 0x45, 0x52, 0x44, 0x55, 0x45]
/-- The characters NOT AVAILABLE. -/
def txtNotAvailable : List Byte := [0x4E, 0x4F, 0x54, 0x20, 0x41, 0x56, 0x41, 0x49, 0x4C, 0x41, 0x42, 0x4C, 0x45]
/-- The characters OUTSIDE. -/
def txtOutside : List Byte := [0x4F, 0x55, 0x54, 0x53, 0x49, 0x44, 0x45]
/-- The characters C. -/
def txtC : List Byte := [0x20, 0x43]

/-! ### Numbers -/

/-- The character of a decimal digit. -/
def digitChar (d : Nat) : Byte := BitVec.ofNat 8 (0x30 + d)

/-- The decimal digits of `n`, at most `fuel` of them, without leading zeros but for a single 0. -/
def digits : Nat → Nat → List Byte
  | 0, _ => []
  | fuel + 1, n => if n < 10 then [digitChar n] else digits fuel (n / 10) ++ [digitChar (n % 10)]

/-- A number in decimal; every figure shown has fewer than 12 digits. -/
def decimal (n : Nat) : List Byte := digits 12 n

/-- A figure in tenths with its decimal point. -/
def decimalTenths (n : Nat) : List Byte := decimal (n / 10) ++ [0x2E, digitChar (n % 10)]

/-- Right-aligned in a field of `w` characters. -/
def padLeft (w : Nat) (t : List Byte) : List Byte := spaces (w - t.length) ++ t

/-- Hours and minutes of a number of seconds as h:mm (R148). -/
def hoursMinutes (seconds : Nat) : List Byte :=
  let m := seconds % 3600 / 60
  decimal (seconds / 3600) ++ [0x3A, digitChar (m / 10), digitChar (m % 10)]

/-- A distance in metres as ddddd.d and KM, ten characters; with its overflow flag set, + stands for the space. -/
def distanceText (c : Counter) (markOverflow : Bool) : List Byte :=
  padLeft 7 (decimalTenths (c.value / 100)) ++ (if markOverflow && c.overflow then txtPlusKm else txtKm)

/-! ### The pages (R148) -/

/-- Pages 1 and 3. -/
def distancePage (title : List Byte) (r : TripRecord) : List Byte := title ++ spaces 4 ++ distanceText r.distance true

/-- Page 2. -/
def consumptionPage (r : TripRecord) : List Byte :=
  txtTripA ++ spaces 1 ++ txtPer100 ++ spaces 2 ++
    (match averageConsumption r with | some c => padLeft 4 (decimalTenths c) | none => txtDashes21)

/-- Page 4. -/
def journeyPage (r : TripRecord) : List Byte :=
  [0x4A, 0x20] ++ (match averageSpeed r with | some v => padLeft 5 (decimalTenths (min v 9999)) | none => txtDashes31) ++
    txtKmh ++ spaces 4 ++ padLeft 5 (hoursMinutes r.elapsed.value)

/-- Page 5 (R148). The six dashes of an INVALID odometer stand at 15 to 20, right-aligned as a number is: DESIGN CHOICE,
log entry 35. -/
def rangePage (s : State) : List Byte :=
  (match s.range with | some r => padLeft 4 (decimal r) | none => txtDashes4) ++ txtKm ++ spaces 1 ++ txtOdo ++ spaces 2 ++
    padLeft 7 (match s.shown with | some v => decimal (v / 10) | none => txtDashes6)

/-- A stage's word on the SERVICE page. -/
def stageText : Stage → List Byte
  | .notDue => [] | .advance => txtAdvance | .due => txtDue | .overdue => txtOverdue

/-- Page 6: the most urgent item. Blank when there is none, in which case the page is not offered. -/
def servicePage (s : State) : List Byte :=
  match s.mostUrgent with
  | none => spaces 20
  | some i =>
    let it := s.service.items[i]
    match it.message with
    | some m => s.display.messages[m]
    | none => txtService ++ [digitChar i.val] ++ padLeft 11 (stageText it.stage)

/-- The text of the selected page. -/
def pageText (s : State) : List Byte :=
  match s.display.page with
  | 1 => distancePage txtTripA s.trip.records[0]
  | 2 => consumptionPage s.trip.records[0]
  | 3 => distancePage txtTripB s.trip.records[1]
  | 4 => journeyPage s.trip.records[2]
  | 5 => rangePage s
  | _ => servicePage s

/-! ### The rear panel (R149) -/

/-- A signed whole number (R149). DESIGN CHOICE: a minus before a negative one, no sign before another (log entry 39). -/
def signedDecimal (i : Int) : List Byte := if i < 0 then 0x2D :: decimal i.natAbs else decimal i.natAbs

/-- Line 1: OUTSIDE and the temperature clamped to -99..99, or dashes. -/
def outsideText (temperature : Option Int) : List Byte :=
  txtOutside ++ spaces 2 ++
    padLeft 5 (match temperature with | some t => signedDecimal (max (-99) (min 99 t)) | none => txtDashes2) ++ txtC

/-- Line 2 without a rear warning: REAR_JOURNEY (R149). DESIGN CHOICE: a time or a distance shorter than its field stands
right-aligned there without leading zeros, as the figures of the pages do (log entry 43). -/
def rearJourneyText (state : JourneyState) (r : TripRecord) : List Byte :=
  match state with
  | .idle => spaces 16
  | .running | .ended => padLeft 5 (hoursMinutes r.elapsed.value) ++ spaces 1 ++ distanceText r.distance false

/-! ### The images (R146, R147, R149) -/

/-- The images as R147 to R149 build them from the state as it stands. -/
def buildImages (s : State) : Images :=
  let d := s.display
  let text :=
    match d.mcWarning with
    | some (m, _) => d.messages[m]
    | none =>
      if d.blanked then spaces 20
      else if d.naTimer.isSome then txtNotAvailable ++ spaces 7
      else pageText s
  let flash := match d.mcWarning with | some (_, f) => f | none => false
  let temperature := match s.displaySetup.temperature with | some c => s.freshValue c | none => none
  { mcText := text, mcFlash := flash, mcBrightness := s.displaySetup.mcBrightness,
    rp1Text := outsideText temperature, rp1Flash := false, rp1Brightness := s.displaySetup.rpBrightness,
    rp2Text := (match d.rearWarning with
                | some m => (d.messages[m]).take 16
                | none => rearJourneyText s.trip.rear s.trip.records[3]),
    rp2Flash := d.rearWarning.isSome, rp2Brightness := s.displaySetup.rpBrightness,
    clock := if s.key.valid then some (s.key.seconds / 60) else none }

end Sys2Proof.Machine
end

