-- ==== Sys2Proof/Machine/Display.lean ====
section
/-! DEFINITION. The Display Link Controller's images, queue and link (chapter 8, R146 to R151, R155, R156, R158 to
R161). The operations on a `Display` touch no other block; those on a `State` read other blocks and change the
display only. -/

namespace Sys2Proof.Machine

/-! ### Items and packets -/

/-- The seven items in the order in which wants are turned into packets (R150). -/
def allItems : List Item := [.mcText, .mcAttr, .rp1Text, .rp1Attr, .rp2Text, .rp2Attr, .rpClock]

def Item.code : Item → Nat
  | .mcText => 0 | .mcAttr => 1 | .rp1Text => 2 | .rp1Attr => 3 | .rp2Text => 4 | .rp2Attr => 5 | .rpClock => 6

/-- The items of the rear panel (R146). -/
def Item.isRear : Item → Bool
  | .mcText | .mcAttr => false
  | .rp1Text | .rp1Attr | .rp2Text | .rp2Attr | .rpClock => true

def Outstanding.get (o : Outstanding) : Item → Bool
  | .mcText => o.mcText | .mcAttr => o.mcAttr | .rp1Text => o.rp1Text | .rp1Attr => o.rp1Attr
  | .rp2Text => o.rp2Text | .rp2Attr => o.rp2Attr | .rpClock => o.rpClock

def Outstanding.put (o : Outstanding) (i : Item) (b : Bool) : Outstanding :=
  match i with
  | .mcText => { o with mcText := b } | .mcAttr => { o with mcAttr := b } | .rp1Text => { o with rp1Text := b }
  | .rp1Attr => { o with rp1Attr := b } | .rp2Text => { o with rp2Text := b } | .rp2Attr => { o with rp2Attr := b }
  | .rpClock => { o with rpClock := b }

/-- The kind byte of a queued packet (section 10.5.5). -/
def Packet.kind : Packet → Byte
  | .item .mcText | .item .rp1Text | .item .rp2Text => 2
  | .item .mcAttr | .item .rp1Attr | .item .rp2Attr => 3
  | .item .rpClock => 4
  | .poll => 5
  | .answered => 6

/-- The content of an item in an image, as the fields of its packet (section 10.5.5). -/
def Images.content (m : Images) : Item → List Byte
  | .mcText => m.mcText
  | .mcAttr => encBool m.mcFlash ++ enc1 m.mcBrightness
  | .rp1Text => m.rp1Text
  | .rp1Attr => encBool m.rp1Flash ++ enc1 m.rp1Brightness
  | .rp2Text => m.rp2Text
  | .rp2Attr => encBool m.rp2Flash ++ enc1 m.rp2Brightness
  | .rpClock => match m.clock with | some n => enc2 n | none => [0xFF, 0xFF]

/-- The head-row byte of an item's packet, none for a CLOCK packet (section 10.5.5). -/
def Item.headRow : Item → List Byte
  | .mcText | .mcAttr => [0x01]
  | .rp1Text | .rp1Attr => [0x11]
  | .rp2Text | .rp2Attr => [0x12]
  | .rpClock => []

/-- The bytes of a queued packet, filled from the image (R151). -/
def packetBytes (m : Images) (p : Packet) : List Byte :=
  match p with
  | .item i => withCheck (p.kind :: i.headRow ++ m.content i)
  | .poll | .answered => withCheck [p.kind]

def linkStartBytes : List Byte := withCheck [0x01]
def linkShutdownBytes : List Byte := withCheck [0x07]

/-! ### The queue and the wants (R150) -/

/-- A free place of the display queue while the link is ACTIVE. -/
def Display.room (d : Display) : Bool := decide (d.link = .active) && decide (d.queue.length < 6)

/-- An item may be sent unless it is an RP item while the RP is ABSENT. -/
def Display.maySend (d : Display) (i : Item) : Bool := !i.isRear || d.present

/-- A packet is queued. -/
def Display.queued (d : Display) (p : Packet) : Bool := d.queue.contains p

/-- An item that becomes changed: nothing more if its packet is queued, else a packet at the tail if there is room
and it may be sent, which clears its outstanding mark, else that mark. -/
def Display.itemChanged (d : Display) (i : Item) : Display :=
  if d.queued (.item i) then d
  else if d.room && d.maySend i then
    { d with queue := d.queue ++ [.item i], outstanding := d.outstanding.put i false }
  else { d with outstanding := d.outstanding.put i true }

/-- Turns the poll want into a packet if a place is free. -/
def Display.fillPoll (d : Display) : Display :=
  if d.room && d.pollWant && !d.queued .poll then { d with queue := d.queue ++ [.poll], pollWant := false } else d

/-- Turns the answer want into a packet if a place is free and the RP is PRESENT. -/
def Display.fillAnswer (d : Display) : Display :=
  if d.room && d.answerWant && d.present && !d.queued .answered then
    { d with queue := d.queue ++ [.answered], answerWant := false }
  else d

/-- Turns an item's outstanding mark into a packet if a place is free and it may be sent. -/
def Display.fillItem (d : Display) (i : Item) : Display :=
  if d.room && d.outstanding.get i && d.maySend i && !d.queued (.item i) then
    { d with queue := d.queue ++ [.item i], outstanding := d.outstanding.put i false }
  else d

/-- Fills the free places from the wants, in R150's order, while the link is ACTIVE. -/
def Display.fillWants (d : Display) : Display := allItems.foldl Display.fillItem d.fillPoll.fillAnswer

/-- A STATUS POLL is placed or wanted, unless one is queued, being sent or wanted, or the transmitter is LISTENING
(R155). -/
def Display.askPoll (d : Display) : Display :=
  let onWire := match d.tx with
    | .sending (.packet .poll) _ => true
    | .listening => true
    | _ => false
  if d.queued .poll || d.pollWant || onWire then d
  else if d.room then { d with queue := d.queue ++ [.poll] }
  else { d with pollWant := true }

/-- The part's own need to wake the link (R159, R161): HIBERNATING becomes WAKING with its 2 ms settle timer, and in
SHUTTING_DOWN the wake-after mark is set. -/
def Display.wake (d : Display) : Display :=
  match d.link with
  | .hibernating => { d with link := .waking, settleTimer := some 2 }
  | .shuttingDown => { d with wakeAfter := true }
  | .waking | .active => d

/-- CALL ANSWERED is asked for (R158): dropped with CALL not in the held set, nothing more when one is wanted or
queued, else placed or wanted; the want is a wake cause. -/
def Display.askAnswer (d : Display) : Display :=
  if !d.call || d.answerWant || d.queued .answered then d
  else if d.room && d.present then { d with queue := d.queue ++ [.answered] }
  else ({ d with answerWant := true }).wake

/-- A head's wake request (R159 to R161, R155): the RP idle timer restarts in every link state. -/
def Display.headWake (d : Display) (idleMs : Nat) : Display :=
  let d := { d with idleTimer := some idleMs }
  match d.link with
  | .hibernating => { d with link := .waking, settleTimer := some 2, headMark := true }
  | .waking => { d with headMark := true }
  | .active => d.askPoll
  | .shuttingDown => { d with headMark := true, wakeAfter := true }

/-- A presentation cancels the press record (R154): HELD or LONG becomes CANCELLED and its timers stop. -/
def Press.cancel (p : Press) : Press := { p with state := .cancelled, timer2 := none, timer5 := none }

/-! ### Rebuilding the images (R146) -/

/-- Whether the images' content of an item differs. -/
def Images.differ (a b : Images) : Item → Bool
  | .mcText => a.mcText != b.mcText
  | .mcAttr => a.mcFlash != b.mcFlash || a.mcBrightness != b.mcBrightness
  | .rp1Text => a.rp1Text != b.rp1Text
  | .rp1Attr => a.rp1Flash != b.rp1Flash || a.rp1Brightness != b.rp1Brightness
  | .rp2Text => a.rp2Text != b.rp2Text
  | .rp2Attr => a.rp2Flash != b.rp2Flash || a.rp2Brightness != b.rp2Brightness
  | .rpClock => a.clock != b.clock

/-- Takes new images: each item whose content differs is changed (R146, R150). R150 orders the wants only: DESIGN CHOICE,
the items that one rebuild changes are dealt with in the order in which R146 lists them, so that their packets stand in
that order at the tail, and the earlier items take the free places that do not do for all (log entry 40). -/
def Display.takeImages (d : Display) (m : Images) : Display :=
  (allItems.filter (Images.differ d.images m)).foldl Display.itemChanged { d with images := m }

/-- Rebuilds both images from the state as it stands. -/
def rebuild (s : State) : State := { s with display := s.display.takeImages (buildImages s) }

/-! ### Link shutdown (R161) -/

/-- The conditions under which an ACTIVE link becomes SHUTTING_DOWN. -/
def State.mayShutDown (s : State) : Bool :=
  let d := s.display
  decide (d.link = .active) && decide (s.key.state = .off) && d.blanked && d.mcWarning.isNone &&
    d.idleTimer.isNone && d.rearWarning.isNone && !d.answerWant && !d.queued .answered

/-- An ACTIVE link becomes SHUTTING_DOWN as soon as the conditions hold: the poll timer stops and the poll want is
cleared. Where one event also changes items or frees a place of the queue, R161 does not say which comes first: DESIGN
CHOICE, here and in every definition that calls this one, the rebuild and the filling of the queue come first, while the
link is still ACTIVE, so that a changed item's packet is still queued and sent (log entry 10). -/
def checkShutdown (s : State) : State :=
  if s.mayShutDown then
    { s with display := { s.display with link := .shuttingDown, pollTimer := none, pollWant := false } }
  else s

/-! ### Notices from the Warning Controller (R125) -/

/-- The RP idle time in milliseconds (R161). -/
def State.idleMs (s : State) : Nat := 1000 * s.displaySetup.idleTime

/-- The Warning Controller's notice of the MC warning and the rear warning, and of an entry into PRESENTED: the press
record is cancelled by an entry (R154), a warning that is present and differs wakes the link (R159), a change of the
rear warning restarts the RP idle timer (R161), and the images are rebuilt (R146), before the shutdown conditions are
tested (log entry 10). DESIGN CHOICE: the contents are compared as the notice carries them, so that a rear warning that
passes to another warning of the same message number is no change of it (log entry 38). -/
def contentNotice (mc : Option (Fin 64 × Bool)) (rear : Option (Fin 64)) (entered : Bool) (s : State) : State :=
  let d := s.display
  let mcNew := decide (d.mcWarning ≠ mc)
  let rearNew := decide (d.rearWarning ≠ rear)
  if mcNew || rearNew || entered then
    let d1 : Display :=
      { d with mcWarning := mc, rearWarning := rear,
               press := if entered then d.press.map Press.cancel else d.press,
               idleTimer := if rearNew then some s.idleMs else d.idleTimer }
    let d2 := if (mcNew && mc.isSome) || (rearNew && rear.isSome) then d1.wake else d1
    checkShutdown (rebuild { s with display := d2 })
  else s

/-- The MC off timer as KEY_OFF and an unblanking press start it (R147, R152). -/
def State.offMs (s : State) : Nat := 1000 * s.displaySetup.offDelay

/-- A key event at the display (R147, R159): KEY_OFF starts the off timer, or blanks at once with an off delay of 0;
any other key event stops it, unblanks and is a wake cause. The images are rebuilt, before the shutdown conditions are
tested (log entry 10). -/
def displayKey (new : KeyState) (s : State) : State :=
  let d := s.display
  let d1 : Display :=
    match new with
    | .off => if s.displaySetup.offDelay = 0 then { d with blanked := true, offTimer := none }
              else { d with offTimer := some s.offMs }
    | .acc | .run | .crank => ({ d with offTimer := none, blanked := false }).wake
  checkShutdown (rebuild { s with display := d1 })

/-- A stage notice at the display (R148): page 6 gives way to page 1 when it is no longer offered, and the images are
rebuilt. -/
def stageNotice (s : State) : State :=
  let d := s.display
  let d1 := if d.page = 6 ∧ s.mostUrgent = none then { d with page := 1 } else d
  rebuild { s with display := d1 }

/-! ### The transmitter and the link states (R151, R155, R159 to R161) -/

/-- The idle transmitter takes the oldest packet and fills it from the image; in ACTIVE the wants fill the freed
place (R150, R151), before the shutdown conditions are tested (log entry 10). -/
def packetDone (s : State) : State :=
  let d := s.display
  match d.tx, d.queue with
  | .idle, p :: rest =>
    if d.link = .active ∨ d.link = .shuttingDown then
      checkShutdown
        { s with display :=
            ({ d with queue := rest, tx := .sending (.packet p) (packetBytes d.images p) }).fillWants }
    else s
  | _, _ => s

/-- The last byte of a packet is sent: IDLE again, or LISTENING for 10 ms after a STATUS POLL (R151, R155). -/
def packetSent (s : State) : State :=
  let d := s.display
  match d.tx with
  | .sending (.packet .poll) _ => { s with display := { d with tx := .listening, replyWindow := some 10 } }
  | .sending (.packet _) _ => { s with display := { d with tx := .idle } }
  | _ => s

/-- The poll timer expires while ACTIVE: it restarts, and a poll is placed or wanted (R155). -/
def pollExpiry (s : State) : State :=
  let d := s.display
  if d.pollTimer.isSome ∧ d.link = .active then
    { s with display := ({ d with pollTimer := some 100 }).askPoll }
  else s

/-- The settle timer expires in WAKING and the transmitter sends LINK START (R160). -/
def settleExpiry (s : State) : State :=
  let d := s.display
  if d.settleTimer.isSome ∧ d.link = .waking ∧ d.tx = .idle then
    { s with display := { d with settleTimer := none, tx := .sending .linkStart linkStartBytes } }
  else s

/-- LINK START has been sent (R160): ACTIVE, every outstanding mark set, the poll want for a head's wake, the poll
timer, and the wants fill the queue, before the shutdown conditions are tested (log entry 10). -/
def linkStartSent (s : State) : State :=
  let d := s.display
  match d.tx with
  | .sending .linkStart _ =>
    checkShutdown
      { s with display :=
          ({ d with tx := .idle, link := .active, outstanding := .all,
                    pollWant := d.pollWant || d.headMark, headMark := false, pollTimer := some 100 }).fillWants }
  | _ => s

/-- With the queue empty and the transmitter IDLE in SHUTTING_DOWN, LINK SHUTDOWN is sent (R161), once. -/
def linkShutdownSend (s : State) : State :=
  let d := s.display
  if d.link = .shuttingDown ∧ d.queue = [] ∧ d.tx = .idle ∧ d.quietTimer = none then
    { s with display := { d with tx := .sending .linkShutdown linkShutdownBytes } }
  else s

/-- LINK SHUTDOWN has been sent: the 5 ms quiet timer starts (R161). -/
def linkShutdownSent (s : State) : State :=
  let d := s.display
  match d.tx with
  | .sending .linkShutdown _ => { s with display := { d with tx := .idle, quietTimer := some 5 } }
  | _ => s

/-- The quiet timer expires: HIBERNATING, and WAKING at once if the wake-after mark is set (R161). -/
def quietExpiry (s : State) : State :=
  let d := s.display
  if d.quietTimer.isSome ∧ d.link = .shuttingDown then
    let d1 : Display := { d with quietTimer := none, link := .hibernating }
    { s with display :=
        if d.wakeAfter then { d1 with wakeAfter := false, link := .waking, settleTimer := some 2 } else d1 }
  else s

/-- The RP idle timer expires (R161). -/
def rpIdleExpiry (s : State) : State :=
  if s.display.idleTimer.isSome then checkShutdown { s with display := { s.display with idleTimer := none } } else s

/-- The MC off timer expires: the blanked flag is set and the images are rebuilt (R147), before the shutdown conditions
are tested (log entry 10). -/
def mcOffExpiry (s : State) : State :=
  if s.display.offTimer.isSome then
    checkShutdown (rebuild { s with display := { s.display with offTimer := none, blanked := true } })
  else s

/-- The NOT AVAILABLE timer expires and the images are rebuilt (R153). -/
def notAvailableExpiry (s : State) : State :=
  if s.display.naTimer.isSome then rebuild { s with display := { s.display with naTimer := none } } else s

/-! ### The rear panel's presence (R155, R156) -/

/-- Removes a packet from the queue and reports whether it stood there. -/
def Display.unqueue (d : Display) (p : Packet) : Display := { d with queue := d.queue.filter (fun q => q != p) }

/-- The RP becomes ABSENT (R156): its queued packets are removed with their marks set, and a queued CALL ANSWERED
becomes the answer want; places freed are filled from the wants that may be sent. -/
def Display.becomeAbsent (d : Display) : Display :=
  let rear := allItems.filter (fun i => i.isRear && d.queued (.item i))
  let d1 := rear.foldl
    (fun (e : Display) i => { e.unqueue (.item i) with outstanding := e.outstanding.put i true })
    { d with present := false }
  let d2 := if d1.queued .answered then { d1.unqueue .answered with answerWant := true } else d1
  d2.fillWants

/-- A poll counts as missed; the third consecutive miss makes the RP ABSENT (R155). -/
def Display.miss (d : Display) : Display :=
  if d.missed < 3 then
    let d1 := { d with missed := d.missed + 1 }
    if d1.missed = 3 ∧ d1.present then d1.becomeAbsent else d1
  else d

/-- The end of a reply window: the transmitter becomes IDLE (R155). -/
def Display.endWindow (d : Display) : Display := { d with tx := .idle, replyWindow := none }

/-- Marks every RP item outstanding (R156). -/
def Outstanding.rearAll (o : Outstanding) : Outstanding :=
  { o with rp1Text := true, rp1Attr := true, rp2Text := true, rp2Attr := true, rpClock := true }

/-- A good reply: no miss, and a PRESENT RP; one that was ABSENT gets its whole content again (R155, R156). -/
def Display.goodReply (d : Display) : Display :=
  let d1 := { d with missed := 0 }
  if d1.present then d1 else ({ d1 with present := true, outstanding := d1.outstanding.rearAll }).fillWants

/-- The reply window expires (R155). -/
def replyWindowExpiry (s : State) : State :=
  match s.display.tx with
  | .listening => { s with display := s.display.endWindow.miss }
  | _ => s

end Sys2Proof.Machine
end

