-- ==== Sys2Proof/Machine/Warning.lean ====
section
/-! DEFINITION. The Warning Controller (chapter 6): presentation and selection, conditions, gates, acknowledge, the
timers, lamps and system conditions. -/

namespace Sys2Proof.Machine

/-! ### Reading the table -/

/-- A warning's rank: by priority and then by number; a smaller number outranks (section 4.5). -/
def rankOf (w : Fin 32) (e : Warning) : Nat :=
  match e.action with
  | some a => 32 * a.priority + w.val
  | none => 32 * 8 + w.val

/-- Of the warnings that satisfy `p`, the highest ranked. -/
def State.topWarning (s : State) (p : Warning → Bool) : Option (Fin 32) :=
  (List.finRange 32).foldl
    (fun best w =>
      let e := s.warnings.entries[w]
      if p e then
        match best with
        | none => some w
        | some b => if rankOf w e < rankOf b s.warnings.entries[b] then some w else some b
      else best)
    none

/-- The PRESENTED warning, if there is one (R120 keeps at most one). -/
def State.presented (s : State) : Option (Fin 32) := s.topWarning (fun e => e.enabled && e.state = .presented)

/-- A warning stands in PENDING, PRESENTED or ACKNOWLEDGED. -/
def Warning.stands (e : Warning) : Bool := e.enabled && e.state != .idle

/-- The MC warning: the presented warning's message and its flash mark, set for priorities 0 and 1 (R125). -/
def State.mcContent (s : State) : Option (Fin 64 × Bool) :=
  match s.presented with
  | none => none
  | some w =>
    match (s.warnings.entries[w]).action with
    | some a => a.message.map (fun m => (m, decide (a.priority ≤ 1)))
    | none => none

/-- A warning is a candidate for the rear panel: enabled, unmasked, standing, routed REAR or BOTH, with a message
(R125). -/
def Warning.rearCandidate (e : Warning) : Bool :=
  e.stands && !e.masked &&
    (match e.action with
     | some a => a.routing != .front && a.message.isSome
     | none => false)

/-- The rear warning's message (R125). -/
def State.rearContent (s : State) : Option (Fin 64) :=
  match s.topWarning Warning.rearCandidate with
  | none => none
  | some w => match (s.warnings.entries[w]).action with | some a => a.message | none => none

/-- The top warning priority of the broadcast, or NONE (R125). -/
def State.topPriority (s : State) : Option Nat :=
  match s.topWarning (fun e => e.stands && !e.masked) with
  | none => none
  | some w => match (s.warnings.entries[w]).action with | some a => some a.priority | none => none

/-- A lamp is lit exactly when a bulb check is running or an enabled unmasked warning assigned to it stands (R126). -/
def State.lampLit (s : State) (l : Fin 12) : Bool :=
  s.warnings.bulbCheck.isSome ||
    s.warnings.entries.toList.any
      (fun e => e.stands && !e.masked && (match e.action with | some a => a.lamp = some l | none => false))

/-! ### State changes, chimes and the display's notice -/

/-- The Display Link Controller is notified of the MC warning and the rear warning as they stand (R125). -/
def notifyDisplay (entered : Bool) (s : State) : State := contentNotice s.mcContent s.rearContent entered s

/-- Changes a warning's state and reports it with its cause (R127). -/
def changeState (w : Fin 32) (new : WarnState) (cause : WarnCause) (s : State) : State :=
  let e := s.warnings.entries[w]
  report (.warning w e.state new e.masked cause) (s.setWarning w { e with state := new })

/-- Requests a warning's pattern in each zone its routing names, and adds the zones to its chime mark (R124). -/
def requestChimes (w : Fin 32) (s : State) : State :=
  let e := s.warnings.entries[w]
  match e.action with
  | none => s
  | some a =>
    match a.chime with
    | none => s
    | some p =>
      let rank := rankOf w e
      let front := a.routing != .rear
      let rear := a.routing != .front
      let c1 := if front then s.chime.request (.warning w) .front p rank repeatsOf else s.chime
      let c2 := if rear then c1.request (.warning w) .rear p rank repeatsOf else c1
      { s.setWarning w { e with markFront := e.markFront || front, markRear := e.markRear || rear } with chime := c2 }

/-- Sends a release for each zone of a warning's chime mark, and clears the mark (R124). -/
def releaseChimes (w : Fin 32) (s : State) : State :=
  let e := s.warnings.entries[w]
  let c1 := if e.markFront then s.chime.release (.warning w) .front else s.chime
  let c2 := if e.markRear then c1.release (.warning w) .rear else c1
  { s.setWarning w { e with markFront := false, markRear := false } with chime := c2 }

/-- Stops both timers of a warning. -/
def stopTimers (w : Fin 32) (s : State) : State :=
  s.setWarning w { s.warnings.entries[w] with presentTimer := none, remindTimer := none }

/-- The present timer at an entry into PRESENTED, in milliseconds: a MOMENTARY warning with present time 0 uses 4 s,
another with 0 starts none (R121). -/
def presentStart (a : WarnAction) : Timer :=
  if a.present = 0 then (if a.latch = .momentary then some 4000 else none) else some (1000 * a.present)

/-- A warning becomes PRESENTED: its event, its present timer, its chimes, and the display's notice (R120, R121,
R124, R125). -/
def presentWarning (w : Fin 32) (s : State) : State :=
  let s1 := changeState w .presented .present s
  let e := s1.warnings.entries[w]
  let s2 := s1.setWarning w { e with presentTimer := (match e.action with | some a => presentStart a | none => none) }
  notifyDisplay true (requestChimes w s2)

/-- The presented warning is displaced to PENDING; its chime requests are kept (R120). -/
def displaceWarning (w : Fin 32) (s : State) : State := stopTimers w (changeState w .pending .displaced s)

/-- Selection (R120): the highest-ranked enabled, unmasked, PENDING warning is presented if none is, or if it outranks
the one that is, which is displaced first. -/
def select (s : State) : State :=
  match s.topWarning (fun e => e.enabled && !e.masked && e.state = .pending) with
  | none => notifyDisplay false s
  | some q =>
    match s.presented with
    | none => presentWarning q s
    | some p =>
      if rankOf q s.warnings.entries[q] < rankOf p s.warnings.entries[p] then presentWarning q (displaceWarning p s)
      else notifyDisplay false s

/-- A warning ends: IDLE with a cause, its timers stopped and its chimes released; selection follows if it was
PRESENTED. -/
def endWarning (w : Fin 32) (cause : WarnCause) (s : State) : State :=
  let was := (s.warnings.entries[w]).state
  let s1 := releaseChimes w (stopTimers w (changeState w .idle cause s))
  if was = .presented then select s1 else notifyDisplay false s1

/-! ### Conditions (R114 to R119) -/

/-- The effect of a condition that has become TRUE (R119). -/
def becameTrue (w : Fin 32) (s : State) : State :=
  if (s.warnings.entries[w]).state = .idle then select (changeState w .pending .qualify s) else s

/-- The effect of a condition that has become FALSE (R119). -/
def becameFalse (w : Fin 32) (s : State) : State :=
  let e := s.warnings.entries[w]
  let latch := match e.action with | some a => a.latch | none => .selfClearing
  match e.state, latch with
  | .idle, _ => s
  | .pending, .latching => s
  | .pending, _ => endWarning w .clear s
  | .presented, .selfClearing => endWarning w .clear s
  | .presented, _ => s
  | .acknowledged, _ => endWarning w .clear s

/-- Sets a warning's condition; a change acts on its state by R119. -/
def setCondition (w : Fin 32) (b : Bool) (s : State) : State :=
  let e := s.warnings.entries[w]
  if e.holds = b then s
  else
    let s1 := s.setWarning w { e with holds := b }
    if b then becameTrue w s1 else becameFalse w s1

/-- Sets both counters of a warning. -/
def setCounters (w : Fin 32) (qualify clear : Nat) (s : State) : State :=
  s.setWarning w { s.warnings.entries[w] with qualifyCount := qualify, clearCount := clear }

/-- The verdict of a sample on a sampled warning, `none` where the notice is ignored (R114). -/
def verdict (c : WarnCondition) (holds : Bool) : Content → Option Bool
  | .analog v _ => onValue v
  | .discrete level _ =>
    match c.kind with
    | .discreteOn => some level
    | .discreteOff => some (!level)
    | _ => onValue (if level then 1 else 0)
  | .rolling _ => none
where
  onValue (v : Int) : Option Bool :=
    match c.kind with
    | .high => some (if c.threshold ≤ v then true else if v < c.threshold - c.hysteresis then false else holds)
    | .low => some (if v ≤ c.threshold then true else if c.threshold + c.hysteresis < v then false else holds)
    | _ => none

/-- Counts a verdict against the condition (R115). -/
def countVerdict (w : Fin 32) (c : WarnCondition) (v : Bool) (s : State) : State :=
  let e := s.warnings.entries[w]
  if v = e.holds then setCounters w 0 0 s
  else if v then
    if e.qualifyCount + 1 = c.qualify then setCondition w true (setCounters w 0 0 s)
    else setCounters w (e.qualifyCount + 1) 0 s
  else
    if e.clearCount + 1 = c.clear then setCondition w false (setCounters w 0 0 s)
    else setCounters w 0 (e.clearCount + 1) s

/-- What a stale action makes of a condition: HOLD 0, TRUE 1, FALSE 2 (R104, R116). -/
def staleResult (c : WarnCondition) (holds : Bool) : Bool :=
  match c.staleAction.toNat with
  | 1 => true
  | 2 => false
  | _ => holds

/-- The value of a system condition (R107). -/
def Warnings.sys (x : Warnings) : SysCond → Bool
  | .loopBroken => x.loopBroken | .odometerFault => x.odometerFault | .storeFault => x.storeFault
  | .clockInvalid => x.clockInvalid | .rearCall => x.rearCall

def SysCond.code : SysCond → Nat
  | .loopBroken => 0 | .odometerFault => 1 | .storeFault => 2 | .clockInvalid => 3 | .rearCall => 4

def SysCond.ofCode : Nat → Option SysCond
  | 0 => some .loopBroken | 1 => some .odometerFault | 2 => some .storeFault | 3 => some .clockInvalid
  | 4 => some .rearCall | _ => none

/-- A stage is at or above a minimum stage byte: ADVANCE 0, DUE 1, OVERDUE 2 (R104, R117). -/
def stageReaches (stage : Stage) (minStage : Byte) : Bool := decide (minStage.toNat + 1 ≤ stage.code)

/-- Whether the subject channel is STALE or NEVER. -/
def State.channelSilent (s : State) (subject : Nat) : Bool :=
  match fin? 48 subject with
  | some c => (s.channels[c]).state != .fresh
  | none => true

/-- What a warning's condition is when it takes it up (R117). -/
def State.takenUp (s : State) (c : WarnCondition) : Bool :=
  match c.kind with
  | .stale => s.channelSilent c.subject
  | .service =>
    match fin? 8 c.subject with
    | some i => stageReaches (s.service.items[i]).stage c.minStage
    | none => false
  | .system => match SysCond.ofCode c.subject with | some k => s.warnings.sys k | none => false
  | .high | .low | .discreteOn | .discreteOff => s.channelSilent c.subject && staleResult c false

/-! ### Gates (R118) -/

/-- The key gate is met. -/
def State.keyGateMet (s : State) : KeyGate → Bool
  | .any => true
  | .notOff => s.key.state != .off
  | .run => s.key.state = .run
  | .runSettled => s.key.state = .run && s.key.settled

/-- The speed gate is met: 0 always, else by a FRESH road speed at or above it. -/
def State.speedGateMet (s : State) (gate : Nat) : Bool :=
  gate = 0 || (match s.roadSpeed with | some v => decide ((gate : Int) ≤ v) | none => false)

/-- Tests the gate of an enabled warning; a change takes up the condition, or ends the warning by its latch mode. -/
def testGate (w : Fin 32) (s : State) : State :=
  let e := s.warnings.entries[w]
  match e.enabled, e.condition with
  | true, some c =>
    let met := s.keyGateMet c.keyGate && s.speedGateMet c.speedGate
    if met = e.gate then s
    else if met then
      setCondition w (s.takenUp c) (s.setWarning w { e with gate := true, qualifyCount := 0, clearCount := 0 })
    else
      let s1 := s.setWarning w { e with gate := false, qualifyCount := 0, clearCount := 0, holds := false }
      let latching : Bool := match e.action with | some a => decide (a.latch = .latching) | none => false
      match e.state with
      | .idle => s1
      | .pending | .presented => if latching then s1 else endWarning w .gate s1
      | .acknowledged => endWarning w .gate s1
  | _, _ => s

/-- Every warning in increasing number. DESIGN CHOICE of order: log entry 10. -/
def forWarnings (f : Fin 32 → State → State) (s : State) : State := (List.finRange 32).foldl (fun t w => f w t) s

/-- Tests every gate: at a key event, at RUN_SETTLED and at each seconds event (R118). -/
def testGates (s : State) : State := forWarnings testGate s

/-! ### Notices (R114 to R117) -/

/-- The channel a warning's kind watches, if it watches one (R20). -/
def WarnCondition.channel (c : WarnCondition) : Option (Fin 48) :=
  match c.kind with
  | .service | .system => none
  | .high | .low | .discreteOn | .discreteOff | .stale => fin? 48 c.subject

/-- A warning takes a notice of its subject channel: its gate is tested, and with the gate MET it acts (R114 to R118). -/
def warnNotice (n : Notice) (w : Fin 32) (s : State) : State :=
  let s1 := testGate w s
  let e := s1.warnings.entries[w]
  match e.gate, e.condition with
  | true, some c =>
    match n, c.kind.isSampled with
    | .sample content _, true =>
      match verdict c e.holds content with
      | some v => countVerdict w c v s1
      | none => s1
    | .sample _ _, false => setCondition w false s1
    | .stale, true => setCondition w (staleResult c e.holds) (setCounters w 0 0 s1)
    | .stale, false => setCondition w true s1
  | _, _ => s1

/-- Every warning that watches channel `c` takes its notice (R20). -/
def warnChannel (c : Fin 48) (n : Notice) (s : State) : State :=
  forWarnings
    (fun w t =>
      let e := t.warnings.entries[w]
      match e.enabled, e.condition with
      | true, some k => if k.channel = some c then warnNotice n w t else t
      | _, _ => t)
    s

/-- An immediate warning whose subject is `subject` takes its notice: its gate is tested, and with the gate MET its
condition follows (R117, R118). -/
def warnSubject (kind : WarnKind) (subject : Nat) (w : Fin 32) (s : State) : State :=
  let e := s.warnings.entries[w]
  match e.enabled, e.condition with
  | true, some c =>
    if c.kind = kind ∧ c.subject = subject then
      let s1 := testGate w s
      if (s1.warnings.entries[w]).gate then setCondition w (s1.takenUp c) s1 else s1
    else s
  | _, _ => s

/-- A stage notice of item `i` reaches its SERVICE warnings (R99, R117). -/
def warnStage (i : Fin 8) (s : State) : State := forWarnings (warnSubject .service i.val) s

/-- A system condition takes a value; a change reaches every enabled SYSTEM warning whose subject it is (R107). -/
def setSys (k : SysCond) (b : Bool) (s : State) : State :=
  if s.warnings.sys k = b then s
  else
    let x := s.warnings
    let x1 : Warnings :=
      match k with
      | .loopBroken => { x with loopBroken := b }
      | .odometerFault => { x with odometerFault := b }
      | .storeFault => { x with storeFault := b }
      | .clockInvalid => { x with clockInvalid := b }
      | .rearCall => { x with rearCall := b }
    forWarnings (warnSubject .system k.code) { s with warnings := x1 }

/-! ### Timers and acknowledge (R121 to R123) -/

/-- The warning becomes ACKNOWLEDGED with a cause: its remind timer starts if its interval is not 0, its chimes are
released, and selection follows (R121, R122). -/
def toAcknowledged (w : Fin 32) (cause : WarnCause) (s : State) : State :=
  let s1 := stopTimers w (changeState w .acknowledged cause s)
  let e := s1.warnings.entries[w]
  let remind : Timer := match e.action with | some a => if a.remind = 0 then none else some (1000 * a.remind) | none => none
  releaseChimes w (s1.setWarning w { e with remindTimer := remind })

/-- A presented warning's present timer expires (R121). A MOMENTARY warning releases its chimes only where the repeat count
of its pattern is 0. DESIGN CHOICE where its request, queued before the warning was disabled and written anew, still carries
another pattern: the pattern that the action half names now (log entry 42). -/
def presentExpiry (w : Fin 32) (s : State) : State :=
  let e := s.warnings.entries[w]
  match e.presentTimer, e.state, e.action with
  | some _, .presented, some a =>
    if a.latch = .momentary then
      let s1 := stopTimers w (changeState w .idle .timeout s)
      let untilReleased : Bool := match a.chime with | some p => decide ((s.chime.patterns[p]).repeats = 0) | none => false
      let s2 := if untilReleased then releaseChimes w s1
                else s1.setWarning w { s1.warnings.entries[w] with markFront := false, markRear := false }
      select s2
    else if e.holds then select (toAcknowledged w .timeout s)
    else select (releaseChimes w (stopTimers w (changeState w .idle .timeout s)))
  | _, _, _ => s

/-- An acknowledged warning's remind timer expires (R123). -/
def remindExpiry (w : Fin 32) (s : State) : State :=
  let e := s.warnings.entries[w]
  match e.remindTimer, e.state with
  | some _, .acknowledged => select (stopTimers w (changeState w .pending .remind s))
  | _, _ => s

/-- The warning is the SYSTEM warning of a passenger's call (R122). -/
def Warning.isRearCall (e : Warning) : Bool :=
  match e.condition with
  | some c => c.kind = .system && c.subject = 4
  | none => false

/-- A press edge acknowledges the presented warning (R122); for the warning of REAR_CALL it asks for CALL ANSWERED
(R158) and for the answer chime (R137). R122 and R137 do not say whether the answer comes before the selection that
follows, whose chime requests may name REAR too: DESIGN CHOICE, CALL ANSWERED and the answer chime first (log entry
10). -/
def acknowledge (w : Fin 32) (s : State) : State :=
  let e := s.warnings.entries[w]
  let s1 :=
    if e.holds then toAcknowledged w .acknowledge s
    else releaseChimes w (stopTimers w (changeState w .idle .acknowledge s))
  let s2 := if e.isRearCall then { s1 with display := s1.display.askAnswer, chime := s1.chime.answer } else s1
  select s2

/-! ### Enable, disable, mask (R110 to R112) -/

/-- The effect of an accepted ENABLE WARNING on a disabled entry (R110). -/
def enableWarning (w : Fin 32) (s : State) : State :=
  testGate w (s.setWarning w
    { s.warnings.entries[w] with enabled := true, state := .idle, holds := false, gate := false, qualifyCount := 0,
                                 clearCount := 0 })

/-- The effect of an accepted DISABLE WARNING on an enabled entry (R111). -/
def disableWarning (w : Fin 32) (s : State) : State :=
  let e := s.warnings.entries[w]
  let s1 := s.setWarning w { e with masked := false }
  let s2 := if e.state = .idle then s1 else changeState w .idle .disable s1
  let s3 := releaseChimes w s2
  let s4 := s3.setWarning w
    { s3.warnings.entries[w] with enabled := false, holds := false, gate := false, qualifyCount := 0, clearCount := 0,
                                  presentTimer := none, remindTimer := none }
  if e.state = .presented ∨ e.state = .pending then select s4 else notifyDisplay false s4

/-- The effect of MASK WARNING on an entry that is not masked (R112). -/
def maskWarning (w : Fin 32) (s : State) : State :=
  let e := s.warnings.entries[w]
  let s1 := s.setWarning w { e with masked := true }
  match e.state with
  | .presented => select (releaseChimes w (stopTimers w (changeState w .pending .mask s1)))
  | .pending => notifyDisplay false (releaseChimes w s1)
  | .idle | .acknowledged => notifyDisplay false s1

/-- The effect of UNMASK WARNING on a masked entry (R112). -/
def unmaskWarning (w : Fin 32) (s : State) : State :=
  select (s.setWarning w { s.warnings.entries[w] with masked := false })

/-! ### Bulb check, key events, restart (R126, R128) -/

/-- A key event at the Warning Controller: a key-on starts the bulb check, KEY_OFF and KEY_ACC end it, and the gates
are tested (R118, R126). -/
def warningKey (old new : KeyState) (s : State) : State :=
  let bulb : Timer :=
    if isKeyOn old new then some 3000
    else match new with | .off | .acc => none | .run | .crank => s.warnings.bulbCheck
  testGates { s with warnings := { s.warnings with bulbCheck := bulb } }

/-- The bulb check timer expires (R126). -/
def bulbExpiry (s : State) : State := { s with warnings := { s.warnings with bulbCheck := none } }

/-- An entry as RESTART leaves it before the take-up (R128). -/
def Warning.restarted (e : Warning) : Warning :=
  { e with state := .idle, masked := false, holds := false, gate := false, qualifyCount := 0, clearCount := 0,
           presentTimer := none, remindTimer := none, markFront := false, markRear := false }

/-- RESTART clears every entry and the bulb check, without events (R128). -/
def warningsRestart (s : State) : State :=
  { s with warnings := { s.warnings with entries := s.warnings.entries.map Warning.restarted, bulbCheck := none } }

end Sys2Proof.Machine
end

