-- ==== Sys2Proof/Machine/Service.lean ====
section
/-! DEFINITION. The Service Reminder (chapter 5): remaining figures, stages, evaluation, service resets and saves. -/

namespace Sys2Proof.Machine

/-! ### Remaining figures and stage (R96 to R98) -/

/-- The remaining distance in km, when it takes part (R96). -/
def remainingKm (it : ServiceItem) (shown : Option Nat) : Option Int :=
  match it.record, shown with
  | some (odo, _), some c =>
    if it.intervalKm = 0 then none
    else some (((odo : Int) + (it.intervalKm : Int) * 10 - (c : Int)).fdiv 10)
  | _, _ => none

/-- The remaining days, when it takes part (R97). -/
def remainingDays (it : ServiceItem) (valid : Bool) (today : Nat) : Option Int :=
  match it.record with
  | some (_, day) =>
    if it.intervalDays = 0 ∨ valid = false then none
    else some ((day : Int) + (it.intervalDays : Int) - (today : Int))
  | none => none

/-- A remaining figure that takes part is at or below a bound. -/
def atOrBelow (r : Option Int) (bound : Int) : Bool :=
  match r with
  | some v => decide (v ≤ bound)
  | none => false

/-- The stage of an enabled item from its figures (R98). -/
def stageOf (it : ServiceItem) (km days : Option Int) : Stage :=
  if it.record = none then .due
  else if atOrBelow km (-(it.overdueKm : Int)) || atOrBelow days (-(it.overdueDays : Int)) then .overdue
  else if atOrBelow km 0 || atOrBelow days 0 then .due
  else if atOrBelow km it.advanceKm || atOrBelow days it.advanceDays then .advance
  else .notDue

/-! ### Evaluation (R99) -/

/-- A stage change is notified to the Warning Controller and to the display and reported as a STAGE event (R99). -/
def noteStage (i : Fin 8) (old new : Stage) (s : State) : State :=
  if old = new then s else stageNotice (warnStage i (report (.stage i old new) s))

/-- Evaluates one enabled item (R99). -/
def evaluateItem (i : Fin 8) (s : State) : State :=
  let it := s.service.items[i]
  if it.enabled then
    let km := remainingKm it s.shown
    let days := remainingDays it s.key.valid s.key.day
    let new := stageOf it km days
    noteStage i it.stage new (s.setItem i { it with stage := new, remainingKm := km, remainingDays := days })
  else s

/-- Evaluates every enabled item (R99). DESIGN CHOICE of order: in increasing number, and all the notices of one item
before the next is evaluated, so that the MC can leave page 6 for page 1 although a later item of the same event is still
to become ADVANCE or more (log entry 10). -/
def evaluateAll (s : State) : State := (List.finRange 8).foldl (fun t i => evaluateItem i t) s

/-- The Odometer's notice of a new shown value: the items are evaluated when its whole kilometres differ from those of
the last notice; an absent value differs from every present one (R99). -/
def shownNotice (s : State) : State :=
  let km := s.shown.map (· / 10)
  if km = s.service.lastKm then s
  else evaluateAll { s with service := { s.service with lastKm := km } }

/-! ### Saving the records (R101) -/

/-- The image of the service data: the eight records, three words each. -/
def State.serviceImage (s : State) : List Word := s.service.items.toList.flatMap (fun it => recordWords it.record)

/-- The service reset's save request (R101). -/
def askServiceSave (s : State) : State :=
  if s.service.saving then { s with service := { s.service with saveAgain := true } }
  else requestSave .service s.serviceImage { s with service := { s.service with saving := true } }

/-- STORE_FAULT is TRUE while either save-fault mark is set (R61, R101). -/
def refreshStoreFault (s : State) : State := setSys .storeFault (s.trip.saveFault || s.service.saveFault) s

/-- The end of a save of the service pair (R101). A failed save's SAVE_FAILED is reported by then, before STORE_FAULT
reaches the warnings: DESIGN CHOICE, log entry 10. -/
def serviceSaveEnd (ok : Bool) (s : State) : State :=
  let s1 := refreshStoreFault { s with service := { s.service with saveFault := !ok } }
  if s1.service.saveAgain then
    requestSave .service s1.serviceImage { s1 with service := { s1.service with saveAgain := false } }
  else { s1 with service := { s1.service with saving := false } }

/-! ### Service reset (R100) -/

/-- The trip setup's speed channel is FRESH with a value of exactly 0. -/
def State.standing (s : State) : Bool :=
  match s.roadSpeed with
  | some v => decide (v = 0)
  | none => false

/-- The conditions of a service reset of item `i` (R100). -/
def State.mayReset (s : State) (i : Fin 8) : Bool :=
  decide (s.key.state = .run) && s.standing && s.odometer.valid &&
    (decide ((s.service.items[i]).intervalDays = 0) || s.key.valid)

/-- The day a service reset records: today's, or with the clock invalid the former day, or 0 (R100). -/
def State.resetDay (s : State) (i : Fin 8) : Nat :=
  if s.key.valid then s.key.day
  else match (s.service.items[i]).record with | some (_, d) => d | none => 0

/-- A service reset that is taken (R100): the record, the evaluation of every enabled item, the RESET event and the
save request. -/
def takeServiceReset (i : Fin 8) (src : ResetSource) (s : State) : State :=
  let odo := s.shown.getD 0
  let day := s.resetDay i
  let s1 := evaluateAll (s.setItem i { s.service.items[i] with record := some (odo, day) })
  askServiceSave (report (.serviceReset i src odo day) s1)

/-- The recovered last-service records (R88). -/
def recoverRecords (s : State) : State :=
  match s.servicePair.active with
  | some k =>
    { s with service := { s.service with
        items := s.service.items.mapFinIdx (fun i it _ => { it with record := recordAt s.store.mem k i }) } }
  | none => { s with service := { s.service with items := s.service.items.map (fun it => { it with record := none }) } }

end Sys2Proof.Machine
end

