-- ==== Sys2Proof/Machine/Odometer.lean ====
section
/-! DEFINITION. The Odometer (R78 to R82, R87, R89): layout, metres, increments, rotation, the fault, SET ODOMETER and
the recovery. -/

namespace Sys2Proof.Machine

/-! ### Layout (R78) -/

/-- The other sector of the odometer pair. -/
def otherOdometer (k : Fin 8) : Fin 8 := if k = 0 then 1 else 0

/-- Word 3: the complement of word 1 + word 2. -/
def odometerCheck (w1 w2 : Word) : Word := ~~~(w1 + w2)

/-- Words 1 to 3 for a base. -/
def baseWord (base : Nat) : Nat → Word
  | 1 => BitVec.ofNat 16 (base / 65536)
  | 2 => BitVec.ofNat 16 base
  | _ => odometerCheck (BitVec.ofNat 16 (base / 65536)) (BitVec.ofNat 16 base)

/-- The base that a sector holds. -/
def baseAt (m : List (Nat × Word)) (k : Fin 8) : Nat := (sectorWord m k 1).toNat * 65536 + (sectorWord m k 2).toNat

/-- The number of 0 bits of a sector's increment field. -/
def clearedAt (m : List (Nat × Word)) (k : Fin 8) : Nat :=
  (List.range 28).foldl (fun n i => n + (16 - ones (sectorWord m k (i + 4)))) 0

/-- The value that a sector holds, saturated. -/
def valueAt (m : List (Nat × Word)) (k : Fin 8) : Nat := min odometerLimit (baseAt m k + clearedAt m k)

/-- The check of an odometer sector is good and its base in range. -/
def odometerGood (m : List (Nat × Word)) (k : Fin 8) : Bool :=
  sectorWord m k 3 == odometerCheck (sectorWord m k 1) (sectorWord m k 2) && decide (baseAt m k ≤ odometerLimit)

/-- Clears the first `n` 1 bits of a word from bit `i - 1` down. -/
def clearFrom (w : Word) : Nat → Nat → Word
  | 0, _ => w
  | _, 0 => w
  | i + 1, n + 1 =>
    if w.getLsbD i then clearFrom (w &&& ~~~(BitVec.ofNat 16 (2 ^ i))) i n else clearFrom w i (n + 1)

/-- The word of the increment field that holds the first remaining 1, if one remains. -/
def firstOpen (m : List (Nat × Word)) (k : Fin 8) : Option Nat :=
  ((List.range 28).map (· + 4)).find? (fun w => sectorWord m k w ≠ 0)

/-! ### The fault (R82) -/

/-- Sets or clears ODOMETER_FAULT; a change is reported and reaches the Warning Controller (R82). DESIGN CHOICE of order:
the STORE event, then the warnings (log entry 10). -/
def setOdoFault (b : Bool) (s : State) : State :=
  if s.odometer.fault = b then s
  else setSys .odometerFault b (report (.odometerFault b) { s with odometer := { s.odometer with fault := b } })

/-- The spare of a VALID odometer. -/
def State.spare (s : State) : Fin 8 := otherOdometer s.odometer.active

/-- The active sector can take no increment: its field is used up or it is WORN. -/
def State.fieldDone (s : State) : Bool := decide (448 ≤ s.odometer.cleared) || (s.sector s.odometer.active).worn

/-- A rotation can begin into the spare: ERASED_KNOWN and neither BAD nor WORN (R81, R82). -/
def State.spareReady (s : State) : Bool := (s.sector s.spare).erasedKnown && s.usable s.spare

/-- Increments wait and no rotation can take them: ODOMETER_FAULT is set (R82). -/
def checkOdoFault (s : State) : State :=
  if s.odometer.valid ∧ 0 < s.odometer.pending ∧ s.fieldDone ∧ s.odometer.rotation = none ∧ ¬ s.spareReady then
    setOdoFault true s
  else s

/-! ### Metres and increments (R79, R80) -/

/-- Adds metres to the residue and turns each whole 100 into an increment; those past the limits are discarded. -/
def Odometer.addMetres (o : Odometer) (metres : Nat) : Odometer :=
  let total := o.residue + metres
  let room := min (odometerLimit - (o.stored + o.pending)) (65535 - o.pending)
  { o with residue := total % 100, pending := o.pending + min (total / 100) room }

/-- A quantity of metres from the Trip Computer (R79): not counted while INVALID or at the limit. DESIGN CHOICE of order:
the new shown value is notified before the fault of R82 is tested (log entry 10). -/
def addMetres (metres : Nat) (s : State) : State :=
  match s.shown with
  | none => s
  | some v =>
    if v < odometerLimit then
      checkOdoFault (shownNotice { s with odometer := s.odometer.addMetres metres })
    else s

/-- The increment program that applies: the address and value clearing the next bits (R80 item 4). -/
def State.incrementStep (s : State) : Option StoreStep :=
  let o := s.odometer
  if o.valid ∧ 0 < o.pending ∧ ¬ s.fieldDone then
    (firstOpen s.store.mem o.active).map
      (fun w => .program (storeAddr o.active w) (clearFrom (sectorWord s.store.mem o.active w) 16 o.pending))
  else none

/-! ### The next ODOMETER step (R80, R81, R89) -/

/-- A sector of the odometer pair that a SET ODOMETER still has to make OBSOLETE (R89 step 1), the lower-numbered first:
DESIGN CHOICE, log entry 33. -/
def State.toObsolete (s : State) : Option (Fin 8) :=
  ([0, 1] : List (Fin 8)).find? (fun k => !(s.sector k).bad && sectorWord s.store.mem k 0 == statusActive)

/-- The sectors that a SET ODOMETER erases: 0 and 1, leaving out any BAD one. -/
def State.setErase (s : State) : BitVec 8 :=
  (if (s.sector 0).bad then 0 else oneSector 0) ||| (if (s.sector 1).bad then 0 else oneSector 1)

/-- The next step of a SET ODOMETER in progress, and its phase (R89). -/
def State.settingStep (s : State) (g : Setting) : StoreStep × SetPhase :=
  match g.phase with
  | .obsolete =>
    match s.toObsolete with
    | some k => (.program (storeAddr k 0) statusObsolete, .obsolete)
    | none => (.erase s.setErase, .erase)
  | .erase => (.erase s.setErase, .erase)
  | .word t k => (.program (storeAddr t k) (baseWord g.value k), .word t k)
  | .status t => (.program (storeAddr t 0) statusActive, .status t)

/-- The step of a rotation (R81). -/
def State.rotationStep (s : State) (r : Rotation) : StoreStep :=
  match r.step with
  | 1 => .program (storeAddr s.spare 1) (baseWord r.base 1)
  | 2 => .program (storeAddr s.spare 2) (baseWord r.base 2)
  | 3 => .program (storeAddr s.spare 3) (baseWord r.base 3)
  | 4 => .program (storeAddr s.spare 0) statusActive
  | _ => .program (storeAddr s.odometer.active 0) statusObsolete

/-- The rotation in progress, or the one that begins now (R81). -/
def State.rotationNow (s : State) : Option Rotation :=
  match s.odometer.rotation with
  | some r => some r
  | none =>
    if s.odometer.valid ∧ 0 < s.odometer.pending ∧ s.fieldDone ∧ s.spareReady then
      some { base := s.odometer.stored, step := 1 }
    else none

/-- The spare needs an erase (R80). -/
def State.spareEraseNeeded (s : State) : Bool :=
  s.odometer.valid && (decide (224 ≤ s.odometer.cleared) || (s.sector s.odometer.active).worn) &&
    !(s.sector s.spare).erasedKnown && s.usable s.spare && !s.odometer.eraseOut

/-- Places an ODOMETER step, with what it is for. -/
def placeOdometer (step : StoreStep) (o : Odometer) (s : State) : State :=
  { s with odometer := o, store := s.store.place .odometer step }

/-- Places the first ODOMETER step that applies, in R80's order; `none` when none does or one is outstanding. While
the spare erase is in progress an increment program may be placed; during the scan nothing is. -/
def odometerPump (s : State) : Option State :=
  let o := s.odometer
  if s.store.ctl = .scanning ∨ s.store.slotOdometer.isSome ∨ o.work.isSome then none
  else if o.eraseOut then
    if o.setting.isSome then none
    else s.incrementStep.map (fun st => placeOdometer st { o with work := some .increment } s)
  else
    match o.recovery with
    | k :: _ => some (placeOdometer (.program (storeAddr k 0) statusObsolete) { o with work := some .recovery } s)
    | [] =>
      match o.setting with
      | some g =>
        let (step, phase) := s.settingStep g
        let o1 := { o with setting := some { g with phase := phase } }
        some (match step with
          | .program _ _ => placeOdometer step { o1 with work := some .setting } s
          | .erase _ => placeOdometer step { o1 with eraseOut := true } s)
      | none =>
        match s.rotationNow with
        | some r => some (placeOdometer (s.rotationStep r) { o with rotation := some r, work := some .rotation } s)
        | none =>
          if s.spareEraseNeeded then some (placeOdometer (.erase (oneSector s.spare)) { o with eraseOut := true } s)
          else s.incrementStep.map (fun st => placeOdometer st { o with work := some .increment } s)

/-! ### Ends of ODOMETER steps -/

/-- Answers a SET ODOMETER, unless RESTART has forgotten its requester (R182). -/
def answerSetting (st : Status) (s : State) : State :=
  let s1 := { s with handler := { s.handler with setRequester := none }, odometer := { s.odometer with setting := none } }
  match s.handler.setRequester with
  | none => s1
  | some r =>
    let (f, s2) := buildResponse r st [] s1
    holdResponse f s2

/-- SET ODOMETER makes the odometer VALID with sector `t` active (R89). DESIGN CHOICE of order: the fault is cleared, then
the shown value is notified, then the answer is given (log entry 10). -/
def finishSetting (t : Fin 8) (value : Nat) (s : State) : State :=
  let s1 := { s with odometer :=
    { s.odometer with valid := true, active := t, stored := value, cleared := 0, residue := 0, pending := 0 } }
  answerSetting .ok (shownNotice (setOdoFault false s1))

/-- The end of an increment program (R80): the bits it has cleared are taken off pending and counted; one that ends OK
clears the fault (R82). -/
def incrementEnd (r : ProgramReport) (s : State) : State :=
  let o := s.odometer
  let s1 := { s with odometer :=
    { o with pending := o.pending - r.cleared, cleared := o.cleared + r.cleared,
             stored := min odometerLimit (o.stored + r.cleared) } }
  if r.exceeded then s1 else setOdoFault false s1

/-- The end of a step of a rotation (R81). -/
def rotationEnd (rot : Rotation) (exceeded : Bool) (s : State) : State :=
  let o := s.odometer
  if rot.step ≤ 3 ∧ exceeded then setOdoFault true { s with odometer := { o with rotation := none } }
  else if rot.step < 5 then { s with odometer := { o with rotation := some { rot with step := rot.step + 1 } } }
  else { s with odometer := { o with rotation := none, active := s.spare, cleared := 0 } }

/-- The end of a program of a SET ODOMETER (R89). -/
def settingEnd (g : Setting) (exceeded : Bool) (s : State) : State :=
  match g.phase with
  | .obsolete | .erase => s
  | .word t k =>
    if exceeded then answerSetting .failed s
    else { s with odometer :=
      { s.odometer with setting := some { g with phase := if k < 3 then .word t (k + 1) else .status t } } }
  | .status t => finishSetting t g.value s

/-- An ODOMETER program has ended. -/
def odometerProgramEnd (r : ProgramReport) (s : State) : State :=
  let o := s.odometer
  let s1 := { s with odometer := { o with work := none } }
  match o.work with
  | none => s1
  | some .recovery => checkOdoFault { s1 with odometer := { s1.odometer with recovery := o.recovery.drop 1 } }
  | some .increment => checkOdoFault (incrementEnd r s1)
  | some .rotation =>
    match o.rotation with
    | some rot => checkOdoFault (rotationEnd rot r.exceeded s1)
    | none => s1
  | some .setting =>
    match o.setting with
    | some g => checkOdoFault (settingEnd g r.exceeded s1)
    | none => s1

/-- The target of a SET ODOMETER: the lower-numbered sector whose outcome was ERASED and which is not WORN. -/
def State.settingTarget (s : State) (os : List (Fin 8 × EraseOutcome)) : Option (Fin 8) :=
  ([0, 1] : List (Fin 8)).find? (fun k => outcomeOf os k = some .erased && !(s.sector k).worn)

/-- An ODOMETER erase has ended with its outcomes (R80, R89). -/
def odometerEraseEnd (os : List (Fin 8 × EraseOutcome)) (s : State) : State :=
  let o := { s.odometer with eraseOut := false }
  let s1 := { s with odometer := o }
  match o.setting with
  | none => checkOdoFault s1
  | some g =>
    match s1.settingTarget os with
    | some t => { s1 with odometer := { o with setting := some { g with phase := .word t 1 } } }
    | none => answerSetting .failed s1

/-! ### Recovery (R87) -/

/-- The sectors of the odometer pair whose code is ACTIVE_OK. -/
def odometerActives (m : List (Nat × Word)) : List (Fin 8) :=
  ([0, 1] : List (Fin 8)).filter (fun k => sectorWord m k 0 == statusActive && odometerGood m k)

/-- Of the ACTIVE_OK sectors the one with the greater value, then the greater base, then sector 0. -/
def odometerChoice (m : List (Nat × Word)) : Option (Fin 8) :=
  match odometerActives m with
  | [] => none
  | [k] => some k
  | a :: b :: _ =>
    if valueAt m a < valueAt m b then some b
    else if valueAt m a = valueAt m b ∧ baseAt m a < baseAt m b then some b
    else some a

/-- The sectors of the pair whose word 0 reads 00FFh and which were not chosen (R87), the lower-numbered first: DESIGN
CHOICE, log entry 33. -/
def odometerLosers (m : List (Nat × Word)) (choice : Option (Fin 8)) : List (Fin 8) :=
  ([0, 1] : List (Fin 8)).filter (fun k => sectorWord m k 0 == statusActive && choice != some k)

/-- The Odometer recovers at the end of the scan (R87). A SET ODOMETER taken during the scan keeps it INVALID:
DESIGN CHOICE, log entry 21. That the shown value is notified before the fault is set is log entry 10's. -/
def recoverOdometer (s : State) : State :=
  let m := s.store.mem
  let choice := if s.odometer.setting.isSome then none else odometerChoice m
  let o := { s.odometer with recovery := odometerLosers m choice, rotation := none, residue := 0, pending := 0 }
  match choice with
  | some k =>
    shownNotice { s with odometer :=
      { o with valid := true, active := k, stored := valueAt m k, cleared := clearedAt m k } }
  | none => setOdoFault true (shownNotice { s with odometer := { o with valid := false } })

end Sys2Proof.Machine
end

