-- ==== Sys2Proof/Machine/Trip.lean ====
section
/-! DEFINITION. The Trip Computer (chapter 3): rolling counters and residues, the four records, the rear journey, the
journey gap, resets, and the key-off capture and save. -/

namespace Sys2Proof.Machine

/-! ### Records (R49, R50, R59) -/

def TripRecord.get (r : TripRecord) : TripField → Counter
  | .distance => r.distance | .fuel => r.fuel | .elapsed => r.elapsed | .moving => r.moving

def TripRecord.put (r : TripRecord) (f : TripField) (c : Counter) : TripRecord :=
  match f with
  | .distance => { r with distance := c }
  | .fuel => { r with fuel := c }
  | .elapsed => { r with elapsed := c }
  | .moving => { r with moving := c }

def State.setRecord (s : State) (r : Fin 4) (x : TripRecord) : State :=
  { s with trip := { s.trip with records := s.trip.records.set r x } }

/-- Adds to a field by the saturation rule; setting its flag reports OVERFLOW (R49). -/
def addField (r : Fin 4) (f : TripField) (n : Nat) (s : State) : State :=
  let x := s.trip.records[r]
  let (c, set) := (x.get f).add f.limit n
  let s1 := s.setRecord r (x.put f c)
  if set then report (.overflow r f) s1 else s1

/-- The key is RUN or CRANK. -/
def State.driving (s : State) : Bool := s.key.state = .run || s.key.state = .crank

/-- TRIP_A and TRIP_B hold 0 until the recovery of the trip pair (R88): they gain nothing during the scan. DEDUCED: log
entry 29. -/
def State.awaitsRecovery (s : State) (r : Fin 4) : Bool := decide (r.val < 2) && s.store.ctl = .scanning

/-- A record accumulates distance and fuel (R50). -/
def State.accumulates (s : State) (r : Fin 4) : Bool :=
  !s.awaitsRecovery r &&
    (if r = 3 then s.trip.rear = .running && s.key.state = .run else s.driving)

/-- Adds a quantity to a field of each record that accumulates. One delta may saturate several records, and no rule says
which OVERFLOW event comes first: DESIGN CHOICE, in increasing record number (log entry 10). -/
def addToRecords (f : TripField) (n : Nat) (s : State) : State :=
  (List.finRange 4).foldl (fun t r => if s.accumulates r then addField r f n t else t) s

/-- A record at 0 with its snapshot released (R59). -/
def zeroRecord (r : Fin 4) (s : State) : State :=
  { s with trip := { s.trip with records := s.trip.records.set r .zero, snapshots := s.trip.snapshots.set r none } }

/-- A trip reset, with its cause (R59, R53). -/
def resetTrip (r : Fin 4) (cause : TripCause) (s : State) : State := report (.tripReset r cause) (zeroRecord r s)

/-! ### Rolling counters (R43 to R48) -/

/-- Pulses turned into whole units with a residue: the units, and the residue left (R46, R47). -/
def divideResidue (residue delta per : Nat) : Nat × Nat :=
  ((residue + delta * 1000) / per, (residue + delta * 1000) % per)

/-- An applied distance delta: whole metres to the records and to the Odometer (R46, R48). -/
def applyDistance (k : Nat) (delta : Nat) (s : State) : State :=
  let (metres, rest) := divideResidue s.trip.residueE delta k
  let s1 := { s with trip := { s.trip with residueE := rest } }
  if metres = 0 then s1 else addMetres metres (addToRecords .distance metres s1)

/-- An applied fuel delta: whole millilitres to the records (R47, R48). -/
def applyFuel (u : Nat) (delta : Nat) (s : State) : State :=
  let (ml, rest) := divideResidue s.trip.residueF delta u
  let s1 := { s with trip := { s.trip with residueF := rest } }
  if ml = 0 then s1 else addToRecords .fuel ml s1

/-- The rolling base of a channel. -/
def Trip.base (t : Trip) (fuel : Bool) : Option Nat := if fuel then t.fuelBase else t.distanceBase

def Trip.setBase (t : Trip) (fuel : Bool) (b : Option Nat) : Trip :=
  if fuel then { t with fuelBase := b } else { t with distanceBase := b }

/-- (count − base) mod 65,536 (R43). -/
def rollingDelta (count base : Nat) : Nat := (count + 65536 - base) % 65536

/-- A raw count of the distance or fuel channel (R43 to R45). -/
def rollingCount (t : TripSetup) (fuel : Bool) (count : Nat) (seeded : Bool) (s : State) : State :=
  let s1 := { s with trip := s.trip.setBase fuel (some count) }
  match s.trip.base fuel, seeded with
  | some b, false =>
    let delta := rollingDelta count b
    if t.maxDelta < delta then report (.discontinuity fuel delta) s1
    else if s.driving then (if fuel then applyFuel t.unitsPerLitre delta s1 else applyDistance t.pulsesPerKm delta s1)
    else s1
  | _, _ => s1

/-- A notice of the distance or fuel channel (R43). -/
def rollingNotice (t : TripSetup) (fuel : Bool) (n : Notice) (s : State) : State :=
  match n with
  | .sample (.rolling count) seeded => rollingCount t fuel count seeded s
  | .sample (.analog _ _) _ => s
  | .sample (.discrete _ _) _ => s
  | .stale => { s with trip := s.trip.setBase fuel none }

/-- The Trip Computer takes the notices of channel `c`, each reference its own (R41, R43). -/
def tripNotice (c : Fin 48) (n : Notice) (s : State) : State :=
  match s.trip.setup with
  | none => s
  | some t =>
    let s1 := if t.distance = c then rollingNotice t false n s else s
    if t.fuel = c then rollingNotice t true n s1 else s1

/-! ### Seconds (R51) -/

/-- A record gains elapsed time at a seconds event (R51). -/
def State.gainsElapsed (s : State) (r : Fin 4) : Bool :=
  !s.awaitsRecovery r && (if r = 3 then s.trip.rear = .running else s.driving)

/-- A record gains moving time at a seconds event (R51). -/
def State.gainsMoving (s : State) (r : Fin 4) : Bool :=
  s.moving && !s.awaitsRecovery r &&
    (if r = 3 then s.trip.rear = .running && s.key.state = .run else s.driving)

/-- A seconds event at the Trip Computer, while SET (R51). It may saturate several fields, and no rule says which OVERFLOW
event comes first: DESIGN CHOICE, records in increasing number, elapsed before moving (log entry 10). -/
def tripSeconds (s : State) : State :=
  match s.trip.setup with
  | none => s
  | some _ =>
    (List.finRange 4).foldl
      (fun t r =>
        let t1 := if s.gainsElapsed r then addField r .elapsed 1 t else t
        if s.gainsMoving r then addField r .moving 1 t1 else t1)
      s

/-! ### The rear journey and the journey gap (R52, R53) -/

/-- JOURNEY enters the request set (R52). -/
def journeyEnter (s : State) : State :=
  let s1 := zeroRecord 3 s
  report .journeyStart { s1 with trip := { s1.trip with rear := .running } }

/-- JOURNEY leaves the request set (R52). -/
def journeyLeave (s : State) : State :=
  if s.trip.rear = .running then
    let r := s.trip.records[3]
    report (.journeyEnd r.distance.value r.elapsed.value) { s with trip := { s.trip with rear := .ended } }
  else s

/-- The standing time in seconds; a negative one counts as 0 (R53). -/
def standingTime (now off : Stamp) : Nat :=
  (((now.day : Int) - off.day) * 86400 + ((now.seconds : Int) - off.seconds)).toNat

/-- The journey gap in minutes; while UNSET the field has no value and the test uses a free one (log entry 28). -/
def State.journeyGap (s : State) : Nat :=
  match s.trip.setup with
  | some t => t.journeyGap
  | none => Config.unsetJourneyGap

/-- A key-on zeroes JOURNEY after a standing time of at least the journey gap (R53). -/
def journeyTest (s : State) : State :=
  match s.key.valid, s.key.keyOff with
  | true, some off =>
    if s.journeyGap * 60 ≤ standingTime { day := s.key.day, seconds := s.key.seconds } off then resetTrip 2 .gap s
    else s
  | _, _ => s

/-! ### Key-off capture and save (R60, R61) -/

/-- TRIP_A and TRIP_B as they stand. -/
def State.captureNow (s : State) : Capture := { tripA := s.trip.records[0], tripB := s.trip.records[1] }

/-- A KEY_OFF at the Trip Computer (R60): nothing before the recovery; while SAVING the capture waits as the pending
capture, which is compared when the save ends (R61); while IDLE a capture that differs from the saved copy is saved.
While SAVING with a capture equal to the saved copy R60's first and third item both apply: DESIGN CHOICE, the capture
becomes the pending one (log entry 36). -/
def tripCapture (s : State) : State :=
  let c := s.captureNow
  if s.store.ctl = .scanning then s
  else if s.trip.saving then { s with trip := { s.trip with pendingCapture := some c } }
  else if s.trip.savedCopy = some c then s
  else requestSave .trip c.words { s with trip := { s.trip with saving := true } }

/-- The end of a save of the trip pair (R61). On success the saved copy is what the new active sector holds. A failed
save's SAVE_FAILED is reported by then, before STORE_FAULT reaches the warnings: DESIGN CHOICE, log entry 10. -/
def tripSaveEnd (ok : Bool) (s : State) : State :=
  let copy :=
    if ok then (match s.tripPair.active with | some k => some (captureAt s.store.mem k) | none => s.trip.savedCopy)
    else s.trip.savedCopy
  let s1 := refreshStoreFault { s with trip := { s.trip with savedCopy := copy, saveFault := !ok } }
  match s1.trip.pendingCapture with
  | none => { s1 with trip := { s1.trip with saving := false } }
  | some c =>
    let s2 := { s1 with trip := { s1.trip with pendingCapture := none } }
    if s2.trip.savedCopy = some c then { s2 with trip := { s2.trip with saving := false } }
    else requestSave .trip c.words s2

/-- A key event at the Trip Computer: the gap test at a key-on, the capture at KEY_OFF. -/
def tripKey (old new : KeyState) (s : State) : State :=
  if isKeyOn old new then journeyTest s
  else if new = .off then tripCapture s
  else s

/-- TRIP_A, TRIP_B and the saved copy as the recovery yields them (R88). -/
def recoverTrips (s : State) : State :=
  match s.tripPair.active with
  | some k =>
    let c := captureAt s.store.mem k
    { s with trip := { s.trip with records := (s.trip.records.set 0 c.tripA).set 1 c.tripB, savedCopy := some c } }
  | none =>
    { s with trip := { s.trip with records := (s.trip.records.set 0 .zero).set 1 .zero, savedCopy := none } }

/-- The restart effect (R63). -/
def tripRestart (s : State) : State :=
  { s with trip := { s.trip with snapshots := Vector.replicate 4 none, distanceBase := none, fuelBase := none } }

end Sys2Proof.Machine
end

