-- ==== Sys2Proof/Machine/Settle.lean ====
section
/-! DEFINITION. How the classes take the ends of their steps and place the next ones, and how the controller takes the
waiting steps, until nothing more follows within the event (R67, R68, R75, R76, R80, R85). The order among the classes
is DESIGN CHOICE: log entry 19; that its bound is enough is log entry 24. -/

namespace Sys2Proof.Machine

/-! ### The EXTERNAL class (R75, R76, R182) -/

/-- The response to a requester that RESTART has not forgotten; its operation is no longer outstanding. -/
def answerExternal (st : Status) (data : List Byte) (s : State) : State :=
  let s1 := { s with handler := { s.handler with ext := none, extRequester := none } }
  match s.handler.extRequester with
  | none => s1
  | some r =>
    let (f, s2) := buildResponse r st data s1
    holdResponse f s2

/-- A sector's byte in the answer to STORE ERASE, for a sector that was named (section 10.5.2). -/
def eraseByte (os : List (Fin 8 × EraseOutcome)) (k : Fin 8) : Byte :=
  if k.val < 6 then 0x03
  else match outcomeOf os k with
    | some .erased => 0x00
    | some .exceeded => 0x01
    | some .skippedBad => 0x02
    | some .skippedActive => 0x02
    | none => 0x02

/-- The eight outcome bytes of a STORE ERASE, FFh for a sector that was not named. -/
def eraseBytes (named : BitVec 8) (os : List (Fin 8 × EraseOutcome)) : List Byte :=
  (List.finRange 8).map (fun k => if named.getLsbD k.val then eraseByte os k else 0xFF)

/-- Every sector of a set was ERASED. -/
def allErased (b : BitVec 8) (os : List (Fin 8 × EraseOutcome)) : Bool :=
  (sectorsOf b).all (fun k => decide (outcomeOf os k = some .erased))

/-- An EXTERNAL program has ended (R75). -/
def externalProgramEnd (r : ProgramReport) (s : State) : State :=
  answerExternal (if r.exceeded then .failed else .ok) (encWord r.word) s

/-- An EXTERNAL erase has ended (R76). -/
def externalEraseEnd (b : BitVec 8) (os : List (Fin 8 × EraseOutcome)) (s : State) : State :=
  match s.handler.ext with
  | some (.erase named) => answerExternal (if allErased b os then .ok else .failed) (eraseBytes named os) s
  | _ => s

/-! ### Reports to the classes (R67) -/

/-- A program's outcome goes to its class. -/
def classProgramEnd (r : ProgramReport) (s : State) : State :=
  match r.cls with
  | .odometer => odometerProgramEnd r s
  | .trip => pairProgramEnd .trip r.exceeded s
  | .service => pairProgramEnd .service r.exceeded s
  | .external => externalProgramEnd r s

/-- The outcomes of an erase step go to its class. -/
def classEraseEnd (c : StoreClass) (b : BitVec 8) (os : List (Fin 8 × EraseOutcome)) (s : State) : State :=
  let first := (sectorsOf b).head?.bind (outcomeOf os)
  match c with
  | .odometer => odometerEraseEnd os s
  | .trip => pairEraseEnd .trip first s
  | .service => pairEraseEnd .service first s
  | .external => externalEraseEnd b os s

/-! ### What follows within the event -/

/-- A save that has ended is reported to its owner. -/
def reportSave (p : PairId) (s : State) : Option State :=
  match (s.pair p).ended with
  | none => none
  | some ok =>
    let s1 := s.setPair p { s.pair p with ended := none }
    some (match p with | .trip => tripSaveEnd ok s1 | .service => serviceSaveEnd ok s1)

/-- An erase step whose sectors all have outcomes is reported to its class. -/
def reportErase (s : State) : Option State :=
  match s.store.finishedStep with
  | none => none
  | some j => some (classEraseEnd j.1 j.2 s.store.outcomes { s with store := s.store.dropStep j })

/-- The controller takes the next step, if it is READY. -/
def takeNext (s : State) : Option State := s.store.take.map (fun x => { s with store := x })

/-- One thing that follows: a save's end, an erase step's end, a class's next step, or the controller's take. -/
def settleOnce (s : State) : Option State :=
  reportSave .trip s <|> reportSave .service s <|> reportErase s <|> odometerPump s <|> pairPump .trip s <|>
    pairPump .service s <|> takeNext s

/-- Everything that follows, at most `fuel` things. -/
def settleFor : Nat → State → State
  | 0, s => s
  | fuel + 1, s =>
    match settleOnce s with
    | some t => settleFor fuel t
    | none => s

/-- More things than can follow within one event: log entry 24. -/
def State.settleBound (s : State) : Nat := 128 + 16 * s.store.joined.length

/-- Everything that follows within the event (log entry 24). -/
def settle (s : State) : State := settleFor s.settleBound s

/-! ### Completions -/

/-- A program ends (R65): PROGRAM_FAILED for an EXCEEDED one, then the outcome goes to its class. R185 lets the events of
two blocks enter in either order: DESIGN CHOICE, PROGRAM_FAILED before what the class reports, its SAVE_FAILED or
ODOMETER_FAULT (log entry 10). -/
def storeProgramEnd (worn : Bool) (s : State) : State :=
  match s.store.programEnd worn with
  | none => s
  | some (r, x) =>
    let s1 := { s with store := x }
    let s2 := if r.exceeded then report (.programFailed r.cls r.addr) s1 else s1
    settle (classProgramEnd r s2)

/-- A sector's erase ends (R66, R70): SECTOR_BAD for an EXCEEDED one, then what follows. DESIGN CHOICE, as with a program:
SECTOR_BAD before the SAVE_FAILED or ODOMETER_FAULT that the same completion brings (log entry 10). -/
def sectorEraseEnd (failed : Bool) (raised : List Word) (s : State) : State :=
  match s.store.eraseEnd failed raised with
  | none => s
  | some (k, x) =>
    let s1 := { s with store := x }
    settle (if failed then report (.sectorBad k) s1 else s1)

/-- The erase window's timer expires (R69). -/
def eraseWindowExpiry (s : State) : State := settle { s with store := s.store.windowExpiry }

/-- The suspension is reached (R71). -/
def suspensionReached (s : State) : State := settle { s with store := s.store.suspensionReached }

/-! ### The scan (R86 to R88) -/

/-- All 32 words of a sector read FFFFh. -/
def allErasedWords (m : List (Nat × Word)) (k : Fin 8) : Bool :=
  (List.range 32).all (fun w => decide (sectorWord m k w = Memory.erased))

/-- The result code of a sector (R86). -/
def scanCode (m : List (Nat × Word)) (k : Fin 8) : ScanCode :=
  if 6 ≤ k.val then .openSector
  else if allErasedWords m k then .erased
  else if sectorWord m k 0 = statusActive then
    (if (if k.val < 2 then odometerGood m k else if k.val < 4 then pairCheck m .trip k else pairCheck m .service k)
     then .activeOk else .checkFail)
  else if sectorWord m k 0 = statusObsolete then .obsolete
  else .corrupt

/-- The eight result codes, in sector order. -/
def scanCodes (m : List (Nat × Word)) : List ScanCode := (List.finRange 8).map (scanCode m)

/-- The sectors found with all 32 words FFFFh become ERASED_KNOWN (R66), open ones too: DEDUCED, log entry 30. -/
def scanFlags (m : List (Nat × Word)) (f : Vector SectorFlags 8) : Vector SectorFlags 8 :=
  f.mapFinIdx (fun i x h => { x with erasedKnown := allErasedWords m ⟨i, h⟩ })

/-- The scan is complete (R86): READY, the start-up report held and placed at once if more than 2 places are free (R186),
the recoveries of R87 and R88, and the steps that follow. No rule places the evaluation that the odometer's VALID notice
brings (R99) among the recoveries: DESIGN CHOICE, within the Odometer's, before the last-service records are recovered, so
that an item enabled during the scan keeps the stage of its UNKNOWN record until a later evaluation (log entry 41). -/
def scanComplete (s : State) : State :=
  if s.store.ctl = .scanning then
    let m := s.store.mem
    let s1 := { s with store := { s.store with ctl := .ready, flags := scanFlags m s.store.flags },
                       handler := { s.handler with startUp := some (scanCodes m) } }
    let s2 := recoverTrips (recoverPair .trip (recoverOdometer (buildStartUp s1)))
    settle (recoverRecords (recoverPair .service s2))
  else s

end Sys2Proof.Machine
end

