-- ==== Sys2Proof/Machine/Gauge.lean ====
section
/-! DEFINITION. The Gauge Drive (chapter 2): targets, drive updates, sweeps, notices, key events and the coils. -/

namespace Sys2Proof.Machine

/-! ### Source and target (R29) -/

/-- A gauge's source is live: its channel is FRESH and not ROLLING. -/
def State.sourceLive (s : State) (c : Fin 48) : Bool :=
  let x := s.channels[c]
  decide (x.state = .fresh) && (match x.setup with | some f => f.kind != .rolling | none => false)

/-- A source value mapped through the gauge curve and clamped to 0–1023. -/
def State.mapTarget (s : State) (g : GaugeSetup) (v : Int) : Nat :=
  (max 0 (min 1023 (convertCurve (s.curves[g.curve]).points v).1)).toNat

/-- The target from the source as it stands, absent while it is not live. -/
def State.sourceTarget (s : State) (g : GaugeSetup) : Option Nat :=
  if s.sourceLive g.source then (s.freshValue g.source).map (s.mapTarget g) else none

/-! ### States and coils (R24, R31, R38) -/

/-- The coil levels recomputed from the position (R38). -/
def Gauge.driven (g : Gauge) : Gauge :=
  let l := coilLevels g.written g.setup g.position
  { g with sine := l.1, cosine := l.2 }

/-- Leaves PARKED: the drive update timer starts, or runs on. -/
def Gauge.running (g : Gauge) (st : GaugeState) : Gauge := { g with state := st, timer := some (g.timer.getD 20) }

/-- Becomes RETURNING, or PARKED at once at the park position (R31). -/
def Gauge.toPark (g : Gauge) : Gauge :=
  if g.position = g.setup.park then { g with state := .parked, timer := none } else g.running .returning

/-- Becomes TRACKING, with the target from the source as it stands if it is live (R29). -/
def State.track (s : State) (g : Gauge) : Gauge :=
  let g1 := g.running .tracking
  match s.sourceTarget g.setup with
  | some t => { g1 with target := some t }
  | none => g1

/-- Becomes HOLDING with HOLD behaviour, and goes to park with PARK behaviour. -/
def Gauge.unlive (g : Gauge) : Gauge := if g.setup.stalePark then g.toPark else g.running .holding

/-! ### The drive update (R30 to R32) -/

/-- `a` moved toward `b` by at most `n`. -/
def toward (a b n : Nat) : Nat := if a ≤ b then a + min n (b - a) else a - min n (a - b)

/-- The step of a TRACKING update (R30): the ceiling of |d| / 2^s, at most L. -/
def trackStep (g : Gauge) (t : Nat) : Nat :=
  let d := ((t : Int) - g.position).natAbs
  if g.pending then min d 255 else min ((d + 2 ^ g.setup.damping - 1) / 2 ^ g.setup.damping) g.setup.slew

/-- A TRACKING update (R30). -/
def Gauge.trackUpdate (g : Gauge) : Gauge :=
  match g.target with
  | none => g
  | some t =>
    let p := toward g.position t (trackStep g t)
    { g with position := p, pending := g.pending && decide (p ≠ t) }

/-- A RETURNING update (R31). -/
def Gauge.returnUpdate (g : Gauge) : Gauge :=
  let p := toward g.position g.setup.park g.setup.slew
  if p = g.setup.park then { g with position := p, state := .parked, timer := none } else { g with position := p }

/-- A SWEEP_UP update (R32). -/
def Gauge.sweepUpUpdate (g : Gauge) : Gauge :=
  let p := toward g.position 1023 32
  { g with position := p, state := if p = 1023 then .sweepDown else .sweepUp }

/-- A SWEEP_DOWN update (R32): at the park position the sweep ends, by the key and the source. -/
def State.sweepDownUpdate (s : State) (g : Gauge) : Gauge :=
  let p := toward g.position g.setup.park 32
  let g1 := { g with position := p }
  if p = g.setup.park then
    (if s.key.state = .run && s.sourceLive g.setup.source then s.track g1 else g1.running .holding)
  else g1

/-- One drive update of a gauge whose timer runs; the timer starts again while the gauge is not PARKED (R24, R30). -/
def driveUpdate (i : Fin 6) (s : State) : State :=
  let g := s.gauges[i]
  match g.timer with
  | none => s
  | some _ =>
    let g0 := { g with timer := some 20 }
    let g1 :=
      match g.state with
      | .parked => g
      | .tracking => g0.trackUpdate
      | .returning => g0.returnUpdate
      | .sweepUp => g0.sweepUpUpdate
      | .sweepDown => s.sweepDownUpdate g0
      | .holding => g0
    s.setGauge i g1.driven

/-! ### Notices (R34) -/

/-- A value from the source: the target, then the state (R29, R34). -/
def gaugeValue (s : State) (g : Gauge) (v : Int) : Gauge :=
  let g1 := { g with target := some (s.mapTarget g.setup v) }
  match g1.state with
  | .tracking | .sweepUp | .sweepDown => g1
  | .holding | .returning | .parked => if s.key.state = .run then g1.running .tracking else g1

/-- A STALE notice (R34). -/
def Gauge.stale (g : Gauge) : Gauge :=
  let g1 := { g with target := none }
  match g1.state with
  | .tracking => g1.unlive
  | .holding => if g1.setup.stalePark then g1.toPark else g1
  | .returning | .parked | .sweepUp | .sweepDown => g1

/-- What a gauge makes of a notice of its source. -/
def State.gaugeTakes (s : State) (g : Gauge) : Notice → Gauge
  | .sample (.analog v _) _ => gaugeValue s g v
  | .sample (.discrete b _) _ => gaugeValue s g (if b then 1 else 0)
  | .sample (.rolling _) _ => g
  | .stale => g.stale

/-- Every gauge in increasing number. -/
def forGauges (f : State → Gauge → Gauge) (s : State) : State :=
  { s with gauges := s.gauges.map (f s) }

/-- Every enabled gauge whose source is channel `c` takes its notice. -/
def gaugeNotice (c : Fin 48) (n : Notice) (s : State) : State :=
  forGauges (fun t g => if g.enabled && decide (g.setup.source = c) then t.gaugeTakes g n else g) s

/-! ### Key events (R35 to R37) -/

/-- A key-on (R35), for a gauge in PARKED or RETURNING. -/
def gaugeKeyOn (s : State) (new : KeyState) (g : Gauge) : Gauge :=
  let g1 := { g with pending := g.pending || g.setup.fastSettle }
  match g.state with
  | .parked | .returning =>
    if g.setup.sweep then g1.running .sweepUp
    else if new = .run then
      (if s.sourceLive g.setup.source then s.track g1 else if g.setup.stalePark then g1 else g1.running .holding)
    else g1
  | .sweepUp | .sweepDown | .tracking | .holding => g

/-- KEY_RUN that leaves CRANK (R36). -/
def gaugeRunFromCrank (s : State) (g : Gauge) : Gauge :=
  match g.state with
  | .holding => if s.sourceLive g.setup.source then s.track g else if g.setup.stalePark then g.toPark else g
  | .returning | .parked => if s.sourceLive g.setup.source then s.track g else g
  | .sweepUp | .sweepDown | .tracking => g

/-- KEY_CRANK that leaves RUN (R36). -/
def gaugeCrank (g : Gauge) : Gauge := if g.state = .tracking then { g with state := .holding } else g

/-- KEY_OFF and KEY_ACC (R37). KEY_ACC that leaves OFF clears a pending flag too, where R37 says both that it clears the
flag and that it changes nothing: DESIGN CHOICE, log entry 31. -/
def gaugeKeyDown (g : Gauge) : Gauge :=
  let g1 := { g with pending := false }
  if g.state = .parked then g1 else g1.toPark

/-- What an enabled gauge makes of a key event. -/
def gaugeKeyTakes (old new : KeyState) (s : State) (g : Gauge) : Gauge :=
  if isKeyOn old new then gaugeKeyOn s new g
  else
    match new with
    | .off | .acc => gaugeKeyDown g
    | .run => gaugeRunFromCrank s g
    | .crank => gaugeCrank g

/-- A key event at the Gauge Drive. -/
def gaugeKey (old new : KeyState) (s : State) : State :=
  forGauges (fun t g => if g.enabled then gaugeKeyTakes old new t g else g) s

/-! ### Write, enable, disable, restart (R25 to R27, R39) -/

/-- The effect of an accepted WRITE GAUGE on a disabled gauge (R25). -/
def Gauge.write (g : Gauge) (f : GaugeSetup) : Gauge :=
  let g1 := { g with written := true, setup := f }
  let g2 := if g.state = .parked ∧ g.position ≠ f.park ∧ g.setup.park ≠ f.park then g1.running .returning else g1
  g2.driven

/-- The effect of an accepted ENABLE GAUGE on a disabled gauge (R26). -/
def State.enabledGauge (s : State) (g : Gauge) : Gauge :=
  let g1 := { g with enabled := true, target := s.sourceTarget g.setup, pending := g.setup.fastSettle }
  match s.key.state with
  | .run => if s.sourceLive g.setup.source then g1.running .tracking else g1.unlive
  | .crank => g1.running .holding
  | .off | .acc => g1.toPark

/-- The effect of an accepted DISABLE GAUGE on an enabled gauge (R27). -/
def Gauge.disable (g : Gauge) : Gauge := ({ g with enabled := false, target := none, pending := false }).toPark

/-- RESTART at one gauge (R39); the channels are NEVER, so that there is no target. -/
def gaugeRestarts (s : State) (g : Gauge) : Gauge :=
  if g.enabled then
    (if s.key.state = .run then
      { g.running .tracking with target := none, pending := g.setup.fastSettle }
     else ({ g with target := none, pending := false }).toPark)
  else { g with target := none }

def gaugeRestart (s : State) : State := forGauges gaugeRestarts s

end Sys2Proof.Machine
end

