-- ==== Sys2Proof/Machine/Panel.lean ====
section
/-! DEFINITION. The trip button (R152 to R154) and the rear panel's replies and wake requests (R155 to R159). -/

namespace Sys2Proof.Machine

/-! ### The trip button -/

/-- The page after the selected one: page 6 is passed over when it is not offered (R148). -/
def State.nextPage (s : State) : Nat :=
  let p := s.display.page
  if p = 5 then (if s.mostUrgent.isSome then 6 else 1) else if p = 6 then 1 else p + 1

/-- A press edge (R152): the presented warning's acknowledge, or the end of a blanked MC, or a press record. An
unblanking press rebuilds nothing by itself (log entry 11). -/
def pressEdge (s : State) : State :=
  match s.presented with
  | some w => acknowledge w s
  | none =>
    let d := s.display
    if d.blanked then
      { s with display :=
          ({ d with blanked := false, offTimer := if s.key.state = KeyState.off then some s.offMs else d.offTimer }).wake }
    else { s with display := { d with press := some { page := d.page, state := .held, timer2 := some 2000, timer5 := some 5000 } } }

/-- A release edge (R153). -/
def releaseEdge (s : State) : State :=
  let d := s.display
  match d.press with
  | none => s
  | some p =>
    if p.state = .held then rebuild { s with display := { d with press := none, page := s.nextPage } }
    else { s with display := { d with press := none } }

/-- The trip that a 2 s hold resets on a page (R153, R59). -/
def buttonTrip : Nat → Option (Fin 4)
  | 1 => some 0 | 2 => some 0 | 3 => some 1 | _ => none

/-- The 2 s expiry (R153). -/
def hold2s (s : State) : State :=
  match s.display.press with
  | none => s
  | some p =>
    if p.state = .held ∧ p.timer2.isSome then
      let s1 := match buttonTrip p.page with | some r => resetTrip r .button s | none => s
      rebuild { s1 with display := { s1.display with press := some { p with state := .long, timer2 := none } } }
    else s

/-- A service reset asked for by the button (R100): taken, or answered NOT AVAILABLE, which shows for 3 s (R153). -/
def buttonServiceReset (i : Fin 8) (s : State) : State :=
  if s.mayReset i then settle (takeServiceReset i .button s)
  else rebuild { s with display := { s.display with naTimer := some 3000 } }

/-- The 5 s expiry (R153). -/
def hold5s (s : State) : State :=
  match s.display.press with
  | none => s
  | some p =>
    if p.state = .long ∧ p.timer5.isSome then
      let s1 := { s with display := { s.display with press := some { p with timer5 := none } } }
      match s1.mostUrgent with
      | some i => if p.page = 6 then buttonServiceReset i s1 else s1
      | none => s1
    else s

/-- A notice of the button channel (R152, R154). -/
def buttonNotice (n : Notice) (s : State) : State :=
  match n with
  | .sample (.discrete _ (some true)) _ => pressEdge s
  | .sample (.discrete _ (some false)) _ => releaseEdge s
  | .sample (.discrete _ none) _ => s
  | .sample (.analog _ _) _ => s
  | .sample (.rolling _) _ => s
  | .stale => { s with display := { s.display with press := none } }

/-- The Display Link Controller takes the notices of its two channels, while its setup is written (R20, R145, R146). Where
the setup names one channel as both, R20 gives no order of the two references: DESIGN CHOICE, the button's comes first,
then the temperature's with its rebuild (log entry 10). -/
def displayNotice (c : Fin 48) (n : Notice) (s : State) : State :=
  match s.display.setup with
  | none => s
  | some f =>
    let s1 := if f.button = some c then buttonNotice n s else s
    if f.temperature = some c then rebuild s1 else s1

/-! ### The rear panel -/

/-- CALL appears or leaves (R157): REAR_CALL follows, and on leaving the answer want and a queued CALL ANSWERED go. -/
def callChange (b : Bool) (s : State) : State :=
  if b then setSys .rearCall true s
  else
    let s1 := setSys .rearCall false s
    { s1 with display := (({ s1.display with answerWant := false }).unqueue .answered).fillWants }

/-- JOURNEY appears or leaves (R157, R52); a change of REAR_JOURNEY rebuilds the images. -/
def journeyChange (b : Bool) (s : State) : State :=
  if b then rebuild (journeyEnter s)
  else if s.trip.rear = .running then rebuild (journeyLeave s)
  else s

/-- A reply's request set is taken (R157): any difference restarts the RP idle timer, so that the RP is not idle while
each difference acts (R161), and the held set becomes the reply's. R157 gives no order for the events of two differences:
DESIGN CHOICE, CALL before JOURNEY (log entry 10). -/
def takeRequestSet (call journey : Bool) (s : State) : State :=
  let d := s.display
  if d.call = call ∧ d.journey = journey then s
  else
    let s1 := { s with display := { d with idleTimer := some s.idleMs } }
    let s2 := if d.call = call then s1 else callChange call s1
    let s3 := if d.journey = journey then s2 else journeyChange journey s2
    checkShutdown { s3 with display := { s3.display with call := call, journey := journey } }

/-- A good STATUS REPLY: three bytes, kind 81h, good check (section 10.5.5). -/
def replyGood (bytes : List Byte) : Bool :=
  bytes.length == 3 && bytes.getD 0 0 == 0x81 && byteSum bytes == 0

/-- A reply of the rear panel (R155): outside a window it is discarded; a bad one is a miss. -/
def replyTaken (bytes : List Byte) (s : State) : State :=
  match s.display.tx with
  | .listening =>
    let d := s.display.endWindow
    if replyGood bytes then
      let set := bytes.getD 1 0
      takeRequestSet (set.getLsbD 0) (set.getLsbD 1) { s with display := d.goodReply }
    else { s with display := d.miss }
  | _ => s

/-- A head asserts the wake line (R155, R159 to R161). -/
def wakeAsserted (s : State) : State := { s with display := s.display.headWake s.idleMs }

/-- The effect of an accepted WRITE DISPLAY SETUP (R145): a different button channel removes the press record. -/
def writeDisplay (f : DisplaySetup) (s : State) : State :=
  let d := s.display
  let press := if s.displaySetup.button = f.button then d.press else none
  rebuild { s with display := { d with setup := some f, press := press } }

/-- RESTART at the display (R163), before its rebuild. -/
def displayRestart (s : State) : State :=
  let d := s.display
  { s with display :=
      { d with queue := [], pollWant := false, answerWant := false, outstanding := .all,
               tx := (match d.tx with | .listening => .idle | _ => d.tx), replyWindow := none, press := none,
               naTimer := none } }

end Sys2Proof.Machine
end

