-- ==== Sys2Proof/Machine/LoopPort.lean ====
section
/-! DEFINITION. The Loop Port (chapter 9): treatment of received frames, queues, the own hold, the hold list, the loop
state, the transmitter's choice and the broadcast. -/

namespace Sys2Proof.Machine

/-! ### The own hold (R175, R176) -/

/-- A HOLD is wanted. -/
def LoopPort.wantHold (l : LoopPort) : LoopPort := { l with flow := .hold }

/-- A RELEASE is wanted: sent only where a HOLD has been sent. -/
def LoopPort.wantRelease (l : LoopPort) : LoopPort := { l with flow := if l.holdSent then .release else .empty }

/-- The own hold is asserted. -/
def LoopPort.assertNow (l : LoopPort) : LoopPort :=
  ({ l with asserted := true, critical := 0, refresh := some 1000 }).wantHold

/-- The own hold is released. -/
def LoopPort.releaseNow (l : LoopPort) : LoopPort := ({ l with asserted := false, refresh := none }).wantRelease

/-- The own hold takes a tap that has been copied. -/
def LoopPort.holdTap (l : LoopPort) : LoopPort :=
  if 12 ≤ l.tapQ.length then
    if l.asserted then
      (if l.critical = 0 then { l with critical := 1 } else ({ l with critical := 0 }).wantHold)
    else l.assertNow
  else l

/-- The own hold takes a take. -/
def LoopPort.holdTake (l : LoopPort) : LoopPort :=
  let l1 := if l.tapQ.length ≤ 11 then { l with critical := 0 } else l
  if l1.tapQ.length ≤ 7 ∧ l1.asserted ∧ ¬ l1.force then l1.releaseNow else l1

/-- ASSERT HOLD (R176). -/
def LoopPort.assertHold (l : LoopPort) : LoopPort :=
  let l1 := { l with force := true }
  if l.asserted then l1 else l1.assertNow

/-- CLEAR HOLD (R176). -/
def LoopPort.clearHold (l : LoopPort) : LoopPort :=
  let l1 := { l with force := false }
  if l.asserted ∧ l.tapQ.length ≤ 7 then l1.releaseNow else l1

/-- The refresh timer expires (R175). -/
def LoopPort.refreshExpiry (l : LoopPort) : LoopPort :=
  match l.refresh with
  | some _ => ({ l with refresh := some 1000 }).wantHold
  | none => l

/-! ### The hold list (R177) -/

/-- A HOLD from another node. -/
def LoopPort.holderHolds (l : LoopPort) (n : Node) : LoopPort :=
  if l.holders.any (fun h => h.node = n) then
    { l with holders := l.holders.map (fun h => if h.node = n then { h with left := 2000 } else h) }
  else { l with holders := l.holders ++ [{ node := n, left := 2000 }] }

/-- A node leaves the hold list. -/
def LoopPort.holderGoes (l : LoopPort) (n : Node) : LoopPort :=
  { l with holders := l.holders.filter (fun h => h.node ≠ n) }

/-- A hold-list entry expires: HOLD_EXPIRED is reported. -/
def holderExpiry (n : Node) (s : State) : State :=
  if s.loop.holders.any (fun h => h.node = n) then
    report (.holdExpired n) { s with loop := s.loop.holderGoes n }
  else s

/-! ### The loop state (R173, R174) -/

/-- The loop state changes: its event, and LOOP_BROKEN on entering and leaving BROKEN. -/
def setLoopState (new : LoopState) (s : State) : State :=
  let old := s.loop.state
  if old = new then s
  else setSys .loopBroken (decide (new = .broken)) (report (.loopState old new) { s with loop := { s.loop with state := new } })

/-- A miss. -/
def loopMiss (s : State) : State :=
  setLoopState (match s.loop.state with | .intact => .suspect | .suspect => .broken | .broken => .broken) s

/-- A good return. -/
def loopGood (s : State) : State := setLoopState .intact s

/-- A return is matched against the awaiting-return list (R173). -/
def loopReturn (f : Frame) (s : State) : State :=
  let l := s.loop.awaiting
  match l.findIdx? (fun a => a.frame = f) with
  | none => loopMiss s
  | some i =>
    loopGood ((List.range i).foldl (fun t _ => loopMiss t) { s with loop := { s.loop with awaiting := l.drop (i + 1) } })

/-- The oldest entry's return timer expires: it is removed as missed (R173). Entries enter with 100 ms in the order in
which they are sent, so that the oldest expires first. -/
def returnExpiry (s : State) : State :=
  match s.loop.awaiting with
  | [] => s
  | _ :: rest => loopMiss { s with loop := { s.loop with awaiting := rest } }

/-! ### Received frames (R166 to R169) -/

/-- A channel references a frame (R10). -/
def Channel.references (ch : Channel) (f : Frame) : Bool :=
  match ch.enabled, ch.setup with
  | true, some x =>
    x.tag == f.getD 0 0 && (match x.origin with | none => true | some n => n == frameOrigin f)
  | _, _ => false

/-- The forward queue takes a frame, or drops it when it holds 4 (R167). -/
def LoopPort.forward (l : LoopPort) (f : Frame) : LoopPort :=
  if l.forwardQ.length < 4 then { l with forwardQ := l.forwardQ ++ [f] } else l

/-- The tap queue takes a copy, and the own hold takes the tap; at 16 frames neither happens (R168). -/
def LoopPort.tap (l : LoopPort) (f : Frame) : LoopPort :=
  if l.tapQ.length < 16 then ({ l with tapQ := l.tapQ ++ [f] }).holdTap else l

/-- The request queue takes a consumed frame, or discards it with the overrun flag at 4 (R169). -/
def LoopPort.consume (l : LoopPort) (f : Frame) : LoopPort :=
  if l.requestQ.length < 4 then { l with requestQ := l.requestQ ++ [f] } else { l with overrun := true }

/-- An intact frame is treated by the first case of R166 that applies. -/
def treatFrame (f : Frame) (s : State) : State :=
  let tag := f.getD 0 0
  let l := s.loop
  if frameOrigin f = l.node then
    (if tag = 0xE8 ∨ tag = 0xE9 then s else loopReturn f s)
  else if tag = nodeTag l.node then { s with loop := l.consume f }
  else if tag = 0xE8 then { s with loop := (l.forward f).holderHolds (frameOrigin f) }
  else if tag = 0xE9 then { s with loop := (l.forward f).holderGoes (frameOrigin f) }
  else
    let l1 := l.forward f
    { s with loop := if s.channels.toList.any (fun ch => ch.references f) then l1.tap f else l1 }

/-! ### The transmitter (R170) -/

/-- The oldest inserted frame may be sent: no holder, fewer than 8 entries awaited, and none equal to it. -/
def LoopPort.maySend (l : LoopPort) (x : Inserted) : Bool :=
  l.holders.isEmpty && decide (l.awaiting.length < 8) && !l.awaiting.any (fun a => a.frame = x.frame)

/-- The part's own HOLD or RELEASE (R165): the tag, its own node number as origin, no payload, and the check. -/
def LoopPort.flowFrame (l : LoopPort) (tag : Byte) : Frame := mkFrame tag l.node []

/-- The idle transmitter chooses the next frame and begins sending it (R170). -/
def LoopPort.transmit (l : LoopPort) : LoopPort :=
  match l.tx with
  | .idle =>
    match l.flow with
    | .hold => { l with flow := .empty, tx := .hold (l.flowFrame 0xE8) }
    | .release => { l with flow := .empty, tx := .release (l.flowFrame 0xE9) }
    | .empty =>
      match l.forwardQ with
      | f :: rest => { l with forwardQ := rest, tx := .forwarded f }
      | [] =>
        match l.insertQ with
        | x :: rest => if l.maySend x then { l with insertQ := rest, tx := .inserted x } else l
        | [] => l
  | _ => l

/-- The last byte of the frame in progress has been sent (R170, R173, R175). -/
def LoopPort.sent (l : LoopPort) : LoopPort :=
  match l.tx with
  | .idle => l
  | .hold _ => { l with tx := .idle, holdSent := true }
  | .release _ => { l with tx := .idle, holdSent := false }
  | .forwarded _ => { l with tx := .idle }
  | .inserted x => { l with tx := .idle, awaiting := l.awaiting ++ [{ frame := x.frame, left := 100 }] }

/-- The RESTART response is the frame being sent (R184). -/
def LoopPort.sendingRestart (l : LoopPort) : Bool :=
  match l.tx with
  | .inserted x => x.restart
  | _ => false

/-! ### The broadcast (R172) -/

/-- The content of a status broadcast (section 10.5.3). -/
def State.broadcastPayload (s : State) : List Byte :=
  enc1 s.key.state.code ++ encMarked 2 enc2i s.roadSpeed ++ encMarked 3 enc3 s.shown ++ enc1 s.loop.state.code ++
    encChoice s.topPriority

/-- The broadcast timer expires: it runs again, and a broadcast is placed if more than 2 places are free. -/
def broadcastExpiry (s : State) : State :=
  let s1 := { s with loop := { s.loop with broadcast := some 500 } }
  if s.streamRoom then insertFrame (mkFrame 0xE0 s.loop.node s.broadcastPayload) false s1 else s1

/-! ### RESTART (R179) -/

/-- The Loop Port's restart effect. -/
def LoopPort.restart (l : LoopPort) : LoopPort :=
  ({ l with tapQ := [], requestQ := [], insertQ := [], overrun := false, force := false, refresh := none,
            critical := 0, asserted := false }).wantRelease

end Sys2Proof.Machine
end

