-- ==== Sys2Proof/Machine/Channel.lean ====
section
/-! DEFINITION. The Channel Table (chapter 1): the field of a frame, a sample of each kind, the take with its two
stages, freshness, and the delivery of notices. -/

namespace Sys2Proof.Machine

/-! ### The field (R11) -/

/-- The raw value of a channel's field in a payload, if the field lies within it. -/
def rawField (f : ChanSetup) (p : List Byte) : Option Int :=
  match f.kind with
  | .analogU8 => (p[f.offset]?).map (fun b => (b.toNat : Int))
  | .analogS8 => (p[f.offset]?).map (fun b => b.toInt)
  | .discrete => (p[f.offset]?).map (fun b => if b.getLsbD f.bit then 1 else 0)
  | .analogU16 | .rolling =>
    match p[f.offset]?, p[f.offset + 1]? with
    | some a, some b => some ((a.toNat * 256 + b.toNat : Nat) : Int)
    | _, _ => none
  | .analogS16 =>
    match p[f.offset]?, p[f.offset + 1]? with
    | some a, some b => some (BitVec.ofNat 16 (a.toNat * 256 + b.toNat)).toInt
    | _, _ => none

/-! ### A sample (R12 to R18) -/

/-- The freshness timer after an accepted sample: timeout × 50 ms, or stopped for timeout 0 (R16). -/
def freshTimer (f : ChanSetup) : Timer := if f.timeout = 0 then none else some (50 * f.timeout)

/-- The converted value of an analog sample and its limited flag (R12 to R14). -/
def State.convert (s : State) (f : ChanSetup) (x : Int) : Int × Bool :=
  match f.curve with
  | some k => convertCurve (s.curves[k]).points x
  | none => convertPlain x

/-- An accepted analog sample (R15, R16). -/
def sampleAnalog (f : ChanSetup) (y : Int) (limited : Bool) (ch : Channel) : Channel × Content :=
  let v :=
    match ch.state, ch.value with
    | .fresh, some v => if f.shift = 0 then y else smooth f.shift v y
    | _, _ => y
  ({ ch with state := .fresh, value := some v, limited := limited, timer := freshTimer f }, .analog v limited)

/-- An accepted DISCRETE sample (R16, R17). -/
def sampleDiscrete (f : ChanSetup) (b : Bool) (ch : Channel) : Channel × Content :=
  let level : Int := if b then 1 else 0
  let ch1 := { ch with state := .fresh, candLevel := b, timer := freshTimer f }
  match ch.state, ch.value with
  | .fresh, some v =>
    if v = level then ({ ch1 with candCount := 0 }, .discrete b none)
    else if ch.candCount + 1 = f.debounce then
      ({ ch1 with value := some level, candCount := 0 }, .discrete b (some b))
    else ({ ch1 with candCount := ch.candCount + 1 }, .discrete (!b) none)
  | _, _ => ({ ch1 with value := some level, candCount := 0 }, .discrete b none)

/-- An accepted ROLLING sample (R16, R18). -/
def sampleRolling (f : ChanSetup) (x : Nat) (ch : Channel) : Channel × Content :=
  ({ ch with state := .fresh, raw := some x, timer := freshTimer f }, .rolling x)

/-- A sample by its kind. -/
def State.sampleOf (s : State) (f : ChanSetup) (x : Int) (ch : Channel) : Channel × Content :=
  match f.kind with
  | .analogU8 | .analogU16 | .analogS8 | .analogS16 =>
    let y := s.convert f x
    sampleAnalog f y.1 y.2 ch
  | .discrete => sampleDiscrete f (decide (x = 1)) ch
  | .rolling => sampleRolling f x.toNat ch

/-! ### The take (R10) -/

/-- What a frame brings to a channel: its updated entry and its notice, or nothing. -/
def State.updateFrom (s : State) (fr : Frame) (ch : Channel) : Option (Channel × Notice) :=
  match ch.setup with
  | none => none
  | some f =>
    if ch.references fr then
      (rawField f (framePayload fr)).map (fun x =>
        let r := s.sampleOf f x ch
        (r.1, .sample r.2 (ch.state != .fresh)))
    else none

/-- The update stage: every referencing channel (R10). -/
def updateStage (fr : Frame) (s : State) : State :=
  { s with channels := s.channels.map (fun ch => match s.updateFrom fr ch with | some (c, _) => c | none => ch) }

/-- The notices of the update stage. R10 gives no order among the notices of several channels: DESIGN CHOICE, in increasing
channel number, all users of one notice before the next (log entry 10). -/
def State.noticesOf (s : State) (fr : Frame) : List (Fin 48 × Notice) :=
  (List.finRange 48).filterMap (fun i => (s.updateFrom fr s.channels[i]).map (fun r => (i, r.2)))

/-! ### Notices (R20) -/

/-- The Chime Generator takes the tick channel's notices while its setup is written (R142). -/
def chimeNotice (c : Fin 48) (n : Notice) (s : State) : State :=
  if s.chime.setup.written ∧ s.chime.setup.tickChannel = some c then
    match n with
    | .sample (.discrete _ (some _)) _ => { s with chime := s.chime.tick }
    | _ => s
  else s

/-- Delivers a notice to the users that are live, in R20's order. DESIGN CHOICE of order: log entry 10. -/
def deliver (c : Fin 48) (n : Notice) (s : State) : State :=
  chimeNotice c n (displayNotice c n (settle (tripNotice c n (warnChannel c n (gaugeNotice c n s)))))

/-- The idle Channel Table takes the oldest tapped frame: the own hold takes the take, every referencing channel is
updated, and the notices are delivered (R10, R168, R175). -/
def channelTake (s : State) : State :=
  match s.loop.tapQ with
  | [] => s
  | fr :: rest =>
    let s1 := { s with loop := ({ s.loop with tapQ := rest }).holdTake }
    (s1.noticesOf fr).foldl (fun t n => deliver n.1 n.2 t) (updateStage fr s1)

/-! ### Freshness, enable and disable (R5, R6, R19, R22) -/

/-- The runtime fields of an entry in NEVER (R2). The candidate level is kept: nothing reads it there but READ CHANNEL,
and no rule clears it (log entry 9). -/
def Channel.never (ch : Channel) : Channel :=
  { ch with state := .never, value := none, limited := false, candCount := 0, raw := none, timer := none }

/-- A channel's freshness timer expires: STALE, and every user receives the STALE notice (R19). -/
def freshnessExpiry (c : Fin 48) (s : State) : State :=
  let ch := s.channels[c]
  match ch.timer with
  | none => s
  | some _ => deliver c .stale (s.setChannel c { ch with state := .stale, timer := none })

/-- The effect of an accepted DISABLE CHANNEL on an enabled entry (R6). -/
def disableChannel (c : Fin 48) (s : State) : State :=
  deliver c .stale (s.setChannel c { (s.channels[c]).never with enabled := false })

/-- The restart effect (R22). -/
def channelRestart (s : State) : State := { s with channels := s.channels.map Channel.never }

end Sys2Proof.Machine
end

