-- ==== Sys2Proof/Machine/Key.lean ====
section
/-! DEFINITION. The Key Monitor and Clock (chapter 11): samples, key events, timestamps, seconds and SET CLOCK. -/

namespace Sys2Proof.Machine

/-- The key state of a debounced combination (R192). -/
def keyOf (l : Lines) : KeyState :=
  if l.ign then (if l.start then .crank else .run) else if l.acc then .acc else .off

/-- The clock as a timestamp, if it is VALID (R194, R195). -/
def KeyClock.stamp (k : KeyClock) : Option Stamp := if k.valid then some { day := k.day, seconds := k.seconds } else none

/-- What a key event records before it is delivered (R193 to R195). -/
def KeyClock.record (k : KeyClock) (new : KeyState) : KeyClock :=
  match new with
  | .run => { k with state := new, runStart := k.stamp, settled := false, settleTimer := some 3000 }
  | .off => { k with state := new, keyOff := k.stamp, settled := false, settleTimer := none }
  | .acc => { k with state := new, settled := false, settleTimer := none }
  | .crank => { k with state := new, settled := false, settleTimer := none }

/-- The Service Reminder evaluates its items at KEY_RUN (R99). -/
def serviceKey (new : KeyState) (s : State) : State := if new = .run then evaluateAll s else s

/-- A change of the key state (R193): the timestamps, the KEY event, and the blocks in R193's order. -/
def keyEvent (new : KeyState) (s : State) : State :=
  let old := s.key.state
  let s1 := report (.keyChange old new) { s with key := s.key.record new }
  let s2 := settle (tripKey old new (gaugeKey old new s1))
  displayKey new (warningKey old new (serviceKey new s2))

/-- The combinations after one sample, and whether the debounced one is new (R192). -/
def KeyClock.sample (k : KeyClock) (found : Lines) : KeyClock × Bool :=
  let k1 := { k with sampleTimer := some 10 }
  if found = k.debounced then ({ k1 with candCount := 0 }, false)
  else if found = k.candidate ∧ 0 < k.candCount then
    (if k.candCount + 1 = 3 then ({ k1 with debounced := found, candCount := 0 }, true)
     else ({ k1 with candCount := k.candCount + 1 }, false))
  else ({ k1 with candidate := found, candCount := 1 }, false)

/-- One sample of the key lines (R192). -/
def keySample (found : Lines) (s : State) : State :=
  let (k, new) := s.key.sample found
  let s1 := { s with key := k }
  if new ∧ keyOf found ≠ s.key.state then keyEvent (keyOf found) s1 else s1

/-- The settle timer expires (R194). -/
def settleTimerExpiry (s : State) : State :=
  match s.key.settleTimer with
  | some _ => testGates { s with key := { s.key with settleTimer := none, settled := true } }
  | none => s

/-- The clock's advance at a seconds event, and whether it gives a day event (R196). -/
def KeyClock.advance (k : KeyClock) : KeyClock × Bool :=
  if k.valid then
    if k.seconds < 86399 then ({ k with seconds := k.seconds + 1 }, false)
    else if k.day < 65535 then ({ k with seconds := 0, day := k.day + 1 }, true)
    else ({ k with seconds := 0 }, false)
  else (k, false)

/-- A seconds event (R196): the clock and its day event, the trip times, the gates, the images. -/
def secondsEvent (s : State) : State :=
  let (k, day) := s.key.advance
  let s1 := { s with key := { k with secondsTimer := some 1000 } }
  let s2 := if day then evaluateAll s1 else s1
  rebuild (testGates (tripSeconds s2))

/-- The effect of an accepted SET CLOCK (R197). -/
def setClock (seconds day : Nat) (s : State) : State :=
  let s1 := { s with key := { s.key with valid := true, seconds := seconds, day := day } }
  rebuild (evaluateAll (setSys .clockInvalid false s1))

end Sys2Proof.Machine
end

