-- ==== Sys2Proof/Machine/Operands.lean ====
section
/-! DEFINITION. The operand bytes of a request (section 10.5.2): from a request row to the payload of its frame, and
from a payload back to the row, with the handler's checks 1 to 3 (R180). Fields stand in the order of the owning rule,
most significant byte first (R190, R191). The flags byte of WRITE GAUGE stands where its first field, the stale
behaviour, stands in R23: DEDUCED, log entry 14. -/

namespace Sys2Proof.Machine

/-- Two bytes as a word, most significant first. -/
def be2 (a b : Byte) : Word := BitVec.ofNat 16 (a.toNat * 256 + b.toNat)

/-- Three bytes, most significant first. -/
def be3 (a b c : Byte) : BitVec 24 := BitVec.ofNat 24 (a.toNat * 65536 + b.toNat * 256 + c.toNat)

/-- Three bytes as they are sent. -/
def encTriple (x : BitVec 24) : List Byte := enc3 x.toNat

/-- The payload of a request: code, sequence byte, arguments (section 10.5.2). -/
def reqPayload (code : Byte) (h : Head) (args : List Byte) : List Byte := code :: h.seq :: args

/-- The requester's node and the payload of the frame that a request row stands for; `none` for the rows that are no
request. -/
def encodeRequest : Instr → Option (Node × List Byte)
  | .powerOnReset _ _ _ => none
  | .loopFrameReceived _ _ _ => none
  | .loopTransmitStart => none
  | .loopFrameSent => none
  | .returnTimerExpiry => none
  | .holdListTimerExpiry _ => none
  | .refreshTimerExpiry => none
  | .broadcastTimerExpiry => none
  | .channelTake => none
  | .freshnessExpiry _ => none
  | .driveUpdate _ => none
  | .keySample _ _ _ => none
  | .settleTimerExpiry => none
  | .secondsEvent => none
  | .bulbCheckExpiry => none
  | .presentTimerExpiry _ => none
  | .remindTimerExpiry _ => none
  | .toneEnd _ => none
  | .gapEnd _ => none
  | .eraseWindowExpiry => none
  | .programEnd _ => none
  | .sectorEraseEnd _ _ => none
  | .suspensionReached => none
  | .scanComplete => none
  | .hold2sExpiry => none
  | .hold5sExpiry => none
  | .notAvailableExpiry => none
  | .mcOffTimerExpiry => none
  | .dlWakeAsserted => none
  | .linkSettleExpiry => none
  | .linkStartSent => none
  | .packetDone => none
  | .packetSent => none
  | .pollTimerExpiry => none
  | .statusReply _ => none
  | .replyWindowExpiry => none
  | .rpIdleTimerExpiry => none
  | .linkShutdownSend => none
  | .linkShutdownSent => none
  | .quietTimerExpiry => none
  | .heldResponsePlaced => none
  | .eventFrameBuild => none
  | .startUpReport => none
  | .dumpFrameBuild => none
  | .restartEffect => none
  | .unknownRequest node payload => some (node, payload)
  | .writeChannel h ch tag origin kind offset bit curve timeout shift debounce => some (h.node, reqPayload 0x10 h ([ch, tag, origin, kind, offset, bit, curve, timeout, shift, debounce]))
  | .enableChannel h ch => some (h.node, reqPayload 0x11 h ([ch]))
  | .disableChannel h ch => some (h.node, reqPayload 0x12 h ([ch]))
  | .curvePoint h curve slot x y => some (h.node, reqPayload 0x13 h ([curve, slot] ++ encTriple x ++ encWord y))
  | .commitCurve h curve count => some (h.node, reqPayload 0x14 h ([curve, count]))
  | .readChannelSetup h ch part => some (h.node, reqPayload 0x15 h ([ch] ++ part.toList))
  | .readChannel h ch part => some (h.node, reqPayload 0x16 h ([ch] ++ part.toList))
  | .readCurve h curve slot part => some (h.node, reqPayload 0x17 h ([curve, slot] ++ part.toList))
  | .writeGauge h g source curve damping slew park flags dial => some (h.node, reqPayload 0x20 h ([g, source, curve, damping, slew] ++ encWord park ++ [flags] ++ encWord dial))
  | .enableGauge h g => some (h.node, reqPayload 0x21 h ([g]))
  | .disableGauge h g => some (h.node, reqPayload 0x22 h ([g]))
  | .readGaugeSetup h g part => some (h.node, reqPayload 0x23 h ([g] ++ part.toList))
  | .readGauge h g part => some (h.node, reqPayload 0x24 h ([g] ++ part.toList))
  | .writeTripSetup h distance fuel speed level pulses units maxDelta gapDefault => some (h.node, reqPayload 0x30 h ([distance, fuel, speed, level] ++ encWord pulses ++ encWord units ++ encWord maxDelta ++ encTriple gapDefault))
  | .readTripSetup h part => some (h.node, reqPayload 0x31 h (part.toList))
  | .readTripFigures h r part => some (h.node, reqPayload 0x32 h ([r] ++ part.toList))
  | .snapshotTrip h r => some (h.node, reqPayload 0x33 h ([r]))
  | .readTrip h r => some (h.node, reqPayload 0x34 h ([r]))
  | .resetTrip h r => some (h.node, reqPayload 0x35 h ([r]))
  | .readStore h addr part => some (h.node, reqPayload 0x40 h ([addr] ++ part.toList))
  | .storeProgram h addr value => some (h.node, reqPayload 0x41 h ([addr] ++ encWord value))
  | .storeErase h sectors => some (h.node, reqPayload 0x42 h ([sectors]))
  | .readOdometer h part => some (h.node, reqPayload 0x43 h (part.toList))
  | .setOdometer h value => some (h.node, reqPayload 0x44 h (encTriple value))
  | .writeServiceItem h item message intervalKm intervalDays advanceKm overdueKm advOverDays => some (h.node, reqPayload 0x50 h ([item, message] ++ encWord intervalKm ++ encWord intervalDays ++ encWord advanceKm ++ encWord overdueKm ++ encTriple advOverDays))
  | .enableServiceItem h item => some (h.node, reqPayload 0x51 h ([item]))
  | .disableServiceItem h item => some (h.node, reqPayload 0x52 h ([item]))
  | .readServiceItem h item part => some (h.node, reqPayload 0x53 h ([item] ++ part.toList))
  | .serviceReset h item => some (h.node, reqPayload 0x54 h ([item]))
  | .writeWarningCondition h w kind subject threshold hysteresis counts keyGate speedGate staleAction minStage => some (h.node, reqPayload 0x60 h ([w, kind, subject] ++ encWord threshold ++ encWord hysteresis ++ [counts, keyGate] ++ encWord speedGate ++ [staleAction, minStage]))
  | .writeWarningAction h w priority latch chime message lamp routing present remind => some (h.node, reqPayload 0x61 h ([w, priority, latch, chime, message, lamp, routing, present, remind]))
  | .enableWarning h w => some (h.node, reqPayload 0x62 h ([w]))
  | .disableWarning h w => some (h.node, reqPayload 0x63 h ([w]))
  | .maskWarning h w => some (h.node, reqPayload 0x64 h ([w]))
  | .unmaskWarning h w => some (h.node, reqPayload 0x65 h ([w]))
  | .readWarningSetup h w part => some (h.node, reqPayload 0x66 h ([w] ++ part.toList))
  | .readWarning h w part => some (h.node, reqPayload 0x67 h ([w] ++ part.toList))
  | .readLamps h part => some (h.node, reqPayload 0x68 h (part.toList))
  | .writeChimeSegment h p slot divisor on off => some (h.node, reqPayload 0x70 h ([p, slot] ++ encWord divisor ++ [on, off]))
  | .writeChimePattern h p repeats segments => some (h.node, reqPayload 0x71 h ([p, repeats, segments]))
  | .writeChimeSetup h tickChannel tickPattern answerPattern => some (h.node, reqPayload 0x72 h ([tickChannel, tickPattern, answerPattern]))
  | .readChimePattern h p slot part => some (h.node, reqPayload 0x73 h ([p, slot] ++ part.toList))
  | .readChimeSetup h part => some (h.node, reqPayload 0x74 h (part.toList))
  | .readChimes h part => some (h.node, reqPayload 0x75 h (part.toList))
  | .writeMessage h message chunk chars => some (h.node, reqPayload 0x80 h ([message, chunk] ++ chars.toList))
  | .readMessage h message part => some (h.node, reqPayload 0x81 h ([message] ++ part.toList))
  | .writeDisplaySetup h button temperature offDelay idleTime mcBrightness rpBrightness => some (h.node, reqPayload 0x82 h ([button, temperature, offDelay] ++ encWord idleTime ++ [mcBrightness, rpBrightness]))
  | .readDisplaySetup h part => some (h.node, reqPayload 0x83 h (part.toList))
  | .readDisplay h part => some (h.node, reqPayload 0x84 h (part.toList))
  | .assertHold h => some (h.node, reqPayload 0x90 h ([]))
  | .clearHold h => some (h.node, reqPayload 0x91 h ([]))
  | .readLoop h part => some (h.node, reqPayload 0x92 h (part.toList))
  | .readStatus h part => some (h.node, reqPayload 0xA0 h (part.toList))
  | .events h set => some (h.node, reqPayload 0xA1 h ([set]))
  | .restart h => some (h.node, reqPayload 0xA2 h ([]))
  | .storeDump h start count => some (h.node, reqPayload 0xA3 h ([start] ++ encWord count))
  | .dumpAbort h => some (h.node, reqPayload 0xA4 h ([]))
  | .dumpResume h => some (h.node, reqPayload 0xA5 h ([]))
  | .setClock h seconds day => some (h.node, reqPayload 0xB0 h (encTriple seconds ++ encWord day))
  | .readClock h part => some (h.node, reqPayload 0xB1 h (part.toList))
  | .powerLoss _ _ => none

/-- The argument bytes of a known code as a request row, if their number is the one the table of section 10.5.2 gives
(a paged read may carry one more byte, its part number): R180 check 3. -/
def decodeArgs (code : Nat) (h : Head) (args : List Byte) : Option Instr :=
  match code with
  | 0x10 => match args with | [b0, b1, b2, b3, b4, b5, b6, b7, b8, b9] => some (.writeChannel h b0 b1 b2 b3 b4 b5 b6 b7 b8 b9) | _ => none
  | 0x11 => match args with | [b0] => some (.enableChannel h b0) | _ => none
  | 0x12 => match args with | [b0] => some (.disableChannel h b0) | _ => none
  | 0x13 => match args with | [b0, b1, b2, b3, b4, b5, b6] => some (.curvePoint h b0 b1 (be3 b2 b3 b4) (be2 b5 b6)) | _ => none
  | 0x14 => match args with | [b0, b1] => some (.commitCurve h b0 b1) | _ => none
  | 0x15 => match args with | [b0] => some (.readChannelSetup h b0 none) | [b0, p] => some (.readChannelSetup h b0 (some p)) | _ => none
  | 0x16 => match args with | [b0] => some (.readChannel h b0 none) | [b0, p] => some (.readChannel h b0 (some p)) | _ => none
  | 0x17 => match args with | [b0, b1] => some (.readCurve h b0 b1 none) | [b0, b1, p] => some (.readCurve h b0 b1 (some p)) | _ => none
  | 0x20 => match args with | [b0, b1, b2, b3, b4, b5, b6, b7, b8, b9] => some (.writeGauge h b0 b1 b2 b3 b4 (be2 b5 b6) b7 (be2 b8 b9)) | _ => none
  | 0x21 => match args with | [b0] => some (.enableGauge h b0) | _ => none
  | 0x22 => match args with | [b0] => some (.disableGauge h b0) | _ => none
  | 0x23 => match args with | [b0] => some (.readGaugeSetup h b0 none) | [b0, p] => some (.readGaugeSetup h b0 (some p)) | _ => none
  | 0x24 => match args with | [b0] => some (.readGauge h b0 none) | [b0, p] => some (.readGauge h b0 (some p)) | _ => none
  | 0x30 => match args with | [b0, b1, b2, b3, b4, b5, b6, b7, b8, b9, b10, b11, b12] => some (.writeTripSetup h b0 b1 b2 b3 (be2 b4 b5) (be2 b6 b7) (be2 b8 b9) (be3 b10 b11 b12)) | _ => none
  | 0x31 => match args with | [] => some (.readTripSetup h none) | [p] => some (.readTripSetup h (some p)) | _ => none
  | 0x32 => match args with | [b0] => some (.readTripFigures h b0 none) | [b0, p] => some (.readTripFigures h b0 (some p)) | _ => none
  | 0x33 => match args with | [b0] => some (.snapshotTrip h b0) | _ => none
  | 0x34 => match args with | [b0] => some (.readTrip h b0) | _ => none
  | 0x35 => match args with | [b0] => some (.resetTrip h b0) | _ => none
  | 0x40 => match args with | [b0] => some (.readStore h b0 none) | [b0, p] => some (.readStore h b0 (some p)) | _ => none
  | 0x41 => match args with | [b0, b1, b2] => some (.storeProgram h b0 (be2 b1 b2)) | _ => none
  | 0x42 => match args with | [b0] => some (.storeErase h b0) | _ => none
  | 0x43 => match args with | [] => some (.readOdometer h none) | [p] => some (.readOdometer h (some p)) | _ => none
  | 0x44 => match args with | [b0, b1, b2] => some (.setOdometer h (be3 b0 b1 b2)) | _ => none
  | 0x50 => match args with | [b0, b1, b2, b3, b4, b5, b6, b7, b8, b9, b10, b11, b12] => some (.writeServiceItem h b0 b1 (be2 b2 b3) (be2 b4 b5) (be2 b6 b7) (be2 b8 b9) (be3 b10 b11 b12)) | _ => none
  | 0x51 => match args with | [b0] => some (.enableServiceItem h b0) | _ => none
  | 0x52 => match args with | [b0] => some (.disableServiceItem h b0) | _ => none
  | 0x53 => match args with | [b0] => some (.readServiceItem h b0 none) | [b0, p] => some (.readServiceItem h b0 (some p)) | _ => none
  | 0x54 => match args with | [b0] => some (.serviceReset h b0) | _ => none
  | 0x60 => match args with | [b0, b1, b2, b3, b4, b5, b6, b7, b8, b9, b10, b11, b12] => some (.writeWarningCondition h b0 b1 b2 (be2 b3 b4) (be2 b5 b6) b7 b8 (be2 b9 b10) b11 b12) | _ => none
  | 0x61 => match args with | [b0, b1, b2, b3, b4, b5, b6, b7, b8] => some (.writeWarningAction h b0 b1 b2 b3 b4 b5 b6 b7 b8) | _ => none
  | 0x62 => match args with | [b0] => some (.enableWarning h b0) | _ => none
  | 0x63 => match args with | [b0] => some (.disableWarning h b0) | _ => none
  | 0x64 => match args with | [b0] => some (.maskWarning h b0) | _ => none
  | 0x65 => match args with | [b0] => some (.unmaskWarning h b0) | _ => none
  | 0x66 => match args with | [b0] => some (.readWarningSetup h b0 none) | [b0, p] => some (.readWarningSetup h b0 (some p)) | _ => none
  | 0x67 => match args with | [b0] => some (.readWarning h b0 none) | [b0, p] => some (.readWarning h b0 (some p)) | _ => none
  | 0x68 => match args with | [] => some (.readLamps h none) | [p] => some (.readLamps h (some p)) | _ => none
  | 0x70 => match args with | [b0, b1, b2, b3, b4, b5] => some (.writeChimeSegment h b0 b1 (be2 b2 b3) b4 b5) | _ => none
  | 0x71 => match args with | [b0, b1, b2] => some (.writeChimePattern h b0 b1 b2) | _ => none
  | 0x72 => match args with | [b0, b1, b2] => some (.writeChimeSetup h b0 b1 b2) | _ => none
  | 0x73 => match args with | [b0, b1] => some (.readChimePattern h b0 b1 none) | [b0, b1, p] => some (.readChimePattern h b0 b1 (some p)) | _ => none
  | 0x74 => match args with | [] => some (.readChimeSetup h none) | [p] => some (.readChimeSetup h (some p)) | _ => none
  | 0x75 => match args with | [] => some (.readChimes h none) | [p] => some (.readChimes h (some p)) | _ => none
  | 0x80 => match args with | [b0, b1, b2, b3, b4, b5, b6, b7, b8, b9, b10, b11] => some (.writeMessage h b0 b1 #v[b2, b3, b4, b5, b6, b7, b8, b9, b10, b11]) | _ => none
  | 0x81 => match args with | [b0] => some (.readMessage h b0 none) | [b0, p] => some (.readMessage h b0 (some p)) | _ => none
  | 0x82 => match args with | [b0, b1, b2, b3, b4, b5, b6] => some (.writeDisplaySetup h b0 b1 b2 (be2 b3 b4) b5 b6) | _ => none
  | 0x83 => match args with | [] => some (.readDisplaySetup h none) | [p] => some (.readDisplaySetup h (some p)) | _ => none
  | 0x84 => match args with | [] => some (.readDisplay h none) | [p] => some (.readDisplay h (some p)) | _ => none
  | 0x90 => match args with | [] => some (.assertHold h) | _ => none
  | 0x91 => match args with | [] => some (.clearHold h) | _ => none
  | 0x92 => match args with | [] => some (.readLoop h none) | [p] => some (.readLoop h (some p)) | _ => none
  | 0xA0 => match args with | [] => some (.readStatus h none) | [p] => some (.readStatus h (some p)) | _ => none
  | 0xA1 => match args with | [b0] => some (.events h b0) | _ => none
  | 0xA2 => match args with | [] => some (.restart h) | _ => none
  | 0xA3 => match args with | [b0, b1, b2] => some (.storeDump h b0 (be2 b1 b2)) | _ => none
  | 0xA4 => match args with | [] => some (.dumpAbort h) | _ => none
  | 0xA5 => match args with | [] => some (.dumpResume h) | _ => none
  | 0xB0 => match args with | [b0, b1, b2, b3, b4] => some (.setClock h (be3 b0 b1 b2) (be2 b3 b4)) | _ => none
  | 0xB1 => match args with | [] => some (.readClock h none) | [p] => some (.readClock h (some p)) | _ => none
  | _ => none

/-- The row that a consumed request's payload spells (R180 checks 1 to 3): UNKNOWN_REQUEST where it is too short, has
an unknown code or a wrong argument length. -/
def decodeRequest (node : Node) (payload : List Byte) : Instr :=
  match payload with
  | code :: seq :: args => (decodeArgs code.toNat ⟨node, seq⟩ args).getD (.unknownRequest node payload)
  | _ => .unknownRequest node payload

/-! ### Fields of the arguments -/

/-- A choice that may be NONE or ANY (FFh): `some none` for FFh, `some (some i)` below `n`, and `none` (out of its
range) otherwise. -/
def choice? (n : Nat) (b : Byte) : Option (Option (Fin n)) :=
  if b = 0xFF then some none else (fin? n b.toNat).map some

/-- The high 12 bits of three bytes (R191). -/
def high12 (x : BitVec 24) : Nat := x.toNat / 4096

/-- The low 12 bits of three bytes (R191). -/
def low12 (x : BitVec 24) : Nat := x.toNat % 4096

end Sys2Proof.Machine
end

