-- ==== Sys2Proof/Machine/Answer.lean ====
section
/-! DEFINITION. How a request is answered (R181): the status and data of a response, and the parts of a paged read. -/

namespace Sys2Proof.Machine

/-- What a request's owner answers: at once with a status and data, or at the end of store work (R182). -/
inductive Answer where
  | now (st : Status) (data : List Byte)
  | later
  deriving DecidableEq, Repr

/-- Answered OK without data. -/
def Answer.done : Answer := .now .ok []

/-- A refusal, which changes nothing and carries no data. -/
def refuse (st : Status) (s : State) : State × Answer := (s, .now st [])

/-- The number of the last part of a content in parts of 11 bytes. -/
def lastPart (content : List Byte) : Nat := (content.length - 1) / 11

/-- Part `p` of a content (R181): the part byte and up to 11 bytes, or BAD_ARGUMENT above the last part. -/
def pageOf (part : Option Byte) (content : List Byte) : Answer :=
  let p := (part.getD 0).toNat
  let last := lastPart content
  if last < p then .now .badArgument []
  else .now .ok (BitVec.ofNat 8 (16 * p + last) :: (content.drop (11 * p)).take 11)

/-- A paged read: it changes nothing. -/
def paged (part : Option Byte) (content : List Byte) (s : State) : State × Answer := (s, pageOf part content)

/-- A paged read of an indexed record: BAD_ARGUMENT for a number outside the table. -/
def pagedAt {n : Nat} (part : Option Byte) (i : Option (Fin n)) (content : Fin n → List Byte) (s : State) :
    State × Answer :=
  match i with
  | some k => paged part (content k) s
  | none => refuse .badArgument s

/-- The response of a request takes the free place that allowed its take (R180, R181); a store request that passed its
checks places none yet (R182). R180 does not say where the response stands among the event frames that the request's own
effect places in the same event: DESIGN CHOICE, the event frames first and the response behind them (log entry 6). -/
def respond (h : Head) (code : Byte) (restart : Bool) (r : State × Answer) : State :=
  match r.2 with
  | .later => r.1
  | .now st data =>
    let (f, s1) := buildResponse { node := h.node, code := code, seq := h.seq } st data r.1
    placeResponse f restart s1

/-- The requester that the handler keeps of an outstanding request (R182). -/
def requesterOf (h : Head) (code : Byte) : Requester := { node := h.node, code := code, seq := h.seq }

end Sys2Proof.Machine
end

