-- ==== Sys2Proof/Machine/HeadRequests.lean ====
section
/-! DEFINITION. The requests of the Chime Generator, the Display Link Controller, the Loop Port, the handler and the
clock (R130 to R133, R144, R145, R162, R176, R178, R183 to R185, R187 to R189, R197). Contents stand in the order of the
owning rule in the encoding of R190: log entry 12. -/

namespace Sys2Proof.Machine

/-! ### Chimes -/

/-- Stores a pattern. -/
def setPattern (k : Fin 16) (x : Pattern) (s : State) : State :=
  { s with chime := { s.chime with patterns := s.chime.patterns.set k x } }

/-- WRITE CHIME SEGMENT (R130). -/
def reqWriteChimeSegment (p slot : Byte) (divisor : Word) (on off : Byte) (s : State) : State × Answer :=
  match fin? 16 p.toNat, fin? 6 (slot.toNat - 1) with
  | some k, some i =>
    if slot = 0 ∨ divisor.toNat < 100 ∨ 2500 < divisor.toNat ∨ on = 0 then refuse .badArgument s
    else if s.chime.inUse k then refuse .inUse s
    else
      let x := s.chime.patterns[k]
      let g : Segment := { divisor := divisor.toNat, onTime := on.toNat, offTime := off.toNat }
      (setPattern k { x with slots := x.slots.set i (some g) } s, .done)
  | _, _ => refuse .badArgument s

/-- WRITE CHIME PATTERN (R131). -/
def reqWriteChimePattern (p repeats segments : Byte) (s : State) : State × Answer :=
  match fin? 16 p.toNat with
  | none => refuse .badArgument s
  | some k =>
    let x := s.chime.patterns[k]
    if 15 < repeats.toNat ∨ 6 < segments.toNat then refuse .badArgument s
    else if s.chime.inUse k then refuse .inUse s
    else if (x.slots.toList.take segments.toNat).any Option.isNone then refuse .badArgument s
    else (setPattern k { x with repeats := repeats.toNat, segments := segments.toNat } s, .done)

/-- WRITE CHIME SETUP (R132). -/
def reqWriteChimeSetup (tickChannel tickPattern answerPattern : Byte) (s : State) : State × Answer :=
  match choice? 48 tickChannel, fin? 16 tickPattern.toNat, choice? 16 answerPattern with
  | some c, some p, some a =>
    let x : ChimeSetup := { written := true, tickChannel := c, tickPattern := p, answerPattern := a }
    ({ s with chime := { s.chime with setup := x } }, .done)
  | _, _, _ => refuse .badArgument s

/-- The content of READ CHIME PATTERN (R133). -/
def State.patternContent (s : State) (k : Fin 16) (i : Fin 6) : List Byte :=
  let x := s.chime.patterns[k]
  enc1 x.repeats ++ enc1 x.segments ++ encBool (s.chime.inUse k) ++
    encMarked 4 (fun (g : Segment) => enc2 g.divisor ++ enc1 g.onTime ++ enc1 g.offTime) x.slots[i]

/-- READ CHIME PATTERN (R133). -/
def reqReadChimePattern (p slot : Byte) (part : Option Byte) (s : State) : State × Answer :=
  match fin? 6 (slot.toNat - 1) with
  | some i =>
    if slot = 0 then refuse .badArgument s else pagedAt part (fin? 16 p.toNat) (fun k => s.patternContent k i) s
  | none => refuse .badArgument s

/-- The content of READ CHIME SETUP (R133). -/
def ChimeSetup.content (x : ChimeSetup) : List Byte :=
  encBool x.written ++ encChoice (x.tickChannel.map Fin.val) ++ enc1 x.tickPattern.val ++
    encChoice (x.answerPattern.map Fin.val)

/-- READ CHIME SETUP (R133). -/
def reqReadChimeSetup (part : Option Byte) (s : State) : State × Answer := paged part s.chime.setup.content s

/-- The rank of a request as its warning's priority and number; REAR_CALL has neither (log entry 13). -/
def rankContent (r : ChimeRequest) : List Byte :=
  match r.origin with
  | .warning w => enc1 (r.rank / 32) ++ enc1 w.val
  | .rearCall => [Config.rearCallRank 0, Config.rearCallRank 1]

/-- A queued request in READ CHIMES (R133, R134). -/
def Chime.requestContent (c : Chime) (r : ChimeRequest) : List Byte :=
  (match r.origin with | .warning w => enc1 w.val | .rearCall => [Config.rearCallOrigin]) ++ enc1 (zoneCode r.zone) ++
    enc1 r.pattern.val ++ rankContent r ++
    (match r.repeatsLeft with | some n => enc1 n | none => [Config.untilReleased]) ++ encBool r.released ++
    encBool (c.isPlaying r)

/-- A player in READ CHIMES (R133): its state, what it plays, the segment number and the divisor in force, the last two
marked since they may be absent. A playing request's place in the queue counts from 0: DESIGN CHOICE, log entry 34. -/
def Chime.playerContent (c : Chime) (z : Zone) : List Byte :=
  let p := c.player z
  let playing : List Byte :=
    match p.current with
    | .nothing => [Config.playingNothing]
    | .tick _ => [Config.playingTick]
    | .request o => enc1 (c.queue.findIdx (fun r => r.origin = o ∧ r.zone = z))
  enc1 p.state.code ++ playing ++ encMarked 1 enc1 (if p.state = .silent then none else some p.segment) ++
    encMarked 2 enc2 p.counter

/-- The content of READ CHIMES (R133). -/
def Chime.content (c : Chime) : List Byte :=
  enc1 c.queue.length ++ c.queue.flatMap c.requestContent ++ c.playerContent .front ++ c.playerContent .rear

/-- READ CHIMES (R133). -/
def reqReadChimes (part : Option Byte) (s : State) : State × Answer := paged part s.chime.content s

/-! ### Messages and the display -/

/-- A character of the codes 20h–5Fh. -/
def goodChar (b : Byte) : Bool := decide (0x20 ≤ b.toNat) && decide (b.toNat ≤ 0x5F)

/-- A message with one chunk of ten characters replaced (R144). -/
def replaceChunk (m : List Byte) (chunk : Byte) (chars : List Byte) : List Byte :=
  if chunk = 0 then chars ++ m.drop 10 else m.take 10 ++ chars

/-- WRITE MESSAGE (R144). -/
def reqWriteMessage (message chunk : Byte) (chars : Vector Byte 10) (s : State) : State × Answer :=
  match fin? 64 message.toNat with
  | none => refuse .badArgument s
  | some m =>
    if 1 < chunk.toNat ∨ ¬ chars.toList.all goodChar then refuse .badArgument s
    else
      let text := replaceChunk s.display.messages[m] chunk chars.toList
      (rebuild { s with display := { s.display with messages := s.display.messages.set m text } }, .done)

/-- READ MESSAGE (R144). -/
def reqReadMessage (message : Byte) (part : Option Byte) (s : State) : State × Answer :=
  pagedAt part (fin? 64 message.toNat) (fun m => s.display.messages[m]) s

/-- WRITE DISPLAY SETUP (R145). -/
def reqWriteDisplaySetup (button temperature offDelay : Byte) (idleTime : Word) (mcBrightness rpBrightness : Byte)
    (s : State) : State × Answer :=
  match choice? 48 button, choice? 48 temperature with
  | some b, some t =>
    if offDelay.toNat ≤ 120 ∧ 10 ≤ idleTime.toNat ∧ idleTime.toNat ≤ 600 ∧ mcBrightness.toNat ≤ 3 ∧
        rpBrightness.toNat ≤ 3 then
      (writeDisplay { button := b, temperature := t, offDelay := offDelay.toNat, idleTime := idleTime.toNat,
                      mcBrightness := mcBrightness.toNat, rpBrightness := rpBrightness.toNat } s, .done)
    else refuse .badArgument s
  | _, _ => refuse .badArgument s

/-- The content of READ DISPLAY SETUP (R145). -/
def State.displaySetupContent (s : State) : List Byte :=
  let f := s.displaySetup
  encBool s.display.setup.isSome ++ encChoice (f.button.map Fin.val) ++ encChoice (f.temperature.map Fin.val) ++
    enc1 f.offDelay ++ enc2 f.idleTime ++ enc1 f.mcBrightness ++ enc1 f.rpBrightness

/-- READ DISPLAY SETUP (R145). -/
def reqReadDisplaySetup (part : Option Byte) (s : State) : State × Answer := paged part s.displaySetupContent s

/-- A queued packet by its kind and item; FFh for a packet of no item. The kind is the packet's own kind byte, 02h to 06h:
DESIGN CHOICE, log entry 34. -/
def Packet.content (p : Packet) : List Byte :=
  [p.kind] ++ (match p with | .item i => enc1 i.code | .poll => [0xFF] | .answered => [0xFF])

def DisplayTx.code : DisplayTx → Nat
  | .idle => 0
  | .sending _ _ => 1
  | .listening => 2

/-- The press record in READ DISPLAY (R152, R162): its page, its state, and the time left on each of its two timers, for
which R162 names no unit (log entry 13). -/
def Press.content (p : Press) : List Byte :=
  let left (t : Timer) : List Byte := encMarked 2 (fun ms => encWord (Config.pressTimerLeft ms)) t
  enc1 p.page ++ enc1 p.state.code ++ left p.timer2 ++ left p.timer5

/-- The content of READ DISPLAY (R162). An INVALID clock reads as in its packet, FFFFh: DESIGN CHOICE, log entry 34. -/
def Display.content (d : Display) : List Byte :=
  enc1 d.link.code ++ enc1 d.tx.code ++ enc1 (if d.present then 0 else 1) ++ enc1 d.missed ++
    enc1 ((if d.call then 1 else 0) + (if d.journey then 2 else 0)) ++ enc1 d.page ++ encBool d.blanked ++
    encMarked 2 (fun ms => encWord (Config.mcOffLeft ms)) d.offTimer ++
    encMarked 8 Press.content d.press ++
    d.queue.flatMap Packet.content ++ allItems.flatMap (fun i => encBool (d.outstanding.get i)) ++ encBool d.pollWant ++
    encBool d.answerWant ++ allItems.flatMap d.images.content

/-- READ DISPLAY (R162). -/
def reqReadDisplay (part : Option Byte) (s : State) : State × Answer := paged part s.display.content s

/-! ### Loop Port -/

/-- ASSERT HOLD (R176). -/
def reqAssertHold (s : State) : State × Answer := ({ s with loop := s.loop.assertHold }, .done)

/-- CLEAR HOLD (R176). -/
def reqClearHold (s : State) : State × Answer := ({ s with loop := s.loop.clearHold }, .done)

/-- The content of READ LOOP (R178). The nodes of the hold list, which is in no order, stand in that of their adding: DESIGN
CHOICE, log entry 34. -/
def LoopPort.content (l : LoopPort) : List Byte :=
  enc1 l.node.toNat ++ enc1 l.state.code ++ enc1 (if l.asserted then 1 else 0) ++ encBool l.force ++ encBool l.holdSent ++
    enc1 l.flow.code ++ l.holders.flatMap (fun h => enc1 h.node.toNat ++ enc2 (tenthsLeft h.left)) ++
    enc1 l.forwardQ.length ++ enc1 l.tapQ.length ++ enc1 l.requestQ.length ++ enc1 l.insertQ.length ++
    enc1 l.awaiting.length ++ encMarked 2 enc2 (l.awaiting.head?.map Awaiting.left) ++ encBool l.overrun

/-- READ LOOP (R178). -/
def reqReadLoop (part : Option Byte) (s : State) : State × Answer := paged part s.loop.content s

/-! ### Handler -/

/-- The number of enabled warnings in a state (R125). -/
def State.warningsIn (s : State) (st : WarnState) : Nat :=
  s.warnings.entries.toList.countP (fun e => e.enabled && e.state == st)

/-- The masked ones among the enabled warnings that stand (R125). -/
def State.maskedStanding (s : State) : Nat := s.warnings.entries.toList.countP (fun e => e.stands && e.masked)

def DumpState.code : DumpState → Nat
  | .idle => 0
  | .streaming _ => 1
  | .aborted _ => 2

/-- The 14 bytes of READ STATUS (R183). -/
def State.statusContent (s : State) : List Byte :=
  enc1 s.loop.state.code ++ enc1 s.store.ctl.code ++ enc1 (if s.odometer.valid then 0 else 1) ++ encBool s.key.valid ++
    enc1 s.key.state.code ++ enc1 (s.warningsIn .pending) ++ enc1 (s.warningsIn .presented) ++
    enc1 (s.warningsIn .acknowledged) ++ enc1 s.maskedStanding ++ encBool s.loop.overrun ++
    encBool s.handler.eventsLost ++ [s.handler.classes] ++ enc1 s.handler.dump.code ++ enc1 s.handler.events.length

/-- READ STATUS (R183). -/
def reqReadStatus (part : Option Byte) (s : State) : State × Answer := paged part s.statusContent s

/-- EVENTS (R185). -/
def reqEvents (set : Byte) (s : State) : State × Answer :=
  if set.getLsbD 6 ∨ set.getLsbD 7 then refuse .badArgument s
  else ({ s with handler := { s.handler with classes := set } }, .now .ok [set])

/-- RESTART (R184): pending from its take. -/
def reqRestart (s : State) : State × Answer := ({ s with handler := { s.handler with restartPending := true } }, .done)

/-- The next address and the remaining count, as a response carries them (R187, R189). -/
def dumpFigures (next remaining : Nat) : List Byte := enc1 next ++ enc2 remaining

/-- STORE DUMP (R187). -/
def reqStoreDump (h : Head) (start : Byte) (count : Word) (s : State) : State × Answer :=
  if count = 0 ∨ 256 < count.toNat ∨ 256 < start.toNat + count.toNat then refuse .badArgument s
  else
    match s.handler.dump with
    | .streaming _ => refuse .busy s
    | _ =>
      let c : DumpContext := { recipient := h.node, seq := h.seq, next := start.toNat, remaining := count.toNat }
      ({ s with handler := { s.handler with dump := .streaming c } }, .now .ok (dumpFigures c.next c.remaining))

/-- DUMP ABORT (R189). -/
def reqDumpAbort (s : State) : State × Answer :=
  match s.handler.dump with
  | .idle => refuse .invalidState s
  | .streaming c =>
    ({ s with handler := { s.handler with dump := .aborted c } }, .now .ok (dumpFigures c.next c.remaining))
  | .aborted c => (s, .now .ok (dumpFigures c.next c.remaining))

/-- DUMP RESUME (R189). -/
def reqDumpResume (h : Head) (s : State) : State × Answer :=
  match s.handler.dump with
  | .aborted c =>
    ({ s with handler := { s.handler with dump := .streaming { c with recipient := h.node, seq := h.seq } } },
     .now .ok (dumpFigures c.next c.remaining))
  | _ => refuse .invalidState s

/-! ### Clock -/

/-- SET CLOCK (R197). -/
def reqSetClock (seconds : BitVec 24) (day : Word) (s : State) : State × Answer :=
  if 86399 < seconds.toNat then refuse .badArgument s else (setClock seconds.toNat day.toNat s, .done)

/-- A timestamp, with an invalid marker: day number and seconds of the day. -/
def stampContent (t : Option Stamp) : List Byte := encMarked 5 (fun x => enc2 x.day ++ enc3 x.seconds) t

/-- The content of READ CLOCK (R197). -/
def KeyClock.content (k : KeyClock) : List Byte :=
  enc1 (if k.valid then 0 else 1) ++ enc3 k.seconds ++ enc2 k.day ++ enc1 k.state.code ++
    enc1 ((if k.debounced.acc then 1 else 0) + (if k.debounced.ign then 2 else 0) +
      (if k.debounced.start then 4 else 0)) ++
    encBool k.settled ++ encTimer k.settleTimer ++ stampContent k.runStart ++ stampContent k.keyOff

/-- READ CLOCK (R197). -/
def reqReadClock (part : Option Byte) (s : State) : State × Answer := paged part s.key.content s

end Sys2Proof.Machine
end

