-- ==== Sys2Proof/Machine/StoreRequests.lean ====
section
/-! DEFINITION. The requests of the store, the Odometer, the Service Reminder and the Warning Controller (R74 to R76,
R83, R89, R93 to R95, R100, R108 to R113, R126). Contents stand in the order of the owning rule in the encoding of R190:
log entry 12. -/

namespace Sys2Proof.Machine

/-! ### Store -/

/-- A store address of one byte. -/
def addrOf (b : Byte) : Fin 256 := ⟨b.toNat, b.isLt⟩

/-- The content of READ STORE (R74): the read status, the word when it is OK, the sector's flags, the controller. -/
def State.storeContent (s : State) (a : Fin 256) : List Byte :=
  let r := s.store.readWord a
  let f := s.sector (sectorOf a)
  [r.1.code] ++ encMarked 2 encWord (if r.1 = .ok then some r.2 else none) ++ encBool f.bad ++ encBool f.worn ++
    encBool f.erasedKnown ++ enc1 s.store.ctl.code

/-- READ STORE (R74). -/
def reqReadStore (addr : Byte) (part : Option Byte) (s : State) : State × Answer :=
  paged part (s.storeContent (addrOf addr)) s

/-- STORE PROGRAM (R75). -/
def reqStoreProgram (h : Head) (addr : Byte) (value : Word) (s : State) : State × Answer :=
  let a := addrOf addr
  if a.val < 192 then refuse .isProtected s
  else if s.handler.ext.isSome then refuse .busy s
  else if (s.sector (sectorOf a)).bad then refuse .failed s
  else
    (settle { s with
      handler := { s.handler with ext := some (.program a), extRequester := some (requesterOf h 0x41) },
      store := s.store.place .external (.program a value) }, .later)

/-- STORE ERASE (R76): the sectors of 0–5 are dropped; with every remaining sector BAD it is answered at once. -/
def reqStoreErase (h : Head) (sectors : Byte) (s : State) : State × Answer :=
  let rest := sectors &&& 0xC0
  if sectors = 0 then refuse .badArgument s
  else if rest = 0 then refuse .isProtected s
  else if s.handler.ext.isSome then refuse .busy s
  else if (sectorsOf rest).all (fun k => (s.sector k).bad) then (s, .now .failed (eraseBytes sectors []))
  else
    (settle { s with
      handler := { s.handler with ext := some (.erase sectors), extRequester := some (requesterOf h 0x42) },
      store := s.store.place .external (.erase rest) }, .later)

/-- A byte of READ ODOMETER that R79 gives no value while INVALID: free there (log entry 13). -/
def State.odometerBytes (s : State) (first : Nat) (bytes : List Byte) : List Byte :=
  if s.odometer.valid then bytes
  else (List.range bytes.length).map (fun i => Config.invalidOdometerByte (first + i))

/-- The content of READ ODOMETER (R83). -/
def State.odometerContent (s : State) : List Byte :=
  let o := s.odometer
  let f := s.sector s.spare
  enc1 (if o.valid then 0 else 1) ++ encMarked 3 enc3 s.shown ++ s.odometerBytes 0 (enc3 o.stored) ++ enc2 o.pending ++
    enc1 o.residue ++ s.odometerBytes 3 (enc1 o.active.val ++ enc2 o.cleared) ++
    s.odometerBytes 6 (encBool f.erasedKnown ++ encBool f.worn ++ encBool f.bad) ++ encBool o.rotation.isSome ++
    encBool o.fault

/-- READ ODOMETER (R83). -/
def reqReadOdometer (part : Option Byte) (s : State) : State × Answer := paged part s.odometerContent s

/-- SET ODOMETER (R89). -/
def reqSetOdometer (h : Head) (value : BitVec 24) (s : State) : State × Answer :=
  if odometerLimit < value.toNat then refuse .badArgument s
  else if s.odometer.valid then refuse .invalidState s
  else if s.odometer.setting.isSome then refuse .busy s
  else if (s.sector 0).bad ∧ (s.sector 1).bad then refuse .failed s
  else
    (settle { s with
      handler := { s.handler with setRequester := some (requesterOf h 0x44) },
      odometer := { s.odometer with setting := some { value := value.toNat, phase := .obsolete } } }, .later)

/-! ### Service items -/

/-- The loaded fields that WRITE SERVICE ITEM stores over an item, or `none` where one is out of range (R93 check 2). -/
def serviceFields (it : ServiceItem) (message : Byte) (intervalKm intervalDays advanceKm overdueKm : Word)
    (advOverDays : BitVec 24) : Option ServiceItem :=
  match choice? 64 message with
  | none => none
  | some m =>
    let adv := high12 advOverDays
    let overdue := low12 advOverDays
    if intervalDays.toNat ≤ 1095 ∧ adv ≤ 365 ∧ overdue ≤ 365 ∧ ¬(intervalKm = 0 ∧ intervalDays = 0) then
      some { it with written := true, message := m, intervalKm := intervalKm.toNat, intervalDays := intervalDays.toNat,
                     advanceKm := advanceKm.toNat, advanceDays := adv, overdueKm := overdueKm.toNat, overdueDays := overdue }
    else none

/-- WRITE SERVICE ITEM (R93): an enabled item is evaluated at once. -/
def reqWriteServiceItem (item message : Byte) (intervalKm intervalDays advanceKm overdueKm : Word)
    (advOverDays : BitVec 24) (s : State) : State × Answer :=
  match fin? 8 item.toNat with
  | none => refuse .badArgument s
  | some i =>
    match serviceFields s.service.items[i] message intervalKm intervalDays advanceKm overdueKm advOverDays with
    | none => refuse .badArgument s
    | some it => (evaluateItem i (s.setItem i it), .done)

/-- ENABLE SERVICE ITEM (R94). -/
def reqEnableServiceItem (item : Byte) (s : State) : State × Answer :=
  match fin? 8 item.toNat with
  | none => refuse .badArgument s
  | some i =>
    let it := s.service.items[i]
    if it.written = false then refuse .invalidState s
    else if it.enabled then (s, .done)
    else (evaluateItem i (s.setItem i { it with enabled := true }), .done)

/-- DISABLE SERVICE ITEM (R94). -/
def reqDisableServiceItem (item : Byte) (s : State) : State × Answer :=
  match fin? 8 item.toNat with
  | none => refuse .badArgument s
  | some i =>
    let it := s.service.items[i]
    if it.enabled then
      (noteStage i it.stage .notDue
        (s.setItem i { it with enabled := false, stage := .notDue, remainingKm := none, remainingDays := none }), .done)
    else (s, .done)

/-- The content of READ SERVICE ITEM (R95). -/
def ServiceItem.content (it : ServiceItem) : List Byte :=
  encBool it.written ++ encBool it.enabled ++ encChoice (it.message.map Fin.val) ++ enc2 it.intervalKm ++
    enc2 it.intervalDays ++ enc2 it.advanceKm ++ enc2 it.advanceDays ++ enc2 it.overdueKm ++ enc2 it.overdueDays ++
    encMarked 5 (fun r => enc3 r.1 ++ enc2 r.2) it.record ++ enc1 it.stage.code ++ encMarked 3 enc3i it.remainingKm ++
    encMarked 3 enc3i it.remainingDays

/-- READ SERVICE ITEM (R95). -/
def reqReadServiceItem (item : Byte) (part : Option Byte) (s : State) : State × Answer :=
  pagedAt part (fin? 8 item.toNat) (fun i => (s.service.items[i]).content) s

/-- SERVICE RESET (R100). -/
def reqServiceReset (item : Byte) (s : State) : State × Answer :=
  match fin? 8 item.toNat with
  | none => refuse .badArgument s
  | some i =>
    if (s.service.items[i]).enabled ∧ s.mayReset i then (settle (takeServiceReset i .request s), .done)
    else refuse .invalidState s

/-! ### Warnings -/

/-- The number of subjects that a kind can name (R104). -/
def WarnKind.subjects : WarnKind → Nat
  | .high | .low | .discreteOn | .discreteOff | .stale => 48
  | .service => 8
  | .system => 5

/-- The bytes of WRITE WARNING CONDITION as the condition half, or `none` where a check of R108 fails. A field that its
kind does not use is kept as it stands (R190). -/
def conditionFields (kind subject : Byte) (threshold hysteresis : Word) (counts keyGate : Byte) (speedGate : Word)
    (staleAction minStage : Byte) : Option WarnCondition :=
  match WarnKind.ofCode kind.toNat, KeyGate.ofCode keyGate.toNat with
  | some k, some g =>
    let qualify := counts.toNat / 16
    let clear := counts.toNat % 16
    let ok : Bool :=
      decide (subject.toNat < k.subjects) && decide (speedGate.toNat ≤ 32767) &&
        (if k.isSampled then decide (1 ≤ qualify) && decide (1 ≤ clear) && decide (staleAction.toNat ≤ 2) else true) &&
        (if k = .high ∨ k = .low then decide (hysteresis.toNat ≤ 32767) else true) &&
        (if k = .service then decide (minStage.toNat ≤ 2) else true)
    if ok then
      some { kind := k, subject := subject.toNat, threshold := threshold.toInt, hysteresis := hysteresis.toNat,
             qualify := qualify, clear := clear, keyGate := g, speedGate := speedGate.toNat,
             staleAction := staleAction, minStage := minStage }
    else none
  | _, _ => none

/-- WRITE WARNING CONDITION (R108). -/
def reqWriteWarningCondition (w kind subject : Byte) (threshold hysteresis : Word) (counts keyGate : Byte)
    (speedGate : Word) (staleAction minStage : Byte) (s : State) : State × Answer :=
  match fin? 32 w.toNat with
  | none => refuse .badArgument s
  | some i =>
    if (s.warnings.entries[i]).enabled then refuse .inUse s
    else
      match conditionFields kind subject threshold hysteresis counts keyGate speedGate staleAction minStage with
      | none => refuse .badArgument s
      | some c => (s.setWarning i { s.warnings.entries[i] with condition := some c }, .done)

/-- The bytes of WRITE WARNING ACTION as the action half, or `none` where a check of R109 fails. -/
def actionFields (priority latch chime message lamp routing present remind : Byte) : Option WarnAction :=
  match LatchMode.ofCode latch.toNat, Routing.ofCode routing.toNat, choice? 16 chime, choice? 64 message,
    choice? 12 lamp with
  | some l, some r, some c, some m, some la =>
    if priority.toNat ≤ 7 ∧ present.toNat ≤ 15 then
      some { priority := priority.toNat, latch := l, chime := c, message := m, lamp := la, routing := r,
             present := present.toNat, remind := remind.toNat }
    else none
  | _, _, _, _, _ => none

/-- WRITE WARNING ACTION (R109). -/
def reqWriteWarningAction (w priority latch chime message lamp routing present remind : Byte) (s : State) :
    State × Answer :=
  match fin? 32 w.toNat with
  | none => refuse .badArgument s
  | some i =>
    if (s.warnings.entries[i]).enabled then refuse .inUse s
    else
      match actionFields priority latch chime message lamp routing present remind with
      | none => refuse .badArgument s
      | some a => (s.setWarning i { s.warnings.entries[i] with action := some a }, .done)

/-- ENABLE WARNING (R110). -/
def reqEnableWarning (w : Byte) (s : State) : State × Answer :=
  match fin? 32 w.toNat with
  | none => refuse .badArgument s
  | some i =>
    let e := s.warnings.entries[i]
    if e.condition.isNone ∨ e.action.isNone then refuse .invalidState s
    else if e.enabled then (s, .done)
    else (enableWarning i s, .done)

/-- DISABLE WARNING (R111). -/
def reqDisableWarning (w : Byte) (s : State) : State × Answer :=
  match fin? 32 w.toNat with
  | none => refuse .badArgument s
  | some i => if (s.warnings.entries[i]).enabled then (disableWarning i s, .done) else (s, .done)

/-- MASK WARNING (R112). -/
def reqMaskWarning (w : Byte) (s : State) : State × Answer :=
  match fin? 32 w.toNat with
  | none => refuse .badArgument s
  | some i => if (s.warnings.entries[i]).masked then (s, .done) else (maskWarning i s, .done)

/-- UNMASK WARNING (R112). -/
def reqUnmaskWarning (w : Byte) (s : State) : State × Answer :=
  match fin? 32 w.toNat with
  | none => refuse .badArgument s
  | some i => if (s.warnings.entries[i]).masked then (unmaskWarning i s, .done) else (s, .done)

/-- A condition half in a read; an unwritten one reads as zero (R104, R113). -/
def conditionContent : Option WarnCondition → List Byte
  | none => List.replicate 13 0
  | some c =>
    enc1 c.kind.code ++ enc1 c.subject ++ enc2i c.threshold ++ enc2 c.hysteresis ++ enc1 c.qualify ++ enc1 c.clear ++
      enc1 c.keyGate.code ++ enc2 c.speedGate ++ [c.staleAction, c.minStage]

/-- An action half in a read; an unwritten one reads as zero and NONE (R105, R113). -/
def actionContent : Option WarnAction → List Byte
  | none => [0, 0, 0xFF, 0xFF, 0xFF, 0, 0, 0]
  | some a =>
    enc1 a.priority ++ enc1 a.latch.code ++ encChoice (a.chime.map Fin.val) ++ encChoice (a.message.map Fin.val) ++
      encChoice (a.lamp.map Fin.val) ++ enc1 a.routing.code ++ enc1 a.present ++ enc1 a.remind

/-- The content of READ WARNING SETUP (R113). -/
def Warning.setupContent (e : Warning) : List Byte :=
  encBool e.condition.isSome ++ encBool e.action.isSome ++ encBool e.enabled ++ conditionContent e.condition ++
    actionContent e.action

/-- READ WARNING SETUP (R113). -/
def reqReadWarningSetup (w : Byte) (part : Option Byte) (s : State) : State × Answer :=
  pagedAt part (fin? 32 w.toNat) (fun i => (s.warnings.entries[i]).setupContent) s

/-- The content of READ WARNING (R113). TRUE and MET are 00h: DEDUCED, log entry 15. -/
def Warning.content (e : Warning) : List Byte :=
  enc1 e.state.code ++ encBool e.masked ++ encTrueFalse e.holds ++ encTrueFalse e.gate ++ enc1 e.qualifyCount ++
    enc1 e.clearCount ++ enc1 ((if e.markFront then 1 else 0) + (if e.markRear then 2 else 0)) ++
    encTimer e.presentTimer ++ encTimer e.remindTimer

/-- READ WARNING (R113). -/
def reqReadWarning (w : Byte) (part : Option Byte) (s : State) : State × Answer :=
  pagedAt part (fin? 32 w.toNat) (fun i => (s.warnings.entries[i]).content) s

/-- The content of READ LAMPS (R126): one byte a lamp, 01h for lit, then the bulb check's byte. The encoding of the twelve
states is DESIGN CHOICE: log entry 34. -/
def State.lampsContent (s : State) : List Byte :=
  (List.finRange 12).flatMap (fun l => encBool (s.lampLit l)) ++ encBool s.warnings.bulbCheck.isSome

/-- READ LAMPS (R126). -/
def reqReadLamps (part : Option Byte) (s : State) : State × Answer := paged part s.lampsContent s

end Sys2Proof.Machine
end

