-- ==== Sys2Proof/Machine/TableRequests.lean ====
section
/-! DEFINITION. The requests of the Channel Table, the Gauge Drive and the Trip Computer (R4 to R9, R25 to R28, R41, R42,
R56 to R59): checks in the order of the rules, then the effect. Contents stand in the order of the owning rule in the
encoding of R190: log entry 12. -/

namespace Sys2Proof.Machine

/-! ### Channels and curves -/

/-- The bytes of WRITE CHANNEL as the loaded fields, or `none` where a field is out of its range (R4 check 3). -/
def channelFields (tag origin kind offset bit curve timeout shift debounce : Byte) : Option ChanSetup :=
  match ChanKind.ofCode kind.toNat, choice? 16 origin, choice? 16 curve with
  | some k, some o, some c =>
    let wide : Bool := match k with | .analogU16 | .analogS16 | .rolling => true | _ => false
    let ok : Bool :=
      decide (tag.toNat < 0xE0) && decide (offset.toNat ≤ if wide then 13 else 14) &&
        (if k.isAnalog then decide (shift.toNat ≤ 6) else c.isNone) &&
        (if k = .discrete then decide (bit.toNat ≤ 7) && decide (1 ≤ debounce.toNat) && decide (debounce.toNat ≤ 7)
         else true)
    if ok then
      some { tag := tag, origin := o.map (fun n => BitVec.ofNat 4 n.val), kind := k, offset := offset.toNat,
             bit := bit.toNat, curve := c, timeout := timeout.toNat, shift := shift.toNat,
             debounce := debounce.toNat }
    else none
  | _, _, _ => none

/-- WRITE CHANNEL (R4). -/
def reqWriteChannel (ch tag origin kind offset bit curve timeout shift debounce : Byte) (s : State) : State × Answer :=
  match fin? 48 ch.toNat with
  | none => refuse .badArgument s
  | some c =>
    if (s.channels[c]).enabled then refuse .inUse s
    else
      match channelFields tag origin kind offset bit curve timeout shift debounce with
      | none => refuse .badArgument s
      | some f => (s.setChannel c { s.channels[c] with setup := some f }, .done)

/-- An analog entry names a curve that is not VALID (R5). -/
def State.curveMissing (s : State) (f : ChanSetup) : Bool :=
  f.kind.isAnalog && (match f.curve with | some k => (s.curves[k]).state != .valid | none => false)

/-- ENABLE CHANNEL (R5). -/
def reqEnableChannel (ch : Byte) (s : State) : State × Answer :=
  match fin? 48 ch.toNat with
  | none => refuse .badArgument s
  | some c =>
    match (s.channels[c]).setup with
    | none => refuse .invalidState s
    | some f =>
      if s.curveMissing f then refuse .invalidState s
      else if (s.channels[c]).enabled then (s, .done)
      else (s.setChannel c { (s.channels[c]).never with enabled := true }, .done)

/-- DISABLE CHANNEL (R6). -/
def reqDisableChannel (ch : Byte) (s : State) : State × Answer :=
  match fin? 48 ch.toNat with
  | none => refuse .badArgument s
  | some c => if (s.channels[c]).enabled then (disableChannel c s, .done) else (s, .done)

/-- An enabled channel or an enabled gauge names the curve (R7, R8). -/
def State.curveInUse (s : State) (k : Fin 16) : Bool :=
  s.channels.toList.any (fun ch => ch.enabled && (match ch.setup with | some f => f.curve == some k | none => false)) ||
    s.gauges.toList.any (fun g => g.enabled && g.setup.curve == k)

/-- CURVE POINT (R7). -/
def reqCurvePoint (curve slot : Byte) (x : BitVec 24) (y : Word) (s : State) : State × Answer :=
  match fin? 16 curve.toNat, fin? 12 (slot.toNat - 1) with
  | some k, some i =>
    if slot = 0 ∨ x.toInt < -32768 ∨ 65535 < x.toInt then refuse .badArgument s
    else if s.curveInUse k then refuse .inUse s
    else
      (s.setCurve k { slots := (s.curves[k]).slots.set i (some (x.toInt, y.toInt)), count := 0, state := .editing },
       .done)
  | _, _ => refuse .badArgument s

/-- The first points are all present, with X strictly increasing (R8). -/
def pointsGood : List (Option (Int × Int)) → Bool
  | some (x1, _) :: some (x2, y2) :: r => decide (x1 < x2) && pointsGood (some (x2, y2) :: r)
  | [some _] => true
  | [] => true
  | _ => false

/-- COMMIT CURVE (R8). -/
def reqCommitCurve (curve count : Byte) (s : State) : State × Answer :=
  match fin? 16 curve.toNat with
  | none => refuse .badArgument s
  | some k =>
    let n := count.toNat
    if s.curveInUse k then refuse .inUse s
    else if 2 ≤ n ∧ n ≤ 12 ∧ pointsGood ((s.curves[k]).slots.toList.take n) then
      (s.setCurve k { s.curves[k] with count := n, state := .valid }, .done)
    else refuse .badArgument s

/-- The content of READ CHANNEL SETUP (R9). -/
def Channel.setupContent (ch : Channel) : List Byte :=
  match ch.setup with
  | none => encBool false ++ List.replicate 10 0
  | some f =>
    encBool true ++ encBool ch.enabled ++ [f.tag] ++ encChoice (f.origin.map BitVec.toNat) ++ enc1 f.kind.code ++
      enc1 f.offset ++ enc1 f.bit ++ encChoice (f.curve.map Fin.val) ++ enc1 f.timeout ++ enc1 f.shift ++ enc1 f.debounce

/-- READ CHANNEL SETUP (R9). -/
def reqReadChannelSetup (ch : Byte) (part : Option Byte) (s : State) : State × Answer :=
  pagedAt part (fin? 48 ch.toNat) (fun c => (s.channels[c]).setupContent) s

/-- The content of READ CHANNEL (R9). -/
def Channel.content (ch : Channel) : List Byte :=
  enc1 ch.state.code ++ encMarked 2 enc2i ch.value ++ encBool ch.limited ++ enc1 (if ch.candLevel then 1 else 0) ++
    enc1 ch.candCount ++ encMarked 2 enc2 ch.raw

/-- READ CHANNEL (R9). -/
def reqReadChannel (ch : Byte) (part : Option Byte) (s : State) : State × Answer :=
  pagedAt part (fin? 48 ch.toNat) (fun c => (s.channels[c]).content) s

/-- The content of READ CURVE (R9). -/
def Curve.content (c : Curve) (i : Fin 12) : List Byte :=
  enc1 c.state.code ++ enc1 c.count ++ encMarked 5 (fun p => enc3i p.1 ++ enc2i p.2) c.slots[i]

/-- READ CURVE (R9). -/
def reqReadCurve (curve slot : Byte) (part : Option Byte) (s : State) : State × Answer :=
  match fin? 12 (slot.toNat - 1) with
  | some i =>
    if slot = 0 then refuse .badArgument s
    else pagedAt part (fin? 16 curve.toNat) (fun k => (s.curves[k]).content i) s
  | none => refuse .badArgument s

/-! ### Gauges -/

/-- The bytes of WRITE GAUGE as the loaded fields, or `none` where a field is out of its range (R25 check 3, R191). -/
def gaugeFields (source curve damping slew : Byte) (park : Word) (flags : Byte) (dial : Word) : Option GaugeSetup :=
  match fin? 48 source.toNat, fin? 16 curve.toNat with
  | some c, some k =>
    if damping.toNat ≤ 5 ∧ slew ≠ 0 ∧ park.toNat ≤ 1023 ∧ 90 ≤ dial.toNat ∧ dial.toNat ≤ 330 ∧ flags.toNat < 32 then
      some { source := c, curve := k, damping := damping.toNat, slew := slew.toNat, park := park.toNat,
             stalePark := flags.getLsbD 0, sweep := flags.getLsbD 1, fastSettle := flags.getLsbD 2,
             dial := dial.toNat, sineInverted := flags.getLsbD 3, cosineInverted := flags.getLsbD 4 }
    else none
  | _, _ => none

/-- WRITE GAUGE (R25). -/
def reqWriteGauge (g source curve damping slew : Byte) (park : Word) (flags : Byte) (dial : Word) (s : State) :
    State × Answer :=
  match fin? 6 g.toNat with
  | none => refuse .badArgument s
  | some i =>
    if (s.gauges[i]).enabled then refuse .inUse s
    else
      match gaugeFields source curve damping slew park flags dial with
      | none => refuse .badArgument s
      | some f => (s.setGauge i ((s.gauges[i]).write f), .done)

/-- ENABLE GAUGE (R26). -/
def reqEnableGauge (g : Byte) (s : State) : State × Answer :=
  match fin? 6 g.toNat with
  | none => refuse .badArgument s
  | some i =>
    let x := s.gauges[i]
    if x.written = false then refuse .invalidState s
    else if (s.curves[x.setup.curve]).state ≠ .valid then refuse .invalidState s
    else if x.enabled then (s, .done)
    else (s.setGauge i (s.enabledGauge x), .done)

/-- DISABLE GAUGE (R27). -/
def reqDisableGauge (g : Byte) (s : State) : State × Answer :=
  match fin? 6 g.toNat with
  | none => refuse .badArgument s
  | some i => if (s.gauges[i]).enabled then (s.setGauge i (s.gauges[i]).disable, .done) else (s, .done)

/-- The content of READ GAUGE SETUP (R28). -/
def Gauge.setupContent (g : Gauge) : List Byte :=
  let f := g.setup
  encBool g.written ++ encBool g.enabled ++ enc1 f.source.val ++ enc1 f.curve.val ++ enc1 f.damping ++ enc1 f.slew ++
    enc2 f.park ++ encBool f.stalePark ++ encBool f.sweep ++ encBool f.fastSettle ++ enc2 f.dial ++
    encBool f.sineInverted ++ encBool f.cosineInverted

/-- READ GAUGE SETUP (R28). -/
def reqReadGaugeSetup (g : Byte) (part : Option Byte) (s : State) : State × Answer :=
  pagedAt part (fin? 6 g.toNat) (fun i => (s.gauges[i]).setupContent) s

/-- The content of READ GAUGE (R28). -/
def Gauge.content (g : Gauge) : List Byte :=
  enc1 g.state.code ++ enc2 g.position ++ encMarked 2 enc2 g.target ++ encBool g.pending ++ enc2i g.sine ++ enc2i g.cosine

/-- READ GAUGE (R28). -/
def reqReadGauge (g : Byte) (part : Option Byte) (s : State) : State × Answer :=
  pagedAt part (fin? 6 g.toNat) (fun i => (s.gauges[i]).content) s

/-! ### Trip computer -/

/-- The bytes of WRITE TRIP SETUP as the loaded fields, or `none` where a field is out of its range (R41 check 2). -/
def tripFields (distance fuel speed level : Byte) (pulses units maxDelta : Word) (gapDefault : BitVec 24) :
    Option TripSetup :=
  match fin? 48 distance.toNat, fin? 48 fuel.toNat, fin? 48 speed.toNat, fin? 48 level.toNat with
  | some d, some f, some v, some l =>
    let gap := high12 gapDefault
    let default := low12 gapDefault
    if 1000 ≤ pulses.toNat ∧ pulses.toNat ≤ 20000 ∧ 1000 ≤ units.toNat ∧ 1 ≤ maxDelta.toNat ∧ 30 ≤ default ∧
        default ≤ 300 ∧ gap ≤ 1440 then
      some { distance := d, fuel := f, speed := v, level := l, pulsesPerKm := pulses.toNat,
             unitsPerLitre := units.toNat, maxDelta := maxDelta.toNat, defaultConsumption := default, journeyGap := gap }
    else none
  | _, _, _, _ => none

/-- WRITE TRIP SETUP (R41). -/
def reqWriteTripSetup (distance fuel speed level : Byte) (pulses units maxDelta : Word) (gapDefault : BitVec 24)
    (s : State) : State × Answer :=
  if s.key.state = .run then refuse .invalidState s
  else
    match tripFields distance fuel speed level pulses units maxDelta gapDefault with
    | none => refuse .badArgument s
    | some t =>
      ({ s with trip :=
          { s.trip with setup := some t, residueE := 0, residueF := 0, distanceBase := none, fuelBase := none } }, .done)

/-- The content of READ TRIP SETUP (R42): zeros while UNSET. -/
def Trip.setupContent (t : Trip) : List Byte :=
  match t.setup with
  | none => enc1 0 ++ List.replicate 18 0 ++ encMarked 2 enc2 none ++ encMarked 2 enc2 none
  | some f =>
    enc1 1 ++ enc1 f.distance.val ++ enc1 f.fuel.val ++ enc1 f.speed.val ++ enc1 f.level.val ++ enc2 f.pulsesPerKm ++
      enc2 f.unitsPerLitre ++ enc2 f.maxDelta ++ enc2 f.defaultConsumption ++ enc2 f.journeyGap ++ enc2 t.residueE ++
      enc2 t.residueF ++ encMarked 2 enc2 t.distanceBase ++ encMarked 2 enc2 t.fuelBase

/-- READ TRIP SETUP (R42). -/
def reqReadTripSetup (part : Option Byte) (s : State) : State × Answer := paged part s.trip.setupContent s

/-- The content of READ TRIP FIGURES (R56). -/
def State.figuresContent (s : State) (r : Fin 4) : List Byte :=
  let x := s.trip.records[r]
  encMarked 4 enc4 (averageSpeed x) ++ encMarked 2 enc2 (averageConsumption x) ++ encMarked 2 enc2 s.range ++
    encBool x.distance.overflow ++ encBool x.fuel.overflow ++ encBool x.elapsed.overflow ++ encBool x.moving.overflow

/-- READ TRIP FIGURES (R56). -/
def reqReadTripFigures (r : Byte) (part : Option Byte) (s : State) : State × Answer :=
  pagedAt part (fin? 4 r.toNat) s.figuresContent s

/-- SNAPSHOT TRIP (R57): LATCHED 00h, ALREADY_LATCHED 01h. -/
def reqSnapshotTrip (r : Byte) (s : State) : State × Answer :=
  match fin? 4 r.toNat with
  | none => refuse .badArgument s
  | some k =>
    match s.trip.snapshots[k] with
    | some _ => (s, .now .ok [1])
    | none =>
      ({ s with trip := { s.trip with snapshots := s.trip.snapshots.set k (some s.trip.records[k]) } }, .now .ok [0])

/-- The twelve bytes of READ TRIP (R191). -/
def tripBytes (x : TripRecord) (snapshot : Bool) (state : Nat) : List Byte :=
  let bit (b : Bool) (n : Nat) : Nat := if b then 2 ^ n else 0
  enc3 x.distance.value ++ enc3 x.fuel.value ++
    enc3 (bit x.distance.overflow 23 + bit x.fuel.overflow 22 + bit x.elapsed.overflow 21 + bit x.moving.overflow 20 +
      x.elapsed.value) ++
    enc3 (bit snapshot 23 + state * 2 ^ 21 + x.moving.value)

/-- READ TRIP (R58). -/
def reqReadTrip (r : Byte) (s : State) : State × Answer :=
  match fin? 4 r.toNat with
  | none => refuse .badArgument s
  | some k =>
    let state := if k = 3 then s.trip.rear.code else 0
    match s.trip.snapshots[k] with
    | some x =>
      ({ s with trip := { s.trip with snapshots := s.trip.snapshots.set k none } }, .now .ok (tripBytes x true state))
    | none => (s, .now .ok (tripBytes s.trip.records[k] false state))

/-- RESET TRIP (R59). -/
def reqResetTrip (r : Byte) (s : State) : State × Answer :=
  match fin? 4 r.toNat with
  | none => refuse .badArgument s
  | some k => (resetTrip k .request s, .done)

end Sys2Proof.Machine
end

