-- ==== Sys2Proof/Machine/Handler.lean ====
section
/-! DEFINITION. The request handler (R180, R182, R184 to R189): the store dump, the take of a request, the offers of a
free place, and the Loop Port's three events. -/

namespace Sys2Proof.Machine

/-! ### The store dump (R188) -/

/-- Reads up to `n` store words from an address: the words, and the address and status of the word that failed. -/
def dumpWords (x : Store) : Nat → Nat → List Word × Option (Nat × Status)
  | 0, _ => ([], none)
  | n + 1, a =>
    if h : a < 256 then
      let r := x.readWord ⟨a, h⟩
      if r.1 = .ok then
        let rest := dumpWords x n (a + 1)
        (r.2 :: rest.1, rest.2)
      else ([], some (a, r.1))
    else ([], none)

/-- The continuation code of a dump frame (R188): MORE, LAST or LAST_ERROR. -/
def dumpCode (failed : Option (Nat × Status)) (left : Nat) : Byte :=
  if failed.isSome then 2 else if left = 0 then 1 else 0

/-- The payload of a dump frame (section 10.5.4). -/
def dumpPayload (c : DumpContext) (words : List Word) (failed : Option (Nat × Status)) : List Byte :=
  [0xA3, c.seq, dumpCode failed (c.remaining - words.length), BitVec.ofNat 8 c.next] ++ words.flatMap encWord ++
    (match failed with | some (a, st) => [BitVec.ofNat 8 a, st.code] | none => [])

/-- The streaming dump builds one frame of up to five words, when more than 2 places are free (R188). -/
def buildDump (s : State) : State :=
  match s.handler.dump with
  | .streaming c =>
    if s.streamRoom then
      let (words, failed) := dumpWords s.store (min 5 c.remaining) c.next
      let left := c.remaining - words.length
      let dump : DumpState :=
        if failed.isSome ∨ left = 0 then .idle
        else .streaming { c with next := c.next + words.length, remaining := left }
      insertFrame (mkFrame (nodeTag c.recipient) s.loop.node (dumpPayload c words failed)) false
        { s with handler := { s.handler with dump := dump } }
    else s
  | _ => s

/-- Dump frames, at most `n`. -/
def dumpFor : Nat → State → State
  | 0, s => s
  | n + 1, s => dumpFor n (buildDump s)

/-- Dump frames while more than 2 places are free: the stream's own building as STORE DUMP or DUMP RESUME is carried out
(R188). Stream frames can take 6 places at most. -/
def dumpFill (s : State) : State := dumpFor 6 s

/-! ### The take of a request (R180) -/

/-- Carries out one request whole and places its response, and after it the dump frames that the request brings about
(R180, R188). The rows that are no request do nothing here. -/
def serve (i : Instr) (s : State) : State :=
  match i with
  | .powerOnReset _ _ _ => s
  | .loopFrameReceived _ _ _ => s
  | .loopTransmitStart => s
  | .loopFrameSent => s
  | .returnTimerExpiry => s
  | .holdListTimerExpiry _ => s
  | .refreshTimerExpiry => s
  | .broadcastTimerExpiry => s
  | .channelTake => s
  | .freshnessExpiry _ => s
  | .driveUpdate _ => s
  | .keySample _ _ _ => s
  | .settleTimerExpiry => s
  | .secondsEvent => s
  | .bulbCheckExpiry => s
  | .presentTimerExpiry _ => s
  | .remindTimerExpiry _ => s
  | .toneEnd _ => s
  | .gapEnd _ => s
  | .eraseWindowExpiry => s
  | .programEnd _ => s
  | .sectorEraseEnd _ _ => s
  | .suspensionReached => s
  | .scanComplete => s
  | .hold2sExpiry => s
  | .hold5sExpiry => s
  | .notAvailableExpiry => s
  | .mcOffTimerExpiry => s
  | .dlWakeAsserted => s
  | .linkSettleExpiry => s
  | .linkStartSent => s
  | .packetDone => s
  | .packetSent => s
  | .pollTimerExpiry => s
  | .statusReply _ => s
  | .replyWindowExpiry => s
  | .rpIdleTimerExpiry => s
  | .linkShutdownSend => s
  | .linkShutdownSent => s
  | .quietTimerExpiry => s
  | .heldResponsePlaced => s
  | .eventFrameBuild => s
  | .startUpReport => s
  | .dumpFrameBuild => s
  | .restartEffect => s
  | .unknownRequest node payload => respond ⟨node, payload.getD 1 0⟩ (payload.getD 0 0) false (refuse .badRequest s)
  | .writeChannel h ch tag origin kind offset bit curve timeout shift debounce => respond h 0x10 false (reqWriteChannel ch tag origin kind offset bit curve timeout shift debounce s)
  | .enableChannel h ch => respond h 0x11 false (reqEnableChannel ch s)
  | .disableChannel h ch => respond h 0x12 false (reqDisableChannel ch s)
  | .curvePoint h curve slot x y => respond h 0x13 false (reqCurvePoint curve slot x y s)
  | .commitCurve h curve count => respond h 0x14 false (reqCommitCurve curve count s)
  | .readChannelSetup h ch part => respond h 0x15 false (reqReadChannelSetup ch part s)
  | .readChannel h ch part => respond h 0x16 false (reqReadChannel ch part s)
  | .readCurve h curve slot part => respond h 0x17 false (reqReadCurve curve slot part s)
  | .writeGauge h g source curve damping slew park flags dial => respond h 0x20 false (reqWriteGauge g source curve damping slew park flags dial s)
  | .enableGauge h g => respond h 0x21 false (reqEnableGauge g s)
  | .disableGauge h g => respond h 0x22 false (reqDisableGauge g s)
  | .readGaugeSetup h g part => respond h 0x23 false (reqReadGaugeSetup g part s)
  | .readGauge h g part => respond h 0x24 false (reqReadGauge g part s)
  | .writeTripSetup h distance fuel speed level pulses units maxDelta gapDefault => respond h 0x30 false (reqWriteTripSetup distance fuel speed level pulses units maxDelta gapDefault s)
  | .readTripSetup h part => respond h 0x31 false (reqReadTripSetup part s)
  | .readTripFigures h r part => respond h 0x32 false (reqReadTripFigures r part s)
  | .snapshotTrip h r => respond h 0x33 false (reqSnapshotTrip r s)
  | .readTrip h r => respond h 0x34 false (reqReadTrip r s)
  | .resetTrip h r => respond h 0x35 false (reqResetTrip r s)
  | .readStore h addr part => respond h 0x40 false (reqReadStore addr part s)
  | .storeProgram h addr value => respond h 0x41 false (reqStoreProgram h addr value s)
  | .storeErase h sectors => respond h 0x42 false (reqStoreErase h sectors s)
  | .readOdometer h part => respond h 0x43 false (reqReadOdometer part s)
  | .setOdometer h value => respond h 0x44 false (reqSetOdometer h value s)
  | .writeServiceItem h item message intervalKm intervalDays advanceKm overdueKm advOverDays => respond h 0x50 false (reqWriteServiceItem item message intervalKm intervalDays advanceKm overdueKm advOverDays s)
  | .enableServiceItem h item => respond h 0x51 false (reqEnableServiceItem item s)
  | .disableServiceItem h item => respond h 0x52 false (reqDisableServiceItem item s)
  | .readServiceItem h item part => respond h 0x53 false (reqReadServiceItem item part s)
  | .serviceReset h item => respond h 0x54 false (reqServiceReset item s)
  | .writeWarningCondition h w kind subject threshold hysteresis counts keyGate speedGate staleAction minStage => respond h 0x60 false (reqWriteWarningCondition w kind subject threshold hysteresis counts keyGate speedGate staleAction minStage s)
  | .writeWarningAction h w priority latch chime message lamp routing present remind => respond h 0x61 false (reqWriteWarningAction w priority latch chime message lamp routing present remind s)
  | .enableWarning h w => respond h 0x62 false (reqEnableWarning w s)
  | .disableWarning h w => respond h 0x63 false (reqDisableWarning w s)
  | .maskWarning h w => respond h 0x64 false (reqMaskWarning w s)
  | .unmaskWarning h w => respond h 0x65 false (reqUnmaskWarning w s)
  | .readWarningSetup h w part => respond h 0x66 false (reqReadWarningSetup w part s)
  | .readWarning h w part => respond h 0x67 false (reqReadWarning w part s)
  | .readLamps h part => respond h 0x68 false (reqReadLamps part s)
  | .writeChimeSegment h p slot divisor on off => respond h 0x70 false (reqWriteChimeSegment p slot divisor on off s)
  | .writeChimePattern h p repeats segments => respond h 0x71 false (reqWriteChimePattern p repeats segments s)
  | .writeChimeSetup h tickChannel tickPattern answerPattern => respond h 0x72 false (reqWriteChimeSetup tickChannel tickPattern answerPattern s)
  | .readChimePattern h p slot part => respond h 0x73 false (reqReadChimePattern p slot part s)
  | .readChimeSetup h part => respond h 0x74 false (reqReadChimeSetup part s)
  | .readChimes h part => respond h 0x75 false (reqReadChimes part s)
  | .writeMessage h message chunk chars => respond h 0x80 false (reqWriteMessage message chunk chars s)
  | .readMessage h message part => respond h 0x81 false (reqReadMessage message part s)
  | .writeDisplaySetup h button temperature offDelay idleTime mcBrightness rpBrightness => respond h 0x82 false (reqWriteDisplaySetup button temperature offDelay idleTime mcBrightness rpBrightness s)
  | .readDisplaySetup h part => respond h 0x83 false (reqReadDisplaySetup part s)
  | .readDisplay h part => respond h 0x84 false (reqReadDisplay part s)
  | .assertHold h => respond h 0x90 false (reqAssertHold s)
  | .clearHold h => respond h 0x91 false (reqClearHold s)
  | .readLoop h part => respond h 0x92 false (reqReadLoop part s)
  | .readStatus h part => respond h 0xA0 false (reqReadStatus part s)
  | .events h set => respond h 0xA1 false (reqEvents set s)
  | .restart h => respond h 0xA2 true (reqRestart s)
  | .storeDump h start count => dumpFill (respond h 0xA3 false (reqStoreDump h start count s))
  | .dumpAbort h => respond h 0xA4 false (reqDumpAbort s)
  | .dumpResume h => dumpFill (respond h 0xA5 false (reqDumpResume h s))
  | .setClock h seconds day => respond h 0xB0 false (reqSetClock seconds day s)
  | .readClock h part => respond h 0xB1 false (reqReadClock part s)
  | .powerLoss _ _ => s

/-- The handler may take a request: a free place, no RESTART pending, and no held response before it (R180, R182). -/
def State.handlerFree (s : State) : Bool :=
  decide (0 < s.freePlaces) && !s.handler.restartPending && s.handler.held.isEmpty

/-- Takes requests, oldest first, while the handler may, at most `fuel` of them. -/
def pumpFor : Nat → State → State
  | 0, s => s
  | fuel + 1, s =>
    match s.loop.requestQ with
    | [] => s
    | f :: rest =>
      if s.handlerFree then
        pumpFor fuel
          (serve (decodeRequest (frameOrigin f) (framePayload f)) { s with loop := { s.loop with requestQ := rest } })
      else s

/-- Takes requests while the handler may. Each take removes one, so that the queue's length bounds them (log entry 24). -/
def pump (s : State) : State := pumpFor s.loop.requestQ.length s

/-- A received frame (R164, R166): a corrupt one acts on nothing, an intact one is treated, and a request that finds the
handler free is taken. -/
def frameReceived (bytes : Frame) (longGap stopMissing : Bool) (s : State) : State :=
  if frameIntact bytes longGap stopMissing then pump (treatFrame bytes s) else s

/-- A request row: the arrival of the request `i` with the payload that `encodeRequest` gives it (log entry 5). One whose
origin is the part itself is stripped (R166); one that finds the handler free is carried out; another waits in the
request queue. -/
def arrive (i : Instr) (s : State) : State :=
  match encodeRequest i with
  | none => s
  | some (node, payload) =>
    if node ≠ s.loop.node ∧ s.loop.requestQ = [] ∧ s.handlerFree then serve i s
    else frameReceived (mkFrame (nodeTag s.loop.node) node payload) false false s

/-! ### The offers of a free place (R171) -/

/-- The oldest held response takes a free place, and the handler goes on (R182). -/
def placeHeld (s : State) : State :=
  match s.handler.held with
  | f :: rest =>
    if 0 < s.freePlaces then pump (insertFrame f false { s with handler := { s.handler with held := rest } }) else s
  | [] => s

/-- Takes requests, oldest first, until one of them has placed a frame: a store request that passes its checks places
none, and the next is taken (R180). DESIGN CHOICE of the extent of a turn: log entry 6. -/
def takeFor : Nat → State → State
  | 0, s => s
  | fuel + 1, s =>
    match s.loop.requestQ with
    | [] => s
    | f :: rest =>
      if s.handlerFree then
        let t := serve (decodeRequest (frameOrigin f) (framePayload f)) { s with loop := { s.loop with requestQ := rest } }
        if s.loop.insertQ.length < t.loop.insertQ.length then t else takeFor fuel t
      else s

/-- The request handler's turn: a held response before any new request (R182). -/
def handlerTurn (s : State) : State :=
  match s.handler.held with
  | f :: rest =>
    if 0 < s.freePlaces then insertFrame f false { s with handler := { s.handler with held := rest } } else s
  | [] => takeFor s.loop.requestQ.length s

/-- The dump context is STREAMING (R187). -/
def DumpState.isStreaming : DumpState → Bool
  | .streaming _ => true
  | .idle | .aborted _ => false

/-- A producer that waits can place: a response or a request any free place, a stream frame more than 2 (R171). -/
def State.producerWaits (s : State) : Bool :=
  (decide (0 < s.freePlaces) &&
    (!s.handler.held.isEmpty || (!s.handler.restartPending && !s.loop.requestQ.isEmpty))) ||
  (s.streamRoom &&
    (s.handler.startUp.isSome || !s.handler.events.isEmpty || s.handler.dump.isStreaming))

/-- One round of the offers, in R171's order, each producer once. DESIGN CHOICE of rounds: log entry 6. -/
def offerRound (s : State) : State := buildDump (buildEvent (buildStartUp (handlerTurn s)))

/-- Rounds of offers until no waiting producer can place, at most `fuel` of them. -/
def offerFor : Nat → State → State
  | 0, s => s
  | fuel + 1, s => if s.producerWaits then offerFor fuel (offerRound s) else s

/-- A place has become free: the waiting producers are offered places until none of them can place (R171). Each round
takes a request or fills a place, which bounds the rounds (log entry 24). -/
def offer (s : State) : State := offerFor (s.loop.requestQ.length + 8) s

/-! ### RESTART (R184) -/

/-- The handler's own restart effect: the start-up report and the enable set are kept. -/
def Handler.restart (h : Handler) : Handler :=
  { h with restartPending := false, extRequester := none, setRequester := none, held := [], events := [],
           eventsLost := false, dump := .idle }

/-- Every block's restart effect, before the take-ups that follow it (R22, R39, R63, R128, R143, R163, R179, R184). -/
def restartBlocks (s : State) : State :=
  let s1 := displayRestart (warningsRestart (tripRestart (gaugeRestart (channelRestart s))))
  { s1 with chime := s1.chime.restart, loop := s1.loop.restart, handler := s1.handler.restart }

/-- RESTART takes effect: the blocks, the held start-up report into the emptied insert queue (R184, R186), then the
Service Reminder's evaluation (R102), the Warning Controller's take-up and its notice (R128), and the display's rebuild
and refill (R163). DESIGN CHOICE of order: log entry 10. Where a notice of the take-up completes the shutdown conditions
(R161), the link becomes SHUTTING_DOWN in that notice, before the refill, which then finds it not ACTIVE and leaves the
wants standing. -/
def restartNow (s : State) : State :=
  let s1 := notifyDisplay false (testGates (evaluateAll (buildStartUp (restartBlocks s))))
  let s2 := rebuild s1
  checkShutdown { s2 with display := s2.display.fillWants }

/-! ### The transmitter's events (R170) -/

/-- A transmission begins; the place that an inserted frame frees is offered to the waiting producers (R171). -/
def transmitStart (s : State) : State :=
  let s1 := { s with loop := s.loop.transmit }
  if s1.loop.insertQ.length < s.loop.insertQ.length then offer s1 else s1

/-- The last byte of a frame has been sent; after the RESTART response the restart takes effect (R170, R184). -/
def frameSent (s : State) : State :=
  let s1 := { s with loop := s.loop.sent }
  if s.loop.sendingRestart then restartNow s1 else s1

/-- RESTART_EFFECT: the last byte of the RESTART response leaves LOOP_OUT (log entry 17). -/
def restartSent (s : State) : State := if s.loop.sendingRestart then frameSent s else s

end Sys2Proof.Machine
end

