-- ==== Sys2Proof/Machine/Power.lean ====
section
/-! DEFINITION. The supply: what a loss of power leaves (R64, R90), power-on reset, and the passing of a millisecond in
which nothing happens (log entry 1). -/

namespace Sys2Proof.Machine

/-- The battery supply is lost: the store keeps what the loss leaves of the operation in progress (R64), and everything
else is lost. -/
def losePower (held : Word) (raised : List Word) (s : State) : State :=
  if s.powered then
    { State.powerOn s.loop.node (s.store.afterLoss held raised) s.pending with powered := false }
  else s

/-- Power-on reset (R86, R90 and each chapter's reset): the straps are read, the store is as the loss of power left it,
and every block is at its power-on value, with the scan under way. -/
def powerOnNow (straps : Node) (held : Word) (raised : List Word) (s : State) : State :=
  State.powerOn straps (if s.powered then s.store.afterLoss held raised else s.store.mem) s.pending

/-! ### Idle time -/

/-- One millisecond off a running timer; at 0 it waits for its expiry to be taken. -/
def tickTimer (t : Timer) : Timer := t.map (· - 1)

def Channel.idle (c : Channel) : Channel := { c with timer := tickTimer c.timer }

def Gauge.idle (g : Gauge) : Gauge := { g with timer := tickTimer g.timer }

def Warning.idle (e : Warning) : Warning :=
  { e with presentTimer := tickTimer e.presentTimer, remindTimer := tickTimer e.remindTimer }

def Warnings.idle (x : Warnings) : Warnings :=
  { x with entries := x.entries.map Warning.idle, bulbCheck := tickTimer x.bulbCheck }

def Player.idle (p : Player) : Player := { p with timer := tickTimer p.timer }

def Chime.idle (c : Chime) : Chime := { c with front := c.front.idle, rear := c.rear.idle }

def Press.idle (p : Press) : Press := { p with timer2 := tickTimer p.timer2, timer5 := tickTimer p.timer5 }

def Display.idle (d : Display) : Display :=
  { d with offTimer := tickTimer d.offTimer, naTimer := tickTimer d.naTimer, press := d.press.map Press.idle,
           settleTimer := tickTimer d.settleTimer, pollTimer := tickTimer d.pollTimer,
           replyWindow := tickTimer d.replyWindow, idleTimer := tickTimer d.idleTimer,
           quietTimer := tickTimer d.quietTimer }

def LoopPort.idle (l : LoopPort) : LoopPort :=
  { l with awaiting := l.awaiting.map (fun a => { a with left := a.left - 1 }), refresh := tickTimer l.refresh,
           holders := l.holders.map (fun h => { h with left := h.left - 1 }), broadcast := tickTimer l.broadcast }

def KeyClock.idle (k : KeyClock) : KeyClock :=
  { k with sampleTimer := tickTimer k.sampleTimer, settleTimer := tickTimer k.settleTimer,
           secondsTimer := tickTimer k.secondsTimer }

/-- A millisecond in which no command is taken: every running timer has 1 ms less left. DESIGN CHOICE: log entry 1. -/
def idleMillisecond (s : State) : State :=
  if s.powered then
    { s with channels := s.channels.map Channel.idle, gauges := s.gauges.map Gauge.idle,
             store := { s.store with window := tickTimer s.store.window }, warnings := s.warnings.idle,
             chime := s.chime.idle, display := s.display.idle, loop := s.loop.idle, key := s.key.idle }
  else s

end Sys2Proof.Machine
end

