-- ==== Sys2Proof/Machine/ExecEvents.lean ====
section
/-! DEFINITION. The meanings of the event rows: expiries, completions, received bytes, and the supply. A row whose event
cannot happen in the state as it stands (a stopped timer, an idle transmitter) leaves the state as it is: log entries 2
and 3. -/

namespace Sys2Proof.Machine

/-- POWER_ON_RESET (R86). -/
def execPowerOnReset (straps : Node) (programHeld : Word) (eraseRaised : List Word)
    (s : State) : Host.Outcome State Fault Refusal :=
  .next (powerOnNow straps programHeld eraseRaised s)

/-- LOOP_FRAME_RECEIVED (R166). -/
def execLoopFrameReceived (bytes : Frame) (longGap stopMissing : Bool)
    (s : State) : Host.Outcome State Fault Refusal :=
  live (frameReceived bytes longGap stopMissing) s

/-- LOOP_TRANSMIT_START (R170). -/
def execLoopTransmitStart (s : State) : Host.Outcome State Fault Refusal :=
  live transmitStart s

/-- LOOP_FRAME_SENT (R170). -/
def execLoopFrameSent (s : State) : Host.Outcome State Fault Refusal :=
  live frameSent s

/-- RETURN_TIMER_EXPIRY (R173). -/
def execReturnTimerExpiry (s : State) : Host.Outcome State Fault Refusal :=
  live returnExpiry s

/-- HOLD_LIST_TIMER_EXPIRY (R177). -/
def execHoldListTimerExpiry (node : Node) (s : State) : Host.Outcome State Fault Refusal :=
  live (holderExpiry node) s

/-- REFRESH_TIMER_EXPIRY (R175). -/
def execRefreshTimerExpiry (s : State) : Host.Outcome State Fault Refusal :=
  live (fun t => { t with loop := t.loop.refreshExpiry }) s

/-- BROADCAST_TIMER_EXPIRY (R172). -/
def execBroadcastTimerExpiry (s : State) : Host.Outcome State Fault Refusal :=
  live broadcastExpiry s

/-- CHANNEL_TAKE (R10). -/
def execChannelTake (s : State) : Host.Outcome State Fault Refusal :=
  live channelTake s

/-- FRESHNESS_EXPIRY (R19). -/
def execFreshnessExpiry (ch : Fin 48) (s : State) : Host.Outcome State Fault Refusal :=
  live (freshnessExpiry ch) s

/-- DRIVE_UPDATE (R30). -/
def execDriveUpdate (g : Fin 6) (s : State) : Host.Outcome State Fault Refusal :=
  live (driveUpdate g) s

/-- KEY_SAMPLE (R192). -/
def execKeySample (acc ign start : Bool) (s : State) : Host.Outcome State Fault Refusal :=
  live (keySample { acc := acc, ign := ign, start := start }) s

/-- SETTLE_TIMER_EXPIRY (R194). -/
def execSettleTimerExpiry (s : State) : Host.Outcome State Fault Refusal :=
  live settleTimerExpiry s

/-- SECONDS_EVENT (R196). -/
def execSecondsEvent (s : State) : Host.Outcome State Fault Refusal :=
  live secondsEvent s

/-- BULB_CHECK_EXPIRY (R126). -/
def execBulbCheckExpiry (s : State) : Host.Outcome State Fault Refusal :=
  live bulbExpiry s

/-- PRESENT_TIMER_EXPIRY (R121). -/
def execPresentTimerExpiry (w : Fin 32) (s : State) : Host.Outcome State Fault Refusal :=
  live (presentExpiry w) s

/-- REMIND_TIMER_EXPIRY (R123). -/
def execRemindTimerExpiry (w : Fin 32) (s : State) : Host.Outcome State Fault Refusal :=
  live (remindExpiry w) s

/-- TONE_END (R140). -/
def execToneEnd (z : Zone) (s : State) : Host.Outcome State Fault Refusal :=
  live (fun t => { t with chime := t.chime.toneEnd z }) s

/-- GAP_END (R140). -/
def execGapEnd (z : Zone) (s : State) : Host.Outcome State Fault Refusal :=
  live (fun t => { t with chime := t.chime.gapEnd z }) s

/-- ERASE_WINDOW_EXPIRY (R69). -/
def execEraseWindowExpiry (s : State) : Host.Outcome State Fault Refusal :=
  live eraseWindowExpiry s

/-- PROGRAM_END (R65). -/
def execProgramEnd (worn : Bool) (s : State) : Host.Outcome State Fault Refusal :=
  live (storeProgramEnd worn) s

/-- SECTOR_ERASE_END (R70). -/
def execSectorEraseEnd (failed : Bool) (raised : List Word) (s : State) : Host.Outcome State Fault Refusal :=
  live (sectorEraseEnd failed raised) s

/-- SUSPENSION_REACHED (R71). -/
def execSuspensionReached (s : State) : Host.Outcome State Fault Refusal :=
  live suspensionReached s

/-- SCAN_COMPLETE (R86). -/
def execScanComplete (s : State) : Host.Outcome State Fault Refusal :=
  live scanComplete s

/-- HOLD_2S_EXPIRY (R153). -/
def execHold2sExpiry (s : State) : Host.Outcome State Fault Refusal :=
  live hold2s s

/-- HOLD_5S_EXPIRY (R153). -/
def execHold5sExpiry (s : State) : Host.Outcome State Fault Refusal :=
  live hold5s s

/-- NOT_AVAILABLE_EXPIRY (R153). -/
def execNotAvailableExpiry (s : State) : Host.Outcome State Fault Refusal :=
  live notAvailableExpiry s

/-- MC_OFF_TIMER_EXPIRY (R147). -/
def execMcOffTimerExpiry (s : State) : Host.Outcome State Fault Refusal :=
  live mcOffExpiry s

/-- DL_WAKE_ASSERTED (R159). -/
def execDlWakeAsserted (s : State) : Host.Outcome State Fault Refusal :=
  live wakeAsserted s

/-- LINK_SETTLE_EXPIRY (R160). -/
def execLinkSettleExpiry (s : State) : Host.Outcome State Fault Refusal :=
  live settleExpiry s

/-- LINK_START_SENT (R160). -/
def execLinkStartSent (s : State) : Host.Outcome State Fault Refusal :=
  live linkStartSent s

/-- PACKET_DONE (R151). -/
def execPacketDone (s : State) : Host.Outcome State Fault Refusal :=
  live packetDone s

/-- PACKET_SENT (R151). -/
def execPacketSent (s : State) : Host.Outcome State Fault Refusal :=
  live packetSent s

/-- POLL_TIMER_EXPIRY (R155). -/
def execPollTimerExpiry (s : State) : Host.Outcome State Fault Refusal :=
  live pollExpiry s

/-- STATUS_REPLY (R155). -/
def execStatusReply (bytes : List Byte) (s : State) : Host.Outcome State Fault Refusal :=
  live (replyTaken bytes) s

/-- REPLY_WINDOW_EXPIRY (R155). -/
def execReplyWindowExpiry (s : State) : Host.Outcome State Fault Refusal :=
  live replyWindowExpiry s

/-- RP_IDLE_TIMER_EXPIRY (R161). -/
def execRpIdleTimerExpiry (s : State) : Host.Outcome State Fault Refusal :=
  live rpIdleExpiry s

/-- LINK_SHUTDOWN_SEND (R161). -/
def execLinkShutdownSend (s : State) : Host.Outcome State Fault Refusal :=
  live linkShutdownSend s

/-- LINK_SHUTDOWN_SENT (R161). -/
def execLinkShutdownSent (s : State) : Host.Outcome State Fault Refusal :=
  live linkShutdownSent s

/-- QUIET_TIMER_EXPIRY (R161). -/
def execQuietTimerExpiry (s : State) : Host.Outcome State Fault Refusal :=
  live quietExpiry s

/-- HELD_RESPONSE_PLACED (R182). -/
def execHeldResponsePlaced (s : State) : Host.Outcome State Fault Refusal :=
  live placeHeld s

/-- EVENT_FRAME_BUILD (R186). -/
def execEventFrameBuild (s : State) : Host.Outcome State Fault Refusal :=
  live buildEvent s

/-- START_UP_REPORT (R186). -/
def execStartUpReport (s : State) : Host.Outcome State Fault Refusal :=
  live buildStartUp s

/-- DUMP_FRAME_BUILD (R188). -/
def execDumpFrameBuild (s : State) : Host.Outcome State Fault Refusal :=
  live buildDump s

/-- RESTART_EFFECT (R184). -/
def execRestartEffect (s : State) : Host.Outcome State Fault Refusal :=
  live restartSent s

/-- POWER_LOSS (R64). -/
def execPowerLoss (programHeld : Word) (eraseRaised : List Word) (s : State) : Host.Outcome State Fault Refusal :=
  .next (losePower programHeld eraseRaised s)

end Sys2Proof.Machine
end

