-- ==== Sys2Proof/Machine/ExecRequests.lean ====
section
/-! DEFINITION. The meanings of the request rows: each is the arrival of that consumed request (log entry 5), carried out
by `serve` when the handler takes it. -/

namespace Sys2Proof.Machine

/-- UNKNOWN_REQUEST (R180). -/
def execUnknownRequest (node : Node) (payload : List Byte) (s : State) : Host.Outcome State Fault Refusal :=
  live (arrive (decodeRequest node payload)) s

/-- WRITE_CHANNEL (R4). -/
def execWriteChannel (h : Head) (ch tag origin kind offset bit curve timeout shift debounce : Byte)
    (s : State) : Host.Outcome State Fault Refusal :=
  live (arrive (.writeChannel h ch tag origin kind offset bit curve timeout shift debounce)) s

/-- ENABLE_CHANNEL (R5). -/
def execEnableChannel (h : Head) (ch : Byte) (s : State) : Host.Outcome State Fault Refusal :=
  live (arrive (.enableChannel h ch)) s

/-- DISABLE_CHANNEL (R6). -/
def execDisableChannel (h : Head) (ch : Byte) (s : State) : Host.Outcome State Fault Refusal :=
  live (arrive (.disableChannel h ch)) s

/-- CURVE_POINT (R7). -/
def execCurvePoint (h : Head) (curve slot : Byte) (x : BitVec 24) (y : Word)
    (s : State) : Host.Outcome State Fault Refusal :=
  live (arrive (.curvePoint h curve slot x y)) s

/-- COMMIT_CURVE (R8). -/
def execCommitCurve (h : Head) (curve count : Byte) (s : State) : Host.Outcome State Fault Refusal :=
  live (arrive (.commitCurve h curve count)) s

/-- READ_CHANNEL_SETUP (R9). -/
def execReadChannelSetup (h : Head) (ch : Byte) (part : Option Byte) (s : State) : Host.Outcome State Fault Refusal :=
  live (arrive (.readChannelSetup h ch part)) s

/-- READ_CHANNEL (R9). -/
def execReadChannel (h : Head) (ch : Byte) (part : Option Byte) (s : State) : Host.Outcome State Fault Refusal :=
  live (arrive (.readChannel h ch part)) s

/-- READ_CURVE (R9). -/
def execReadCurve (h : Head) (curve slot : Byte) (part : Option Byte)
    (s : State) : Host.Outcome State Fault Refusal :=
  live (arrive (.readCurve h curve slot part)) s

/-- WRITE_GAUGE (R25). -/
def execWriteGauge (h : Head) (g source curve damping slew : Byte) (park : Word) (flags : Byte) (dial : Word)
    (s : State) : Host.Outcome State Fault Refusal :=
  live (arrive (.writeGauge h g source curve damping slew park flags dial)) s

/-- ENABLE_GAUGE (R26). -/
def execEnableGauge (h : Head) (g : Byte) (s : State) : Host.Outcome State Fault Refusal :=
  live (arrive (.enableGauge h g)) s

/-- DISABLE_GAUGE (R27). -/
def execDisableGauge (h : Head) (g : Byte) (s : State) : Host.Outcome State Fault Refusal :=
  live (arrive (.disableGauge h g)) s

/-- READ_GAUGE_SETUP (R28). -/
def execReadGaugeSetup (h : Head) (g : Byte) (part : Option Byte) (s : State) : Host.Outcome State Fault Refusal :=
  live (arrive (.readGaugeSetup h g part)) s

/-- READ_GAUGE (R28). -/
def execReadGauge (h : Head) (g : Byte) (part : Option Byte) (s : State) : Host.Outcome State Fault Refusal :=
  live (arrive (.readGauge h g part)) s

/-- WRITE_TRIP_SETUP (R41). -/
def execWriteTripSetup (h : Head) (distance fuel speed level : Byte) (pulses units maxDelta : Word) (gapDefault : BitVec 24)
    (s : State) : Host.Outcome State Fault Refusal :=
  live (arrive (.writeTripSetup h distance fuel speed level pulses units maxDelta gapDefault)) s

/-- READ_TRIP_SETUP (R42). -/
def execReadTripSetup (h : Head) (part : Option Byte) (s : State) : Host.Outcome State Fault Refusal :=
  live (arrive (.readTripSetup h part)) s

/-- READ_TRIP_FIGURES (R56). -/
def execReadTripFigures (h : Head) (r : Byte) (part : Option Byte) (s : State) : Host.Outcome State Fault Refusal :=
  live (arrive (.readTripFigures h r part)) s

/-- SNAPSHOT_TRIP (R57). -/
def execSnapshotTrip (h : Head) (r : Byte) (s : State) : Host.Outcome State Fault Refusal :=
  live (arrive (.snapshotTrip h r)) s

/-- READ_TRIP (R58). -/
def execReadTrip (h : Head) (r : Byte) (s : State) : Host.Outcome State Fault Refusal :=
  live (arrive (.readTrip h r)) s

/-- RESET_TRIP (R59). -/
def execResetTrip (h : Head) (r : Byte) (s : State) : Host.Outcome State Fault Refusal :=
  live (arrive (.resetTrip h r)) s

/-- READ_STORE (R74). -/
def execReadStore (h : Head) (addr : Byte) (part : Option Byte) (s : State) : Host.Outcome State Fault Refusal :=
  live (arrive (.readStore h addr part)) s

/-- STORE_PROGRAM (R75). -/
def execStoreProgram (h : Head) (addr : Byte) (value : Word) (s : State) : Host.Outcome State Fault Refusal :=
  live (arrive (.storeProgram h addr value)) s

/-- STORE_ERASE (R76). -/
def execStoreErase (h : Head) (sectors : Byte) (s : State) : Host.Outcome State Fault Refusal :=
  live (arrive (.storeErase h sectors)) s

/-- READ_ODOMETER (R83). -/
def execReadOdometer (h : Head) (part : Option Byte) (s : State) : Host.Outcome State Fault Refusal :=
  live (arrive (.readOdometer h part)) s

/-- SET_ODOMETER (R89). -/
def execSetOdometer (h : Head) (value : BitVec 24) (s : State) : Host.Outcome State Fault Refusal :=
  live (arrive (.setOdometer h value)) s

/-- WRITE_SERVICE_ITEM (R93). -/
def execWriteServiceItem (h : Head) (item message : Byte) (intervalKm intervalDays advanceKm overdueKm : Word) (advOverDays : BitVec 24)
    (s : State) : Host.Outcome State Fault Refusal :=
  live (arrive (.writeServiceItem h item message intervalKm intervalDays advanceKm overdueKm advOverDays)) s

/-- ENABLE_SERVICE_ITEM (R94). -/
def execEnableServiceItem (h : Head) (item : Byte) (s : State) : Host.Outcome State Fault Refusal :=
  live (arrive (.enableServiceItem h item)) s

/-- DISABLE_SERVICE_ITEM (R94). -/
def execDisableServiceItem (h : Head) (item : Byte) (s : State) : Host.Outcome State Fault Refusal :=
  live (arrive (.disableServiceItem h item)) s

/-- READ_SERVICE_ITEM (R95). -/
def execReadServiceItem (h : Head) (item : Byte) (part : Option Byte)
    (s : State) : Host.Outcome State Fault Refusal :=
  live (arrive (.readServiceItem h item part)) s

/-- SERVICE_RESET (R100). -/
def execServiceReset (h : Head) (item : Byte) (s : State) : Host.Outcome State Fault Refusal :=
  live (arrive (.serviceReset h item)) s

/-- WRITE_WARNING_CONDITION (R108). -/
def execWriteWarningCondition (h : Head) (w kind subject : Byte) (threshold hysteresis : Word) (counts keyGate : Byte) (speedGate : Word) (staleAction minStage : Byte)
    (s : State) : Host.Outcome State Fault Refusal :=
  live (arrive (.writeWarningCondition h w kind subject threshold hysteresis counts keyGate speedGate staleAction minStage)) s

/-- WRITE_WARNING_ACTION (R109). -/
def execWriteWarningAction (h : Head) (w priority latch chime message lamp routing present remind : Byte)
    (s : State) : Host.Outcome State Fault Refusal :=
  live (arrive (.writeWarningAction h w priority latch chime message lamp routing present remind)) s

/-- ENABLE_WARNING (R110). -/
def execEnableWarning (h : Head) (w : Byte) (s : State) : Host.Outcome State Fault Refusal :=
  live (arrive (.enableWarning h w)) s

/-- DISABLE_WARNING (R111). -/
def execDisableWarning (h : Head) (w : Byte) (s : State) : Host.Outcome State Fault Refusal :=
  live (arrive (.disableWarning h w)) s

/-- MASK_WARNING (R112). -/
def execMaskWarning (h : Head) (w : Byte) (s : State) : Host.Outcome State Fault Refusal :=
  live (arrive (.maskWarning h w)) s

/-- UNMASK_WARNING (R112). -/
def execUnmaskWarning (h : Head) (w : Byte) (s : State) : Host.Outcome State Fault Refusal :=
  live (arrive (.unmaskWarning h w)) s

/-- READ_WARNING_SETUP (R113). -/
def execReadWarningSetup (h : Head) (w : Byte) (part : Option Byte) (s : State) : Host.Outcome State Fault Refusal :=
  live (arrive (.readWarningSetup h w part)) s

/-- READ_WARNING (R113). -/
def execReadWarning (h : Head) (w : Byte) (part : Option Byte) (s : State) : Host.Outcome State Fault Refusal :=
  live (arrive (.readWarning h w part)) s

/-- READ_LAMPS (R126). -/
def execReadLamps (h : Head) (part : Option Byte) (s : State) : Host.Outcome State Fault Refusal :=
  live (arrive (.readLamps h part)) s

/-- WRITE_CHIME_SEGMENT (R130). -/
def execWriteChimeSegment (h : Head) (p slot : Byte) (divisor : Word) (on off : Byte)
    (s : State) : Host.Outcome State Fault Refusal :=
  live (arrive (.writeChimeSegment h p slot divisor on off)) s

/-- WRITE_CHIME_PATTERN (R131). -/
def execWriteChimePattern (h : Head) (p repeats segments : Byte) (s : State) : Host.Outcome State Fault Refusal :=
  live (arrive (.writeChimePattern h p repeats segments)) s

/-- WRITE_CHIME_SETUP (R132). -/
def execWriteChimeSetup (h : Head) (tickChannel tickPattern answerPattern : Byte)
    (s : State) : Host.Outcome State Fault Refusal :=
  live (arrive (.writeChimeSetup h tickChannel tickPattern answerPattern)) s

/-- READ_CHIME_PATTERN (R133). -/
def execReadChimePattern (h : Head) (p slot : Byte) (part : Option Byte)
    (s : State) : Host.Outcome State Fault Refusal :=
  live (arrive (.readChimePattern h p slot part)) s

/-- READ_CHIME_SETUP (R133). -/
def execReadChimeSetup (h : Head) (part : Option Byte) (s : State) : Host.Outcome State Fault Refusal :=
  live (arrive (.readChimeSetup h part)) s

/-- READ_CHIMES (R133). -/
def execReadChimes (h : Head) (part : Option Byte) (s : State) : Host.Outcome State Fault Refusal :=
  live (arrive (.readChimes h part)) s

/-- WRITE_MESSAGE (R144). -/
def execWriteMessage (h : Head) (message chunk : Byte) (chars : Vector Byte 10)
    (s : State) : Host.Outcome State Fault Refusal :=
  live (arrive (.writeMessage h message chunk chars)) s

/-- READ_MESSAGE (R144). -/
def execReadMessage (h : Head) (message : Byte) (part : Option Byte) (s : State) : Host.Outcome State Fault Refusal :=
  live (arrive (.readMessage h message part)) s

/-- WRITE_DISPLAY_SETUP (R145). -/
def execWriteDisplaySetup (h : Head) (button temperature offDelay : Byte) (idleTime : Word) (mcBrightness rpBrightness : Byte)
    (s : State) : Host.Outcome State Fault Refusal :=
  live (arrive (.writeDisplaySetup h button temperature offDelay idleTime mcBrightness rpBrightness)) s

/-- READ_DISPLAY_SETUP (R145). -/
def execReadDisplaySetup (h : Head) (part : Option Byte) (s : State) : Host.Outcome State Fault Refusal :=
  live (arrive (.readDisplaySetup h part)) s

/-- READ_DISPLAY (R162). -/
def execReadDisplay (h : Head) (part : Option Byte) (s : State) : Host.Outcome State Fault Refusal :=
  live (arrive (.readDisplay h part)) s

/-- ASSERT_HOLD (R176). -/
def execAssertHold (h : Head) (s : State) : Host.Outcome State Fault Refusal :=
  live (arrive (.assertHold h)) s

/-- CLEAR_HOLD (R176). -/
def execClearHold (h : Head) (s : State) : Host.Outcome State Fault Refusal :=
  live (arrive (.clearHold h)) s

/-- READ_LOOP (R178). -/
def execReadLoop (h : Head) (part : Option Byte) (s : State) : Host.Outcome State Fault Refusal :=
  live (arrive (.readLoop h part)) s

/-- READ_STATUS (R183). -/
def execReadStatus (h : Head) (part : Option Byte) (s : State) : Host.Outcome State Fault Refusal :=
  live (arrive (.readStatus h part)) s

/-- EVENTS (R185). -/
def execEvents (h : Head) (set : Byte) (s : State) : Host.Outcome State Fault Refusal :=
  live (arrive (.events h set)) s

/-- RESTART (R184). -/
def execRestart (h : Head) (s : State) : Host.Outcome State Fault Refusal :=
  live (arrive (.restart h)) s

/-- STORE_DUMP (R187). -/
def execStoreDump (h : Head) (start : Byte) (count : Word) (s : State) : Host.Outcome State Fault Refusal :=
  live (arrive (.storeDump h start count)) s

/-- DUMP_ABORT (R189). -/
def execDumpAbort (h : Head) (s : State) : Host.Outcome State Fault Refusal :=
  live (arrive (.dumpAbort h)) s

/-- DUMP_RESUME (R189). -/
def execDumpResume (h : Head) (s : State) : Host.Outcome State Fault Refusal :=
  live (arrive (.dumpResume h)) s

/-- SET_CLOCK (R197). -/
def execSetClock (h : Head) (seconds : BitVec 24) (day : Word) (s : State) : Host.Outcome State Fault Refusal :=
  live (arrive (.setClock h seconds day)) s

/-- READ_CLOCK (R197). -/
def execReadClock (h : Head) (part : Option Byte) (s : State) : Host.Outcome State Fault Refusal :=
  live (arrive (.readClock h part)) s

end Sys2Proof.Machine
end

