-- ==== Sys2Proof/Machine/Dispatch.lean ====
section
/-! DEFINITION. One arm per command. -/

namespace Sys2Proof.Machine

def exec (i : Instr) (s : State) : Host.Outcome State Fault Refusal :=
  match i with
  | .powerOnReset straps programHeld eraseRaised => Sys2Proof.Machine.execPowerOnReset straps programHeld eraseRaised s
  | .loopFrameReceived bytes longGap stopMissing => Sys2Proof.Machine.execLoopFrameReceived bytes longGap stopMissing s
  | .loopTransmitStart => Sys2Proof.Machine.execLoopTransmitStart s
  | .loopFrameSent => Sys2Proof.Machine.execLoopFrameSent s
  | .returnTimerExpiry => Sys2Proof.Machine.execReturnTimerExpiry s
  | .holdListTimerExpiry node => Sys2Proof.Machine.execHoldListTimerExpiry node s
  | .refreshTimerExpiry => Sys2Proof.Machine.execRefreshTimerExpiry s
  | .broadcastTimerExpiry => Sys2Proof.Machine.execBroadcastTimerExpiry s
  | .channelTake => Sys2Proof.Machine.execChannelTake s
  | .freshnessExpiry ch => Sys2Proof.Machine.execFreshnessExpiry ch s
  | .driveUpdate g => Sys2Proof.Machine.execDriveUpdate g s
  | .keySample acc ign start => Sys2Proof.Machine.execKeySample acc ign start s
  | .settleTimerExpiry => Sys2Proof.Machine.execSettleTimerExpiry s
  | .secondsEvent => Sys2Proof.Machine.execSecondsEvent s
  | .bulbCheckExpiry => Sys2Proof.Machine.execBulbCheckExpiry s
  | .presentTimerExpiry w => Sys2Proof.Machine.execPresentTimerExpiry w s
  | .remindTimerExpiry w => Sys2Proof.Machine.execRemindTimerExpiry w s
  | .toneEnd z => Sys2Proof.Machine.execToneEnd z s
  | .gapEnd z => Sys2Proof.Machine.execGapEnd z s
  | .eraseWindowExpiry => Sys2Proof.Machine.execEraseWindowExpiry s
  | .programEnd worn => Sys2Proof.Machine.execProgramEnd worn s
  | .sectorEraseEnd failed raised => Sys2Proof.Machine.execSectorEraseEnd failed raised s
  | .suspensionReached => Sys2Proof.Machine.execSuspensionReached s
  | .scanComplete => Sys2Proof.Machine.execScanComplete s
  | .hold2sExpiry => Sys2Proof.Machine.execHold2sExpiry s
  | .hold5sExpiry => Sys2Proof.Machine.execHold5sExpiry s
  | .notAvailableExpiry => Sys2Proof.Machine.execNotAvailableExpiry s
  | .mcOffTimerExpiry => Sys2Proof.Machine.execMcOffTimerExpiry s
  | .dlWakeAsserted => Sys2Proof.Machine.execDlWakeAsserted s
  | .linkSettleExpiry => Sys2Proof.Machine.execLinkSettleExpiry s
  | .linkStartSent => Sys2Proof.Machine.execLinkStartSent s
  | .packetDone => Sys2Proof.Machine.execPacketDone s
  | .packetSent => Sys2Proof.Machine.execPacketSent s
  | .pollTimerExpiry => Sys2Proof.Machine.execPollTimerExpiry s
  | .statusReply bytes => Sys2Proof.Machine.execStatusReply bytes s
  | .replyWindowExpiry => Sys2Proof.Machine.execReplyWindowExpiry s
  | .rpIdleTimerExpiry => Sys2Proof.Machine.execRpIdleTimerExpiry s
  | .linkShutdownSend => Sys2Proof.Machine.execLinkShutdownSend s
  | .linkShutdownSent => Sys2Proof.Machine.execLinkShutdownSent s
  | .quietTimerExpiry => Sys2Proof.Machine.execQuietTimerExpiry s
  | .heldResponsePlaced => Sys2Proof.Machine.execHeldResponsePlaced s
  | .eventFrameBuild => Sys2Proof.Machine.execEventFrameBuild s
  | .startUpReport => Sys2Proof.Machine.execStartUpReport s
  | .dumpFrameBuild => Sys2Proof.Machine.execDumpFrameBuild s
  | .restartEffect => Sys2Proof.Machine.execRestartEffect s
  | .unknownRequest node payload => Sys2Proof.Machine.execUnknownRequest node payload s
  | .writeChannel h ch tag origin kind offset bit curve timeout shift debounce => Sys2Proof.Machine.execWriteChannel h ch tag origin kind offset bit curve timeout shift debounce s
  | .enableChannel h ch => Sys2Proof.Machine.execEnableChannel h ch s
  | .disableChannel h ch => Sys2Proof.Machine.execDisableChannel h ch s
  | .curvePoint h curve slot x y => Sys2Proof.Machine.execCurvePoint h curve slot x y s
  | .commitCurve h curve count => Sys2Proof.Machine.execCommitCurve h curve count s
  | .readChannelSetup h ch part => Sys2Proof.Machine.execReadChannelSetup h ch part s
  | .readChannel h ch part => Sys2Proof.Machine.execReadChannel h ch part s
  | .readCurve h curve slot part => Sys2Proof.Machine.execReadCurve h curve slot part s
  | .writeGauge h g source curve damping slew park flags dial => Sys2Proof.Machine.execWriteGauge h g source curve damping slew park flags dial s
  | .enableGauge h g => Sys2Proof.Machine.execEnableGauge h g s
  | .disableGauge h g => Sys2Proof.Machine.execDisableGauge h g s
  | .readGaugeSetup h g part => Sys2Proof.Machine.execReadGaugeSetup h g part s
  | .readGauge h g part => Sys2Proof.Machine.execReadGauge h g part s
  | .writeTripSetup h distance fuel speed level pulses units maxDelta gapDefault => Sys2Proof.Machine.execWriteTripSetup h distance fuel speed level pulses units maxDelta gapDefault s
  | .readTripSetup h part => Sys2Proof.Machine.execReadTripSetup h part s
  | .readTripFigures h r part => Sys2Proof.Machine.execReadTripFigures h r part s
  | .snapshotTrip h r => Sys2Proof.Machine.execSnapshotTrip h r s
  | .readTrip h r => Sys2Proof.Machine.execReadTrip h r s
  | .resetTrip h r => Sys2Proof.Machine.execResetTrip h r s
  | .readStore h addr part => Sys2Proof.Machine.execReadStore h addr part s
  | .storeProgram h addr value => Sys2Proof.Machine.execStoreProgram h addr value s
  | .storeErase h sectors => Sys2Proof.Machine.execStoreErase h sectors s
  | .readOdometer h part => Sys2Proof.Machine.execReadOdometer h part s
  | .setOdometer h value => Sys2Proof.Machine.execSetOdometer h value s
  | .writeServiceItem h item message intervalKm intervalDays advanceKm overdueKm advOverDays => Sys2Proof.Machine.execWriteServiceItem h item message intervalKm intervalDays advanceKm overdueKm advOverDays s
  | .enableServiceItem h item => Sys2Proof.Machine.execEnableServiceItem h item s
  | .disableServiceItem h item => Sys2Proof.Machine.execDisableServiceItem h item s
  | .readServiceItem h item part => Sys2Proof.Machine.execReadServiceItem h item part s
  | .serviceReset h item => Sys2Proof.Machine.execServiceReset h item s
  | .writeWarningCondition h w kind subject threshold hysteresis counts keyGate speedGate staleAction minStage => Sys2Proof.Machine.execWriteWarningCondition h w kind subject threshold hysteresis counts keyGate speedGate staleAction minStage s
  | .writeWarningAction h w priority latch chime message lamp routing present remind => Sys2Proof.Machine.execWriteWarningAction h w priority latch chime message lamp routing present remind s
  | .enableWarning h w => Sys2Proof.Machine.execEnableWarning h w s
  | .disableWarning h w => Sys2Proof.Machine.execDisableWarning h w s
  | .maskWarning h w => Sys2Proof.Machine.execMaskWarning h w s
  | .unmaskWarning h w => Sys2Proof.Machine.execUnmaskWarning h w s
  | .readWarningSetup h w part => Sys2Proof.Machine.execReadWarningSetup h w part s
  | .readWarning h w part => Sys2Proof.Machine.execReadWarning h w part s
  | .readLamps h part => Sys2Proof.Machine.execReadLamps h part s
  | .writeChimeSegment h p slot divisor on off => Sys2Proof.Machine.execWriteChimeSegment h p slot divisor on off s
  | .writeChimePattern h p repeats segments => Sys2Proof.Machine.execWriteChimePattern h p repeats segments s
  | .writeChimeSetup h tickChannel tickPattern answerPattern => Sys2Proof.Machine.execWriteChimeSetup h tickChannel tickPattern answerPattern s
  | .readChimePattern h p slot part => Sys2Proof.Machine.execReadChimePattern h p slot part s
  | .readChimeSetup h part => Sys2Proof.Machine.execReadChimeSetup h part s
  | .readChimes h part => Sys2Proof.Machine.execReadChimes h part s
  | .writeMessage h message chunk chars => Sys2Proof.Machine.execWriteMessage h message chunk chars s
  | .readMessage h message part => Sys2Proof.Machine.execReadMessage h message part s
  | .writeDisplaySetup h button temperature offDelay idleTime mcBrightness rpBrightness => Sys2Proof.Machine.execWriteDisplaySetup h button temperature offDelay idleTime mcBrightness rpBrightness s
  | .readDisplaySetup h part => Sys2Proof.Machine.execReadDisplaySetup h part s
  | .readDisplay h part => Sys2Proof.Machine.execReadDisplay h part s
  | .assertHold h => Sys2Proof.Machine.execAssertHold h s
  | .clearHold h => Sys2Proof.Machine.execClearHold h s
  | .readLoop h part => Sys2Proof.Machine.execReadLoop h part s
  | .readStatus h part => Sys2Proof.Machine.execReadStatus h part s
  | .events h set => Sys2Proof.Machine.execEvents h set s
  | .restart h => Sys2Proof.Machine.execRestart h s
  | .storeDump h start count => Sys2Proof.Machine.execStoreDump h start count s
  | .dumpAbort h => Sys2Proof.Machine.execDumpAbort h s
  | .dumpResume h => Sys2Proof.Machine.execDumpResume h s
  | .setClock h seconds day => Sys2Proof.Machine.execSetClock h seconds day s
  | .readClock h part => Sys2Proof.Machine.execReadClock h part s
  | .powerLoss programHeld eraseRaised => Sys2Proof.Machine.execPowerLoss programHeld eraseRaised s

end Sys2Proof.Machine
end

