-- ==== Sys2Proof/Safety.lean ====
section
/-! DEFINITION. What a safe state is, in the terms that claims use: the store's words in their one form, and every queue,
list and pointer within the bounds that its chapter gives, the places of the insert queue offered, and what a consistent
Chime Generator is. Beside them the two
notions that the claims about requests share: when a request is carried out at its arrival, and what its response adds to
the state. -/

namespace Sys2Proof.Machine

/-! ### Requests -/

/-- A request of head `h` that arrives now is carried out at once: the part has its supply, the sender is another node
(R166), none waits before it (R169), and the handler may take it (R180, R182, R184). -/
def State.takes (s : State) (h : Head) : Bool :=
  s.powered && decide (h.node ≠ s.loop.node) && s.loop.requestQ.isEmpty && s.handlerFree

/-- A response frame (R181, section 10.5.2): addressed to the requester, with the request's code and sequence byte, the
overrun flag in the top bit of the status byte, and the data. -/
def responseFrame (h : Head) (code : Byte) (st : Status) (data : List Byte) (s : State) : Frame :=
  mkFrame (nodeTag h.node) s.loop.node
    (code :: h.seq :: (st.code ||| (if s.loop.overrun then 0x80 else 0)) :: data)

/-- The part after a request is answered: the response stands last in the insert queue and the overrun flag is clear.
`s` is the part as the request's own effect leaves it. A take finds a place free, and event frames leave two (R171); a
response for which none is left waits among the held ones. -/
def answered (h : Head) (code : Byte) (st : Status) (data : List Byte) (s : State) : State :=
  let f := responseFrame h code st data s
  if s.loop.insertQ.length < 8 then
    { s with loop := { s.loop with overrun := false, insertQ := s.loop.insertQ ++ [{ frame := f, restart := false }] } }
  else { s with loop := { s.loop with overrun := false }, handler := { s.handler with held := s.handler.held ++ [f] } }

/-! ### The Chime Generator -/

/-- A pattern's segments are all present (R131). -/
def Pattern.playable (x : Pattern) : Bool :=
  decide (x.segments ≤ 6) && (x.slots.toList.take x.segments).all Option.isSome

/-- The queue is in rank order, with no two requests of one origin and zone, at most 8 long, and each request is of a
pattern that is not empty (R134, R135). -/
def Chime.ranked (c : Chime) : Bool :=
  decide (c.queue.length ≤ 8) &&
    decide (c.queue.Pairwise (fun a b => a.rank ≤ b.rank ∧ ¬ (a.origin = b.origin ∧ a.zone = b.zone))) &&
    c.queue.all (fun r => decide (0 < (c.patterns[r.pattern]).segments))

/-- A segment number of a pattern that is being played. -/
def Chime.within (c : Chime) (p : Fin 16) (k : Nat) : Bool := decide (1 ≤ k) && decide (k ≤ (c.patterns[p]).segments)

/-- The player of a zone plays what R138 lets it play: nothing while SILENT, and then no request of its zone waits
(R139); else a queued request of its own zone or, on FRONT, a tick. -/
def Chime.playerSound (c : Chime) (z : Zone) : Bool :=
  let p := c.player z
  (p.timer.isSome == (p.state != .silent)) && (p.counter.isSome == (p.state == .tone)) &&
    match p.current with
    | .nothing => p.state == .silent && !c.queue.any (fun r => r.zone == z)
    | .tick k => p.state != .silent && z == .front && c.within k p.segment
    | .request o => p.state != .silent && (match c.find o z with | some r => c.within r.pattern p.segment | none => false)

/-- A released request plays, in TONE (R136, R141). -/
def Chime.releasedPlays (c : Chime) : Bool :=
  c.queue.all (fun r => !r.released || (c.isPlaying r && (c.player r.zone).state == .tone))

/-- The Chime Generator is consistent. -/
def Chime.consistent (c : Chime) : Bool :=
  c.patterns.toList.all Pattern.playable && c.ranked && c.playerSound .front && c.playerSound .rear && c.releasedPlays

/-! ### Safe states -/

/-- The store's words stand in their canonical form: 256 addresses, rising, no FFFFh listed (R64). -/
def State.storeWords (s : State) : Bool := Memory.wf s.store.mem

/-- A gauge's position, its target and its park position lie on the dial of 0 to 1023 (R23, R24). -/
def Gauge.onDial (g : Gauge) : Bool :=
  decide (g.position ≤ 1023) && decide (g.setup.park ≤ 1023) && g.target.all (fun t => decide (t ≤ 1023))

/-- Every gauge is on its dial. -/
def State.gaugesOnDial (s : State) : Bool := s.gauges.toList.all Gauge.onDial

/-- The queues and lists stay within their places: 4 forwarded frames (R167), 16 tapped ones (R168), 4 requests (R169),
8 inserted frames (R171), 16 events (R185), 6 packets (R150) and 8 chime requests (R134). -/
def State.queuesBounded (s : State) : Bool :=
  decide (s.loop.forwardQ.length ≤ 4) && decide (s.loop.tapQ.length ≤ 16) && decide (s.loop.requestQ.length ≤ 4) &&
    decide (s.loop.insertQ.length ≤ 8) && decide (s.handler.events.length ≤ 16) &&
    decide (s.display.queue.length ≤ 6) && decide (s.chime.queue.length ≤ 8)

/-- The awaiting-return list holds at most 8 entries, with a place left for the inserted frame that is being sent (R170,
R173). -/
def LoopPort.awaitingBounded (l : LoopPort) : Bool :=
  decide (l.awaiting.length + (match l.tx with | .inserted _ => 1 | _ => 0) ≤ 8)

/-- The hold list holds at most 15 entries, one for a node, and none for the part's own (R177). -/
def LoopPort.holdersBounded (l : LoopPort) : Bool :=
  decide (l.holders.length ≤ 15) && decide ((l.holders.map Holder.node).Nodup) && !l.holders.any (fun x => x.node = l.node)

/-- While the erase window is open no sector of the new set has its outcome (R69, R70). -/
def State.windowFresh (s : State) : Bool := s.store.ctl != .eraseWindow || s.store.outcomes.isEmpty

/-- A safe state: besides, no producer of the insert queue that could place is left waiting (R171, R186, R188). -/
def State.safe (s : State) : Bool :=
  s.storeWords && s.gaugesOnDial && s.queuesBounded && s.loop.awaitingBounded && s.loop.holdersBounded &&
    s.windowFresh && !s.producerWaits

/-- A safe outcome: a safe next state. The part has no fault and refuses no command. -/
def safeOutcome : Host.Outcome State Fault Refusal → Bool
  | .next s => s.safe
  | .fault _ => false
  | .refused _ => false

end Sys2Proof.Machine
end

