-- ==== Sys2Proof/WellFormed.lean ====
section
/-! DEFINITION. Which commands are well formed. Every operand's width is already its wire width; what remains is the
length of a list: a sector has 32 words (R64), and a request's payload has at most 15 bytes (R164). -/

namespace Sys2Proof

/-- The operands of a command that the outside world can bring. -/
def Instr.wellFormed : Instr → Bool
  | .powerOnReset _ _ eraseRaised => eraseRaised.length == 32
  | .loopFrameReceived _ _ _ => true
  | .loopTransmitStart => true
  | .loopFrameSent => true
  | .returnTimerExpiry => true
  | .holdListTimerExpiry _ => true
  | .refreshTimerExpiry => true
  | .broadcastTimerExpiry => true
  | .channelTake => true
  | .freshnessExpiry _ => true
  | .driveUpdate _ => true
  | .keySample _ _ _ => true
  | .settleTimerExpiry => true
  | .secondsEvent => true
  | .bulbCheckExpiry => true
  | .presentTimerExpiry _ => true
  | .remindTimerExpiry _ => true
  | .toneEnd _ => true
  | .gapEnd _ => true
  | .eraseWindowExpiry => true
  | .programEnd _ => true
  | .sectorEraseEnd _ raised => raised.length == 32
  | .suspensionReached => true
  | .scanComplete => true
  | .hold2sExpiry => true
  | .hold5sExpiry => true
  | .notAvailableExpiry => true
  | .mcOffTimerExpiry => true
  | .dlWakeAsserted => true
  | .linkSettleExpiry => true
  | .linkStartSent => true
  | .packetDone => true
  | .packetSent => true
  | .pollTimerExpiry => true
  | .statusReply _ => true
  | .replyWindowExpiry => true
  | .rpIdleTimerExpiry => true
  | .linkShutdownSend => true
  | .linkShutdownSent => true
  | .quietTimerExpiry => true
  | .heldResponsePlaced => true
  | .eventFrameBuild => true
  | .startUpReport => true
  | .dumpFrameBuild => true
  | .restartEffect => true
  | .unknownRequest _ payload => decide (payload.length ≤ 15)
  | .writeChannel _ _ _ _ _ _ _ _ _ _ _ => true
  | .enableChannel _ _ => true
  | .disableChannel _ _ => true
  | .curvePoint _ _ _ _ _ => true
  | .commitCurve _ _ _ => true
  | .readChannelSetup _ _ _ => true
  | .readChannel _ _ _ => true
  | .readCurve _ _ _ _ => true
  | .writeGauge _ _ _ _ _ _ _ _ _ => true
  | .enableGauge _ _ => true
  | .disableGauge _ _ => true
  | .readGaugeSetup _ _ _ => true
  | .readGauge _ _ _ => true
  | .writeTripSetup _ _ _ _ _ _ _ _ _ => true
  | .readTripSetup _ _ => true
  | .readTripFigures _ _ _ => true
  | .snapshotTrip _ _ => true
  | .readTrip _ _ => true
  | .resetTrip _ _ => true
  | .readStore _ _ _ => true
  | .storeProgram _ _ _ => true
  | .storeErase _ _ => true
  | .readOdometer _ _ => true
  | .setOdometer _ _ => true
  | .writeServiceItem _ _ _ _ _ _ _ _ => true
  | .enableServiceItem _ _ => true
  | .disableServiceItem _ _ => true
  | .readServiceItem _ _ _ => true
  | .serviceReset _ _ => true
  | .writeWarningCondition _ _ _ _ _ _ _ _ _ _ _ => true
  | .writeWarningAction _ _ _ _ _ _ _ _ _ _ => true
  | .enableWarning _ _ => true
  | .disableWarning _ _ => true
  | .maskWarning _ _ => true
  | .unmaskWarning _ _ => true
  | .readWarningSetup _ _ _ => true
  | .readWarning _ _ _ => true
  | .readLamps _ _ => true
  | .writeChimeSegment _ _ _ _ _ _ => true
  | .writeChimePattern _ _ _ _ => true
  | .writeChimeSetup _ _ _ _ => true
  | .readChimePattern _ _ _ _ => true
  | .readChimeSetup _ _ => true
  | .readChimes _ _ => true
  | .writeMessage _ _ _ _ => true
  | .readMessage _ _ _ => true
  | .writeDisplaySetup _ _ _ _ _ _ _ => true
  | .readDisplaySetup _ _ => true
  | .readDisplay _ _ => true
  | .assertHold _ => true
  | .clearHold _ => true
  | .readLoop _ _ => true
  | .readStatus _ _ => true
  | .events _ _ => true
  | .restart _ => true
  | .storeDump _ _ _ => true
  | .dumpAbort _ => true
  | .dumpResume _ => true
  | .setClock _ _ _ => true
  | .readClock _ _ => true
  | .powerLoss _ eraseRaised => eraseRaised.length == 32

end Sys2Proof
end

