-- ==== Sys2Proof/Certificates/Slice0/Obligations.lean ====
section
/-! DEFINITION. The statements for the provers: what the KZ-2840 does for its commands, by the numbered rules of the spec,
and what every step keeps. `exec c s` stands with the hypotheses under which the rule gives the command its effect;
`s.takes h` says that a request of head `h` is carried out at its arrival, and `answered` is the part with the response
placed (Sys2Proof/Safety.lean). -/

open Sys2Proof Sys2Proof.Machine

/-- R4 and R5: both requests, every case. The stored fields are named by the bytes they encode to (R190); the candidate level, which R5 does not name, is left open. -/
def Obligations.WriteAndEnableChannelByTheirChecks : Prop :=
  (∀ (h : Head) (ch tag origin kind offset bit curve timeout shift debounce : Byte) (s : State), s.takes h = true →
    let run := exec (.writeChannel h ch tag origin kind offset bit curve timeout shift debounce) s
    let inRange := ∃ k : ChanKind, kind.toNat = k.code ∧ tag.toNat < 0xE0 ∧ (origin = 0xFF ∨ origin.toNat ≤ 15) ∧
      offset.toNat ≤ (if k = .analogU16 ∨ k = .analogS16 ∨ k = .rolling then 13 else 14) ∧
      (if k.isAnalog = true then (curve = 0xFF ∨ curve.toNat ≤ 15) ∧ shift.toNat ≤ 6 else curve = 0xFF) ∧
      (k = .discrete → bit.toNat ≤ 7 ∧ 1 ≤ debounce.toNat ∧ debounce.toNat ≤ 7)
    (48 ≤ ch.toNat → run = .next (answered h 0x10 .badArgument [] s)) ∧
    ∀ c : Fin 48, ch.toNat = c.val →
      ((s.channels[c]).enabled = true → run = .next (answered h 0x10 .inUse [] s)) ∧
      ((s.channels[c]).enabled = false → ¬ inRange → run = .next (answered h 0x10 .badArgument [] s)) ∧
      ((s.channels[c]).enabled = false → inRange →
        ∃ f : ChanSetup, f.kind.code = kind.toNat ∧ f.tag = tag ∧ encChoice (f.origin.map BitVec.toNat) = [origin] ∧
          f.offset = offset.toNat ∧ f.bit = bit.toNat ∧ encChoice (f.curve.map Fin.val) = [curve] ∧
          f.timeout = timeout.toNat ∧ f.shift = shift.toNat ∧ f.debounce = debounce.toNat ∧
          run = .next (answered h 0x10 .ok [] (s.setChannel c { s.channels[c] with setup := some f })))) ∧
  (∀ (h : Head) (ch : Byte) (s : State), s.takes h = true →
    let run := exec (.enableChannel h ch) s
    (48 ≤ ch.toNat → run = .next (answered h 0x11 .badArgument [] s)) ∧
    ∀ c : Fin 48, ch.toNat = c.val →
      ((s.channels[c]).setup = none → run = .next (answered h 0x11 .invalidState [] s)) ∧
      ∀ f : ChanSetup, (s.channels[c]).setup = some f →
        let missing := f.kind.isAnalog = true ∧ ∃ k, f.curve = some k ∧ (s.curves[k]).state ≠ .valid
        (missing → run = .next (answered h 0x11 .invalidState [] s)) ∧
        (¬ missing → (s.channels[c]).enabled = true → run = .next (answered h 0x11 .ok [] s)) ∧
        (¬ missing → (s.channels[c]).enabled = false →
          ∃ level : Bool, run = .next (answered h 0x11 .ok [] (s.setChannel c
            { setup := some f, enabled := true, state := .never, value := none, limited := false,
              candLevel := level, candCount := 0, raw := none, timer := none }))))

/-- R38, the two levels over the reals: the nearest integer, and of two the one away from zero. The two events at which they are computed anew are stated with WRITE GAUGE and the drive update. -/
def Obligations.CoilLevelsAreTheRoundedSineAndCosine : Prop :=
  let nearest (v : ℝ) (k : Int) : Prop :=
    |(k : ℝ) - v| ≤ 1 / 2 ∧ (|(k : ℝ) - v| = 1 / 2 → |v| < |(k : ℝ)|)
  ∀ (f : GaugeSetup) (position : Nat),
    let angle : ℝ := (position : ℝ) * (f.dial : ℝ) / 1023 * (Real.pi / 180)
    coilLevels false f position = (0, 0) ∧
    ∃ sine cosine : Int, nearest (255 * Real.sin angle) sine ∧ nearest (255 * Real.cos angle) cosine ∧
      coilLevels true f position =
        (if f.sineInverted = true then -sine else sine, if f.cosineInverted = true then -cosine else cosine)

/-- R6 and R19: the channel, the STALE notice that both deliver, and the frame of the whole delivery. Before them R20: what the delivery of any notice is, user by user. That the users come in the order of gauges, warnings, trip computer with what follows in the store, display, chimes, and each block's references in increasing number, the display's button before its temperature, is the model's choice: log entry 10; and so is that the event frames which the notice brings out stand before the response of DISABLE CHANNEL: log entry 6. -/
def Obligations.SilentChannelTellsItsUsers : Prop :=
  (∀ (c : Fin 48) (n : Notice) (s : State),
    deliver c n s = chimeNotice c n (displayNotice c n (settle (tripNotice c n (warnChannel c n (gaugeNotice c n s))))) ∧
    (∃ gs, gaugeNotice c n s = { s with gauges := gs } ∧ ∀ g : Fin 6,
      ((s.gauges[g]).enabled = true → (s.gauges[g]).setup.source = c → gs[g] = s.gaugeTakes s.gauges[g] n) ∧
      ((s.gauges[g]).enabled = false ∨ (s.gauges[g]).setup.source ≠ c → gs[g] = s.gauges[g])) ∧
    (∃ takes : State → Fin 32 → State,
      (∀ (t : State) (w : Fin 32),
        let watches := (t.warnings.entries[w]).enabled = true ∧ ∃ k, (t.warnings.entries[w]).condition = some k ∧
          k.kind ≠ .service ∧ k.kind ≠ .system ∧ k.subject = c.val
        (watches → takes t w = warnNotice n w t) ∧ (¬ watches → takes t w = t)) ∧
      warnChannel c n s = (List.finRange 32).foldl takes s) ∧
    (s.trip.setup = none → tripNotice c n s = s) ∧
    (∀ t, s.trip.setup = some t →
      let first := if t.distance = c then rollingNotice t false n s else s
      tripNotice c n s = if t.fuel = c then rollingNotice t true n first else first) ∧
    (s.display.setup = none → displayNotice c n s = s) ∧
    (∀ f, s.display.setup = some f →
      let first := if f.button = some c then buttonNotice n s else s
      displayNotice c n s = if f.temperature = some c then rebuild first else first) ∧
    (let edge := s.chime.setup.written = true ∧ s.chime.setup.tickChannel = some c ∧
       ∃ level up seeded, n = .sample (.discrete level (some up)) seeded
     (edge → chimeNotice c n s = { s with chime := s.chime.tick }) ∧ (¬ edge → chimeNotice c n s = s))) ∧
  ∀ (c : Fin 48) (s : State),
    (∀ (h : Head) (ch : Byte), s.takes h = true →
      (48 ≤ ch.toNat → exec (.disableChannel h ch) s = .next (answered h 0x12 .badArgument [] s)) ∧
      (ch.toNat = c.val → (s.channels[c]).enabled = false →
        exec (.disableChannel h ch) s = .next (answered h 0x12 .ok [] s)) ∧
      (ch.toNat = c.val → (s.channels[c]).enabled = true →
        ∃ (level : Bool) (t : State),
          t = deliver c .stale (s.setChannel c
            { s.channels[c] with enabled := false, state := .never, value := none, limited := false, candLevel := level,
                                 candCount := 0, raw := none, timer := none }) ∧
          exec (.disableChannel h ch) s = .next (answered h 0x12 .ok [] t) ∧
          (∀ d : Fin 48, d ≠ c → t.channels[d] = s.channels[d]) ∧ t.curves = s.curves ∧ t.store.mem = s.store.mem ∧
          t.key = s.key)) ∧
    (s.powered = true → (s.channels[c]).timer.isSome = true →
      ∃ t : State, exec (.freshnessExpiry c) s = .next t ∧
        t = deliver c .stale (s.setChannel c { s.channels[c] with state := .stale, timer := none }) ∧
        t.channels[c] = { s.channels[c] with state := .stale, timer := none } ∧
        (∀ d : Fin 48, d ≠ c → t.channels[d] = s.channels[d]) ∧ t.curves = s.curves ∧ t.store.mem = s.store.mem ∧
        t.key = s.key)

/-- R7 and R8: both requests, every case. Every Y of two bytes lies in its range. -/
def Obligations.CurveRequestsByTheirChecks : Prop :=
  ∀ (h : Head) (curve : Byte) (s : State), s.takes h = true →
    let inUse (k : Fin 16) := (∃ c : Fin 48, (s.channels[c]).enabled = true ∧
        ∃ f, (s.channels[c]).setup = some f ∧ f.curve = some k) ∨
      (∃ g : Fin 6, (s.gauges[g]).enabled = true ∧ (s.gauges[g]).setup.curve = k)
    (∀ (slot : Byte) (x : BitVec 24) (y : Word),
      let run := exec (.curvePoint h curve slot x y) s
      (16 ≤ curve.toNat ∨ slot = 0 ∨ 12 < slot.toNat ∨ x.toInt < -32768 ∨ 65535 < x.toInt →
        run = .next (answered h 0x13 .badArgument [] s)) ∧
      (∀ (k : Fin 16) (i : Fin 12), curve.toNat = k.val → slot.toNat = i.val + 1 → -32768 ≤ x.toInt → x.toInt ≤ 65535 →
        (inUse k → run = .next (answered h 0x13 .inUse [] s)) ∧
        (¬ inUse k → run = .next (answered h 0x13 .ok [] (s.setCurve k
          { slots := (s.curves[k]).slots.set i (some (x.toInt, y.toInt)), count := 0, state := .editing }))))) ∧
    (∀ (count : Byte),
      let run := exec (.commitCurve h curve count) s
      (16 ≤ curve.toNat → run = .next (answered h 0x14 .badArgument [] s)) ∧
      (∀ k : Fin 16, curve.toNat = k.val →
        let good := 2 ≤ count.toNat ∧ count.toNat ≤ 12 ∧
          (∀ i : Fin 12, i.val < count.toNat → ((s.curves[k]).slots[i]).isSome = true) ∧
          (∀ (i j : Fin 12) (p q : Int × Int), j.val = i.val + 1 → j.val < count.toNat →
            (s.curves[k]).slots[i] = some p → (s.curves[k]).slots[j] = some q → p.1 < q.1)
        (inUse k → run = .next (answered h 0x14 .inUse [] s)) ∧
        (¬ inUse k → ¬ good → run = .next (answered h 0x14 .badArgument [] s)) ∧
        (¬ inUse k → good → run = .next (answered h 0x14 .ok []
          (s.setCurve k { s.curves[k] with count := count.toNat, state := .valid })))))

/-- R12 to R14 over every curve that COMMIT CURVE accepts. With n the product and d the divisor, the rounding is said by the remainder: at most d / 2 on the far side of zero, below d / 2 on the near side. -/
def Obligations.ConversionStaysWithinTheCurve : Prop :=
  (∀ (s : State) (f : ChanSetup) (x : Int),
    (∀ k, f.curve = some k →
      s.convert f x = convertCurve (((s.curves[k]).slots.toList.take (s.curves[k]).count).filterMap id) x) ∧
    (f.curve = none → s.convert f x = (max (-32768) (min 32767 x), decide (x < -32768 ∨ 32767 < x)))) ∧
  ∀ (points : List (Int × Int)) (x : Int), 2 ≤ points.length →
    (∀ i (hi : i + 1 < points.length), (points[i]).1 < (points[i + 1]).1) →
    (∀ p q, points.head? = some p → points.getLast? = some q →
      (x ≤ p.1 → convertCurve points x = (p.2, decide (x < p.1))) ∧
      (q.1 ≤ x → convertCurve points x = (q.2, decide (q.1 < x)))) ∧
    (∀ i (hi : i + 1 < points.length), (points[i]).1 ≤ x → x < (points[i + 1]).1 →
      let d := (points[i + 1]).1 - (points[i]).1
      let n := (x - (points[i]).1) * ((points[i + 1]).2 - (points[i]).2)
      ∃ q : Int, convertCurve points x = ((points[i]).2 + q, false) ∧
        (0 ≤ n → 2 * n - 2 * q * d < d ∧ 2 * q * d - 2 * n ≤ d) ∧
        (n < 0 → 2 * q * d - 2 * n < d ∧ 2 * n - 2 * q * d ≤ d) ∧
        min (points[i]).2 (points[i + 1]).2 ≤ (points[i]).2 + q ∧
        (points[i]).2 + q ≤ max (points[i]).2 (points[i + 1]).2)

/-- R15 and R17, every case, the latter over a channel whose value is its level as 0 or 1 (R2). The ceiling c of |d| / 2^k is the number with |d| ≤ c · 2^k < |d| + 2^k. -/
def Obligations.AnalogSamplesSmoothAndDiscreteSamplesDebounce : Prop :=
  (∀ (f : ChanSetup) (y : Int) (limited : Bool) (ch : Channel),
    let next := (sampleAnalog f y limited ch).1
    next.state = .fresh ∧ next.limited = limited ∧
    (ch.state ≠ .fresh → next.value = some y) ∧
    (f.shift = 0 → next.value = some y) ∧
    (∀ v : Int, ch.state = .fresh → ch.value = some v → 1 ≤ f.shift →
      ∃ (w : Int) (c : Nat), next.value = some w ∧
        (y - v).natAbs ≤ c * 2 ^ f.shift ∧ c * 2 ^ f.shift < (y - v).natAbs + 2 ^ f.shift ∧
        w = v + (y - v).sign * c ∧ min v y ≤ w ∧ w ≤ max v y ∧
        (y ≠ v → (y - w).natAbs < (y - v).natAbs))) ∧
  (∀ (f : ChanSetup) (b : Bool) (ch : Channel),
    let r := sampleDiscrete f b ch
    let num (x : Bool) : Int := if x then 1 else 0
    r.1.state = .fresh ∧ r.1.candLevel = b ∧
    (ch.state ≠ .fresh → r.1.value = some (num b) ∧ r.1.candCount = 0 ∧ r.2 = .discrete b none) ∧
    (∀ v : Bool, ch.state = .fresh → ch.value = some (num v) →
      (b = v → r.1.value = some (num v) ∧ r.1.candCount = 0 ∧ r.2 = .discrete v none) ∧
      (b ≠ v → ch.candCount + 1 = f.debounce →
        r.1.value = some (num b) ∧ r.1.candCount = 0 ∧ r.2 = .discrete b (some b)) ∧
      (b ≠ v → ch.candCount + 1 ≠ f.debounce →
        r.1.value = some (num v) ∧ r.1.candCount = ch.candCount + 1 ∧ r.2 = .discrete v none)))

/-- R10, R11, R16 and R18: the field, the sample of each kind, and the take with its notices. That the notices go out in increasing channel number, each to all its users before the next, is the model's choice: log entry 10. -/
def Obligations.TakeSamplesEveryReferencingChannel : Prop :=
  (∀ (f : ChanSetup) (p : List Byte),
    let wide := f.kind = .analogU16 ∨ f.kind = .analogS16 ∨ f.kind = .rolling
    (p.length ≤ f.offset ∨ (wide ∧ p.length ≤ f.offset + 1) → rawField f p = none) ∧
    (∀ a, p[f.offset]? = some a →
      (f.kind = .analogU8 → rawField f p = some (a.toNat : Int)) ∧
      (f.kind = .analogS8 → rawField f p = some (if a.toNat < 128 then (a.toNat : Int) else (a.toNat : Int) - 256)) ∧
      (f.kind = .discrete → rawField f p = some (if a.getLsbD f.bit = true then 1 else 0)) ∧
      (∀ b, p[f.offset + 1]? = some b →
        let both : Int := 256 * a.toNat + b.toNat
        (f.kind = .analogU16 ∨ f.kind = .rolling → rawField f p = some both) ∧
        (f.kind = .analogS16 → rawField f p = some (if both < 32768 then both else both - 65536))))) ∧
  (∀ (s : State) (f : ChanSetup) (x : Int) (ch : Channel),
    let r := s.sampleOf f x ch
    let timer : Timer := if f.timeout = 0 then none else some (50 * f.timeout)
    (f.kind.isAnalog = true → r = sampleAnalog f (s.convert f x).1 (s.convert f x).2 ch ∧
      ∃ v, r.1 = { ch with state := .fresh, value := some v, limited := (s.convert f x).2, timer := timer } ∧
        r.2 = .analog v (s.convert f x).2) ∧
    (f.kind = .discrete → r = sampleDiscrete f (decide (x = 1)) ch ∧
      r.1 = { ch with state := .fresh, value := r.1.value, candLevel := decide (x = 1), candCount := r.1.candCount,
                      timer := timer }) ∧
    (f.kind = .rolling → r = ({ ch with state := .fresh, raw := some x.toNat, timer := timer }, .rolling x.toNat))) ∧
  ∀ (s : State) (fr : Frame) (rest : List Frame), s.powered = true → s.loop.tapQ = fr :: rest →
    let sampled (c : Fin 48) (f : ChanSetup) (x : Int) : Prop := (s.channels[c]).enabled = true ∧
      (s.channels[c]).setup = some f ∧ f.tag = fr.getD 0 0 ∧ (f.origin = none ∨ f.origin = some (frameOrigin fr)) ∧
      rawField f (framePayload fr) = some x
    ∃ (t : State) (cs : Vector Channel 48) (notices : List (Fin 48 × Notice)), exec .channelTake s = .next t ∧
      t = notices.foldl (fun u n => deliver n.1 n.2 u)
        { s with channels := cs, loop := ({ s.loop with tapQ := rest }).holdTake } ∧
      (∀ (c : Fin 48) (n : Notice), (c, n) ∈ notices ↔ ∃ f x, sampled c f x ∧
        n = .sample (s.sampleOf f x s.channels[c]).2 (decide ((s.channels[c]).state ≠ .fresh))) ∧
      notices.Pairwise (fun m n => m.1.val < n.1.val) ∧
      t.channels = cs ∧ t.loop.tapQ = rest ∧ t.loop.forwardQ = s.loop.forwardQ ∧
      t.loop.requestQ = s.loop.requestQ ∧ t.curves = s.curves ∧ t.store.mem = s.store.mem ∧ t.key = s.key ∧
      ∀ c : Fin 48,
        ((∀ f x, ¬ sampled c f x) → cs[c] = s.channels[c]) ∧
        (∀ f x, sampled c f x → cs[c] = (s.sampleOf f x s.channels[c]).1)

/-- R25, with the flags byte of R191: stale behaviour, sweep, fast settle, sine and cosine polarity in bits 0 to 4. -/
def Obligations.WriteGaugeByItsChecks : Prop :=
  ∀ (h : Head) (gb source curve damping slew : Byte) (park : Word) (flags : Byte) (dial : Word) (s : State),
    s.takes h = true →
    let run := exec (.writeGauge h gb source curve damping slew park flags dial) s
    let inRange := source.toNat ≤ 47 ∧ curve.toNat ≤ 15 ∧ damping.toNat ≤ 5 ∧ slew ≠ 0 ∧ park.toNat ≤ 1023 ∧
      90 ≤ dial.toNat ∧ dial.toNat ≤ 330 ∧ flags.toNat < 32
    (6 ≤ gb.toNat → run = .next (answered h 0x20 .badArgument [] s)) ∧
    ∀ g : Fin 6, gb.toNat = g.val →
      ((s.gauges[g]).enabled = true → run = .next (answered h 0x20 .inUse [] s)) ∧
      ((s.gauges[g]).enabled = false → ¬ inRange → run = .next (answered h 0x20 .badArgument [] s)) ∧
      ((s.gauges[g]).enabled = false → inRange →
        ∃ f : GaugeSetup, f.source.val = source.toNat ∧ f.curve.val = curve.toNat ∧ f.damping = damping.toNat ∧
          f.slew = slew.toNat ∧ f.park = park.toNat ∧ f.stalePark = flags.getLsbD 0 ∧ f.sweep = flags.getLsbD 1 ∧
          f.fastSettle = flags.getLsbD 2 ∧ f.dial = dial.toNat ∧ f.sineInverted = flags.getLsbD 3 ∧
          f.cosineInverted = flags.getLsbD 4 ∧
          (let x := s.gauges[g]
           let leaves := x.state = .parked ∧ x.position ≠ f.park ∧ x.setup.park ≠ f.park
           run = .next (answered h 0x20 .ok [] (s.setGauge g
             { written := true, enabled := false, setup := f,
               state := if leaves then GaugeState.returning else x.state, position := x.position, target := x.target,
               pending := x.pending, timer := if leaves then some (x.timer.getD 20) else x.timer,
               sine := (coilLevels true f x.position).1, cosine := (coilLevels true f x.position).2 }))))

/-- R26 and R27, every case. `rest` is the way to the park position (R31), `runs` any other state with its timer running. -/
def Obligations.EnableAndDisableGaugeByTheirTables : Prop :=
  ∀ (h : Head) (gb : Byte) (s : State), s.takes h = true →
    (6 ≤ gb.toNat → exec (.enableGauge h gb) s = .next (answered h 0x21 .badArgument [] s) ∧
      exec (.disableGauge h gb) s = .next (answered h 0x22 .badArgument [] s)) ∧
    ∀ g : Fin 6, gb.toNat = g.val →
      let x := s.gauges[g]
      let live := (s.channels[x.setup.source]).state = .fresh ∧
        ∃ f, (s.channels[x.setup.source]).setup = some f ∧ f.kind ≠ .rolling
      let rest (y : Gauge) : Gauge :=
        if x.position = x.setup.park then { y with state := .parked, timer := none }
        else { y with state := .returning, timer := some (x.timer.getD 20) }
      let runs (y : Gauge) (st : GaugeState) : Gauge := { y with state := st, timer := some (x.timer.getD 20) }
      (x.written = false → exec (.enableGauge h gb) s = .next (answered h 0x21 .invalidState [] s)) ∧
      (x.written = true → (s.curves[x.setup.curve]).state ≠ .valid →
        exec (.enableGauge h gb) s = .next (answered h 0x21 .invalidState [] s)) ∧
      (x.written = true → (s.curves[x.setup.curve]).state = .valid → x.enabled = true →
        exec (.enableGauge h gb) s = .next (answered h 0x21 .ok [] s)) ∧
      (x.written = true → (s.curves[x.setup.curve]).state = .valid → x.enabled = false →
        ∃ target : Option Nat,
          (¬ live → target = none) ∧
          (live → ∀ v, (s.channels[x.setup.source]).value = some v →
            target = some (max 0 (min 1023 (convertCurve (s.curves[x.setup.curve]).points v).1)).toNat) ∧
          (let y := { x with enabled := true, target := target, pending := x.setup.fastSettle }
           (s.key.state = .run → live →
             exec (.enableGauge h gb) s = .next (answered h 0x21 .ok [] (s.setGauge g (runs y .tracking)))) ∧
           (s.key.state = .run → ¬ live → x.setup.stalePark = false →
             exec (.enableGauge h gb) s = .next (answered h 0x21 .ok [] (s.setGauge g (runs y .holding)))) ∧
           (s.key.state = .run → ¬ live → x.setup.stalePark = true →
             exec (.enableGauge h gb) s = .next (answered h 0x21 .ok [] (s.setGauge g (rest y)))) ∧
           (s.key.state = .crank →
             exec (.enableGauge h gb) s = .next (answered h 0x21 .ok [] (s.setGauge g (runs y .holding)))) ∧
           (s.key.state = .off ∨ s.key.state = .acc →
             exec (.enableGauge h gb) s = .next (answered h 0x21 .ok [] (s.setGauge g (rest y)))))) ∧
      (x.enabled = false → exec (.disableGauge h gb) s = .next (answered h 0x22 .ok [] s)) ∧
      (x.enabled = true → exec (.disableGauge h gb) s = .next (answered h 0x22 .ok []
        (s.setGauge g (rest { x with enabled := false, target := none, pending := false }))))

/-- R30 whole, with the updates of the other states (R31, R32), the target at the end of a sweep (R29) and the coils (R38). The sweep clauses hold on the dial, where every position lies (R24). -/
def Obligations.DriveUpdateMovesByItsState : Prop :=
  ∀ (g : Fin 6) (s : State), s.powered = true → (s.gauges[g]).timer.isSome = true →
    ∃ y : Gauge, exec (.driveUpdate g) s = .next (s.setGauge g y) ∧
      (let x := s.gauges[g]
       let live := (s.channels[x.setup.source]).state = .fresh ∧
         ∃ f, (s.channels[x.setup.source]).setup = some f ∧ f.kind ≠ .rolling
       let toward (goal step : Nat) (p : Nat) : Prop :=
         (p : Int) = x.position + ((goal : Int) - x.position).sign * min ((goal : Int) - x.position).natAbs step
       y.written = x.written ∧ y.enabled = x.enabled ∧ y.setup = x.setup ∧
       (y.sine, y.cosine) = coilLevels x.written x.setup y.position ∧
       (x.state = .parked → y.state = .parked ∧ y.position = x.position ∧ y.timer = x.timer ∧ y.target = x.target ∧
         y.pending = x.pending) ∧
       (x.state = .holding → y.state = .holding ∧ y.position = x.position ∧ y.timer = some 20 ∧ y.target = x.target ∧
         y.pending = x.pending) ∧
       (x.state = .tracking → y.state = .tracking ∧ y.timer = some 20 ∧ y.target = x.target ∧
         (x.target = none → y.position = x.position ∧ y.pending = x.pending) ∧
         (∀ t, x.target = some t →
           let d : Int := (t : Int) - x.position
           let shift := if x.pending = true then 0 else x.setup.damping
           let limit := if x.pending = true then 255 else x.setup.slew
           (∃ c : Nat, d.natAbs ≤ c * 2 ^ shift ∧ c * 2 ^ shift < d.natAbs + 2 ^ shift ∧
             (y.position : Int) = x.position + d.sign * min c limit) ∧
           min x.position t ≤ y.position ∧ y.position ≤ max x.position t ∧
           ((y.position : Int) - x.position).natAbs ≤ limit ∧
           y.pending = (x.pending && decide (y.position ≠ t)))) ∧
       (x.state = .returning → toward x.setup.park x.setup.slew y.position ∧ y.target = x.target ∧
         y.pending = x.pending ∧
         (if y.position = x.setup.park then y.state = .parked ∧ y.timer = none
          else y.state = .returning ∧ y.timer = some 20)) ∧
       (x.state = .sweepUp → x.position ≤ 1023 → y.position = x.position + min 32 (1023 - x.position) ∧
         y.timer = some 20 ∧ y.target = x.target ∧ y.pending = x.pending ∧
         y.state = (if y.position = 1023 then GaugeState.sweepDown else GaugeState.sweepUp)) ∧
       (x.state = .sweepDown → toward x.setup.park 32 y.position ∧ y.timer = some 20 ∧ y.pending = x.pending ∧
         (y.position ≠ x.setup.park → y.state = .sweepDown ∧ y.target = x.target) ∧
         (y.position = x.setup.park → s.key.state = .run → live → y.state = .tracking ∧
           ∀ v, (s.channels[x.setup.source]).value = some v →
             y.target = some (max 0 (min 1023 (convertCurve (s.curves[x.setup.curve]).points v).1)).toNat) ∧
         (y.position = x.setup.park → ¬ (s.key.state = .run ∧ live) → y.state = .holding ∧ y.target = x.target)))

/-- R34, the whole table, over the gauge function that every notice of a source goes through. -/
def Obligations.GaugeNoticesByTheStateTable : Prop :=
  ∀ (s : State) (g : Gauge),
    let rest (y : Gauge) : Gauge :=
      if g.position = g.setup.park then { y with state := .parked, timer := none }
      else { y with state := .returning, timer := some (g.timer.getD 20) }
    let runs (y : Gauge) (st : GaugeState) : Gauge := { y with state := st, timer := some (g.timer.getD 20) }
    (∀ (v : Int) (limited seeded : Bool) (level : Bool) (edge : Option Bool),
      let sampled (v : Int) : Gauge :=
        { g with target := some (max 0 (min 1023 (convertCurve (s.curves[g.setup.curve]).points v).1)).toNat }
      let after (v : Int) : Gauge :=
        if s.key.state = .run ∧ (g.state = .holding ∨ g.state = .returning ∨ g.state = .parked) then
          runs (sampled v) .tracking
        else sampled v
      s.gaugeTakes g (.sample (.analog v limited) seeded) = after v ∧
      s.gaugeTakes g (.sample (.discrete level edge) seeded) = after (if level = true then 1 else 0)) ∧
    (∀ count seeded, s.gaugeTakes g (.sample (.rolling count) seeded) = g) ∧
    (let lost := { g with target := none }
     s.gaugeTakes g .stale =
       (if g.state = .tracking then (if g.setup.stalePark = true then rest lost else runs lost .holding)
        else if g.state = .holding ∧ g.setup.stalePark = true then rest lost
        else lost))

/-- The key events at the Gauge Drive (section 2.7: R35 to R37), with the target of R29 at each change into TRACKING; a gauge that turns RETURNING at its park position is PARKED at once (R31). That KEY_ACC leaving OFF clears the pending flag, where R37 says both that it does and that it changes nothing, is the model's choice: log entry 31. -/
def Obligations.GaugeKeyEventsByTheTable : Prop :=
  ∀ (old new : KeyState) (s : State),
    (∃ gs, gaugeKey old new s = { s with gauges := gs }) ∧
    ∀ g : Fin 6,
      let x := s.gauges[g]
      let y := (gaugeKey old new s).gauges[g]
      let live := (s.channels[x.setup.source]).state = .fresh ∧
        ∃ f, (s.channels[x.setup.source]).setup = some f ∧ f.kind ≠ .rolling
      let keyOn := (old = .off ∨ old = .acc) ∧ (new = .run ∨ new = .crank)
      let rest := x.state = .parked ∨ x.state = .returning
      let parks := if x.position = x.setup.park then y.state = .parked ∧ y.timer = none
        else y.state = .returning ∧ y.timer.isSome = true
      (x.enabled = false → y = x) ∧ y.position = x.position ∧ y.setup = x.setup ∧ y.enabled = x.enabled ∧
      y.written = x.written ∧ y.sine = x.sine ∧ y.cosine = x.cosine ∧
      (y.state = .tracking → x.state ≠ .tracking → live ∧ ∀ v, (s.channels[x.setup.source]).value = some v →
        y.target = some (max 0 (min 1023 (convertCurve (s.curves[x.setup.curve]).points v).1)).toNat) ∧
      (y.state ≠ .tracking ∨ x.state = .tracking → y.target = x.target) ∧
      (x.enabled = true → keyOn → rest →
        y.pending = (x.pending || x.setup.fastSettle) ∧
        (x.setup.sweep = true → y.state = .sweepUp ∧ y.timer.isSome = true) ∧
        (x.setup.sweep = false → new = .run → live → y.state = .tracking ∧ y.timer.isSome = true) ∧
        (x.setup.sweep = false → new = .run → ¬ live → x.setup.stalePark = false →
          y.state = .holding ∧ y.timer.isSome = true) ∧
        (x.setup.sweep = false → new = .run → ¬ live → x.setup.stalePark = true →
          y.state = x.state ∧ y.timer = x.timer) ∧
        (x.setup.sweep = false → new = .crank → y.state = x.state ∧ y.timer = x.timer)) ∧
      (x.enabled = true → old = .run → new = .crank → y.pending = x.pending ∧
        y.state = (if x.state = .tracking then GaugeState.holding else x.state)) ∧
      (x.enabled = true → old = .crank → new = .run → y.pending = x.pending ∧
        (live → (x.state = .holding ∨ rest) → y.state = .tracking ∧ y.timer.isSome = true) ∧
        (¬ live → x.state = .holding → x.setup.stalePark = false → y.state = .holding) ∧
        (¬ live → x.state = .holding → x.setup.stalePark = true → parks) ∧
        (¬ live → rest → y.state = x.state) ∧
        ((x.state = .sweepUp ∨ x.state = .sweepDown) → y.state = x.state)) ∧
      (x.enabled = true → (new = .off ∨ new = .acc) → y.pending = false ∧
        (x.state = .parked → y.state = .parked) ∧ (x.state ≠ .parked → parks))

/-- R41, with the journey gap and the default consumption in the high and low 12 bits of three bytes (R191). -/
def Obligations.WriteTripSetupByItsChecks : Prop :=
  ∀ (h : Head) (distance fuel speed level : Byte) (pulses units maxDelta : Word) (gapDefault : BitVec 24) (s : State),
    s.takes h = true →
    let run := exec (.writeTripSetup h distance fuel speed level pulses units maxDelta gapDefault) s
    let gap := gapDefault.toNat / 4096
    let default := gapDefault.toNat % 4096
    let inRange := distance.toNat ≤ 47 ∧ fuel.toNat ≤ 47 ∧ speed.toNat ≤ 47 ∧ level.toNat ≤ 47 ∧
      1000 ≤ pulses.toNat ∧ pulses.toNat ≤ 20000 ∧ 1000 ≤ units.toNat ∧ 1 ≤ maxDelta.toNat ∧
      30 ≤ default ∧ default ≤ 300 ∧ gap ≤ 1440
    (s.key.state = .run → run = .next (answered h 0x30 .invalidState [] s)) ∧
    (s.key.state ≠ .run → ¬ inRange → run = .next (answered h 0x30 .badArgument [] s)) ∧
    (s.key.state ≠ .run → inRange → ∃ t : TripSetup,
      t.distance.val = distance.toNat ∧ t.fuel.val = fuel.toNat ∧ t.speed.val = speed.toNat ∧ t.level.val = level.toNat ∧
      t.pulsesPerKm = pulses.toNat ∧ t.unitsPerLitre = units.toNat ∧ t.maxDelta = maxDelta.toNat ∧
      t.defaultConsumption = default ∧ t.journeyGap = gap ∧
      run = .next (answered h 0x30 .ok []
        { s with trip := { s.trip with setup := some t, residueE := 0, residueF := 0, distanceBase := none,
                                       fuelBase := none } }))

/-- R57, R58 and the request of R59. That the RESET event frame stands before the response is the model's choice: log entry 6. The twelve bytes are those of R191: distance, fuel, the four flags over elapsed, and the source mark and journey state over moving. -/
def Obligations.SnapshotsReadsAndResetsOfTrips : Prop :=
  ∀ (h : Head) (rb : Byte) (s : State), s.takes h = true →
    (4 ≤ rb.toNat → exec (.snapshotTrip h rb) s = .next (answered h 0x33 .badArgument [] s) ∧
      exec (.readTrip h rb) s = .next (answered h 0x34 .badArgument [] s) ∧
      exec (.resetTrip h rb) s = .next (answered h 0x35 .badArgument [] s)) ∧
    ∀ r : Fin 4, rb.toNat = r.val →
      let flag (b : Bool) (weight : Nat) : Nat := if b = true then weight else 0
      let bytes (x : TripRecord) (snapshot : Bool) : List Byte :=
        enc3 x.distance.value ++ enc3 x.fuel.value ++
        enc3 (flag x.distance.overflow 8388608 + flag x.fuel.overflow 4194304 + flag x.elapsed.overflow 2097152 +
          flag x.moving.overflow 1048576 + x.elapsed.value) ++
        enc3 (flag snapshot 8388608 +
          2097152 * (if r = 3 then (match s.trip.rear with | .idle => 0 | .running => 1 | .ended => 2) else 0) +
          x.moving.value)
      (s.trip.snapshots[r] = none →
        exec (.snapshotTrip h rb) s = .next (answered h 0x33 .ok [0]
          { s with trip := { s.trip with snapshots := s.trip.snapshots.set r (some s.trip.records[r]) } }) ∧
        exec (.readTrip h rb) s = .next (answered h 0x34 .ok (bytes s.trip.records[r] false) s)) ∧
      (∀ x, s.trip.snapshots[r] = some x →
        exec (.snapshotTrip h rb) s = .next (answered h 0x33 .ok [1] s) ∧
        exec (.readTrip h rb) s = .next (answered h 0x34 .ok (bytes x true)
          { s with trip := { s.trip with snapshots := s.trip.snapshots.set r none } })) ∧
      exec (.resetTrip h rb) s = .next (answered h 0x35 .ok []
        (report (.tripReset r .request)
          { s with trip := { s.trip with records := s.trip.records.set r .zero,
                                         snapshots := s.trip.snapshots.set r none } }))

/-- R43 to R47 over both rolling channels, with the two places that R48 hands whole metres to, the records that accumulate (R50) by R49 and the Odometer, and the notice of the new shown value (R79, R99). -/
def Obligations.RollingCountsBecomeWholeUnits : Prop :=
  (∀ s : State,
    let km : Option Nat :=
      if s.odometer.valid = true then some (min 9999999 (s.odometer.stored + s.odometer.pending) / 10) else none
    (km = s.service.lastKm → shownNotice s = s) ∧
    (km ≠ s.service.lastKm →
      shownNotice s = evaluateAll { s with service := { s.service with lastKm := km } })) ∧
  ∀ (t : TripSetup) (fuel : Bool) (s : State), s.trip.setup = some t → 0 < t.pulsesPerKm → 0 < t.unitsPerLitre →
    (s.store.ctl ≠ .scanning) →
    let base := if fuel = true then s.trip.fuelBase else s.trip.distanceBase
    let residue := if fuel = true then s.trip.residueF else s.trip.residueE
    let per := if fuel = true then t.unitsPerLitre else t.pulsesPerKm
    let withBase (b : Option Nat) : Trip :=
      if fuel = true then { s.trip with fuelBase := b } else { s.trip with distanceBase := b }
    let driving := s.key.state = .run ∨ s.key.state = .crank
    (∀ v limited seeded, rollingNotice t fuel (.sample (.analog v limited) seeded) s = s) ∧
    (∀ level edge seeded, rollingNotice t fuel (.sample (.discrete level edge) seeded) s = s) ∧
    rollingNotice t fuel .stale s = { s with trip := withBase none } ∧
    ∀ count : Nat, count < 65536 →
      rollingNotice t fuel (.sample (.rolling count) true) s = { s with trip := withBase (some count) } ∧
      (∀ seeded, base = none →
        rollingNotice t fuel (.sample (.rolling count) seeded) s = { s with trip := withBase (some count) }) ∧
      (∀ b delta, base = some b → b < 65536 → delta < 65536 → (b + delta) % 65536 = count →
        (t.maxDelta < delta → rollingNotice t fuel (.sample (.rolling count) false) s =
          report (.discontinuity fuel delta) { s with trip := withBase (some count) }) ∧
        (delta ≤ t.maxDelta → ¬ driving →
          rollingNotice t fuel (.sample (.rolling count) false) s = { s with trip := withBase (some count) }) ∧
        (delta ≤ t.maxDelta → driving →
          ∃ (units rest : Nat), residue + delta * 1000 = units * per + rest ∧ rest < per ∧
            (let u := (rollingNotice t fuel (.sample (.rolling count) false) s).trip
             u.residueE = (if fuel = true then s.trip.residueE else rest) ∧
             u.residueF = (if fuel = true then rest else s.trip.residueF) ∧
             u.distanceBase = (withBase (some count)).distanceBase ∧ u.fuelBase = (withBase (some count)).fuelBase ∧
             u.setup = s.trip.setup ∧ u.snapshots = s.trip.snapshots ∧ u.rear = s.trip.rear ∧
             u.saving = s.trip.saving ∧ u.pendingCapture = s.trip.pendingCapture ∧ u.savedCopy = s.trip.savedCopy ∧
             (let v := rollingNotice t fuel (.sample (.rolling count) false) s
              (fuel = true ∨ units = 0 → v.odometer = s.odometer ∧ v.service = s.service) ∧
              (fuel = false → 0 < units →
                v.odometer = (addMetres units s).odometer ∧ v.service = (addMetres units s).service)) ∧
             (units = 0 → u.records = s.trip.records) ∧
             (0 < units → ∀ r : Fin 4,
               let takes := r.val < 3 ∨ (s.trip.rear = .running ∧ s.key.state = .run)
               let x := s.trip.records[r]
               u.records[r] = (if takes then
                 (if fuel = true then { x with fuel := (x.fuel.add 9999999 units).1 }
                  else { x with distance := (x.distance.add 9999999 units).1 }) else x)))))

/-- R49, the saturation rule, over every addition of the model, and the seconds event of R51, which adds 1 s by it to each field that gains, one addition after another. No rule orders the additions of one event, and this statement leaves their order open. -/
def Obligations.TripFieldsSaturateOnce : Prop :=
  (∀ (r : Fin 4) (f : TripField) (n : Nat) (s : State),
    let limit := match f with | .distance => 9999999 | .fuel => 9999999 | .elapsed => 359999 | .moving => 359999
    let x := s.trip.records[r]
    let c := x.get f
    let put (c' : Counter) : State := { s with trip := { s.trip with records := s.trip.records.set r (x.put f c') } }
    (c.overflow = true → addField r f n s = s) ∧
    (c.overflow = false → c.value + n ≤ limit → addField r f n s = put { value := c.value + n, overflow := false }) ∧
    (c.overflow = false → limit < c.value + n →
      addField r f n s = report (.overflow r f) (put { value := limit, overflow := true })) ∧
    (c.value ≤ limit → (((addField r f n s).trip.records[r]).get f).value ≤ limit)) ∧
  (∀ s : State, s.trip.setup = none → tripSeconds s = s) ∧
  (∀ (s : State) (t : TripSetup), s.trip.setup = some t → s.store.ctl ≠ .scanning →
    let u := tripSeconds s
    let driving := s.key.state = .run ∨ s.key.state = .crank
    let moving := (s.channels[t.speed]).state = .fresh ∧ ∃ v, (s.channels[t.speed]).value = some v ∧ 30 ≤ v
    let elapses (r : Fin 4) := (r ≠ 3 ∧ driving) ∨ (r = 3 ∧ s.trip.rear = .running)
    let moves (r : Fin 4) := moving ∧ ((r ≠ 3 ∧ driving) ∨ (r = 3 ∧ s.trip.rear = .running ∧ s.key.state = .run))
    (∃ gains : List (Fin 4 × TripField), gains.Nodup ∧
      (∀ r f, (r, f) ∈ gains ↔ (f = .elapsed ∧ elapses r) ∨ (f = .moving ∧ moves r)) ∧
      u = gains.foldl (fun v g => addField g.1 g.2 1 v) s) ∧
    u = { s with trip := { s.trip with records := u.trip.records }, handler := u.handler, loop := u.loop } ∧
    ∀ r : Fin 4,
      let x := s.trip.records[r]
      let y := u.trip.records[r]
      let bump (c : Counter) : Counter :=
        if c.overflow = true then c else if c.value + 1 ≤ 359999 then { c with value := c.value + 1 }
        else { value := 359999, overflow := true }
      y.distance = x.distance ∧ y.fuel = x.fuel ∧ (elapses r → y.elapsed = bump x.elapsed) ∧
      (¬ elapses r → y.elapsed = x.elapsed) ∧ (moves r → y.moving = bump x.moving) ∧ (¬ moves r → y.moving = x.moving))

/-- R54 to R56. q is n / d rounded half up exactly when 2qd ≤ 2n + d < 2qd + 2d. -/
def Obligations.DerivedFiguresRoundHalfUp : Prop :=
  let halfUp (n d q : Nat) : Prop := 2 * q * d ≤ 2 * n + d ∧ 2 * n + d < 2 * q * d + 2 * d
  (∀ x : TripRecord,
    (x.moving.value < 10 → averageSpeed x = none) ∧
    (10 ≤ x.moving.value → ∃ q, averageSpeed x = some q ∧ halfUp (x.distance.value * 36) x.moving.value q) ∧
    (x.distance.value < 1000 → averageConsumption x = none) ∧
    (1000 ≤ x.distance.value →
      ∃ q, averageConsumption x = some (min 999 q) ∧ halfUp (x.fuel.value * 1000) x.distance.value q)) ∧
  (∀ s : State,
    (s.trip.setup = none → s.range = none) ∧
    (∀ t, s.trip.setup = some t →
      ((s.channels[t.level]).state ≠ .fresh ∨ (s.channels[t.level]).value = none → s.range = none) ∧
      (∀ level, (s.channels[t.level]).state = .fresh → (s.channels[t.level]).value = some level →
        ∃ c, (if 10000 ≤ (s.trip.records[2]).distance.value then averageConsumption s.trip.records[2] = some c
              else c = t.defaultConsumption) ∧
          (level ≤ 0 → s.range = some 0) ∧ (0 < level → c = 0 → s.range = some 1999) ∧
          (0 < level → 0 < c → ∃ q, s.range = some (min 1999 q) ∧ halfUp (level.toNat * 100) c q)))) ∧
  (∀ (h : Head) (rb : Byte) (part : Option Byte) (s : State), s.takes h = true →
    (4 ≤ rb.toNat → exec (.readTripFigures h rb part) s = .next (answered h 0x32 .badArgument [] s)) ∧
    (∀ r : Fin 4, rb.toNat = r.val →
      let x := s.trip.records[r]
      let content := encMarked 4 enc4 (averageSpeed x) ++ encMarked 2 enc2 (averageConsumption x) ++
        encMarked 2 enc2 s.range ++ encBool x.distance.overflow ++ encBool x.fuel.overflow ++
        encBool x.elapsed.overflow ++ encBool x.moving.overflow
      let p := (part.getD 0).toNat
      (1 < p → exec (.readTripFigures h rb part) s = .next (answered h 0x32 .badArgument [] s)) ∧
      (p ≤ 1 → exec (.readTripFigures h rb part) s = .next (answered h 0x32 .ok
        (BitVec.ofNat 8 (16 * p + 1) :: (content.drop (11 * p)).take 11) s))))

/-- The key-off capture and the end of its save (section 3.7: R60, R61) and the journey gap (section 3.4.2: R53). The model's choices: the free gap while UNSET (log entry 28), and that a capture equal to the saved copy becomes pending while SAVING (log entry 36). -/
def Obligations.KeyOffCapturesOnlyWhatChanged : Prop :=
  (∀ (old : KeyState) (s : State),
    let c : Capture := { tripA := s.trip.records[0], tripB := s.trip.records[1] }
    (s.store.ctl = .scanning → tripKey old .off s = s) ∧
    (s.store.ctl ≠ .scanning → s.trip.saving = true →
      tripKey old .off s = { s with trip := { s.trip with pendingCapture := some c } }) ∧
    (s.store.ctl ≠ .scanning → s.trip.saving = false → s.trip.savedCopy = some c → tripKey old .off s = s) ∧
    (s.store.ctl ≠ .scanning → s.trip.saving = false → s.trip.savedCopy ≠ some c →
      c.words.length = 16 ∧
      tripKey old .off s = requestSave .trip c.words { s with trip := { s.trip with saving := true } })) ∧
  (∀ (ok : Bool) (s : State),
    let copy : Option Capture :=
      match ok, s.tripPair.active with
      | true, some k => some (captureAt s.store.mem k)
      | _, _ => s.trip.savedCopy
    let u := setSys .storeFault (!ok || s.service.saveFault)
      { s with trip := { s.trip with savedCopy := copy, saveFault := !ok } }
    (s.trip.pendingCapture = none ∨ s.trip.pendingCapture = copy →
      tripSaveEnd ok s = { u with trip := { u.trip with saving := false, pendingCapture := none } }) ∧
    (∀ c, s.trip.pendingCapture = some c → copy ≠ some c →
      tripSaveEnd ok s = requestSave .trip c.words { u with trip := { u.trip with pendingCapture := none } })) ∧
  (∀ (old new : KeyState) (s : State),
    let keyOn := (old = .off ∨ old = .acc) ∧ (new = .run ∨ new = .crank)
    let zeroed : State := report (.tripReset 2 .gap)
      { s with trip := { s.trip with records := s.trip.records.set 2 .zero, snapshots := s.trip.snapshots.set 2 none } }
    (¬ keyOn → new ≠ .off → tripKey old new s = s) ∧
    (keyOn → s.key.valid = false ∨ s.key.keyOff = none → tripKey old new s = s) ∧
    (∀ off : Stamp, keyOn → s.key.valid = true → s.key.keyOff = some off →
      let stood : Int := max 0 (((s.key.day : Int) - off.day) * 86400 + ((s.key.seconds : Int) - off.seconds))
      (∀ t, s.trip.setup = some t →
        ((t.journeyGap : Int) * 60 ≤ stood → tripKey old new s = zeroed) ∧
        (stood < (t.journeyGap : Int) * 60 → tripKey old new s = s)) ∧
      (s.trip.setup = none → tripKey old new s = zeroed ∨ tripKey old new s = s)))

/-- The checks and the effect of the two external store requests (section 4.4), with the accepted request outstanding, and the response at its end (R75, R76, R182); beside it how a program's outcome and those of an erase step reach their class (R67). A pair's erase step names one sector, whose outcome is what the pair takes. What data a FAILED answer carries (none for STORE PROGRAM, the eight outcome bytes for STORE ERASE) is the model's choice: log entry 25. -/
def Obligations.StoreRequestsByTheirChecks : Prop :=
  (∀ (h : Head) (s : State), s.takes h = true →
    (∀ (addr : Byte) (value : Word) (a : Fin 256), addr.toNat = a.val →
      let run := exec (.storeProgram h addr value) s
      let taken := { s.handler with ext := some (.program a),
                                    extRequester := some { node := h.node, code := 0x41, seq := h.seq } }
      (a.val < 192 → run = .next (answered h 0x41 .isProtected [] s)) ∧
      (192 ≤ a.val → s.handler.ext.isSome = true → run = .next (answered h 0x41 .busy [] s)) ∧
      (192 ≤ a.val → s.handler.ext = none → (s.sector (sectorOf a)).bad = true →
        run = .next (answered h 0x41 .failed [] s)) ∧
      (192 ≤ a.val → s.handler.ext = none → (s.sector (sectorOf a)).bad = false →
        run = .next (settle { s with handler := taken, store := s.store.place .external (.program a value) }) ∧
        (settleOnce s = none → s.store.ctl = .ready →
          run = .next { s with handler := taken,
                               store := { s.store with ctl := .programming,
                                                       running := some { cls := .external, addr := a, value := value } } }))) ∧
    (∀ sectors : Byte,
      let run := exec (.storeErase h sectors) s
      let allBad := ∀ k : Fin 8, 6 ≤ k.val → sectors.getLsbD k.val = true → (s.sector k).bad = true
      (sectors = 0 → run = .next (answered h 0x42 .badArgument [] s)) ∧
      (sectors ≠ 0 → sectors &&& 0xC0 = 0 → run = .next (answered h 0x42 .isProtected [] s)) ∧
      (sectors &&& 0xC0 ≠ 0 → s.handler.ext.isSome = true → run = .next (answered h 0x42 .busy [] s)) ∧
      (sectors &&& 0xC0 ≠ 0 → s.handler.ext = none → allBad →
        run = .next (answered h 0x42 .failed
          ((List.finRange 8).map (fun k => if sectors.getLsbD k.val = true then (if k.val < 6 then 3 else 2) else 0xFF)) s)) ∧
      (sectors &&& 0xC0 ≠ 0 → s.handler.ext = none → ¬ allBad →
        run = .next (settle { s with
          handler := { s.handler with ext := some (.erase sectors),
                                      extRequester := some { node := h.node, code := 0x42, seq := h.seq } },
          store := s.store.place .external (.erase (sectors &&& 0xC0)) })))) ∧
  ∀ s : State,
    let freed : State := { s with handler := { s.handler with ext := none, extRequester := none } }
    let answers (t : State) (st : Status) (data : List Byte) : Prop :=
      (s.handler.extRequester = none → t = freed) ∧
      ∀ r, s.handler.extRequester = some r →
        t = holdResponse (responseFrame { node := r.node, seq := r.seq } r.code st data s)
          { freed with loop := { s.loop with overrun := false } }
    (∀ f : Frame,
      (s.handler.held = [] → s.loop.insertQ.length < 8 → holdResponse f s =
        { s with loop := { s.loop with insertQ := s.loop.insertQ ++ [{ frame := f, restart := false }] } }) ∧
      (s.handler.held ≠ [] ∨ 8 ≤ s.loop.insertQ.length → holdResponse f s =
        { s with handler := { s.handler with held := s.handler.held ++ [f] } })) ∧
    (∀ rep : ProgramReport,
      (rep.cls = .odometer → classProgramEnd rep s = odometerProgramEnd rep s) ∧
      (rep.cls = .trip → classProgramEnd rep s = pairProgramEnd .trip rep.exceeded s) ∧
      (rep.cls = .service → classProgramEnd rep s = pairProgramEnd .service rep.exceeded s) ∧
      (rep.cls = .external → answers (classProgramEnd rep s) (if rep.exceeded = true then .failed else .ok)
        [BitVec.ofNat 8 (rep.word.toNat / 256), BitVec.ofNat 8 rep.word.toNat])) ∧
    (∀ (b : BitVec 8) (os : List (Fin 8 × EraseOutcome)),
      classEraseEnd .odometer b os s = odometerEraseEnd os s ∧
      (∀ k : Fin 8, b.getLsbD k.val = true → (∀ j : Fin 8, j.val < k.val → b.getLsbD j.val = false) →
        classEraseEnd .trip b os s = pairEraseEnd .trip (outcomeOf os k) s ∧
        classEraseEnd .service b os s = pairEraseEnd .service (outcomeOf os k) s) ∧
      ∀ named : BitVec 8, s.handler.ext = some (.erase named) →
        let all := ∀ k : Fin 8, b.getLsbD k.val = true → outcomeOf os k = some .erased
        let data : List Byte := (List.finRange 8).map (fun k =>
          if named.getLsbD k.val = false then 0xFF else if k.val < 6 then 3
          else match outcomeOf os k with | some .erased => 0 | some .exceeded => 1 | _ => 2)
        (all → answers (classEraseEnd .external b os s) .ok data) ∧
        (¬ all → answers (classEraseEnd .external b os s) .failed data))

/-- R65, with the flags of R66. `u` is the state in which the class takes the outcome; its store is what the program's end leaves, the controller of which is stated with the erasing; what follows it is `settle`. The model's choices, where no rule gives an order: PROGRAM_FAILED is reported before the class takes the outcome (log entry 10), and the order within `settle` (log entry 19). -/
def Obligations.ProgramEndLeavesOldAndNew : Prop :=
  ∀ (worn : Bool) (s : State) (r : Running), s.powered = true → s.storeWords = true → s.store.running = some r →
    let old := Memory.read s.store.mem r.addr.val
    let new := old &&& r.value
    let exceeded := worn = true ∨ ∃ i : Fin 16, r.value.getLsbD i.val = true ∧ old.getLsbD i.val = false
    ∃ (t u : State) (rep : ProgramReport), exec (.programEnd worn) s = .next t ∧ t = settle (classProgramEnd rep u) ∧
      s.store.programEnd worn = some (rep, u.store) ∧ rep.cls = r.cls ∧ rep.addr = r.addr ∧ rep.word = new ∧ (rep.exceeded = true ↔ exceeded) ∧
      rep.cleared = ones old - ones new ∧
      u.store.running = none ∧ (exceeded → u = report (.programFailed r.cls r.addr) { s with store := u.store }) ∧
      (¬ exceeded → u = { s with store := u.store }) ∧
      t.store.mem = u.store.mem ∧ Memory.read t.store.mem r.addr.val = new ∧
      (∀ a, a ≠ r.addr.val → Memory.read t.store.mem a = Memory.read s.store.mem a) ∧
      t.store.flags = u.store.flags ∧ (t.sector (sectorOf r.addr)).bad = (s.sector (sectorOf r.addr)).bad ∧
      ((t.sector (sectorOf r.addr)).worn = true ↔ ((s.sector (sectorOf r.addr)).worn = true ∨ exceeded)) ∧
      (t.sector (sectorOf r.addr)).erasedKnown = false ∧
      (∀ k, k ≠ sectorOf r.addr → t.sector k = s.sector k)

/-- The Store Controller (sections 4.2 and 4.3): how a step is placed and taken (R67 to R69), the three events of an erase (R66, R69 to R71), what follows a program, the reads of R73, and `settle`, what follows within the event: the one thing that follows first, then what follows that, until none is left. While the window is open no sector has an outcome yet, which every step keeps (the invariant of safe states). The model's choices: the order of what follows (log entry 19), and that SECTOR_BAD is reported before it (log entry 10). That a word of a BAD sector in the erase set answers NOT_READY is the model's choice: log entry 32. -/
def Obligations.ErasingGoesSectorBySector : Prop :=
  (∀ x : Store, (x.beginNext).mem = x.mem ∧ (x.beginNext).flags = x.flags ∧
    (let open' (k : Fin 8) : Prop := x.eraseSet.getLsbD k.val = true ∧ outcomeOf x.outcomes k = none ∧
       (x.flags[k]).bad = false ∧ ¬ (k.val < 6 ∧ sectorWord x.mem k 0 = 0x00FF)
     let passed (j : Fin 8) : Prop := x.eraseSet.getLsbD j.val = true ∧ outcomeOf x.outcomes j = none ∧
       ∀ k, open' k → j.val < k.val
     ((∀ k, ¬ open' k) → x.beginNext =
       { x with ctl := .ready, eraseSet := 0, current := none, outcomes := (x.beginNext).outcomes }) ∧
     (∀ k, open' k → (∀ j : Fin 8, j.val < k.val → ¬ open' j) →
       x.beginNext = { x with ctl := .erasing, current := some k, outcomes := (x.beginNext).outcomes }) ∧
     (∀ j, (passed j → outcomeOf (x.beginNext).outcomes j =
         some (if (x.flags[j]).bad = true then EraseOutcome.skippedBad else EraseOutcome.skippedActive)) ∧
       (¬ passed j → outcomeOf (x.beginNext).outcomes j = outcomeOf x.outcomes j)))) ∧
  (∀ (x : Store) (c : StoreClass) (a : Fin 256) (v : Word) (b : BitVec 8),
    let waits (step : StoreStep) : Store := x.setSlot c (some step)
    let suspends (y : Store) : Store := if c = .odometer then { y with ctl := .suspending } else y
    let closed : Store := ({ waits (.program a v) with window := none }).beginNext
    (∀ d step, (x.setSlot c step).slot d = if d = c then step else x.slot d) ∧
    (x.ctl = .eraseWindow → x.place c (.erase b) =
      { x.setSlot c none with eraseSet := x.eraseSet ||| b, joined := x.joined ++ [(c, b)] }) ∧
    (x.ctl ≠ .eraseWindow → x.place c (.erase b) = waits (.erase b)) ∧
    (x.ctl = .eraseWindow → closed.ctl = .erasing → x.place c (.program a v) = suspends closed) ∧
    (x.ctl = .eraseWindow → closed.ctl ≠ .erasing → x.place c (.program a v) = closed) ∧
    (x.ctl = .erasing → x.place c (.program a v) = suspends (waits (.program a v))) ∧
    (x.ctl ≠ .eraseWindow → x.ctl ≠ .erasing → x.place c (.program a v) = waits (.program a v)) ∧
    (x.ctl ≠ .ready ∨ (∀ d, x.slot d = none) → x.take = none) ∧
    (∀ step, x.ctl = .ready → x.slot c = some step → (∀ d : StoreClass, d.code < c.code → x.slot d = none) →
      (step = .program a v → x.take = some { x.setSlot c none with
        ctl := .programming, running := some { cls := c, addr := a, value := v } }) ∧
      (step = .erase b → ∃ y, x.take = some y ∧
        y = { x with ctl := .eraseWindow, window := some 10, outcomes := [], slotOdometer := y.slotOdometer,
                     slotTrip := y.slotTrip, slotService := y.slotService, slotExternal := y.slotExternal,
                     eraseSet := y.eraseSet, joined := y.joined } ∧
        (∀ d e, x.slot d = some (.erase e) → y.slot d = none) ∧
        (∀ d, (∀ e, x.slot d ≠ some (.erase e)) → y.slot d = x.slot d) ∧
        (∀ d e, (d, e) ∈ y.joined ↔ ((d, e) ∈ x.joined ∨ x.slot d = some (.erase e))) ∧
        (∀ k : Fin 8, y.eraseSet.getLsbD k.val = true ↔
          (x.eraseSet.getLsbD k.val = true ∨ ∃ d e, x.slot d = some (.erase e) ∧ e.getLsbD k.val = true))))) ∧
  (∀ (x y : Store) (worn : Bool) (rep : ProgramReport), x.programEnd worn = some (rep, y) →
    let z : Store := { x with mem := y.mem, flags := y.flags, running := none }
    y.eraseSet = (if y.ctl = .ready ∧ x.ctl = .suspendedProgramming then 0 else x.eraseSet) ∧
    (x.ctl ≠ .suspendedProgramming → y = { z with ctl := .ready }) ∧
    (∀ k, x.ctl = .suspendedProgramming → x.current = some k → y = { z with ctl := .erasing }) ∧
    (x.ctl = .suspendedProgramming → x.current = none → y = z.beginNext)) ∧
  (∀ (x : Store) (k : Fin 8) (failed : Bool) (raised : List Word), x.current = some k →
    let outcomes := x.outcomes ++ [(k, if failed = true then EraseOutcome.exceeded else EraseOutcome.erased)]
    let left := ∃ j : Fin 8, x.eraseSet.getLsbD j.val = true ∧ outcomeOf outcomes j = none
    ∃ z : Store, z = { x with mem := z.mem, flags := z.flags, current := none, outcomes := outcomes } ∧
      (x.ctl = .erasing → x.eraseEnd failed raised = some (k, z.beginNext)) ∧
      (x.ctl = .suspending → ¬ left → x.eraseEnd failed raised = some (k, { z with ctl := .ready, eraseSet := 0 })) ∧
      (∀ a v, x.ctl = .suspending → left → x.slotOdometer = some (.program a v) → x.eraseEnd failed raised =
        some (k, { z with slotOdometer := none, ctl := .suspendedProgramming,
                          running := some { cls := .odometer, addr := a, value := v } }))) ∧
  (∀ (x : Store) (a : Fin 256) (k : Fin 8), a.val / 32 = k.val →
    let waits := (x.eraseSet.getLsbD k.val = true ∧ outcomeOf x.outcomes k = none) ∨
      (∃ r, x.running = some r ∧ r.addr = a) ∨ x.ctl = .scanning
    (waits → x.readWord a = (.notReady, 0)) ∧ (¬ waits → (x.flags[k]).bad = true → x.readWord a = (.failed, 0)) ∧
    (¬ waits → (x.flags[k]).bad = false → x.readWord a = (.ok, Memory.read x.mem a.val))) ∧
  (∀ s : State,
    let ended (p : PairId) (report : Option State) : Prop :=
      ((s.pair p).ended = none → report = none) ∧
      ∀ ok, (s.pair p).ended = some ok →
        let told := s.setPair p { s.pair p with ended := none }
        report = some (match p with | .trip => tripSaveEnd ok told | .service => serviceSaveEnd ok told)
    let finished (j : StoreClass × BitVec 8) : Prop :=
      ∀ k : Fin 8, j.2.getLsbD k.val = true → outcomeOf s.store.outcomes k ≠ none
    ∃ trip service erase : Option State,
      settleOnce s = (trip <|> service <|> erase <|> odometerPump s <|> pairPump .trip s <|> pairPump .service s <|>
        s.store.take.map (fun x => { s with store := x })) ∧
      ended .trip trip ∧ ended .service service ∧
      ((∀ j ∈ s.store.joined, ¬ finished j) → erase = none) ∧
      (∀ before j after, s.store.joined = before ++ j :: after → finished j → (∀ i ∈ before, ¬ finished i) →
        erase = some (classEraseEnd j.1 j.2 s.store.outcomes { s with store :=
          { s.store with joined := before ++ after,
                         outcomes := if before ++ after = [] then [] else s.store.outcomes } })) ∧
      (s.windowFresh = true →
        (settleOnce s = none → settle s = s) ∧
        (∀ t, settleOnce s = some t → settle s = settle t ∧ t.windowFresh = true) ∧
        settleOnce (settle s) = none)) ∧
  ∀ s : State, s.powered = true →
    (s.store.ctl = .eraseWindow → s.store.window.isSome = true →
      exec .eraseWindowExpiry s = .next (settle { s with store := ({ s.store with window := none }).beginNext })) ∧
    (∀ (k : Fin 8) (failed : Bool) (raised : List Word), s.storeWords = true → s.store.current = some k →
      (s.store.ctl = .erasing ∨ s.store.ctl = .suspending) →
      ∃ t u : State, exec (.sectorEraseEnd failed raised) s = .next t ∧ t = settle u ∧
        s.store.eraseEnd failed raised = some (k, u.store) ∧
        t.store.mem = u.store.mem ∧ t.store.flags = u.store.flags ∧
        (failed = true → u = report (.sectorBad k) { s with store := u.store }) ∧
        (failed = false → u = { s with store := u.store }) ∧
        (∀ w, w < 32 → sectorWord t.store.mem k w =
          (if failed = true then sectorWord s.store.mem k w ||| raised.getD w 0 else 0xFFFF)) ∧
        (∀ j w, j ≠ k → w < 32 → sectorWord t.store.mem j w = sectorWord s.store.mem j w) ∧
        (t.sector k).bad = ((s.sector k).bad || failed) ∧ (t.sector k).worn = (s.sector k).worn ∧
        (t.sector k).erasedKnown = !failed ∧ (∀ j, j ≠ k → t.sector j = s.sector j)) ∧
    (∀ (a : Fin 256) (v : Word), s.store.ctl = .suspending → s.store.slotOdometer = some (.program a v) →
      exec .suspensionReached s = .next (settle { s with store :=
        { s.store with slotOdometer := none, ctl := .suspendedProgramming,
                       running := some { cls := .odometer, addr := a, value := v } } }))

/-- R66: a rule of the whole machine, over all 107 commands. The part cut off during an erase (R64) is the erase of that sector too. -/
def Obligations.OnlyAnEraseRaisesABit : Prop :=
  ∀ (i : Instr) (s t : State) (a : Fin 256) (b : Fin 16), s.storeWords = true → exec i s = .next t →
    (Memory.read s.store.mem a.val).getLsbD b.val = false → (Memory.read t.store.mem a.val).getLsbD b.val = true →
    s.store.current = some (sectorOf a) ∧
    ((∃ failed raised, i = .sectorEraseEnd failed raised) ∨ (∃ held raised, i = .powerLoss held raised) ∨
      (∃ straps held raised, i = .powerOnReset straps held raised))

/-- The scan (section 4.7): the codes of R86, the start-up report of R186 and the recovery of R87. The model's choices and readings: the order of the recoveries (log entry 10), that the odometer's VALID notice evaluates the service items before their records are recovered (log entry 41), the flags of the open sectors (log entry 30), that a SET ODOMETER taken during the scan keeps the Odometer INVALID at the recovery (log entry 21), and that the start-up report is placed within SCAN_COMPLETE itself where more than 2 places are free (log entry 6). -/
def Obligations.ScanGivesOneCodePerSector : Prop :=
  (∀ s : State, s.powered = true → s.store.ctl = .scanning →
    ∃ (t u : State) (codes : List ScanCode), exec .scanComplete s = .next t ∧ codes.length = 8 ∧
      t.store.ctl ≠ .scanning ∧ t.store.mem = s.store.mem ∧ t.key = s.key ∧ t.channels = s.channels ∧
      t.curves = s.curves ∧
      t = settle (recoverRecords (recoverPair .service (recoverTrips (recoverPair .trip (recoverOdometer u))))) ∧
      u = { s with store := { s.store with ctl := .ready, flags := u.store.flags }, handler := u.handler, loop := u.loop } ∧
      (s.loop.insertQ.length < 6 → t.handler.startUp = none ∧
        u.loop.insertQ = s.loop.insertQ ++ [{ frame := mkFrame 0xE1 s.loop.node ([0, 0,
          if s.handler.eventsLost = true then 1 else 0] ++ codes.map (fun c => BitVec.ofNat 8 c.code)), restart := false }] ∧
        ∃ more, t.loop.insertQ = u.loop.insertQ ++ more) ∧
      (6 ≤ s.loop.insertQ.length → t.handler.startUp = some codes) ∧
      ∀ k : Fin 8,
        let m := s.store.mem
        let code := codes[k.val]?
        let erased := ∀ w, w < 32 → sectorWord m k w = 0xFFFF
        let good :=
          if k.val < 2 then
            sectorWord m k 3 = ~~~(sectorWord m k 1 + sectorWord m k 2) ∧
              (sectorWord m k 1).toNat * 65536 + (sectorWord m k 2).toNat ≤ 9999999
          else if k.val < 4 then
            wordSum ((List.range 18).map (fun i => sectorWord m k (i + 1))) = 0 ∧ pairInRange m .trip k = true
          else wordSum ((List.range 26).map (fun i => sectorWord m k (i + 1))) = 0 ∧ pairInRange m .service k = true
        ((u.sector k).erasedKnown = true ↔ erased) ∧
        (6 ≤ k.val → code = some .openSector) ∧
        (k.val < 6 → erased → code = some .erased) ∧
        (k.val < 6 → sectorWord m k 0 = 0x00FF → good → code = some .activeOk) ∧
        (k.val < 6 → sectorWord m k 0 = 0x00FF → ¬ good → code = some .checkFail) ∧
        (k.val < 6 → sectorWord m k 0 = 0x0000 → code = some .obsolete) ∧
        (k.val < 6 → ¬ erased → sectorWord m k 0 ≠ 0x00FF → sectorWord m k 0 ≠ 0x0000 → code = some .corrupt)) ∧
  (∀ s : State,
    let m := s.store.mem
    let base (k : Fin 8) : Nat := (sectorWord m k 1).toNat * 65536 + (sectorWord m k 2).toNat
    let zeros (k : Fin 8) : Nat :=
      (List.range 448).countP (fun n => !(sectorWord m k (4 + n / 16)).getLsbD (n % 16))
    let value (k : Fin 8) : Nat := min 9999999 (base k + zeros k)
    let good (k : Fin 8) : Prop := k.val < 2 ∧ sectorWord m k 0 = 0x00FF ∧
      sectorWord m k 3 = ~~~(sectorWord m k 1 + sectorWord m k 2) ∧ base k ≤ 9999999
    let chosen (k : Fin 8) : Prop := good k ∧ ∀ j, good j → j ≠ k →
      value j < value k ∨ (value j = value k ∧ (base j < base k ∨ (base j = base k ∧ k = 0)))
    let o := (recoverOdometer s).odometer
    o.rotation = none ∧ o.residue = 0 ∧ o.pending = 0 ∧ o.setting = s.odometer.setting ∧
    (∀ k, s.odometer.setting = none → chosen k → o.valid = true ∧ o.active = k ∧ o.stored = value k ∧ o.cleared = zeros k ∧
      o.fault = s.odometer.fault ∧
      ∀ j : Fin 8, j ∈ o.recovery ↔ j.val < 2 ∧ j ≠ k ∧ sectorWord m j 0 = 0x00FF) ∧
    (s.odometer.setting ≠ none ∨ (∀ k, ¬ good k) → o.valid = false ∧ o.fault = true ∧
      ∀ j : Fin 8, j ∈ o.recovery ↔ j.val < 2 ∧ sectorWord m j 0 = 0x00FF))

/-- SET ODOMETER (section 4.7): its checks, each of its steps and ends (R89), and the OBSOLETE programs of a recovery (R87) before them. The model's choices: of the two sectors to be made OBSOLETE the lower-numbered one comes first (log entry 33), and at the end the fault is cleared, then the shown value notified, then the answer given (log entry 10), behind the event frames of these (log entry 6). -/
def Obligations.SetOdometerByItsChecks : Prop :=
  (∀ (h : Head) (value : BitVec 24) (s : State), s.takes h = true →
    let run := exec (.setOdometer h value) s
    (9999999 < value.toNat → run = .next (answered h 0x44 .badArgument [] s)) ∧
    (value.toNat ≤ 9999999 → s.odometer.valid = true → run = .next (answered h 0x44 .invalidState [] s)) ∧
    (value.toNat ≤ 9999999 → s.odometer.valid = false → s.odometer.setting.isSome = true →
      run = .next (answered h 0x44 .busy [] s)) ∧
    (value.toNat ≤ 9999999 → s.odometer.valid = false → s.odometer.setting = none →
      (s.sector 0).bad = true → (s.sector 1).bad = true → run = .next (answered h 0x44 .failed [] s)) ∧
    (value.toNat ≤ 9999999 → s.odometer.valid = false → s.odometer.setting = none →
      ¬ ((s.sector 0).bad = true ∧ (s.sector 1).bad = true) →
      run = .next (settle { s with
        handler := { s.handler with setRequester := some { node := h.node, code := 0x44, seq := h.seq } },
        odometer := { s.odometer with setting := some { value := value.toNat, phase := .obsolete } } }))) ∧
  (∀ s : State, s.store.ctl ≠ .scanning → s.store.slotOdometer = none → s.odometer.work = none →
    s.odometer.eraseOut = false →
    let o := s.odometer
    let placed (x : Odometer) (step : StoreStep) : Prop :=
      odometerPump s = some { s with odometer := x, store := s.store.place .odometer step }
    (∀ k rest, o.recovery = k :: rest →
      placed { o with work := some .recovery } (.program (storeAddr k 0) 0x0000)) ∧
    (∀ g, o.recovery = [] → o.setting = some g →
      let active (k : Fin 8) : Prop := (s.sector k).bad = false ∧ sectorWord s.store.mem k 0 = 0x00FF
      let high : Word := BitVec.ofNat 16 (g.value / 65536)
      let low : Word := BitVec.ofNat 16 g.value
      let goes (phase : SetPhase) (a : Fin 256) (v : Word) : Prop :=
        placed { o with work := some .setting, setting := some { g with phase := phase } } (.program a v)
      (g.phase = .obsolete → active 0 → goes .obsolete (storeAddr 0 0) 0x0000) ∧
      (g.phase = .obsolete → ¬ active 0 → active 1 → goes .obsolete (storeAddr 1 0) 0x0000) ∧
      (g.phase = .obsolete → ¬ active 0 → ¬ active 1 → ∃ b : BitVec 8,
        (∀ k : Fin 8, b.getLsbD k.val = true ↔ k.val < 2 ∧ (s.sector k).bad = false) ∧
        placed { o with eraseOut := true, setting := some { g with phase := .erase } } (.erase b)) ∧
      (∀ t, g.phase = .word t 1 → goes g.phase (storeAddr t 1) high) ∧
      (∀ t, g.phase = .word t 2 → goes g.phase (storeAddr t 2) low) ∧
      (∀ t, g.phase = .word t 3 → goes g.phase (storeAddr t 3) (~~~(high + low))) ∧
      (∀ t, g.phase = .status t → goes g.phase (storeAddr t 0) 0x00FF))) ∧
  (∀ (st : Status) (s : State),
    let closed : State :=
      { s with handler := { s.handler with setRequester := none }, odometer := { s.odometer with setting := none } }
    (s.handler.setRequester = none → answerSetting st s = closed) ∧
    (∀ r, s.handler.setRequester = some r → answerSetting st s =
      holdResponse (responseFrame { node := r.node, seq := r.seq } r.code st [] s)
        { closed with loop := { s.loop with overrun := false } })) ∧
  (∀ (s : State) (g : Setting) (r : ProgramReport) (os : List (Fin 8 × EraseOutcome)), s.odometer.setting = some g →
    let o := s.odometer
    let next (x : Odometer) : State := { s with odometer := x }
    let fit (k : Fin 8) : Prop := outcomeOf os k = some .erased ∧ (s.sector k).worn = false
    let goes (phase : SetPhase) : State :=
      checkOdoFault (next { o with work := none, setting := some { g with phase := phase } })
    let writes (t : Fin 8) : State :=
      next { o with eraseOut := false, setting := some { g with phase := .word t 1 } }
    (o.work = some .setting →
      (g.phase = .obsolete → odometerProgramEnd r s = goes .obsolete) ∧
      (∀ t k, g.phase = .word t k →
        (r.exceeded = true →
          odometerProgramEnd r s = checkOdoFault (answerSetting .failed (next { o with work := none }))) ∧
        (r.exceeded = false → k < 3 → odometerProgramEnd r s = goes (.word t (k + 1))) ∧
        (r.exceeded = false → 3 ≤ k → odometerProgramEnd r s = goes (.status t))) ∧
      (∀ t, g.phase = .status t →
        odometerProgramEnd r s = checkOdoFault (answerSetting .ok (shownNotice (setOdoFault false (next { o with
          work := none, valid := true, active := t, stored := g.value, cleared := 0, residue := 0, pending := 0 })))) ∧
        (odometerProgramEnd r s).odometer =
          { o with valid := true, active := t, stored := g.value, cleared := 0, residue := 0, pending := 0,
                   fault := false, setting := none, work := none })) ∧
    (fit 0 → odometerEraseEnd os s = writes 0) ∧ (¬ fit 0 → fit 1 → odometerEraseEnd os s = writes 1) ∧
    (¬ fit 0 → ¬ fit 1 → odometerEraseEnd os s = answerSetting .failed (next { o with eraseOut := false })))

/-- R79 to R82 (section 4.5): the quantity, the increment program, when it is placed and its end, the spare erase, the rotation and the fault. The clearing order within a word is from bit 15 down, so that a 1 that is kept has no cleared bit below it. The model's choices of order (log entry 10): the new shown value is notified before the fault of R82 is tested, and a change of the fault reports its STORE event before the system condition reaches the warnings. -/
def Obligations.MetresBecomeIncrements : Prop :=
  (∀ (metres : Nat) (s : State),
    (s.shown = none → addMetres metres s = s) ∧ (s.shown = some 9999999 → addMetres metres s = s) ∧
    (∀ v, s.shown = some v → v < 9999999 →
      let o := (addMetres metres s).odometer
      let n := (s.odometer.residue + metres) / 100
      o.residue = (s.odometer.residue + metres) % 100 ∧ o.stored = s.odometer.stored ∧
      o.cleared = s.odometer.cleared ∧ o.active = s.odometer.active ∧ o.valid = true ∧
      o.pending = s.odometer.pending + min n (min (9999999 - v) (65535 - s.odometer.pending)) ∧
      addMetres metres s = checkOdoFault (shownNotice { s with odometer :=
        { s.odometer with residue := o.residue, pending := o.pending } }))) ∧
  (∀ (s : State) (a : Fin 256) (v : Word), s.incrementStep = some (.program a v) →
    let old := Memory.read s.store.mem a.val
    s.odometer.valid = true ∧ s.odometer.cleared < 448 ∧ (s.sector s.odometer.active).worn = false ∧ old ≠ 0 ∧
    (∃ w, 4 ≤ w ∧ w < 32 ∧ a.val = 32 * s.odometer.active.val + w ∧
      ∀ u, 4 ≤ u → u < w → sectorWord s.store.mem s.odometer.active u = 0) ∧
    v &&& old = v ∧ ones v = ones old - min s.odometer.pending (ones old) ∧
    (∀ i j : Nat, i < j → j < 16 → v.getLsbD j = true → old.getLsbD i = true → v.getLsbD i = true)) ∧
  (∀ (r : ProgramReport) (s : State), s.odometer.valid = true → r.cleared ≤ s.odometer.pending →
    (incrementEnd r s).shown = s.shown ∧ (incrementEnd r s).odometer.pending = s.odometer.pending - r.cleared ∧
    (incrementEnd r s).odometer.cleared = s.odometer.cleared + r.cleared) ∧
  (∀ (r : ProgramReport) (s : State),
    (r.exceeded = false → (incrementEnd r s).odometer.fault = false) ∧
    (r.exceeded = true → (incrementEnd r s).odometer.fault = s.odometer.fault)) ∧
  (∀ s : State,
    let o := s.odometer
    let spare : Fin 8 := if o.active = 0 then 1 else 0
    let done := 448 ≤ o.cleared ∨ (s.sector o.active).worn = true
    let ready := (s.sector spare).erasedKnown = true ∧ (s.sector spare).worn = false ∧ (s.sector spare).bad = false
    let begins := o.valid = true ∧ 0 < o.pending ∧ done ∧ ready
    (∀ r, s.rotationNow = some r ↔
      (o.rotation = some r ∨ (o.rotation = none ∧ begins ∧ r = { base := o.stored, step := 1 }))) ∧
    (∀ r, s.rotationNow = some r → 1 ≤ r.step → r.step ≤ 5 → s.store.ctl ≠ .scanning → s.store.slotOdometer = none →
        o.work = none → o.eraseOut = false → o.recovery = [] → o.setting = none →
      let high : Word := BitVec.ofNat 16 (r.base / 65536)
      let low : Word := BitVec.ofNat 16 r.base
      ∃ (a : Fin 256) (v : Word), odometerPump s = some { s with
          odometer := { o with rotation := some r, work := some .rotation }, store := s.store.place .odometer (.program a v) } ∧
        (r.step = 1 → a.val = 32 * spare.val + 1 ∧ v = high) ∧ (r.step = 2 → a.val = 32 * spare.val + 2 ∧ v = low) ∧
        (r.step = 3 → a.val = 32 * spare.val + 3 ∧ v = ~~~(high + low)) ∧
        (r.step = 4 → a.val = 32 * spare.val ∧ v = 0x00FF) ∧ (r.step = 5 → a.val = 32 * o.active.val ∧ v = 0x0000)) ∧
    (let needed := o.valid = true ∧ (224 ≤ o.cleared ∨ (s.sector o.active).worn = true) ∧
       (s.sector spare).erasedKnown = false ∧ (s.sector spare).bad = false ∧ (s.sector spare).worn = false ∧
       o.eraseOut = false
     let open' := ∃ w, 4 ≤ w ∧ w < 32 ∧ sectorWord s.store.mem o.active w ≠ 0
     let increments := o.valid = true ∧ 0 < o.pending ∧ ¬ done ∧ open'
     let free := s.store.ctl ≠ .scanning ∧ s.store.slotOdometer = none ∧ o.work = none ∧ o.setting = none
     let calm := free ∧ o.eraseOut = false ∧ o.recovery = [] ∧ o.rotation = none ∧ ¬ begins
     let placed (x : Odometer) (step : StoreStep) : Prop :=
       odometerPump s = some { s with odometer := x, store := s.store.place .odometer step }
     (calm → needed → placed { o with eraseOut := true } (.erase (if o.active = 0 then 2 else 1))) ∧
     (increments → (calm ∧ ¬ needed) ∨ (free ∧ o.eraseOut = true) →
       ∃ a v, s.incrementStep = some (.program a v) ∧ placed { o with work := some .increment } (.program a v)) ∧
     (¬ increments → s.incrementStep = none ∧ ((calm ∧ ¬ needed) ∨ (free ∧ o.eraseOut = true) → odometerPump s = none)) ∧
     (s.store.ctl = .scanning ∨ s.store.slotOdometer ≠ none ∨ o.work ≠ none ∨
       (o.eraseOut = true ∧ o.setting ≠ none) → odometerPump s = none) ∧
     (∀ os, o.setting = none → odometerEraseEnd os s = checkOdoFault { s with odometer := { o with eraseOut := false } }) ∧
     (∀ rep, o.work = some .increment → odometerProgramEnd rep s =
       checkOdoFault (incrementEnd rep { s with odometer := { o with work := none } })) ∧
     (∀ rep, o.work = some .recovery → odometerProgramEnd rep s =
       checkOdoFault { s with odometer := { o with work := none, recovery := o.recovery.drop 1 } })) ∧
    (∀ (r : Rotation) (rep : ProgramReport), o.work = some .rotation → o.rotation = some r → 1 ≤ r.step → r.step ≤ 5 →
      let next (x : Odometer) : State := { s with odometer := { x with work := none } }
      ∃ u, odometerProgramEnd rep s = checkOdoFault u ∧
        (r.step ≤ 3 → rep.exceeded = true → u = setOdoFault true (next { o with rotation := none })) ∧
        (r.step ≤ 3 → rep.exceeded = false → u = next { o with rotation := some { r with step := r.step + 1 } }) ∧
        (r.step = 4 → u = next { o with rotation := some { r with step := 5 } }) ∧
        (r.step = 5 → u = next { o with rotation := none, active := spare, cleared := 0 })) ∧
    (∀ b, (o.fault = b → setOdoFault b s = s) ∧ (o.fault ≠ b → setOdoFault b s =
      setSys .odometerFault b (report (.odometerFault b) { s with odometer := { o with fault := b } }))) ∧
    (let stuck := o.valid = true ∧ 0 < o.pending ∧ done ∧ o.rotation = none ∧ ¬ ready
     (stuck → checkOdoFault s = setOdoFault true s) ∧ (¬ stuck → checkOdoFault s = s)))

/-- R79: a rule of the whole machine, with the invariant it needs. -/
def Obligations.OdometerNeverDecreases : Prop :=
  let orderly (s : State) : Prop :=
    (s.odometer.setting.isSome = true → s.odometer.valid = false) ∧
      (s.store.ctl = .scanning → s.odometer.valid = false)
  orderly State.reset ∧
  ∀ s t : State, (∀ held raised, s.pending.head? ≠ some (.powerLoss held raised)) →
    (∀ straps held raised, s.pending.head? ≠ some (.powerOnReset straps held raised)) → orderly s → step s = .next t →
    orderly t ∧ ∀ v, s.shown = some v → ∃ w, t.shown = some w ∧ v ≤ w

/-- The contents of the store through a loss of power (section 4.1) and power-on reset (section 4.9). That POWER_ON_RESET with the supply standing is taken as a loss of it, and that a suspended sector counts among those being erased, are the model's choice: log entry 20. The power-on state is said field by field; the values that no rule gives (a channel's candidate level, the Odometer's sector and counts while INVALID, a SILENT player's segment number) or that are deduced (a pair's last save number, a gauge's stale behaviour) are those of log entry 9. -/
def Obligations.PowerLossKeepsOnlyTheStore : Prop :=
  ∀ (s : State) (held : Word) (raised : List Word), s.storeWords = true →
    let during (t : State) : Prop := ∀ (a : Fin 256) (b : Fin 16),
      let before := (Memory.read s.store.mem a.val).getLsbD b.val
      let after := (Memory.read t.store.mem a.val).getLsbD b.val
      (s.store.current ≠ some (sectorOf a) → (∀ r, s.store.running = some r → r.addr ≠ a) → after = before) ∧
      (∀ r, s.store.running = some r → r.addr = a → s.store.current ≠ some (sectorOf a) →
        (r.value.getLsbD b.val = true → after = before) ∧ (after = true → before = true)) ∧
      (s.store.current = some (sectorOf a) → (∀ r, s.store.running = some r → r.addr ≠ a) →
        before = true → after = true)
    (s.powered = true →
      (∃ t, exec (.powerLoss held raised) s = .next t ∧ t.powered = false ∧ t.pending = s.pending ∧ during t) ∧
      (∀ straps, ∃ t, exec (.powerOnReset straps held raised) s = .next t ∧
        t = State.powerOn straps t.store.mem s.pending ∧ during t)) ∧
    (s.powered = false → ∀ straps,
      exec (.powerOnReset straps held raised) s = .next (State.powerOn straps s.store.mem s.pending)) ∧
    ∀ (straps : Node) (mem : List (Nat × Word)) (queue : List Instr),
      let zero : TripRecord :=
        let c : Counter := { value := 0, overflow := false }
        { distance := c, fuel := c, elapsed := c, moving := c }
      let pair : Pair :=
        { active := none, lastNumber := 0xFFFF, state := .idle, held := none, recovery := [], recovered := false,
          job := none, tidy := none, out := false, ended := none }
      let silent : Player := { state := .silent, current := .nothing, segment := 0, timer := none, counter := none }
      let released : Lines := { acc := false, ign := false, start := false }
      State.powerOn straps mem queue =
        { pending := queue, powered := true,
          channels := Vector.replicate 48
            { setup := none, enabled := false, state := .never, value := none, limited := false, candLevel := false,
              candCount := 0, raw := none, timer := none },
          curves := Vector.replicate 16 { slots := Vector.replicate 12 none, count := 0, state := .empty },
          gauges := Vector.replicate 6
            { written := false, enabled := false,
              setup := { source := 0, curve := 0, damping := 0, slew := 0, park := 0, stalePark := false, sweep := false,
                         fastSettle := false, dial := 0, sineInverted := false, cosineInverted := false },
              state := .parked, position := 0, target := none, pending := false, timer := none, sine := 0, cosine := 0 },
          trip :=
            { setup := none, residueE := 0, residueF := 0, distanceBase := none, fuelBase := none,
              records := Vector.replicate 4 zero, snapshots := Vector.replicate 4 none, rear := .idle, saving := false,
              pendingCapture := none, savedCopy := none, saveFault := false },
          store :=
            { mem := mem, flags := Vector.replicate 8 { bad := false, worn := false, erasedKnown := false },
              slotOdometer := none, slotTrip := none, slotService := none, slotExternal := none, ctl := .scanning,
              running := none, eraseSet := 0, outcomes := [], joined := [], current := none, window := none },
          odometer :=
            { valid := false, active := 0, stored := 0, cleared := 0, residue := 0, pending := 0, rotation := none,
              fault := false, recovery := [], setting := none, work := none, eraseOut := false },
          tripPair := pair, servicePair := pair,
          service :=
            { items := Vector.replicate 8
                { written := false, enabled := false, message := none, intervalKm := 0, intervalDays := 0,
                  advanceKm := 0, advanceDays := 0, overdueKm := 0, overdueDays := 0, record := none, stage := .notDue,
                  remainingKm := none, remainingDays := none },
              saving := false, saveAgain := false, saveFault := false, lastKm := none },
          warnings :=
            { entries := Vector.replicate 32
                { condition := none, action := none, enabled := false, state := .idle, masked := false, holds := false,
                  gate := false, qualifyCount := 0, clearCount := 0, presentTimer := none, remindTimer := none,
                  markFront := false, markRear := false },
              loopBroken := false, odometerFault := false, storeFault := false, clockInvalid := true, rearCall := false,
              bulbCheck := none },
          chime :=
            { patterns := Vector.replicate 16 { repeats := 0, segments := 0, slots := Vector.replicate 6 none },
              setup := { written := false, tickChannel := none, tickPattern := 0, answerPattern := none },
              queue := [], front := silent, rear := silent },
          display :=
            { messages := Vector.replicate 64 (List.replicate 20 0x20), setup := none,
              images := { mcText := List.replicate 20 0x20, mcFlash := false, mcBrightness := 3,
                          rp1Text := [0x4F, 0x55, 0x54, 0x53, 0x49, 0x44, 0x45, 0x20, 0x20, 0x20, 0x20, 0x20, 0x2D, 0x2D,
                                      0x20, 0x43],
                          rp1Flash := false, rp1Brightness := 3, rp2Text := List.replicate 16 0x20, rp2Flash := false,
                          rp2Brightness := 3, clock := none },
              mcWarning := none, rearWarning := none, queue := [],
              outstanding := { mcText := true, mcAttr := true, rp1Text := true, rp1Attr := true, rp2Text := true,
                               rp2Attr := true, rpClock := true },
              pollWant := false, answerWant := false, tx := .idle, page := 1, blanked := true, offTimer := none,
              naTimer := none, press := none, link := .hibernating, headMark := false, wakeAfter := false,
              settleTimer := none, pollTimer := none, replyWindow := none, idleTimer := none, quietTimer := none,
              present := true, missed := 0, call := false, journey := false },
          loop :=
            { node := straps, forwardQ := [], tapQ := [], requestQ := [], insertQ := [], awaiting := [], overrun := false,
              tx := .idle, state := .intact, asserted := false, force := false, holdSent := false, flow := .empty,
              critical := 0, refresh := none, holders := [], broadcast := some 500 },
          handler :=
            { restartPending := false, ext := none, extRequester := none, setRequester := none, held := [], events := [],
              eventsLost := false, classes := 0, startUp := none, dump := .idle },
          key :=
            { debounced := released, candidate := released, candCount := 0, state := .off, sampleTimer := some 10,
              settleTimer := none, settled := false, runStart := none, keyOff := none, valid := false, seconds := 0,
              day := 0, secondsTimer := some 1000 } }

/-- R84, R85 and R88: the layout of both pairs, the steps of a save, and the recovery. -/
def Obligations.PairDataReadBackAsSaved : Prop :=
  (∀ (number : Word) (data : List Word), wordSum (pairImage number data) = 0 ∧
    (pairImage number data).length = data.length + 2 ∧ (pairImage number data).head? = some number ∧
    ((pairImage number data).drop 1).take data.length = data) ∧
  (∀ (m : List (Nat × Word)) (k : Fin 8) (c : Capture), c.tripA.inRange = true → c.tripB.inRange = true →
    (∀ i, i < 16 → sectorWord m k (2 + i) = c.words.getD i 0) →
    captureAt m k = c ∧ pairInRange m .trip k = true) ∧
  (∀ (m : List (Nat × Word)) (k : Fin 8) (records : Vector (Option (Nat × Nat)) 8),
    (∀ (i : Fin 8) o d, records[i] = some (o, d) → o ≤ 9999999 ∧ d < 65536) →
    (∀ i, i < 24 → sectorWord m k (2 + i) = (records.toList.flatMap recordWords).getD i 0) →
    (∀ i : Fin 8, recordAt m k i.val = records[i]) ∧ pairInRange m .service k = true) ∧
  (∀ a b : Word, (newer a b = true ↔ ∃ d, 1 ≤ d ∧ d ≤ 32767 ∧ (b.toNat + d) % 65536 = a.toNat) ∧
    ¬ (newer a b = true ∧ newer b a = true)) ∧
  (∀ (p : PairId) (data : List Word) (s : State),
    let low : Fin 8 := if p = .trip then 2 else 4
    let high : Fin 8 := if p = .trip then 3 else 5
    let x := s.pair p
    let usable (k : Fin 8) : Prop := (s.sector k).bad = false ∧ (s.sector k).worn = false
    let target (k : Fin 8) : Prop := usable k ∧ (k = low ∨ k = high) ∧ (x.active = some low → k = high) ∧ (x.active = some high → k = low) ∧
      (x.active = none → k = low ∨ (k = high ∧ ¬ usable low))
    let failed (y : Pair) : State :=
      report (.saveFailed p) (s.setPair p { y with state := .idle, job := none, ended := some false })
    let known := x.active = none ∨ x.active = some low ∨ x.active = some high
    known → (x.state = .idle → x.recovered = true → requestSave p data s = beginSave p data s) ∧
    (x.state ≠ .idle ∨ x.recovered = false → requestSave p data s = s.setPair p { x with held := some data }) ∧
    (∀ k, target k →
      let job : SaveJob :=
        { target := k, image := pairImage (x.lastNumber + 1) data, old := x.active, phase := .erase, allOk := true }
      beginSave p data s = s.setPair p { x with state := .saving, job := some job }) ∧
    (¬ target low → ¬ target high → beginSave p data s = failed x) ∧
    (∀ j : SaveJob, x.recovery = [] → x.job = some j →
      let placed (phase : SavePhase) (step : StoreStep) : Prop :=
        let u := s.setPair p { x with out := true, job := some { j with phase := phase } }
        pairPump p s = some { u with store := s.store.place p.cls step }
      let back (phase : SavePhase) (ok : Bool) : State :=
        s.setPair p { x with out := false, job := some { j with phase := phase, allOk := ok } }
      let finished (ok : Bool) : State :=
        let u := s.setPair p { x with out := false, active := some j.target, lastNumber := j.image.getD 0 0, job := none,
                                      tidy := j.old, state := if j.old = none then .idle else .tidying, ended := some ok }
        if ok = true then u else report (.saveFailed p) u
      (x.out = true → pairPump p s = none) ∧
      (x.out = false →
        (j.phase = .erase → (s.sector j.target).erasedKnown = true →
          placed (.word 1) (.program (storeAddr j.target 1) (j.image.getD 0 0))) ∧
        (j.phase = .erase → (s.sector j.target).erasedKnown = false → placed .erase (.erase (oneSector j.target))) ∧
        (∀ n, j.phase = .word n → placed (.word n) (.program (storeAddr j.target n) (j.image.getD (n - 1) 0))) ∧
        (j.phase = .status → placed .status (.program (storeAddr j.target 0) 0x00FF)) ∧
        (∀ k, j.phase = .obsolete → j.old = some k → placed .obsolete (.program (storeAddr k 0) 0x0000))) ∧
      (∀ e : Bool,
        (∀ n, j.phase = .word n →
          (e = true → pairProgramEnd p e s = failed { x with out := false }) ∧
          (e = false → n < j.image.length → pairProgramEnd p e s = back (.word (n + 1)) j.allOk) ∧
          (e = false → j.image.length ≤ n → pairProgramEnd p e s = back .status j.allOk)) ∧
        (j.phase = .status → j.old ≠ none → pairProgramEnd p e s = back .obsolete (j.allOk && !e)) ∧
        (j.phase = .status → j.old = none → pairProgramEnd p e s = finished (j.allOk && !e)) ∧
        (j.phase = .obsolete → pairProgramEnd p e s = finished (j.allOk && !e))) ∧
      (pairEraseEnd p (some .erased) s = back (.word 1) j.allOk) ∧
      (∀ outcome, outcome ≠ some EraseOutcome.erased → pairEraseEnd p outcome s = failed { x with out := false })) ∧
    (x.job = none → x.recovery = [] →
      (∀ k, x.out = false → x.tidy = some k → pairPump p s = some
        { (s.setPair p { x with out := true }) with store := s.store.place p.cls (.erase (oneSector k)) }) ∧
      (∀ outcome,
        let ended' : Pair := { x with out := false, tidy := none, state := .idle }
        (x.held = none → pairEraseEnd p outcome s = s.setPair p ended') ∧
        (∀ d, x.held = some d → pairEraseEnd p outcome s = beginSave p d (s.setPair p { ended' with held := none }))))) ∧
  (∀ (p : PairId) (s : State),
    let low : Fin 8 := if p = .trip then 2 else 4
    let high : Fin 8 := if p = .trip then 3 else 5
    let x := s.pair p
    let m := s.store.mem
    let length := if p = .trip then 18 else 26
    let good (k : Fin 8) : Prop := (k = low ∨ k = high) ∧ sectorWord m k 0 = 0x00FF ∧
      wordSum ((List.range length).map (fun i => sectorWord m k (i + 1))) = 0 ∧ pairInRange m p k = true
    let higher := newer (sectorWord m high 1) (sectorWord m low 1) = true
    let chosen (k : Fin 8) : Prop := good k ∧ (k = low → good high → ¬ higher) ∧ (k = high → good low → higher)
    let takes (c : Option (Fin 8)) (number : Word) : Prop := ∃ rest : List (Fin 8),
      (∀ j : Fin 8, j ∈ rest ↔ (j = low ∨ j = high) ∧ c ≠ some j ∧ sectorWord m j 0 = 0x00FF) ∧
      let y : Pair := { x with active := c, lastNumber := number, recovery := rest, recovered := rest.isEmpty }
      (rest ≠ [] ∨ x.held = none → recoverPair p s = s.setPair p y) ∧
      (∀ d, rest = [] → x.held = some d → recoverPair p s = beginSave p d (s.setPair p { y with held := none }))
    (∀ k, chosen k → takes (some k) (sectorWord m k 1)) ∧ ((∀ k, ¬ good k) → takes none 0xFFFF)) ∧
  (∀ (p : PairId) (s : State) (k : Fin 8) (rest : List (Fin 8)), (s.pair p).recovery = k :: rest →
    let x := s.pair p
    ((s.pair p).out = false → pairPump p s = some
      { (s.setPair p { x with out := true }) with store := s.store.place p.cls (.program (storeAddr k 0) 0x0000) }) ∧
    ∀ e, (rest ≠ [] → pairProgramEnd p e s = s.setPair p { x with out := false, recovery := rest, recovered := false }) ∧
      (rest = [] → x.held = none →
        pairProgramEnd p e s = s.setPair p { x with out := false, recovery := [], recovered := true }) ∧
      (∀ d, rest = [] → x.held = some d → pairProgramEnd p e s =
        beginSave p d (s.setPair p { x with out := false, recovery := [], recovered := true, held := none }))) ∧
  (∀ s : State,
    (∀ k, s.tripPair.active = some k → recoverTrips s = { s with trip := { s.trip with
      records := (s.trip.records.set 0 (captureAt s.store.mem k).tripA).set 1 (captureAt s.store.mem k).tripB,
      savedCopy := some (captureAt s.store.mem k) } }) ∧
    (s.tripPair.active = none → recoverTrips s = { s with trip := { s.trip with
      records := (s.trip.records.set 0 .zero).set 1 .zero, savedCopy := none } }) ∧
    ∀ i : Fin 8, (recoverRecords s).service.items[i] = { s.service.items[i] with
      record := match s.servicePair.active with | some k => recordAt s.store.mem k i.val | none => none })

/-- R93 and R94, every case, with the advance and overdue days in the high and low 12 bits of three bytes (R191). The evaluation is stated by itself. The model's choices: the STAGE event of DISABLE comes first, then the warnings, then the display (log entry 10), and the event frames of the effect stand before the response (log entry 6). -/
def Obligations.ServiceItemRequestsByTheirChecks : Prop :=
  ∀ (h : Head) (item : Byte) (s : State), s.takes h = true →
    (∀ (message : Byte) (intervalKm intervalDays advanceKm overdueKm : Word) (days : BitVec 24),
      let run := exec (.writeServiceItem h item message intervalKm intervalDays advanceKm overdueKm days) s
      let inRange := (message = 0xFF ∨ message.toNat ≤ 63) ∧ intervalDays.toNat ≤ 1095 ∧ days.toNat / 4096 ≤ 365 ∧
        days.toNat % 4096 ≤ 365 ∧ ¬ (intervalKm = 0 ∧ intervalDays = 0)
      (8 ≤ item.toNat → run = .next (answered h 0x50 .badArgument [] s)) ∧
      ∀ i : Fin 8, item.toNat = i.val →
        (¬ inRange → run = .next (answered h 0x50 .badArgument [] s)) ∧
        (inRange → ∃ it : ServiceItem, it.written = true ∧ encChoice (it.message.map Fin.val) = [message] ∧
          it.intervalKm = intervalKm.toNat ∧ it.intervalDays = intervalDays.toNat ∧ it.advanceKm = advanceKm.toNat ∧
          it.advanceDays = days.toNat / 4096 ∧ it.overdueKm = overdueKm.toNat ∧ it.overdueDays = days.toNat % 4096 ∧
          it.enabled = (s.service.items[i]).enabled ∧ it.record = (s.service.items[i]).record ∧
          it.stage = (s.service.items[i]).stage ∧ it.remainingKm = (s.service.items[i]).remainingKm ∧
          it.remainingDays = (s.service.items[i]).remainingDays ∧
          ((s.service.items[i]).enabled = false → run = .next (answered h 0x50 .ok [] (s.setItem i it))) ∧
          ((s.service.items[i]).enabled = true →
            run = .next (answered h 0x50 .ok [] (evaluateItem i (s.setItem i it)))))) ∧
    (8 ≤ item.toNat → exec (.enableServiceItem h item) s = .next (answered h 0x51 .badArgument [] s) ∧
      exec (.disableServiceItem h item) s = .next (answered h 0x52 .badArgument [] s)) ∧
    ∀ i : Fin 8, item.toNat = i.val →
      let it := s.service.items[i]
      let off := s.setItem i { it with enabled := false, stage := .notDue, remainingKm := none, remainingDays := none }
      (it.written = false → exec (.enableServiceItem h item) s = .next (answered h 0x51 .invalidState [] s)) ∧
      (it.written = true → it.enabled = true → exec (.enableServiceItem h item) s = .next (answered h 0x51 .ok [] s)) ∧
      (it.written = true → it.enabled = false → exec (.enableServiceItem h item) s =
        .next (answered h 0x51 .ok [] (evaluateItem i (s.setItem i { it with enabled := true })))) ∧
      (it.enabled = false → exec (.disableServiceItem h item) s = .next (answered h 0x52 .ok [] s)) ∧
      (it.enabled = true → it.stage = .notDue → exec (.disableServiceItem h item) s = .next (answered h 0x52 .ok [] off)) ∧
      (it.enabled = true → it.stage ≠ .notDue → exec (.disableServiceItem h item) s =
        .next (answered h 0x52 .ok [] (stageNotice (warnStage i (report (.stage i it.stage .notDue) off)))))

/-- R96 to R98, and the notices of R99. The floor r of n / 10 is said by 10r ≤ n < 10r + 10. That the STAGE event comes first, then the warnings, then the display, that the items and the warnings are gone through in increasing number, and that all the notices of one item come before the next item is evaluated, is the model's choice: log entry 10 (R99 and R185 leave it open). -/
def Obligations.EvaluationGivesTheStage : Prop :=
  let figures (s : State) (it it' : ServiceItem) : Prop :=
    ((it.intervalKm = 0 ∨ it.record = none ∨ s.odometer.valid = false) → it'.remainingKm = none) ∧
    (∀ o d C, it.intervalKm ≠ 0 → it.record = some (o, d) → s.shown = some C →
      ∃ r : Int, it'.remainingKm = some r ∧ 10 * r ≤ (o : Int) + it.intervalKm * 10 - C ∧
        (o : Int) + it.intervalKm * 10 - C < 10 * r + 10) ∧
    ((it.intervalDays = 0 ∨ it.record = none ∨ s.key.valid = false) → it'.remainingDays = none) ∧
    (∀ o d, it.intervalDays ≠ 0 → it.record = some (o, d) → s.key.valid = true →
      it'.remainingDays = some ((d : Int) + it.intervalDays - s.key.day)) ∧
    (let below (b : Int) (c : Int) := (∃ r, it'.remainingKm = some r ∧ r ≤ b) ∨ (∃ r, it'.remainingDays = some r ∧ r ≤ c)
     (it.record = none → it'.stage = .due) ∧
     (it.record ≠ none → below (-it.overdueKm) (-it.overdueDays) → it'.stage = .overdue) ∧
     (it.record ≠ none → ¬ below (-it.overdueKm) (-it.overdueDays) → below 0 0 → it'.stage = .due) ∧
     (it.record ≠ none → ¬ below (-it.overdueKm) (-it.overdueDays) → ¬ below 0 0 →
       below it.advanceKm it.advanceDays → it'.stage = .advance) ∧
     (it.record ≠ none → ¬ below (-it.overdueKm) (-it.overdueDays) → ¬ below 0 0 →
       ¬ below it.advanceKm it.advanceDays → it'.stage = .notDue))
  (∀ (i : Fin 8) (s : State),
    let it := s.service.items[i]
    (it.enabled = false → evaluateItem i s = s) ∧
    (it.enabled = true → ∃ it' : ServiceItem, figures s it it' ∧
      it' = { it with stage := it'.stage, remainingKm := it'.remainingKm, remainingDays := it'.remainingDays } ∧
      (it'.stage = it.stage → evaluateItem i s = s.setItem i it') ∧
      (it'.stage ≠ it.stage → evaluateItem i s =
        stageNotice (warnStage i (report (.stage i it.stage it'.stage) (s.setItem i it')))) ∧
      (evaluateItem i s).service.items[i] = it')) ∧
  (∀ (s : State) (i : Fin 8),
    let it := s.service.items[i]
    let it' := (evaluateAll s).service.items[i]
    (it.enabled = false → it' = it) ∧ (it.enabled = true → figures s it it') ∧
    (evaluateAll s).odometer = s.odometer ∧ (evaluateAll s).key = s.key ∧ (evaluateAll s).store = s.store ∧
    (evaluateAll s).trip = s.trip ∧ (evaluateAll s).gauges = s.gauges) ∧
  (∀ (s : State) (i : Fin 8),
    evaluateAll s = (List.finRange 8).foldl (fun t j => evaluateItem j t) s ∧
    warnStage i s = (List.finRange 32).foldl (fun t w => warnSubject .service i.val w t) s ∧
    (s.display.page = 6 → s.mostUrgent = none →
      stageNotice s = rebuild { s with display := { s.display with page := 1 } }) ∧
    (s.display.page ≠ 6 ∨ s.mostUrgent ≠ none → stageNotice s = rebuild s)) ∧
  (∀ (s : State) (i : Fin 8),
    let stands (j : Fin 8) : Prop := (s.service.items[j]).enabled = true ∧ (s.service.items[j]).stage ≠ .notDue
    s.mostUrgent = some i ↔ stands i ∧ ∀ j, stands j → j ≠ i →
      (s.service.items[j]).stage.code < (s.service.items[i]).stage.code ∨
      ((s.service.items[j]).stage = (s.service.items[i]).stage ∧ i.val < j.val))

/-- R100, both ways of asking, with the save of R101 and the hold of R153. The model's choices: the items are evaluated before the RESET event is reported (log entry 10), the order of what follows in the store (log entry 19), the STAGE and RESET frames stand before the response (log entry 6), and HOLD_5S_EXPIRY without a LONG record and its timer running changes nothing (log entry 3). Last the end of a save of the service pair (R101); that a failed one's SAVE_FAILED precedes STORE_FAULT is the model's choice (log entry 10). -/
def Obligations.ServiceResetOnlyStandingInRun : Prop :=
  let mayReset (s : State) (i : Fin 8) : Prop :=
    s.key.state = .run ∧
      (∃ t, s.trip.setup = some t ∧ (s.channels[t.speed]).state = .fresh ∧ (s.channels[t.speed]).value = some 0) ∧
      s.odometer.valid = true ∧ ((s.service.items[i]).intervalDays ≠ 0 → s.key.valid = true)
  let after (s : State) (i : Fin 8) (src : ResetSource) (C day : Nat) : State :=
    let u := report (.serviceReset i src C day)
      (evaluateAll (s.setItem i { s.service.items[i] with record := some (C, day) }))
    if u.service.saving = true then { u with service := { u.service with saveAgain := true } }
    else requestSave .service (u.service.items.toList.flatMap (fun it => recordWords it.record))
      { u with service := { u.service with saving := true } }
  let dayOf (s : State) (i : Fin 8) (day : Nat) : Prop :=
    (s.key.valid = true → day = s.key.day) ∧
      (s.key.valid = false → (∀ o d, (s.service.items[i]).record = some (o, d) → day = d) ∧
        ((s.service.items[i]).record = none → day = 0))
  (∀ (h : Head) (item : Byte) (s : State), s.takes h = true →
    let run := exec (.serviceReset h item) s
    (8 ≤ item.toNat → run = .next (answered h 0x54 .badArgument [] s)) ∧
    ∀ i : Fin 8, item.toNat = i.val →
      (((s.service.items[i]).enabled = false ∨ ¬ mayReset s i) → run = .next (answered h 0x54 .invalidState [] s)) ∧
      (∀ C day, (s.service.items[i]).enabled = true → mayReset s i → s.shown = some C → dayOf s i day →
        run = .next (answered h 0x54 .ok [] (settle (after s i .request C day))))) ∧
  (∀ (s : State) (p : Press) (i : Fin 8), s.powered = true → s.display.press = some p → p.state = .long →
    p.timer5.isSome = true → p.page = 6 → s.mostUrgent = some i →
    let u : State := { s with display := { s.display with press := some { p with timer5 := none } } }
    (¬ mayReset s i → exec .hold5sExpiry s =
      .next (rebuild { u with display := { u.display with naTimer := some 3000 } })) ∧
    (∀ C day, mayReset s i → s.shown = some C → dayOf s i day →
      exec .hold5sExpiry s = .next (settle (after u i .button C day)))) ∧
  (∀ s : State, s.powered = true →
    (s.display.press = none → exec .hold5sExpiry s = .next s) ∧
    ∀ p, s.display.press = some p →
      (p.state ≠ .long ∨ p.timer5 = none → exec .hold5sExpiry s = .next s) ∧
      (p.state = .long → p.timer5.isSome = true → p.page ≠ 6 ∨ s.mostUrgent = none → exec .hold5sExpiry s =
        .next { s with display := { s.display with press := some { p with timer5 := none } } })) ∧
  ∀ (ok : Bool) (s : State),
    let u := setSys .storeFault (s.trip.saveFault || !ok) { s with service := { s.service with saveFault := !ok } }
    (s.service.saveAgain = true → serviceSaveEnd ok s =
      requestSave .service (s.service.items.toList.flatMap (fun it => recordWords it.record))
        { u with service := { u.service with saveAgain := false } }) ∧
    (s.service.saveAgain = false → serviceSaveEnd ok s = { u with service := { u.service with saving := false } })

/-- R108 and R109. Fields that a kind does not use are not checked and are stored as their bytes give them (R190). That the key gate ANY is the byte 00h, and that FFh is none, is the model's choice: log entry 37. -/
def Obligations.WriteWarningHalvesByTheirChecks : Prop :=
  ∀ (h : Head) (wb : Byte) (s : State), s.takes h = true →
    (∀ (kind subject : Byte) (threshold hysteresis : Word) (counts keyGate : Byte) (speedGate : Word)
        (staleAction minStage : Byte),
      let run := exec (.writeWarningCondition h wb kind subject threshold hysteresis counts keyGate speedGate staleAction
        minStage) s
      let inRange := ∃ (k : WarnKind) (g : KeyGate), kind.toNat = k.code ∧ keyGate.toNat = g.code ∧
        subject.toNat < (if k = .service then 8 else if k = .system then 5 else 48) ∧ speedGate.toNat ≤ 32767 ∧
        (k.isSampled = true → 1 ≤ counts.toNat / 16 ∧ 1 ≤ counts.toNat % 16 ∧ staleAction.toNat ≤ 2) ∧
        (k = .high ∨ k = .low → hysteresis.toNat ≤ 32767) ∧ (k = .service → minStage.toNat ≤ 2)
      (32 ≤ wb.toNat → run = .next (answered h 0x60 .badArgument [] s)) ∧
      ∀ w : Fin 32, wb.toNat = w.val →
        ((s.warnings.entries[w]).enabled = true → run = .next (answered h 0x60 .inUse [] s)) ∧
        ((s.warnings.entries[w]).enabled = false → ¬ inRange → run = .next (answered h 0x60 .badArgument [] s)) ∧
        ((s.warnings.entries[w]).enabled = false → inRange →
          ∃ c : WarnCondition, c.kind.code = kind.toNat ∧ c.subject = subject.toNat ∧ c.threshold = threshold.toInt ∧
            c.hysteresis = hysteresis.toNat ∧ c.qualify = counts.toNat / 16 ∧ c.clear = counts.toNat % 16 ∧
            c.keyGate.code = keyGate.toNat ∧ c.speedGate = speedGate.toNat ∧ c.staleAction = staleAction ∧
            c.minStage = minStage ∧
            run = .next (answered h 0x60 .ok []
              (s.setWarning w { s.warnings.entries[w] with condition := some c })))) ∧
    (∀ (priority latch chime message lamp routing present remind : Byte),
      let run := exec (.writeWarningAction h wb priority latch chime message lamp routing present remind) s
      let inRange := priority.toNat ≤ 7 ∧ latch.toNat ≤ 2 ∧ routing.toNat ≤ 2 ∧ (chime = 0xFF ∨ chime.toNat ≤ 15) ∧
        (message = 0xFF ∨ message.toNat ≤ 63) ∧ (lamp = 0xFF ∨ lamp.toNat ≤ 11) ∧ present.toNat ≤ 15
      (32 ≤ wb.toNat → run = .next (answered h 0x61 .badArgument [] s)) ∧
      ∀ w : Fin 32, wb.toNat = w.val →
        ((s.warnings.entries[w]).enabled = true → run = .next (answered h 0x61 .inUse [] s)) ∧
        ((s.warnings.entries[w]).enabled = false → ¬ inRange → run = .next (answered h 0x61 .badArgument [] s)) ∧
        ((s.warnings.entries[w]).enabled = false → inRange →
          ∃ a : WarnAction, a.priority = priority.toNat ∧ a.latch.code = latch.toNat ∧
            encChoice (a.chime.map Fin.val) = [chime] ∧ encChoice (a.message.map Fin.val) = [message] ∧
            encChoice (a.lamp.map Fin.val) = [lamp] ∧ a.routing.code = routing.toNat ∧ a.present = present.toNat ∧
            a.remind = remind.toNat ∧
            run = .next (answered h 0x61 .ok [] (s.setWarning w { s.warnings.entries[w] with action := some a }))))

/-- The four requests of section 6.3 (R110 to R112), with the taking up of R117 at an enable, the events of R127 and the releases of R124. What `select` and `notifyDisplay` do, in the state that stands before them, is stated with the presentations, and what the change to PENDING with the cause QUALIFY gives with the verdicts. That the event frames of the effect stand before the response is the model's choice: log entry 6. -/
def Obligations.EnableDisableAndMaskWarnings : Prop :=
  ∀ (h : Head) (wb : Byte) (s : State), s.takes h = true →
    (32 ≤ wb.toNat → exec (.enableWarning h wb) s = .next (answered h 0x62 .badArgument [] s) ∧
      exec (.disableWarning h wb) s = .next (answered h 0x63 .badArgument [] s) ∧
      exec (.maskWarning h wb) s = .next (answered h 0x64 .badArgument [] s) ∧
      exec (.unmaskWarning h wb) s = .next (answered h 0x65 .badArgument [] s)) ∧
    ∀ w : Fin 32, wb.toNat = w.val →
      let e := s.warnings.entries[w]
      let front : Chime := if e.markFront = true then s.chime.release (.warning w) .front else s.chime
      let released : Chime := if e.markRear = true then front.release (.warning w) .rear else front
      let told (u : State) (c : Chime) (x : Warning) : State :=
        { s with handler := u.handler, loop := u.loop, chime := c,
                 warnings := { s.warnings with entries := s.warnings.entries.set w x } }
      let others (t : State) : Prop := ∀ v : Fin 32, v ≠ w →
        (t.warnings.entries[v]).condition = (s.warnings.entries[v]).condition ∧
        (t.warnings.entries[v]).action = (s.warnings.entries[v]).action ∧
        (t.warnings.entries[v]).enabled = (s.warnings.entries[v]).enabled ∧
        (t.warnings.entries[v]).masked = (s.warnings.entries[v]).masked
      ((e.condition = none ∨ e.action = none) →
        exec (.enableWarning h wb) s = .next (answered h 0x62 .invalidState [] s)) ∧
      (∀ c, e.condition = some c → e.action ≠ none →
        (e.enabled = true → exec (.enableWarning h wb) s = .next (answered h 0x62 .ok [] s)) ∧
        (e.enabled = false →
          let on (gate holds : Bool) : State := s.setWarning w
            { e with enabled := true, state := .idle, holds := holds, gate := gate, qualifyCount := 0, clearCount := 0 }
          let met := s.keyGateMet c.keyGate = true ∧ s.speedGateMet c.speedGate = true
          (∃ t, exec (.enableWarning h wb) s = .next (answered h 0x62 .ok [] t) ∧ others t ∧
            t = testGate w (on false false) ∧
            (met → s.takenUp c = false → t = on true false) ∧
            (met → s.takenUp c = true → t = select (changeState w .pending .qualify (on true true))) ∧
            (t.warnings.entries[w]).enabled = true ∧ (t.warnings.entries[w]).masked = e.masked ∧
            (t.warnings.entries[w]).condition = e.condition ∧ (t.warnings.entries[w]).action = e.action ∧
            ((t.warnings.entries[w]).gate = true ↔ met)) ∧
          (¬ met → exec (.enableWarning h wb) s = .next (answered h 0x62 .ok [] (on false false))))) ∧
      (e.enabled = false → exec (.disableWarning h wb) s = .next (answered h 0x63 .ok [] s)) ∧
      (e.enabled = true → ∃ t, exec (.disableWarning h wb) s = .next (answered h 0x63 .ok [] t) ∧ others t ∧
        (let off : Warning :=
           { condition := e.condition, action := e.action, enabled := false, state := .idle, masked := false,
             holds := false, gate := false, qualifyCount := 0, clearCount := 0, presentTimer := none,
             remindTimer := none, markFront := false, markRear := false }
         let u := told (if e.state = .idle then s else report (.warning w e.state .idle false .disable) s) released off
         t.warnings.entries[w] = off ∧ (e.state = .presented ∨ e.state = .pending → t = select u) ∧
         (e.state = .idle ∨ e.state = .acknowledged → t = notifyDisplay false u))) ∧
      (e.masked = true → exec (.maskWarning h wb) s = .next (answered h 0x64 .ok [] s)) ∧
      (e.masked = false → ∃ t, exec (.maskWarning h wb) s = .next (answered h 0x64 .ok [] t) ∧ others t ∧
        (e.state = .presented → t = select (told (report (.warning w .presented .pending true .mask) s) released
          { e with masked := true, state := .pending, presentTimer := none, remindTimer := none, markFront := false,
                   markRear := false })) ∧
        (e.state = .pending → t = notifyDisplay false
          (told s released { e with masked := true, markFront := false, markRear := false })) ∧
        (e.state = .idle ∨ e.state = .acknowledged → t = notifyDisplay false (s.setWarning w { e with masked := true })) ∧
        (t.warnings.entries[w]).masked = true ∧ (t.warnings.entries[w]).enabled = e.enabled ∧
        (t.warnings.entries[w]).state = (if e.state = .presented then WarnState.pending else e.state) ∧
        (e.state = .presented → (t.warnings.entries[w]).presentTimer = none) ∧
        (e.state = .presented ∨ e.state = .pending →
          (t.warnings.entries[w]).markFront = false ∧ (t.warnings.entries[w]).markRear = false)) ∧
      (e.masked = false → exec (.unmaskWarning h wb) s = .next (answered h 0x65 .ok [] s)) ∧
      (e.masked = true → ∃ t, exec (.unmaskWarning h wb) s = .next (answered h 0x65 .ok [] t) ∧ others t ∧
        t = select (s.setWarning w { e with masked := false }) ∧
        (t.warnings.entries[w]).masked = false ∧ (t.warnings.entries[w]).enabled = e.enabled ∧
        (e.state = .idle ∨ e.state = .acknowledged → (t.warnings.entries[w]).state = e.state))

/-- R120 as an invariant of every step. The rank of a warning is its priority and then its number, a smaller one ranking higher. -/
def Obligations.SelectionIsAlwaysSettled : Prop :=
  let rank (s : State) (w : Fin 32) : Nat := rankOf w s.warnings.entries[w]
  let selected (s : State) : Prop :=
    (∀ w : Fin 32, (s.warnings.entries[w]).enabled = false → (s.warnings.entries[w]).state = .idle) ∧
    (∀ w : Fin 32, (s.warnings.entries[w]).state = .presented → (s.warnings.entries[w]).masked = false) ∧
    (∀ v w : Fin 32, (s.warnings.entries[v]).state = .presented → (s.warnings.entries[w]).state = .presented → v = w) ∧
    (∀ q : Fin 32, (s.warnings.entries[q]).enabled = true → (s.warnings.entries[q]).masked = false →
      (s.warnings.entries[q]).state = .pending →
      ∃ p : Fin 32, (s.warnings.entries[p]).state = .presented ∧ rank s p ≤ rank s q)
  selected State.reset ∧ ∀ s t : State, selected s → step s = .next t → selected t

/-- Selection (R120) with what an entry into PRESENTED and a displacement do (R121, R124) and the contents of R125; then R121 to R123 and the releases of R124: the change itself, the event that reports it, and the frame before selection, which is made in `u`. What the ask for CALL ANSWERED does at the display is stated with the replies of the rear panel. The model's choices: that it and the answer chime come before the selection that follows an acknowledge (log entry 10), and that the repeat count which decides over the chimes of a MOMENTARY warning is that of the pattern its action half names, whatever pattern its queued request still carries (log entry 42). -/
def Obligations.PresentationsEndByTheirRules : Prop :=
  (∀ s : State,
    let entry (w : Fin 32) : Warning := s.warnings.entries[w]
    let rank (w : Fin 32) : Nat := match (entry w).action with | some a => 32 * a.priority + w.val | none => 256 + w.val
    let top (among : Warning → Prop) (w : Fin 32) : Prop := among (entry w) ∧ ∀ v, among (entry v) → rank w ≤ rank v
    let first (w : Fin 32) : Prop := top (fun e => e.enabled = true ∧ e.masked = false ∧ e.state = .pending) w
    let shown (w : Fin 32) : Prop := top (fun e => e.enabled = true ∧ e.state = .presented) w
    let rear (e : Warning) : Prop := e.enabled = true ∧ e.masked = false ∧ e.state ≠ .idle ∧
      ∃ a, e.action = some a ∧ a.routing ≠ .front ∧ a.message ≠ none
    ((∀ w, ¬ first w) → select s = notifyDisplay false s) ∧
    (∀ q, first q →
      ((∀ w, ¬ shown w) → select s = presentWarning q s) ∧
      (∀ p, shown p → rank q < rank p → select s = presentWarning q (displaceWarning p s)) ∧
      (∀ p, shown p → rank p ≤ rank q → select s = notifyDisplay false s)) ∧
    (∀ w,
      let told := report (.warning w (entry w).state .pending (entry w).masked .displaced) s
      displaceWarning w s = { s with handler := told.handler, loop := told.loop, warnings := { s.warnings with
        entries := s.warnings.entries.set w
          { entry w with state := .pending, presentTimer := none, remindTimer := none } } }) ∧
    (∀ w a, (entry w).action = some a →
      let e := entry w
      let told := report (.warning w e.state .presented e.masked .present) s
      let inFront := a.chime.isSome && decide (a.routing ≠ .rear)
      let inRear := a.chime.isSome && decide (a.routing ≠ .front)
      let asks (z : Zone) (c : Chime) : Chime :=
        match a.chime with | some p => c.request (.warning w) z p (32 * a.priority + w.val) repeatsOf | none => c
      let front : Chime := if inFront = true then asks .front s.chime else s.chime
      presentWarning w s = notifyDisplay true { s with
        handler := told.handler, loop := told.loop,
        chime := if inRear = true then asks .rear front else front,
        warnings := { s.warnings with entries := s.warnings.entries.set w { e with
          state := .presented,
          presentTimer := if a.present ≠ 0 then some (1000 * a.present)
            else if a.latch = .momentary then some 4000 else none,
          markFront := e.markFront || inFront, markRear := e.markRear || inRear } } }) ∧
    (∀ entered, ∃ mc back, notifyDisplay entered s = contentNotice mc back entered s ∧
      ((∀ w, ¬ shown w) → mc = none) ∧
      (∀ w a, shown w → (entry w).action = some a →
        (a.message = none → mc = none) ∧ ∀ m, a.message = some m → mc = some (m, decide (a.priority ≤ 1))) ∧
      ((∀ w, ¬ top rear w) → back = none) ∧
      (∀ w a, top rear w → (entry w).action = some a → back = a.message))) ∧
  ∀ (w : Fin 32) (s : State), s.powered = true →
    let e := s.warnings.entries[w]
    let front : Chime := if e.markFront = true then s.chime.release (.warning w) .front else s.chime
    let released : Chime := if e.markRear = true then front.release (.warning w) .rear else front
    let moved (u : State) (new : WarnState) (cause : WarnCause) (remind : Timer) : Prop :=
      let told := report (.warning w e.state new e.masked cause) s
      u = { s with warnings := u.warnings, chime := u.chime, display := u.display, handler := told.handler,
                   loop := told.loop } ∧
      u.warnings = { s.warnings with entries := u.warnings.entries } ∧
      (u.warnings.entries[w]).state = new ∧ (u.warnings.entries[w]).presentTimer = none ∧
      (u.warnings.entries[w]).remindTimer = remind ∧ (u.warnings.entries[w]).enabled = e.enabled ∧
      (u.warnings.entries[w]).masked = e.masked ∧ (u.warnings.entries[w]).holds = e.holds ∧
      (∀ v : Fin 32, v ≠ w → u.warnings.entries[v] = s.warnings.entries[v])
    (∀ a, e.presentTimer.isSome = true → e.state = .presented → e.action = some a →
      let untilReleased := ∃ p, a.chime = some p ∧ (s.chime.patterns[p]).repeats = 0
      ∃ u, exec (.presentTimerExpiry w) s = .next (select u) ∧ u.display = s.display ∧
        (u.warnings.entries[w]).markFront = false ∧ (u.warnings.entries[w]).markRear = false ∧
        (a.latch = .momentary → moved u .idle .timeout none ∧ (untilReleased → u.chime = released) ∧
          (¬ untilReleased → u.chime = s.chime)) ∧
        (a.latch ≠ .momentary → u.chime = released) ∧
        (a.latch ≠ .momentary → e.holds = true →
          moved u .acknowledged .timeout (if a.remind = 0 then none else some (1000 * a.remind))) ∧
        (a.latch ≠ .momentary → e.holds = false → moved u .idle .timeout none)) ∧
    (e.remindTimer.isSome = true → e.state = .acknowledged →
      ∃ u, exec (.remindTimerExpiry w) s = .next (select u) ∧ u.display = s.display ∧ u.chime = s.chime ∧
        moved u .pending .remind none) ∧
    (∀ a, s.presented = some w → e.action = some a →
      let rearCall := ∃ c, e.condition = some c ∧ c.kind = .system ∧ c.subject = 4
      ∃ u, pressEdge s = select u ∧ (u.warnings.entries[w]).markFront = false ∧
        (u.warnings.entries[w]).markRear = false ∧
        (rearCall → u.display = s.display.askAnswer ∧ u.chime = released.answer) ∧
        (¬ rearCall → u.display = s.display ∧ u.chime = released) ∧
        (e.holds = true → moved u .acknowledged .acknowledge (if a.remind = 0 then none else some (1000 * a.remind))) ∧
        (e.holds = false → moved u .idle .acknowledge none))

/-- R114 and R115, with R116 (stale actions), R117 (immediate kinds, taking up), R118 (gates), R119 (what a changed condition does), the QUALIFY event of R127, and the change of a system condition (R107), which leaves open in which order the warnings take it. -/
def Obligations.VerdictsAreCountedAgainstTheCondition : Prop :=
  (∀ (c : WarnCondition) (holds : Bool) (v : Int) (limited level : Bool) (edge : Option Bool) (count : Nat),
    let high (x : Int) : Bool :=
      if c.threshold ≤ x then true else if x < c.threshold - c.hysteresis then false else holds
    let low (x : Int) : Bool :=
      if x ≤ c.threshold then true else if c.threshold + c.hysteresis < x then false else holds
    verdict c holds (.rolling count) = none ∧
    (c.kind = .high → verdict c holds (.analog v limited) = some (high v) ∧
      verdict c holds (.discrete level edge) = some (high (if level = true then 1 else 0))) ∧
    (c.kind = .low → verdict c holds (.analog v limited) = some (low v) ∧
      verdict c holds (.discrete level edge) = some (low (if level = true then 1 else 0))) ∧
    (c.kind = .discreteOn → verdict c holds (.analog v limited) = none ∧
      verdict c holds (.discrete level edge) = some level) ∧
    (c.kind = .discreteOff → verdict c holds (.analog v limited) = none ∧
      verdict c holds (.discrete level edge) = some (!level))) ∧
  (∀ (w : Fin 32) (c : WarnCondition) (s : State),
    let e := s.warnings.entries[w]
    let counted (q k : Nat) : State := s.setWarning w { e with qualifyCount := q, clearCount := k }
    (let told := report (.warning w e.state .pending e.masked .qualify) s
     changeState w .pending .qualify s = { s with
       handler := told.handler, loop := told.loop,
       warnings := { s.warnings with entries := s.warnings.entries.set w { e with state := .pending } } }) ∧
    (countVerdict w c e.holds s = counted 0 0) ∧
    (e.holds = false → e.qualifyCount + 1 ≠ c.qualify → countVerdict w c true s = counted (e.qualifyCount + 1) 0) ∧
    (e.holds = false → e.qualifyCount + 1 = c.qualify → countVerdict w c true s =
      becameTrue w (s.setWarning w { e with qualifyCount := 0, clearCount := 0, holds := true })) ∧
    (e.holds = true → e.clearCount + 1 ≠ c.clear → countVerdict w c false s = counted 0 (e.clearCount + 1)) ∧
    (e.holds = true → e.clearCount + 1 = c.clear → countVerdict w c false s =
      becameFalse w (s.setWarning w { e with qualifyCount := 0, clearCount := 0, holds := false }))) ∧
  (∀ (k : SysCond) (b : Bool) (s : State),
    let x := s.warnings
    (x.sys k = b → setSys k b s = s) ∧
    (x.sys k ≠ b → ∃ order : List (Fin 32), order.Nodup ∧ (∀ w, w ∈ order) ∧
      setSys k b s = order.foldl (fun t w => warnSubject .system k.code w t) { s with warnings := { x with
        loopBroken := if k = .loopBroken then b else x.loopBroken,
        odometerFault := if k = .odometerFault then b else x.odometerFault,
        storeFault := if k = .storeFault then b else x.storeFault,
        clockInvalid := if k = .clockInvalid then b else x.clockInvalid,
        rearCall := if k = .rearCall then b else x.rearCall } })) ∧
  (∀ (w : Fin 32) (c : WarnCondition) (a : WarnAction) (s : State), (s.warnings.entries[w]).condition = some c →
    (s.warnings.entries[w]).action = some a → (s.warnings.entries[w]).enabled = true →
    let e := s.warnings.entries[w]
    let s1 := testGate w s
    let opened := (s1.warnings.entries[w]).gate = true
    let sampled := c.kind = .high ∨ c.kind = .low ∨ c.kind = .discreteOn ∨ c.kind = .discreteOff
    let keyMet := c.keyGate = .any ∨ (c.keyGate = .notOff ∧ s.key.state ≠ .off) ∨
      (c.keyGate = .run ∧ s.key.state = .run) ∨ (c.keyGate = .runSettled ∧ s.key.state = .run ∧ s.key.settled = true)
    let met := keyMet ∧ (c.speedGate = 0 ∨ ∃ t v, s.trip.setup = some t ∧ (s.channels[t.speed]).state = .fresh ∧
      (s.channels[t.speed]).value = some v ∧ (c.speedGate : Int) ≤ v)
    let shut : State :=
      s.setWarning w { e with gate := false, qualifyCount := 0, clearCount := 0, holds := false }
    ((e.gate = true ↔ met) → s1 = s) ∧
    (e.gate = false → met → s1 =
      setCondition w (s.takenUp c) (s.setWarning w { e with gate := true, qualifyCount := 0, clearCount := 0 })) ∧
    (e.gate = true → ¬ met →
      (e.state = .idle ∨ (a.latch = .latching ∧ e.state ≠ .acknowledged) → s1 = shut) ∧
      (e.state = .acknowledged ∨ (a.latch ≠ .latching ∧ e.state ≠ .idle) → s1 = endWarning w .gate shut)) ∧
    (∀ k : Fin 48, c.subject = k.val → sampled → (s.takenUp c = true ↔
      (s.channels[k]).state ≠ .fresh ∧ c.staleAction = 1)) ∧
    (∀ k : Fin 48, c.subject = k.val → c.kind = .stale → (s.takenUp c = true ↔ (s.channels[k]).state ≠ .fresh)) ∧
    (∀ k : Fin 8, c.subject = k.val → c.kind = .service →
      (s.takenUp c = true ↔ c.minStage.toNat + 1 ≤ (s.service.items[k]).stage.code)) ∧
    (∀ k : SysCond, c.subject = k.code → c.kind = .system → s.takenUp c = s.warnings.sys k) ∧
    (¬ opened → ∀ n, warnNotice n w s = s1) ∧
    (opened → sampled →
      (warnNotice .stale w s =
        let x := s1.warnings.entries[w]
        setCondition w (if c.staleAction = 1 then true else if c.staleAction = 2 then false else x.holds)
          (s1.setWarning w { x with qualifyCount := 0, clearCount := 0 })) ∧
      ∀ content seeded, (∀ v, verdict c (s1.warnings.entries[w]).holds content = some v →
          warnNotice (.sample content seeded) w s = countVerdict w c v s1) ∧
        (verdict c (s1.warnings.entries[w]).holds content = none → warnNotice (.sample content seeded) w s = s1)) ∧
    (opened → c.kind = .stale → warnNotice .stale w s = setCondition w true s1 ∧
      ∀ content seeded, warnNotice (.sample content seeded) w s = setCondition w false s1) ∧
    (∀ kind subject, (c.kind = kind ∧ c.subject = subject →
        (opened → warnSubject kind subject w s = setCondition w (s1.takenUp c) s1) ∧
        (¬ opened → warnSubject kind subject w s = s1)) ∧
      (c.kind ≠ kind ∨ c.subject ≠ subject → warnSubject kind subject w s = s)) ∧
    (setCondition w e.holds s = s) ∧
    (e.holds = false → setCondition w true s = becameTrue w (s.setWarning w { e with holds := true })) ∧
    (e.holds = true → setCondition w false s = becameFalse w (s.setWarning w { e with holds := false })) ∧
    (e.state = .idle → becameTrue w s = select (changeState w .pending .qualify s)) ∧
    (e.state ≠ .idle → becameTrue w s = s) ∧
    (let clears := e.state = .acknowledged ∨ (e.state = .pending ∧ a.latch ≠ .latching) ∨
       (e.state = .presented ∧ a.latch = .selfClearing)
     (clears → becameFalse w s = endWarning w .clear s) ∧ (¬ clears → becameFalse w s = s)) ∧
    (∀ cause,
      let front : Chime := if e.markFront = true then s.chime.release (.warning w) .front else s.chime
      let told := report (.warning w e.state .idle e.masked cause) s
      let u : State := { s with
        chime := if e.markRear = true then front.release (.warning w) .rear else front,
        handler := told.handler, loop := told.loop,
        warnings := { s.warnings with entries := s.warnings.entries.set w { e with
          state := .idle, presentTimer := none, remindTimer := none, markFront := false, markRear := false } } }
      endWarning w cause s = if e.state = .presented then select u else notifyDisplay false u))

/-- R126, the lamps, the bulb check and its request. The layout of READ LAMPS is the model's choice: log entries 12 and 34. -/
def Obligations.LampsFollowStandingWarnings : Prop :=
  (∀ (s : State) (l : Fin 12), s.lampLit l = true ↔
    (s.warnings.bulbCheck.isSome = true ∨ ∃ (w : Fin 32) (a : WarnAction), (s.warnings.entries[w]).enabled = true ∧
      (s.warnings.entries[w]).masked = false ∧ (s.warnings.entries[w]).action = some a ∧ a.lamp = some l ∧
      ((s.warnings.entries[w]).state = .pending ∨ (s.warnings.entries[w]).state = .presented ∨
        (s.warnings.entries[w]).state = .acknowledged))) ∧
  (∀ l : Fin 12, State.reset.lampLit l = false) ∧
  (∀ (h : Head) (part : Option Byte) (s : State), s.takes h = true →
    let lamps : List Byte := (List.finRange 12).map (fun l => if s.lampLit l = true then 1 else 0)
    let content : List Byte := lamps ++ [if s.warnings.bulbCheck.isSome = true then 1 else 0]
    let p := (part.getD 0).toNat
    (1 < p → exec (.readLamps h part) s = .next (answered h 0x68 .badArgument [] s)) ∧
    (p ≤ 1 → exec (.readLamps h part) s = .next (answered h 0x68 .ok
      (BitVec.ofNat 8 (16 * p + 1) :: (content.drop (11 * p)).take 11) s))) ∧
  (∀ (old new : KeyState) (s : State),
    let bulb := (warningKey old new s).warnings.bulbCheck
    ((old = .off ∨ old = .acc) → (new = .run ∨ new = .crank) → bulb = some 3000) ∧
    ((new = .off ∨ new = .acc) → bulb = none) ∧
    ((old = .run ∨ old = .crank) → (new = .run ∨ new = .crank) → bulb = s.warnings.bulbCheck)) ∧
  (∀ s : State, s.powered = true →
    exec .bulbCheckExpiry s = .next { s with warnings := { s.warnings with bulbCheck := none } }) ∧
  (∀ s : State, (restartNow s).warnings.bulbCheck = none)

/-- R130 and R131, and the request of R132. -/
def Obligations.WriteChimesByTheirChecks : Prop :=
  ∀ (h : Head) (p : Byte) (s : State), s.takes h = true →
    let inUse (k : Fin 16) := (∃ r ∈ s.chime.queue, r.pattern = k) ∨ s.chime.front.current = .tick k ∨
      s.chime.rear.current = .tick k
    let stored (k : Fin 16) (x : Pattern) : State :=
      { s with chime := { s.chime with patterns := s.chime.patterns.set k x } }
    (∀ (slot : Byte) (divisor : Word) (on off : Byte),
      let run := exec (.writeChimeSegment h p slot divisor on off) s
      (16 ≤ p.toNat ∨ slot = 0 ∨ 6 < slot.toNat ∨ divisor.toNat < 100 ∨ 2500 < divisor.toNat ∨ on = 0 →
        run = .next (answered h 0x70 .badArgument [] s)) ∧
      ∀ (k : Fin 16) (i : Fin 6), p.toNat = k.val → slot.toNat = i.val + 1 → 100 ≤ divisor.toNat →
        divisor.toNat ≤ 2500 → on ≠ 0 →
        (inUse k → run = .next (answered h 0x70 .inUse [] s)) ∧
        (¬ inUse k → run = .next (answered h 0x70 .ok [] (stored k
          { s.chime.patterns[k] with
            slots := (s.chime.patterns[k]).slots.set i
              (some { divisor := divisor.toNat, onTime := on.toNat, offTime := off.toNat }) })))) ∧
    (∀ repeats segments : Byte,
      let run := exec (.writeChimePattern h p repeats segments) s
      (16 ≤ p.toNat ∨ 15 < repeats.toNat ∨ 6 < segments.toNat → run = .next (answered h 0x71 .badArgument [] s)) ∧
      ∀ k : Fin 16, p.toNat = k.val → repeats.toNat ≤ 15 → segments.toNat ≤ 6 →
        let missing := ∃ i : Fin 6, i.val < segments.toNat ∧ (s.chime.patterns[k]).slots[i] = none
        (inUse k → run = .next (answered h 0x71 .inUse [] s)) ∧
        (¬ inUse k → missing → run = .next (answered h 0x71 .badArgument [] s)) ∧
        (¬ inUse k → ¬ missing → run = .next (answered h 0x71 .ok [] (stored k
          { s.chime.patterns[k] with repeats := repeats.toNat, segments := segments.toNat })))) ∧
    (∀ tick answer : Byte,
      let run := exec (.writeChimeSetup h tick p answer) s
      let good := (tick = 0xFF ∨ tick.toNat ≤ 47) ∧ p.toNat ≤ 15 ∧ (answer = 0xFF ∨ answer.toNat ≤ 15)
      (¬ good → run = .next (answered h 0x72 .badArgument [] s)) ∧
      (good → ∃ x : ChimeSetup, x.written = true ∧ encChoice (x.tickChannel.map Fin.val) = [tick] ∧
        x.tickPattern.val = p.toNat ∧ encChoice (x.answerPattern.map Fin.val) = [answer] ∧
        run = .next (answered h 0x72 .ok [] { s with chime := { s.chime with setup := x } })))

/-- R135 and R136 as operations on the Chime Generator, with the answer request (R137) and the tick edge (R142). `starts` is R139. That a refresh takes the queued pattern's repeats, and that the newly named pattern is the one tested for emptiness, is the model's choice: log entry 27. -/
def Obligations.ChimeRequestsRefreshRankAndPushOut : Prop :=
  (∀ n, repeatsOf n = if n = 0 then none else some n) ∧
  (∀ (c : Chime) (o : ChimeOrigin) (z : Zone), c.consistent = true →
    let same (r : ChimeRequest) : Bool := decide (r.origin = o ∧ r.zone = z)
    let other : Zone := if z = .front then .rear else .front
    let starts (t : Chime) : Prop := t.patterns = c.patterns ∧ t.setup = c.setup ∧ t.player other = c.player other ∧
      (∀ r, t.queue.find? (fun x => decide (x.zone = z)) = some r → ∃ g,
        (c.patterns[r.pattern]).slots[(0 : Fin 6)] = some g ∧
        t.player z = { state := .tone, current := .request r.origin, segment := 1, timer := some (10 * g.onTime),
                       counter := some g.divisor }) ∧
      (t.queue.find? (fun x => decide (x.zone = z)) = none → t.player z = .silent)
    (∀ (p : Fin 16) (rank : Nat) (repeats : Nat → Option Nat),
      let count (k : Fin 16) : Option Nat := repeats (c.patterns[k]).repeats
      let new : ChimeRequest :=
        { origin := o, zone := z, pattern := p, rank := rank, repeatsLeft := count p, released := false }
      let run := c.request o z p rank repeats
      let placed (q : List ChimeRequest) (t : Chime) : Prop :=
        ∃ a b, q = a ++ b ∧ t.queue = a ++ new :: b ∧ (∀ x ∈ a, x.rank ≤ rank) ∧ (∀ x ∈ b, rank < x.rank) ∧
          ((c.player z).state = .silent → starts t) ∧
          ((c.player z).state = .tone → t = { c with queue := t.queue }) ∧
          ((c.player z).state = .gap →
            ((∃ k, (c.player z).current = .tick k) ∨
              (∃ r ∈ c.queue, r.zone = z ∧ (c.player z).current = .request r.origin ∧ rank < r.rank) → starts t) ∧
            (∀ r ∈ c.queue, r.zone = z → (c.player z).current = .request r.origin → r.rank ≤ rank →
              (∀ x ∈ c.queue, x.zone = z → r.rank ≤ x.rank) → t = { c with queue := t.queue }))
      ((c.patterns[p]).segments = 0 → run = c) ∧
      ((c.patterns[p]).segments ≠ 0 → c.queue.any same = true →
        run = { c with queue := c.queue.map (fun r =>
          if same r then { r with repeatsLeft := count r.pattern, released := false } else r) }) ∧
      ((c.patterns[p]).segments ≠ 0 → c.queue.any same = false →
        (c.queue.length < 8 → placed c.queue run) ∧
        (8 ≤ c.queue.length → ∀ a v b, c.queue = a ++ v :: b → c.isPlaying v = false →
          (∀ x ∈ b, c.isPlaying x = true) →
          (rank < v.rank → placed (a ++ b) run) ∧ (v.rank ≤ rank → run = c)))) ∧
    (c.queue.any same = false → c.release o z = c) ∧
    (c.queue.any same = true →
      ((c.player z).current ≠ .request o →
        c.release o z = { c with queue := c.queue.filter (fun r => !same r) }) ∧
      ((c.player z).current = .request o → (c.player z).state = .gap →
        (c.release o z).queue = c.queue.filter (fun r => !same r) ∧ starts (c.release o z)) ∧
      ((c.player z).current = .request o → (c.player z).state = .tone →
        c.release o z = { c with queue := c.queue.map (fun r =>
          if same r then { r with released := true } else r) }))) ∧
  (∀ c : Chime, (c.setup.written = false ∨ c.setup.answerPattern = none → c.answer = c) ∧
    (∀ p, c.setup.written = true → c.setup.answerPattern = some p →
      c.answer = c.request .rearCall .rear p 256 (fun n => some (if n = 0 then 1 else n)))) ∧
  (∀ (c : Chime), c.consistent = true →
    let p := c.setup.tickPattern
    (c.front.state = .silent → (c.patterns[p]).segments ≠ 0 → ∃ g,
      (c.patterns[p]).slots[(0 : Fin 6)] = some g ∧ c.tick = { c with front :=
        { state := .tone, current := .tick p, segment := 1, timer := some (10 * g.onTime), counter := some g.divisor } }) ∧
    (c.front.state ≠ .silent ∨ (c.patterns[p]).segments = 0 → c.tick = c)) ∧
  (∀ (k : Fin 48) (n : Notice) (s : State),
    let edge := s.chime.setup.written = true ∧ s.chime.setup.tickChannel = some k ∧
      ∃ level up seeded, n = .sample (.discrete level (some up)) seeded
    (edge → chimeNotice k n s = { s with chime := s.chime.tick }) ∧ (¬ edge → chimeNotice k n s = s))

/-- R139 to R141 as the meaning of the two expiries. That TONE_END outside TONE and GAP_END outside GAP change nothing is the model's choice: log entry 3. -/
def Obligations.PlayersStepThroughTheirPatterns : Prop :=
  ∀ (z : Zone) (s : State), s.powered = true → s.chime.consistent = true →
    let c := s.chime
    let pl := c.player z
    let other : Zone := if z = .front then .rear else .front
    let sounding (t : Chime) (cur : Current) (p : Fin 16) (k : Nat) : Prop := ∃ g : Segment,
      (c.patterns[p]).slots.toList[k - 1]? = some (some g) ∧
      t.player z = { state := .tone, current := cur, segment := k, timer := some (10 * g.onTime), counter := some g.divisor }
    let starts (t : Chime) : Prop :=
      (∀ r, t.queue.find? (fun x => decide (x.zone = z)) = some r → sounding t (.request r.origin) r.pattern 1) ∧
      (t.queue.find? (fun x => decide (x.zone = z)) = none → t.player z = .silent)
    let mine (o : ChimeOrigin) (r : ChimeRequest) : Bool := decide (r.origin = o ∧ r.zone = z)
    let ends (t : Chime) : Prop :=
      (∀ p, pl.current = .tick p → t.queue = c.queue ∧
        (pl.segment < (c.patterns[p]).segments → sounding t pl.current p (pl.segment + 1)) ∧
        ((c.patterns[p]).segments ≤ pl.segment → starts t)) ∧
      (∀ r ∈ c.queue, r.zone = z → pl.current = .request r.origin →
        let segs := (c.patterns[r.pattern]).segments
        (pl.segment < segs → t.queue = c.queue ∧ sounding t pl.current r.pattern (pl.segment + 1)) ∧
        (segs ≤ pl.segment →
          (r.repeatsLeft = none → t.queue = c.queue ∧ sounding t pl.current r.pattern 1) ∧
          (∀ n, r.repeatsLeft = some n →
            (2 ≤ n → sounding t pl.current r.pattern 1 ∧
              t.queue = c.queue.map (fun x => if mine r.origin x then { x with repeatsLeft := some (n - 1) } else x)) ∧
            (n ≤ 1 → t.queue = c.queue.filter (fun x => !mine r.origin x) ∧ starts t))))
    (∃ t : Chime, exec (.toneEnd z) s = .next { s with chime := t } ∧ t.patterns = c.patterns ∧ t.setup = c.setup ∧
      t.player other = c.player other ∧ (pl.state ≠ .tone → t = c) ∧
      (pl.state = .tone →
        (∀ r ∈ c.queue, r.zone = z → pl.current = .request r.origin →
          let beaten := ∃ x ∈ c.queue, x.zone = z ∧ x.rank < r.rank
          (r.released = true → t.queue = c.queue.filter (fun x => !mine r.origin x) ∧ starts t) ∧
          (r.released = false → beaten → t.queue = c.queue ∧ starts t) ∧
          (r.released = false → ¬ beaten → ∀ g : Segment,
            (c.patterns[r.pattern]).slots.toList[pl.segment - 1]? = some (some g) →
            (g.offTime ≠ 0 → t = c.setPlayer z
              { pl with state := .gap, counter := none, timer := some (10 * g.offTime) }) ∧
            (g.offTime = 0 → ends t))) ∧
        (∀ p, pl.current = .tick p →
          ((∃ x ∈ c.queue, x.zone = z) → t.queue = c.queue ∧ starts t) ∧
          (¬ (∃ x ∈ c.queue, x.zone = z) → ∀ g : Segment,
            (c.patterns[p]).slots.toList[pl.segment - 1]? = some (some g) →
            (g.offTime ≠ 0 → t = c.setPlayer z
              { pl with state := .gap, counter := none, timer := some (10 * g.offTime) }) ∧
            (g.offTime = 0 → ends t))))) ∧
    (∃ t : Chime, exec (.gapEnd z) s = .next { s with chime := t } ∧ t.patterns = c.patterns ∧ t.setup = c.setup ∧
      t.player other = c.player other ∧ (pl.state ≠ .gap → t = c) ∧ (pl.state = .gap → ends t))

/-- R131 (a pattern does not change while it is in use), the queue's invariant of R134, and the fields of R138. -/
def Obligations.ChimeQueueStaysConsistent : Prop :=
  ∀ s t : State, s.chime.consistent = true → step s = .next t → t.chime.consistent = true

/-- The two writes of section 8.1, the changed items of R146 (what becomes of each is stated with the packets: R150), the choices of R147 and R149, and the characters of R148 and R149. Numbers are decimal without leading zeros, right-aligned in their fields. The model's choices: that several changed items are dealt with in the order in which R146 lists them (log entry 40), where the six dashes of an INVALID odometer stand (log entry 35), that a temperature of 0 or above carries no sign (log entry 39), and that the time and the distance of REAR_JOURNEY are right-aligned without leading zeros too, where R149 gives no alignment (log entry 43). -/
def Obligations.WrittenContentIsRebuiltIntoTheImages : Prop :=
  (∀ (h : Head) (s : State), s.takes h = true →
    (∀ (message chunk : Byte) (chars : Vector Byte 10),
      let run := exec (.writeMessage h message chunk chars) s
      let good := ∀ b ∈ chars.toList, 0x20 ≤ b.toNat ∧ b.toNat ≤ 0x5F
      (64 ≤ message.toNat ∨ 1 < chunk.toNat ∨ ¬ good → run = .next (answered h 0x80 .badArgument [] s)) ∧
      ∀ m : Fin 64, message.toNat = m.val → good →
        let old := s.display.messages[m]
        let stored (text : List Byte) : State :=
          { s with display := { s.display with messages := s.display.messages.set m text } }
        (chunk = 0 → run = .next (answered h 0x80 .ok [] (rebuild (stored (chars.toList ++ old.drop 10))))) ∧
        (chunk = 1 → run = .next (answered h 0x80 .ok [] (rebuild (stored (old.take 10 ++ chars.toList)))))) ∧
    (∀ (button temperature offDelay : Byte) (idleTime : Word) (mc rp : Byte),
      let run := exec (.writeDisplaySetup h button temperature offDelay idleTime mc rp) s
      let good := (button = 0xFF ∨ button.toNat ≤ 47) ∧ (temperature = 0xFF ∨ temperature.toNat ≤ 47) ∧
        offDelay.toNat ≤ 120 ∧ 10 ≤ idleTime.toNat ∧ idleTime.toNat ≤ 600 ∧ mc.toNat ≤ 3 ∧ rp.toNat ≤ 3
      (¬ good → run = .next (answered h 0x82 .badArgument [] s)) ∧
      (good → ∃ f : DisplaySetup, encChoice (f.button.map Fin.val) = [button] ∧
        encChoice (f.temperature.map Fin.val) = [temperature] ∧ f.offDelay = offDelay.toNat ∧
        f.idleTime = idleTime.toNat ∧ f.mcBrightness = mc.toNat ∧ f.rpBrightness = rp.toNat ∧
        run = .next (answered h 0x82 .ok [] (rebuild { s with display :=
          { s.display with setup := some f,
                           press := if s.display.setup.bind DisplaySetup.button = f.button then s.display.press
                                    else none } }))))) ∧
  (∀ s : State,
    let m := (rebuild s).display.images
    let d := s.display
    rebuild s = { s with display := { d with images := m, queue := (rebuild s).display.queue,
                                             outstanding := (rebuild s).display.outstanding } } ∧
    (let old := d.images
     let differs : Item → Prop
       | .mcText => old.mcText ≠ m.mcText
       | .mcAttr => old.mcFlash ≠ m.mcFlash ∨ old.mcBrightness ≠ m.mcBrightness
       | .rp1Text => old.rp1Text ≠ m.rp1Text
       | .rp1Attr => old.rp1Flash ≠ m.rp1Flash ∨ old.rp1Brightness ≠ m.rp1Brightness
       | .rp2Text => old.rp2Text ≠ m.rp2Text
       | .rp2Attr => old.rp2Flash ≠ m.rp2Flash ∨ old.rp2Brightness ≠ m.rp2Brightness
       | .rpClock => old.clock ≠ m.clock
     (∃ p : Item → Bool, (∀ i, p i = true ↔ differs i) ∧
       (rebuild s).display = ([Item.mcText, .mcAttr, .rp1Text, .rp1Attr, .rp2Text, .rp2Attr, .rpClock].filter p).foldl
         Display.itemChanged { d with images := m }) ∧
     ∀ i, ¬ differs i → (rebuild s).display.outstanding.get i = d.outstanding.get i ∧
       (.item i ∈ (rebuild s).display.queue ↔ .item i ∈ d.queue)) ∧
    (∀ k f, d.mcWarning = some (k, f) → m.mcText = d.messages[k] ∧ m.mcFlash = f) ∧
    (d.mcWarning = none → m.mcFlash = false ∧ (d.blanked = true → m.mcText = List.replicate 20 0x20) ∧
      (d.blanked = false → d.naTimer.isSome = true → m.mcText =
        [0x4E, 0x4F, 0x54, 0x20, 0x41, 0x56, 0x41, 0x49, 0x4C, 0x41, 0x42, 0x4C, 0x45] ++ List.replicate 7 0x20) ∧
      (d.blanked = false → d.naTimer = none → m.mcText = pageText s)) ∧
    (∀ k, d.rearWarning = some k → m.rp2Text = (d.messages[k]).take 16 ∧ m.rp2Flash = true) ∧
    (d.rearWarning = none → m.rp2Flash = false ∧ m.rp2Text = rearJourneyText s.trip.rear s.trip.records[3]) ∧
    m.rp1Flash = false ∧ m.clock = (if s.key.valid then some (s.key.seconds / 60) else none) ∧
    (d.setup = none → m.mcBrightness = 3 ∧ m.rp1Brightness = 3 ∧ m.rp2Brightness = 3) ∧
    (∀ f, d.setup = some f → m.mcBrightness = f.mcBrightness ∧ m.rp1Brightness = f.rpBrightness ∧
      m.rp2Brightness = f.rpBrightness)) ∧
  (∀ n, n < 1000000000000 →
    let figure (t : List Byte) : Nat := t.foldl (fun x d => 10 * x + (d.toNat - 0x30)) 0
    figure (decimal n) = n ∧ decimal n ≠ [] ∧ (∀ d ∈ decimal n, 0x30 ≤ d.toNat ∧ d.toNat ≤ 0x39) ∧
    ((decimal n).head? = some 0x30 → n = 0)) ∧
  (∀ s : State,
    let digit (n : Nat) : Byte := BitVec.ofNat 8 (0x30 + n)
    let blank (n : Nat) : List Byte := List.replicate n 0x20
    let right (n : Nat) (t : List Byte) : List Byte := blank (n - t.length) ++ t
    let tenths (n : Nat) : List Byte := decimal (n / 10) ++ [0x2E, digit (n % 10)]
    let time (n : Nat) : List Byte :=
      decimal (n / 3600) ++ [0x3A, digit (n % 3600 / 60 / 10), digit (n % 3600 / 60 % 10)]
    let km (c : Counter) (plus : Bool) : List Byte :=
      right 7 (tenths (c.value / 100)) ++ [if plus = true ∧ c.overflow = true then 0x2B else 0x20, 0x4B, 0x4D]
    let trip (letter : Byte) : List Byte := [0x54, 0x52, 0x49, 0x50, 0x20, letter]
    let r (k : Fin 4) : TripRecord := s.trip.records[k]
    let page (n : Nat) (t : List Byte) : Prop := s.display.page = n → pageText s = t
    page 1 (trip 0x41 ++ blank 4 ++ km (r 0).distance true) ∧
    page 2 (trip 0x41 ++ [0x20, 0x4C, 0x2F, 0x31, 0x30, 0x30, 0x4B, 0x4D] ++ blank 2 ++
      (match averageConsumption (r 0) with | some c => right 4 (tenths c) | none => [0x2D, 0x2D, 0x2E, 0x2D])) ∧
    page 3 (trip 0x42 ++ blank 4 ++ km (r 1).distance true) ∧
    page 4 ([0x4A, 0x20] ++ (match averageSpeed (r 2) with
        | some v => right 5 (tenths (min v 9999)) | none => [0x2D, 0x2D, 0x2D, 0x2E, 0x2D]) ++
      [0x20, 0x4B, 0x4D, 0x48] ++ blank 4 ++ right 5 (time (r 2).elapsed.value)) ∧
    page 5 ((match s.range with | some n => right 4 (decimal n) | none => [0x2D, 0x2D, 0x2D, 0x2D]) ++
      ([0x20, 0x4B, 0x4D, 0x20, 0x4F, 0x44, 0x4F] : List Byte) ++ blank 2 ++
      right 7 (match s.shown with | some v => decimal (v / 10) | none => List.replicate 6 0x2D)) ∧
    (∀ i : Fin 8, s.mostUrgent = some i →
      (∀ m, (s.service.items[i]).message = some m → page 6 s.display.messages[m]) ∧
      ((s.service.items[i]).message = none →
        page 6 ([0x53, 0x45, 0x52, 0x56, 0x49, 0x43, 0x45, 0x20, digit i.val] ++ right 11
          (match (s.service.items[i]).stage with
           | .notDue => [] | .advance => [0x41, 0x44, 0x56, 0x41, 0x4E, 0x43, 0x45] | .due => [0x44, 0x55, 0x45]
           | .overdue => [0x4F, 0x56, 0x45, 0x52, 0x44, 0x55, 0x45])))) ∧
    (let line (t : List Byte) : Prop := (rebuild s).display.images.rp1Text =
       [0x4F, 0x55, 0x54, 0x53, 0x49, 0x44, 0x45] ++ blank 2 ++ right 5 t ++ [0x20, 0x43]
     let known (v : Int) : Prop := ∃ f c, s.display.setup = some f ∧ f.temperature = some c ∧
       (s.channels[c]).state = .fresh ∧ (s.channels[c]).value = some v
     (∀ v : Int, known v →
       let w := max (-99) (min 99 v)
       line ((if w < 0 then [0x2D] else []) ++ decimal w.natAbs)) ∧
     ((∀ v, ¬ known v) → line [0x2D, 0x2D])) ∧
    (∀ x : TripRecord, rearJourneyText .idle x = blank 16 ∧ ∀ st, st ≠ JourneyState.idle →
      rearJourneyText st x = right 5 (time x.elapsed.value) ++ [0x20] ++ km x.distance false))

/-- R150 and R151, with the packets of section 10.5.5. The model's choices: PACKET_DONE without its event changes nothing (log entry 3), and the wants fill the freed place before the shutdown conditions are tested (log entry 10). -/
def Obligations.DisplayPacketsAreFilledWhenTaken : Prop :=
  (∀ (d : Display) (i : Item),
    let mayGo := d.link = .active ∧ d.queue.length < 6 ∧ (i.isRear = true → d.present = true)
    (Packet.item i ∈ d.queue → d.itemChanged i = d) ∧
    (Packet.item i ∉ d.queue → mayGo → d.itemChanged i =
      { d with queue := d.queue ++ [.item i], outstanding := d.outstanding.put i false }) ∧
    (Packet.item i ∉ d.queue → ¬ mayGo → d.itemChanged i = { d with outstanding := d.outstanding.put i true })) ∧
  (∀ d : Display,
    let items := [Item.mcText, .mcAttr, .rp1Text, .rp1Attr, .rp2Text, .rp2Attr, .rpClock].filter (fun i =>
      d.outstanding.get i && (!i.isRear || d.present) && !d.queue.contains (.item i))
    let wanted : List Packet := (if d.pollWant && !d.queue.contains .poll then [.poll] else []) ++
      (if d.answerWant && d.present && !d.queue.contains .answered then [.answered] else []) ++ items.map Packet.item
    (d.link = .active → d.fillWants.queue = d.queue ++ wanted.take (6 - d.queue.length) ∧
      d.fillWants = { d with queue := d.fillWants.queue, outstanding := d.fillWants.outstanding,
                             pollWant := d.pollWant && !(wanted.take (6 - d.queue.length)).contains .poll,
                             answerWant := d.answerWant && !(wanted.take (6 - d.queue.length)).contains .answered } ∧
      ∀ i, d.fillWants.outstanding.get i =
        (d.outstanding.get i && !(wanted.take (6 - d.queue.length)).contains (.item i))) ∧
    (d.link ≠ .active → d.fillWants = d)) ∧
  (∀ s : State, s.powered = true →
    let d := s.display
    (∀ p rest, d.tx = .idle → d.queue = p :: rest → d.link = .active ∨ d.link = .shuttingDown →
      ∃ body : List Byte, byteSum (packetBytes d.images p) = 0 ∧ packetBytes d.images p = body ++ [-(byteSum body)] ∧
        (p = .item .mcText → body = 0x02 :: 0x01 :: d.images.mcText) ∧
        (p = .item .rp1Text → body = 0x02 :: 0x11 :: d.images.rp1Text) ∧
        (p = .item .rp2Text → body = 0x02 :: 0x12 :: d.images.rp2Text) ∧ (p = .poll → body = [0x05]) ∧
        (p = .answered → body = [0x06]) ∧
        (let look (row : Byte) (flash : Bool) (brightness : Nat) : List Byte :=
           [0x03, row, if flash = true then 1 else 0, BitVec.ofNat 8 brightness]
         (p = .item .mcAttr → body = look 0x01 d.images.mcFlash d.images.mcBrightness) ∧
         (p = .item .rp1Attr → body = look 0x11 d.images.rp1Flash d.images.rp1Brightness) ∧
         (p = .item .rp2Attr → body = look 0x12 d.images.rp2Flash d.images.rp2Brightness)) ∧
        (p = .item .rpClock → (d.images.clock = none → body = [0x04, 0xFF, 0xFF]) ∧
          ∀ n, d.images.clock = some n → body = [0x04, BitVec.ofNat 8 (n / 256), BitVec.ofNat 8 n]) ∧
        exec .packetDone s = .next (checkShutdown { s with display :=
          ({ d with queue := rest, tx := .sending (.packet p) (packetBytes d.images p) }).fillWants })) ∧
    (d.tx ≠ .idle ∨ d.queue = [] ∨ d.link = .waking ∨ d.link = .hibernating → exec .packetDone s = .next s) ∧
    (∀ p bytes, d.tx = .sending (.packet p) bytes →
      (p = .poll →
        exec .packetSent s = .next { s with display := { d with tx := .listening, replyWindow := some 10 } }) ∧
      (p ≠ .poll → exec .packetSent s = .next { s with display := { d with tx := .idle } })))

/-- R155 (the poll timer), R159, R160 and R161. The model's choices: LINK_SHUTDOWN_SEND without its conditions changes nothing (log entry 3), and at LINK_START_SENT the wants fill the queue before the shutdown conditions are tested (log entry 10). -/
def Obligations.LinkStatesByTheirEvents : Prop :=
  ∀ s : State, s.powered = true →
    let d := s.display
    let idle := 1000 * (match d.setup with | some f => f.idleTime | none => 10)
    let shown (e : Display) : State := { s with display := e }
    let polled (e : Display) : Prop := .poll ∈ e.queue ∨ e.pollWant = true ∨ e.tx = .listening ∨
      ∃ bytes, e.tx = .sending (.packet .poll) bytes
    let asked (e e' : Display) : Prop :=
      (polled e → e' = e) ∧
      (¬ polled e → e.queue.length < 6 → e' = { e with queue := e.queue ++ [.poll] }) ∧
      (¬ polled e → 6 ≤ e.queue.length → e' = { e with pollWant := true })
    (d.link = .hibernating → exec .dlWakeAsserted s =
      .next (shown { d with idleTimer := some idle, link := .waking, settleTimer := some 2, headMark := true })) ∧
    (d.link = .waking →
      exec .dlWakeAsserted s = .next (shown { d with idleTimer := some idle, headMark := true })) ∧
    (d.link = .active → ∃ e, exec .dlWakeAsserted s = .next (shown e) ∧ asked { d with idleTimer := some idle } e) ∧
    (d.link = .shuttingDown → exec .dlWakeAsserted s =
      .next (shown { d with idleTimer := some idle, headMark := true, wakeAfter := true })) ∧
    (d.settleTimer.isSome = true → d.link = .waking → d.tx = .idle → exec .linkSettleExpiry s =
      .next (shown { d with settleTimer := none, tx := .sending .linkStart [0x01, 0xFF] })) ∧
    (∀ bytes, d.tx = .sending .linkStart bytes → exec .linkStartSent s = .next (checkShutdown (shown
      ({ d with tx := .idle, link := .active, outstanding := .all, pollWant := d.pollWant || d.headMark,
                headMark := false, pollTimer := some 100 }).fillWants))) ∧
    (d.pollTimer.isSome = true → d.link = .active → ∃ e, exec .pollTimerExpiry s = .next (shown e) ∧
      asked { d with pollTimer := some 100 } e) ∧
    (d.idleTimer.isSome = true →
      exec .rpIdleTimerExpiry s = .next (checkShutdown (shown { d with idleTimer := none }))) ∧
    (d.link = .active ∧ s.key.state = KeyState.off ∧ d.blanked = true ∧ d.mcWarning = none ∧ d.idleTimer = none ∧
        d.rearWarning = none ∧ d.answerWant = false ∧ .answered ∉ d.queue →
      checkShutdown s = shown { d with link := .shuttingDown, pollTimer := none, pollWant := false }) ∧
    (¬ (d.link = .active ∧ s.key.state = KeyState.off ∧ d.blanked = true ∧ d.mcWarning = none ∧ d.idleTimer = none ∧
        d.rearWarning = none ∧ d.answerWant = false ∧ .answered ∉ d.queue) → checkShutdown s = s) ∧
    (d.link = .shuttingDown → d.queue = [] → d.tx = .idle → d.quietTimer = none →
      exec .linkShutdownSend s = .next (shown { d with tx := .sending .linkShutdown [0x07, 0xF9] })) ∧
    (d.link ≠ .shuttingDown ∨ d.queue ≠ [] ∨ d.tx ≠ .idle → exec .linkShutdownSend s = .next s) ∧
    (∀ bytes, d.tx = .sending .linkShutdown bytes →
      exec .linkShutdownSent s = .next (shown { d with tx := .idle, quietTimer := some 5 })) ∧
    (d.quietTimer.isSome = true → d.link = .shuttingDown →
      (d.wakeAfter = false →
        exec .quietTimerExpiry s = .next (shown { d with quietTimer := none, link := .hibernating })) ∧
      (d.wakeAfter = true → exec .quietTimerExpiry s = .next (shown
        { d with quietTimer := none, wakeAfter := false, link := .waking, settleTimer := some 2 })))

/-- R155 to R158, with the rear journey of R52 and the wake of R159 and R161 by the answer want. The wants that a third miss leaves fill the freed places as they are stated with the packets. The model's choices: an expiry or a reply outside a window changes nothing (log entry 3); of two differences in one reply CALL acts first, and the shutdown conditions are tested last, after the wants have filled the queue (log entry 10). -/
def Obligations.RepliesAndMissesOfTheRearPanel : Prop :=
  (∀ d : Display,
    let standing := d.answerWant = true ∨ .answered ∈ d.queue
    let place := d.link = .active ∧ d.queue.length < 6 ∧ d.present = true
    (d.call = false → d.askAnswer = d) ∧ (standing → d.askAnswer = d) ∧
    (d.call = true → ¬ standing → place → d.askAnswer = { d with queue := d.queue ++ [.answered] }) ∧
    (d.call = true → ¬ standing → ¬ place →
      (d.link = .active ∨ d.link = .waking → d.askAnswer = { d with answerWant := true }) ∧
      (d.link = .hibernating →
        d.askAnswer = { d with answerWant := true, link := .waking, settleTimer := some 2 }) ∧
      (d.link = .shuttingDown → d.askAnswer = { d with answerWant := true, wakeAfter := true }))) ∧
  ∀ s : State, s.powered = true →
    let d := s.display
    let ended : Display := { d with tx := .idle, replyWindow := none }
    let missed (e : Display) : Prop :=
      (3 ≤ d.missed → e = ended) ∧
      (d.missed < 3 → d.missed + 1 < 3 ∨ d.present = false → e = { ended with missed := d.missed + 1 }) ∧
      (d.missed = 2 → d.present = true →
        (let out (marked : Bool) (i : Item) : Bool := marked || d.queue.contains (.item i)
         let o := d.outstanding
         e = ({ ended with
           missed := 3, present := false, answerWant := d.answerWant || d.queue.contains .answered,
           queue := d.queue.filter (fun p => match p with
             | .item .mcText | .item .mcAttr | .poll => true
             | _ => false),
           outstanding := { o with rp1Text := out o.rp1Text .rp1Text, rp1Attr := out o.rp1Attr .rp1Attr,
                                   rp2Text := out o.rp2Text .rp2Text, rp2Attr := out o.rp2Attr .rp2Attr,
                                   rpClock := out o.rpClock .rpClock } }).fillWants) ∧
        e.missed = 3 ∧ e.present = false ∧ e.tx = .idle ∧ e.replyWindow = none ∧ e.call = d.call ∧
        e.journey = d.journey ∧ e.images = d.images ∧ .answered ∉ e.queue ∧
        (.answered ∈ d.queue → e.answerWant = true) ∧
        ∀ i : Item, i.isRear = true → .item i ∉ e.queue ∧
          (.item i ∈ d.queue → e.outstanding.get i = true) ∧
          (.item i ∉ d.queue → e.outstanding.get i = d.outstanding.get i))
    (d.tx ≠ .listening → exec .replyWindowExpiry s = .next s ∧ ∀ bytes, exec (.statusReply bytes) s = .next s) ∧
    (d.tx = .listening →
      (∃ e, exec .replyWindowExpiry s = .next { s with display := e } ∧ missed e) ∧
      ∀ bytes : List Byte,
        let good := bytes.length = 3 ∧ bytes[0]? = some 0x81 ∧ byteSum bytes = 0
        let call := (bytes.getD 1 0).getLsbD 0
        let journey := (bytes.getD 1 0).getLsbD 1
        (¬ good → ∃ e, exec (.statusReply bytes) s = .next { s with display := e } ∧ missed e) ∧
        (good → d.call = call → d.journey = journey →
          (d.present = true → exec (.statusReply bytes) s = .next { s with display := { ended with missed := 0 } }) ∧
          (d.present = false → exec (.statusReply bytes) s = .next { s with display :=
            ({ ended with missed := 0, present := true,
                          outstanding := { d.outstanding with rp1Text := true, rp1Attr := true, rp2Text := true,
                                                              rp2Attr := true, rpClock := true } }).fillWants })) ∧
        (good → (d.call ≠ call ∨ d.journey ≠ journey) →
          ∃ t, exec (.statusReply bytes) s = .next t ∧ t.display.call = call ∧ t.display.journey = journey ∧
            t.display.missed = 0 ∧ t.display.present = true ∧
            t.display.idleTimer = some (1000 * (match d.setup with | some f => f.idleTime | none => 10)) ∧
            (let r := s.trip.records[(3 : Fin 4)]
             let started : Trip := { s.trip with records := s.trip.records.set 3 .zero,
                                                 snapshots := s.trip.snapshots.set 3 none, rear := .running }
             let ended' : Trip := { s.trip with rear := .ended }
             let kept := d.journey = journey ∨ (journey = false ∧ s.trip.rear ≠ .running)
             let reply : Display := if d.present = true then { ended with missed := 0 } else
               ({ ended with missed := 0, present := true,
                             outstanding := { d.outstanding with rp1Text := true, rp1Attr := true, rp2Text := true,
                                                                 rp2Attr := true, rpClock := true } }).fillWants
             let timed : State := { s with display := { reply with
               idleTimer := some (1000 * (match d.setup with | some f => f.idleTime | none => 10)) } }
             let held (u : State) : State := { u with display := { u.display with call := call, journey := journey } }
             let left : State := setSys .rearCall false timed
             let called : State := if d.call = call then timed else if call = true then setSys .rearCall true timed
               else { left with display := ({ left.display with
                 answerWant := false, queue := left.display.queue.filter (fun p => p != Packet.answered) }).fillWants }
             (kept → t.trip = s.trip) ∧ (¬ kept → journey = true → t.trip = started) ∧
             (¬ kept → journey = false → t.trip = ended') ∧
             (kept → t = checkShutdown (held called)) ∧
             (¬ kept → journey = true →
               t = checkShutdown (held (rebuild (report .journeyStart { called with trip := started })))) ∧
             (¬ kept → journey = false → t = checkShutdown (held (rebuild
               (report (.journeyEnd r.distance.value r.elapsed.value) { called with trip := ended' }))))) ∧
            (d.call = true → call = false → t.display.answerWant = false ∧ .answered ∉ t.display.queue) ∧
            (d.call ≠ call → t.warnings.rearCall = call) ∧ (d.call = call → t.warnings.rearCall = s.warnings.rearCall) ∧
            t.store.mem = s.store.mem ∧ t.channels = s.channels ∧ t.key = s.key))

/-- R152 to R154, the blanked flag and the two timers of R147 and R153, the notice of R125 at the display, and the wake needs of R159 with the wake-after mark of R161. The 5 s expiry is stated with the service reset. The model's choices: an unblanking press rebuilds nothing and with an off delay of 0 starts a timer of 0 ms (log entry 11); the expiries without a running timer or record change nothing (log entry 3); the images are rebuilt before the shutdown conditions are tested (log entry 10); the warnings are compared by what their notice carries (log entry 38). -/
def Obligations.PressRecordsAndMcTimers : Prop :=
  ∀ s : State, s.powered = true →
    let d := s.display
    let delay := 1000 * (match d.setup with | some f => f.offDelay | none => 0)
    let shown (e : Display) : State := { s with display := e }
    let nextPage := if d.page = 6 then 1 else if d.page = 5 ∧ s.mostUrgent = none then 1 else d.page + 1
    let woken (e : Display) : Display :=
      if e.link = .hibernating then { e with link := .waking, settleTimer := some 2 }
      else if e.link = .shuttingDown then { e with wakeAfter := true } else e
    let ended (e : Display) : State := checkShutdown (rebuild (shown e))
    (∀ (level seeded : Bool), buttonNotice (.sample (.discrete level (some true)) seeded) s = pressEdge s ∧
      buttonNotice (.sample (.discrete level (some false)) seeded) s = releaseEdge s ∧
      buttonNotice (.sample (.discrete level none) seeded) s = s ∧
      (∀ v limited, buttonNotice (.sample (.analog v limited) seeded) s = s) ∧
      ∀ count, buttonNotice (.sample (.rolling count) seeded) s = s) ∧
    (∀ (mc : Option (Fin 64 × Bool)) (rear : Option (Fin 64)) (entered : Bool),
      let fresh := (d.mcWarning ≠ mc ∧ mc ≠ none) ∨ (d.rearWarning ≠ rear ∧ rear ≠ none)
      let e : Display := { d with
        mcWarning := mc, rearWarning := rear,
        press := if entered = true then d.press.map (fun p => { p with state := .cancelled, timer2 := none, timer5 := none })
                 else d.press,
        idleTimer := if d.rearWarning ≠ rear then some (1000 * (match d.setup with | some f => f.idleTime | none => 10))
                     else d.idleTimer }
      (d.mcWarning = mc → d.rearWarning = rear → entered = false → contentNotice mc rear entered s = s) ∧
      (d.mcWarning ≠ mc ∨ d.rearWarning ≠ rear ∨ entered = true →
        (fresh → contentNotice mc rear entered s = ended (woken e)) ∧
        (¬ fresh → contentNotice mc rear entered s = ended e))) ∧
    (delay = 0 → displayKey .off s = ended { d with blanked := true, offTimer := none }) ∧
    (delay ≠ 0 → displayKey .off s = ended { d with offTimer := some delay }) ∧
    (∀ new, new ≠ KeyState.off → displayKey new s = ended (woken { d with blanked := false, offTimer := none })) ∧
    (s.presented = none →
      (d.blanked = true → pressEdge s = shown (woken
        { d with blanked := false, offTimer := if s.key.state = KeyState.off then some delay else d.offTimer })) ∧
      (d.blanked = false → pressEdge s = shown
        { d with press := some { page := d.page, state := .held, timer2 := some 2000, timer5 := some 5000 } })) ∧
    (∀ r : Fin 4, resetTrip r .button s = report (.tripReset r .button) { s with trip := { s.trip with
      records := s.trip.records.set r .zero, snapshots := s.trip.snapshots.set r none } }) ∧
    (d.press = none → releaseEdge s = s ∧ exec .hold2sExpiry s = .next s) ∧
    (∀ p, d.press = some p →
      (p.state = .held → releaseEdge s = rebuild (shown { d with press := none, page := nextPage })) ∧
      (p.state ≠ .held → releaseEdge s = shown { d with press := none } ∧ exec .hold2sExpiry s = .next s) ∧
      (p.state = .held → p.timer2.isSome = true →
        let long (t : State) : State := rebuild
          { t with display := { t.display with press := some { p with state := .long, timer2 := none } } }
        (p.page = 1 ∨ p.page = 2 → exec .hold2sExpiry s = .next (long (resetTrip 0 .button s))) ∧
        (p.page = 3 → exec .hold2sExpiry s = .next (long (resetTrip 1 .button s))) ∧
        (4 ≤ p.page ∨ p.page = 0 → exec .hold2sExpiry s = .next (long s)))) ∧
    buttonNotice .stale s = shown { d with press := none } ∧
    (d.offTimer.isSome = true → exec .mcOffTimerExpiry s =
      .next (checkShutdown (rebuild (shown { d with offTimer := none, blanked := true })))) ∧
    (d.offTimer = none → exec .mcOffTimerExpiry s = .next s) ∧
    (d.naTimer.isSome = true → exec .notAvailableExpiry s = .next (rebuild (shown { d with naTimer := none }))) ∧
    (d.naTimer = none → exec .notAvailableExpiry s = .next s)

/-- R164 (corrupt frames), R166, R167 and R169 as the meaning of LOOP_FRAME_RECEIVED. -/
def Obligations.FramesAreTreatedByTheFirstCase : Prop :=
  ∀ (f : Frame) (longGap stopMissing : Bool) (s : State), s.powered = true →
    s.loop.requestQ = [] ∨ s.handlerFree = false →
    let l := s.loop
    let run := exec (.loopFrameReceived f longGap stopMissing) s
    let intact := 3 ≤ f.length ∧ f.length = frameLength f + 3 ∧ longGap = false ∧ stopMissing = false ∧ byteSum f = 0
    let tag := f.getD 0 0
    let from' := frameOrigin f
    let forwarded := if l.forwardQ.length < 4 then l.forwardQ ++ [f] else l.forwardQ
    (¬ intact → run = .next s) ∧
    (intact → from' = l.node → (tag = 0xE8 ∨ tag = 0xE9 → run = .next s) ∧
      (tag ≠ 0xE8 → tag ≠ 0xE9 → run = .next (loopReturn f s))) ∧
    (intact → from' ≠ l.node →
      (tag = 0xF0 + l.node.setWidth 8 →
        (s.handlerFree = true → run = .next (serve (decodeRequest from' (framePayload f)) s)) ∧
        (s.handlerFree = false → l.requestQ.length < 4 →
          run = .next { s with loop := { l with requestQ := l.requestQ ++ [f] } }) ∧
        (s.handlerFree = false → 4 ≤ l.requestQ.length → run = .next { s with loop := { l with overrun := true } })) ∧
      (tag = 0xE8 → ∃ hs, run = .next { s with loop := { l with forwardQ := forwarded, holders := hs } } ∧
        (l.holders.any (fun x => x.node = from') = true →
          hs = l.holders.map (fun x => if x.node = from' then { x with left := 2000 } else x)) ∧
        (l.holders.any (fun x => x.node = from') = false → hs = l.holders ++ [{ node := from', left := 2000 }])) ∧
      (tag = 0xE9 → run = .next { s with loop :=
        { l with forwardQ := forwarded, holders := l.holders.filter (fun x => x.node ≠ from') } }) ∧
      (tag ≠ 0xF0 + l.node.setWidth 8 → tag ≠ 0xE8 → tag ≠ 0xE9 →
        let refs := ∃ c : Fin 48, (s.channels[c]).enabled = true ∧ ∃ x, (s.channels[c]).setup = some x ∧ x.tag = tag ∧
          (x.origin = none ∨ x.origin = some from')
        (refs → run = .next { s with loop := ({ l with forwardQ := forwarded }).tap f }) ∧
        (¬ refs → run = .next { s with loop := { l with forwardQ := forwarded } })))

/-- R173 and R174. The model's choices: the expiry takes the oldest entry (log entry 18) and with none changes nothing (log entry 3), and the STATE event comes before LOOP_BROKEN reaches the warnings (log entry 10). -/
def Obligations.ReturnsAndMissesMoveTheLoopState : Prop :=
  ∀ s : State, s.powered = true →
    let awaiting (a : List Awaiting) (t : State) : State := { t with loop := { t.loop with awaiting := a } }
    let into (new : LoopState) (t : State) : State :=
      if t.loop.state = new then t
      else setSys .loopBroken (decide (new = .broken))
        (report (.loopState t.loop.state new) { t with loop := { t.loop with state := new } })
    let afterMiss : LoopState := if s.loop.state = .intact then .suspect else .broken
    (s.loop.awaiting = [] → exec .returnTimerExpiry s = .next s) ∧
    (∀ a rest, s.loop.awaiting = a :: rest → exec .returnTimerExpiry s = .next (into afterMiss (awaiting rest s))) ∧
    (∀ f : Frame,
      ((∀ a ∈ s.loop.awaiting, a.frame ≠ f) → loopReturn f s = into afterMiss s) ∧
      (∀ a rest, s.loop.awaiting = a :: rest → a.frame = f → loopReturn f s = into .intact (awaiting rest s)) ∧
      (∀ missed a rest, s.loop.awaiting = missed ++ a :: rest → a.frame = f → (∀ m ∈ missed, m.frame ≠ f) →
        loopReturn f s = into .intact (missed.foldl
          (fun t _ => into (if t.loop.state = .intact then .suspect else .broken) t) (awaiting rest s)) ∧
        (loopReturn f s).loop =
          { s.loop with awaiting := rest, state := .intact, insertQ := (loopReturn f s).loop.insertQ } ∧
        (s.warnings.loopBroken = decide (s.loop.state = .broken) → (loopReturn f s).warnings.loopBroken = false)))

/-- R170, with the flow frames of R165, and R171, R173 and R175 for what a choice and a sent frame leave. The model's choices: the rounds of the offer of a freed place (log entry 6), and that the two rows without their event change nothing (log entry 3). -/
def Obligations.TransmitterChoosesByTheOrder : Prop :=
  ∀ s : State, s.powered = true →
    let l := s.loop
    let port (x : LoopPort) : State := { s with loop := x }
    let allowed (x : Inserted) := l.holders = [] ∧ l.awaiting.length < 8 ∧ ∀ a ∈ l.awaiting, a.frame ≠ x.frame
    (l.tx ≠ .idle → exec .loopTransmitStart s = .next s) ∧
    (l.tx = .idle →
      (l.flow = .hold → exec .loopTransmitStart s = .next (port { l with flow := .empty, tx := .hold (mkFrame 0xE8 l.node []) })) ∧
      (l.flow = .release → exec .loopTransmitStart s = .next (port { l with flow := .empty, tx := .release (mkFrame 0xE9 l.node []) })) ∧
      (l.flow = .empty →
        (∀ f rest, l.forwardQ = f :: rest →
          exec .loopTransmitStart s = .next (port { l with forwardQ := rest, tx := .forwarded f })) ∧
        (l.forwardQ = [] →
          (l.insertQ = [] → exec .loopTransmitStart s = .next s) ∧
          (∀ x rest, l.insertQ = x :: rest →
            (allowed x → exec .loopTransmitStart s = .next (offer (port { l with insertQ := rest, tx := .inserted x }))) ∧
            (allowed x → l.requestQ = [] → s.handler.held = [] → s.handler.startUp = none → s.handler.events = [] →
                (∀ c, s.handler.dump ≠ .streaming c) →
              exec .loopTransmitStart s = .next (port { l with insertQ := rest, tx := .inserted x })) ∧
            (¬ allowed x → exec .loopTransmitStart s = .next s))))) ∧
    (l.tx = .idle → exec .loopFrameSent s = .next s) ∧
    (mkFrame 0xE8 l.node [] = [0xE8, l.node ++ (0 : BitVec 4), -(0xE8 + (l.node ++ (0 : BitVec 4)))]) ∧
    (∀ f, l.tx = .hold f → exec .loopFrameSent s = .next (port { l with tx := .idle, holdSent := true })) ∧
    (∀ f, l.tx = .release f → exec .loopFrameSent s = .next (port { l with tx := .idle, holdSent := false })) ∧
    (∀ f, l.tx = .forwarded f → exec .loopFrameSent s = .next (port { l with tx := .idle })) ∧
    (∀ f, l.tx = .inserted { frame := f, restart := false } → exec .loopFrameSent s =
      .next (port { l with tx := .idle, awaiting := l.awaiting ++ [{ frame := f, left := 100 }] }))

/-- R176, with the events of R175 and the expiry of R177. That REFRESH_TIMER_EXPIRY with the timer stopped, and HOLD_LIST_TIMER_EXPIRY of a node not in the list, change nothing is the model's choice: log entry 3. -/
def Obligations.HoldsByTheirEvents : Prop :=
  let asserted (l : LoopPort) : LoopPort :=
    { l with asserted := true, flow := .hold, critical := 0, refresh := some 1000 }
  let released (l : LoopPort) : LoopPort :=
    { l with asserted := false, refresh := none, flow := if l.holdSent = true then .release else .empty }
  (∀ (h : Head) (s : State), s.takes h = true →
    let l := s.loop
    (l.asserted = false → exec (.assertHold h) s =
      .next (answered h 0x90 .ok [] { s with loop := asserted { l with force := true } })) ∧
    (l.asserted = true → exec (.assertHold h) s =
      .next (answered h 0x90 .ok [] { s with loop := { l with force := true } })) ∧
    (l.asserted = true → l.tapQ.length ≤ 7 → exec (.clearHold h) s =
      .next (answered h 0x91 .ok [] { s with loop := released { l with force := false } })) ∧
    (l.asserted = false ∨ 8 ≤ l.tapQ.length → exec (.clearHold h) s =
      .next (answered h 0x91 .ok [] { s with loop := { l with force := false } }))) ∧
  (∀ (l : LoopPort) (f : Frame),
    (16 ≤ l.tapQ.length → l.tap f = l) ∧
    (l.tapQ.length < 11 → l.tap f = { l with tapQ := l.tapQ ++ [f] }) ∧
    (11 ≤ l.tapQ.length → l.tapQ.length < 16 →
      (l.asserted = false → l.tap f = asserted { l with tapQ := l.tapQ ++ [f] }) ∧
      (l.asserted = true → l.critical = 0 → l.tap f = { l with tapQ := l.tapQ ++ [f], critical := 1 }) ∧
      (l.asserted = true → l.critical = 1 →
        l.tap f = { l with tapQ := l.tapQ ++ [f], critical := 0, flow := .hold })) ∧
    (12 ≤ l.tapQ.length → l.holdTake = l) ∧
    (8 ≤ l.tapQ.length → l.tapQ.length ≤ 11 → l.holdTake = { l with critical := 0 }) ∧
    (l.tapQ.length ≤ 7 →
      (l.asserted = true → l.force = false → l.holdTake = released { l with critical := 0 }) ∧
      (l.asserted = false ∨ l.force = true → l.holdTake = { l with critical := 0 }))) ∧
  (∀ s : State, s.powered = true →
    (s.loop.refresh.isSome = true → exec .refreshTimerExpiry s =
      .next { s with loop := { s.loop with flow := .hold, refresh := some 1000 } }) ∧
    (s.loop.refresh = none → exec .refreshTimerExpiry s = .next s) ∧
    ∀ n : Node,
      ((∃ x ∈ s.loop.holders, x.node = n) → exec (.holdListTimerExpiry n) s = .next (report (.holdExpired n)
        { s with loop := { s.loop with holders := s.loop.holders.filter (fun x => x.node ≠ n) } })) ∧
      ((∀ x ∈ s.loop.holders, x.node ≠ n) → exec (.holdListTimerExpiry n) s = .next s))

/-- The requests of R185, R187 and R189, with the building of R188. That the dump frames of a request are placed before any other waiting producer is looked at is the model's reading: log entry 6. -/
def Obligations.EventsAndDumpRequestsByTheirChecks : Prop :=
  ∀ (h : Head) (s : State), s.takes h = true →
    let dump (d : DumpState) : State := { s with handler := { s.handler with dump := d } }
    let figures (c : DumpContext) : List Byte :=
      [BitVec.ofNat 8 c.next, BitVec.ofNat 8 (c.remaining / 256), BitVec.ofNat 8 c.remaining]
    (∀ set : Byte,
      (0x40 ≤ set.toNat → exec (.events h set) s = .next (answered h 0xA1 .badArgument [] s)) ∧
      (set.toNat < 0x40 → exec (.events h set) s =
        .next (answered h 0xA1 .ok [set] { s with handler := { s.handler with classes := set } }))) ∧
    (∀ (start : Byte) (count : Word),
      let run := exec (.storeDump h start count) s
      let good := 1 ≤ count.toNat ∧ count.toNat ≤ 256 ∧ start.toNat + count.toNat ≤ 256
      let c : DumpContext := { recipient := h.node, seq := h.seq, next := start.toNat, remaining := count.toNat }
      (¬ good → run = .next (answered h 0xA3 .badArgument [] s)) ∧
      (good → (∃ c, s.handler.dump = .streaming c) → run = .next (answered h 0xA3 .busy [] s)) ∧
      (good → (∀ c, s.handler.dump ≠ .streaming c) →
        run = .next (dumpFill (answered h 0xA3 .ok (figures c) (dump (.streaming c)))))) ∧
    (s.handler.dump = .idle → exec (.dumpAbort h) s = .next (answered h 0xA4 .invalidState [] s) ∧
      exec (.dumpResume h) s = .next (answered h 0xA5 .invalidState [] s)) ∧
    (∀ c, s.handler.dump = .streaming c →
      exec (.dumpAbort h) s = .next (answered h 0xA4 .ok (figures c) (dump (.aborted c))) ∧
      exec (.dumpResume h) s = .next (answered h 0xA5 .invalidState [] s)) ∧
    (∀ c, s.handler.dump = .aborted c →
      exec (.dumpAbort h) s = .next (answered h 0xA4 .ok (figures c) s) ∧
      exec (.dumpResume h) s = .next (dumpFill (answered h 0xA5 .ok (figures c)
        (dump (.streaming { c with recipient := h.node, seq := h.seq }))))) ∧
    (∀ t : State, (∃ n, dumpFill t = Nat.iterate buildDump n t) ∧
      ((∀ c, (dumpFill t).handler.dump ≠ .streaming c) ∨ 6 ≤ (dumpFill t).loop.insertQ.length))

/-- R171, R172, R182 (held responses), R185, R186 and R188. The words of a dump frame are read as they stand, by the rule for reads while busy. The model's choices: the rounds of the offers and the extent of the handler's turn (log entry 6), and that a row without its event or its place changes nothing (log entry 3). -/
def Obligations.ProducersPlaceByTheirLimits : Prop :=
  let payload (e : Event) (lost : Byte) : List Byte :=
    let one (n : Nat) : Byte := BitVec.ofNat 8 n
    let three (n : Nat) : List Byte := [one (n / 65536), one (n / 256), one n]
    let yes (b : Bool) : Byte := if b = true then 1 else 0
    match e with
    | .warning w o n masked cause => [1, 0, lost, one w.val, one o.code, one n.code, yes masked, one cause.code]
    | .stage i o n => [2, 0, lost, one i.val, one o.code, one n.code]
    | .serviceReset i src odo day => [2, 1, lost, one i.val, one src.code] ++ three odo ++ [one (day / 256), one day]
    | .loopState o n => [3, 0, lost, one o.code, one n.code]
    | .holdExpired n => [3, 1, lost, n.setWidth 8]
    | .programFailed c a => [4, 0, lost, one c.code, one a.val]
    | .sectorBad k => [4, 1, lost, one k.val]
    | .saveFailed p => [4, 2, lost, one p.code]
    | .odometerFault b => [4, 3, lost, yes b]
    | .discontinuity fuel d => [5, 0, lost, yes fuel, one (d / 256), one d]
    | .overflow r f => [5, 1, lost, one r.val, one f.code]
    | .tripReset r c => [5, 2, lost, one r.val, one c.code]
    | .journeyStart => [5, 3, lost]
    | .journeyEnd d e => [5, 4, lost] ++ three d ++ three e
    | .keyChange o n => [6, 0, lost, one o.code, one n.code]
  let placed (s : State) (f : Frame) (y : Handler) : State :=
    { s with handler := y, loop := { s.loop with insertQ := s.loop.insertQ ++ [{ frame := f, restart := false }] } }
  let eventFrame (s : State) (e : Event) : Frame :=
    mkFrame 0xE1 s.loop.node (payload e (if s.handler.eventsLost = true then 1 else 0))
  (∀ (e : Event) (s : State),
    let x := s.handler
    let enabled := x.classes.getLsbD ((payload e 0).getD 0 1 - 1).toNat = true
    (¬ enabled → report e s = s) ∧
    (enabled → 16 ≤ x.events.length → report e s = { s with handler := { x with eventsLost := true } }) ∧
    (enabled → x.events.length < 16 → 6 ≤ s.loop.insertQ.length →
      report e s = { s with handler := { x with events := x.events ++ [e] } }) ∧
    (∀ first rest, enabled → x.events.length < 16 → s.loop.insertQ.length < 6 → x.events ++ [e] = first :: rest →
      report e s = placed s (eventFrame s first) { x with events := rest, eventsLost := false })) ∧
  (∀ s : State, s.powered = true →
    let l := s.loop
    let x := s.handler
    let placed := placed s
    let lost : Byte := if x.eventsLost then 1 else 0
    let room := l.insertQ.length < 6
    (∀ f rest, x.held = f :: rest → l.insertQ.length < 8 →
      exec .heldResponsePlaced s = .next (pump (placed f { x with held := rest })) ∧
      (l.requestQ = [] → exec .heldResponsePlaced s = .next (placed f { x with held := rest }))) ∧
    (x.held = [] ∨ 8 ≤ l.insertQ.length → exec .heldResponsePlaced s = .next s) ∧
    (∀ codes, x.startUp = some codes → room → exec .startUpReport s =
      .next (placed (mkFrame 0xE1 l.node ([0, 0, lost] ++ codes.map (fun c => BitVec.ofNat 8 c.code)))
        { x with startUp := none, eventsLost := false })) ∧
    (x.startUp = none ∨ ¬ room → exec .startUpReport s = .next s) ∧
    (∀ e rest, x.events = e :: rest → room → exec .eventFrameBuild s =
      .next (placed (eventFrame s e) { x with events := rest, eventsLost := false })) ∧
    (x.events = [] ∨ ¬ room → exec .eventFrameBuild s = .next s) ∧
    (∀ c, x.dump = .streaming c → c.next + c.remaining ≤ 256 → 1 ≤ c.remaining → room →
      ∃ words : List Word, words.length ≤ min 5 c.remaining ∧
        (∀ (i : Nat) (a : Fin 256) (w : Word), words[i]? = some w → a.val = c.next + i →
          s.store.readWord a = (.ok, w)) ∧
        let head : List Byte := [BitVec.ofNat 8 c.next] ++ words.flatMap encWord
        let left := c.remaining - words.length
        let frame (code : Byte) (tail : List Byte) : Frame :=
          mkFrame (nodeTag c.recipient) l.node ([0xA3, c.seq, code] ++ head ++ tail)
        (words.length = min 5 c.remaining →
          (0 < left → exec .dumpFrameBuild s = .next (placed (frame 0 [])
            { x with dump := .streaming { c with next := c.next + words.length, remaining := left } })) ∧
          (left = 0 → exec .dumpFrameBuild s = .next (placed (frame 1 []) { x with dump := .idle }))) ∧
        (words.length < min 5 c.remaining → ∀ a : Fin 256, a.val = c.next + words.length →
          (s.store.readWord a).1 ≠ .ok ∧
          exec .dumpFrameBuild s = .next (placed (frame 2 [BitVec.ofNat 8 a.val, (s.store.readWord a).1.code])
            { x with dump := .idle }))) ∧
    ((∀ c, x.dump ≠ .streaming c) ∨ ¬ room →
      exec .dumpFrameBuild s = .next s) ∧
    (room → ∃ (speed shown : List Byte) (top : Byte),
      let entry (w : Fin 32) : Warning := s.warnings.entries[w]
      let rank (w : Fin 32) : Nat := match (entry w).action with | some a => 32 * a.priority + w.val | none => 256 + w.val
      let stands (w : Fin 32) : Prop := (entry w).enabled = true ∧ (entry w).masked = false ∧ (entry w).state ≠ .idle
      let drives (v : Int) : Prop := ∃ t, s.trip.setup = some t ∧ (s.channels[t.speed]).state = .fresh ∧
        (s.channels[t.speed]).value = some v
      ((∀ v, ¬ drives v) → speed = [1, 0, 0]) ∧
      (∀ v, drives v → speed = 0 :: encWord (BitVec.ofInt 16 v)) ∧
      ((∀ w, ¬ stands w) → top = 0xFF) ∧
      (∀ w a, stands w → (∀ v, stands v → rank w ≤ rank v) → (entry w).action = some a →
        top = BitVec.ofNat 8 a.priority) ∧
      (s.odometer.valid = false → shown = [1, 0, 0, 0]) ∧
      (∀ v, s.shown = some v → shown =
        [0, BitVec.ofNat 8 (v / 65536), BitVec.ofNat 8 (v / 256), BitVec.ofNat 8 v]) ∧
      exec .broadcastTimerExpiry s = .next { s with loop := { l with broadcast := some 500, insertQ := l.insertQ ++
        [{ frame := mkFrame 0xE0 l.node ([BitVec.ofNat 8 s.key.state.code] ++ speed ++ shown ++
             [BitVec.ofNat 8 l.state.code, top]), restart := false }] } }) ∧
    (¬ room → exec .broadcastTimerExpiry s = .next { s with loop := { l with broadcast := some 500 } })) ∧
  (∀ s : State,
    let x := s.handler
    (s.producerWaits = true ↔
      (s.loop.insertQ.length < 8 ∧ (x.held ≠ [] ∨ (x.restartPending = false ∧ s.loop.requestQ ≠ []))) ∨
      (s.loop.insertQ.length < 6 ∧ (x.startUp ≠ none ∨ x.events ≠ [] ∨ ∃ c, x.dump = .streaming c))) ∧
    (∃ n, offer s = Nat.iterate offerRound n s ∧ ∀ m, m < n → (Nat.iterate offerRound m s).producerWaits = true) ∧
    (offer s).producerWaits = false ∧
    offerRound s = buildDump (buildEvent (buildStartUp (handlerTurn s))) ∧
    (∀ f rest, x.held = f :: rest → s.loop.insertQ.length < 8 → handlerTurn s = placed s f { x with held := rest }) ∧
    (s.handlerFree = false → (x.held = [] ∨ 8 ≤ s.loop.insertQ.length) → handlerTurn s = s) ∧
    (s.handlerFree = true → s.loop.requestQ = [] → handlerTurn s = s) ∧
    (∀ f rest, s.handlerFree = true → s.loop.requestQ = f :: rest →
      let t := serve (decodeRequest (frameOrigin f) (framePayload f)) { s with loop := { s.loop with requestQ := rest } }
      (s.loop.insertQ.length < t.loop.insertQ.length → handlerTurn s = t) ∧
      (t.loop.insertQ.length ≤ s.loop.insertQ.length → handlerTurn s = takeFor rest.length t)))

/-- R184 and the restart effect of each chapter. `cleared` is the part with every block's restart effect, field by field, `reported` the same with the held start-up report placed; the next state is exactly what the take-ups make of it, each of which is stated by itself: the evaluation (R102), the gate tests and the notice (R128), the rebuild and the refill (R163). The channels and gauges stand in it as they are said below. The model's choices: LOOP_FRAME_SENT of the RESTART response is RESTART_EFFECT (log entry 17), the order of the take-ups, with the held report before their events (log entry 10), and RESTART_EFFECT without that frame changes nothing (log entry 3). The candidate level of a channel is left open (log entry 9). -/
def Obligations.RestartWaitsForItsResponse : Prop :=
  (∀ (h : Head) (s : State), s.takes h = true →
    ∃ t, exec (.restart h) s = .next t ∧ t.handlerFree = false ∧
      t = { s with handler := { s.handler with restartPending := true },
                   loop := { s.loop with
                     overrun := false,
                     insertQ := s.loop.insertQ ++
                       [{ frame := responseFrame h 0xA2 .ok [] s, restart := true }] } }) ∧
  (∀ s : State, s.powered = true →
    ((∀ f, s.loop.tx ≠ .inserted { frame := f, restart := true }) → exec .restartEffect s = .next s) ∧
    ∀ f, s.loop.tx = .inserted { frame := f, restart := true } →
      ∃ t, exec .restartEffect s = .next t ∧ exec .loopFrameSent s = .next t ∧
        t.curves = s.curves ∧ t.store = s.store ∧ t.odometer = s.odometer ∧ t.tripPair = s.tripPair ∧
        t.servicePair = s.servicePair ∧ t.key = s.key ∧
        (let silent : Player := { state := .silent, current := .nothing, segment := 0, timer := none, counter := none }
         let cleared : State := { s with
           channels := t.channels, gauges := t.gauges,
           trip := { s.trip with snapshots := Vector.replicate 4 none, distanceBase := none, fuelBase := none },
           warnings := { s.warnings with bulbCheck := none, entries := s.warnings.entries.map (fun e => { e with
             state := .idle, masked := false, holds := false, gate := false, qualifyCount := 0, clearCount := 0,
             presentTimer := none, remindTimer := none, markFront := false, markRear := false }) },
           chime := { s.chime with queue := [], front := silent, rear := silent },
           display := { s.display with
             queue := [], pollWant := false, answerWant := false,
             outstanding := { mcText := true, mcAttr := true, rp1Text := true, rp1Attr := true, rp2Text := true,
                              rp2Attr := true, rpClock := true },
             tx := if s.display.tx = .listening then .idle else s.display.tx, replyWindow := none, press := none,
             naTimer := none },
           loop := { s.loop with
             tx := .idle, awaiting := s.loop.awaiting ++ [{ frame := f, left := 100 }], tapQ := [], requestQ := [],
             insertQ := [], overrun := false, force := false, asserted := false, refresh := none, critical := 0,
             flow := if s.loop.holdSent = true then .release else .empty },
           handler := { s.handler with restartPending := false, extRequester := none, setRequester := none, held := [],
                                       events := [], eventsLost := false, dump := .idle } }
         let reported : State := { cleared with
           handler := { cleared.handler with startUp := none },
           loop := { cleared.loop with insertQ := match s.handler.startUp with
             | some codes => [{ frame := mkFrame 0xE1 s.loop.node
                                  ([0, 0, 0] ++ codes.map (fun c => BitVec.ofNat 8 c.code)), restart := false }]
             | none => [] } }
         let rebuilt : State := rebuild (notifyDisplay false (testGates (evaluateAll reported)))
         t = checkShutdown { rebuilt with display := rebuilt.display.fillWants }) ∧
        (∀ c : Fin 48, t.channels[c] = { s.channels[c] with
          state := .never, value := none, limited := false, candLevel := (t.channels[c]).candLevel, candCount := 0,
          raw := none, timer := none }) ∧
        t.service = { s.service with items := t.service.items } ∧
        (∀ i : Fin 8, t.service.items[i] = { s.service.items[i] with
          stage := (t.service.items[i]).stage, remainingKm := (t.service.items[i]).remainingKm,
          remainingDays := (t.service.items[i]).remainingDays }) ∧
        t.display.offTimer = s.display.offTimer ∧ t.display.headMark = s.display.headMark ∧
        (∀ g : Fin 6, (t.gauges[g]).written = (s.gauges[g]).written ∧ (t.gauges[g]).setup = (s.gauges[g]).setup ∧
          (t.gauges[g]).enabled = (s.gauges[g]).enabled ∧ (t.gauges[g]).position = (s.gauges[g]).position ∧
          (t.gauges[g]).target = none ∧
          (let x := s.gauges[g]
           let y : Gauge := { x with target := none }
           (x.enabled = false → t.gauges[g] = y) ∧
           (x.enabled = true → s.key.state = .run → t.gauges[g] =
             { y with state := .tracking, timer := some (x.timer.getD 20), pending := x.setup.fastSettle }) ∧
           (x.enabled = true → s.key.state ≠ .run → x.position = x.setup.park →
             t.gauges[g] = { y with state := .parked, timer := none, pending := false }) ∧
           (x.enabled = true → s.key.state ≠ .run → x.position ≠ x.setup.park → t.gauges[g] =
             { y with state := .returning, timer := some (x.timer.getD 20), pending := false }))) ∧
        t.trip = { s.trip with snapshots := Vector.replicate 4 none, distanceBase := none, fuelBase := none } ∧
        (∀ i : Fin 8, (t.service.items[i]).record = (s.service.items[i]).record ∧
          (t.service.items[i]).enabled = (s.service.items[i]).enabled) ∧
        (∀ w : Fin 32, (t.warnings.entries[w]).condition = (s.warnings.entries[w]).condition ∧
          (t.warnings.entries[w]).action = (s.warnings.entries[w]).action ∧
          (t.warnings.entries[w]).enabled = (s.warnings.entries[w]).enabled ∧
          (t.warnings.entries[w]).masked = false) ∧
        t.chime.patterns = s.chime.patterns ∧ t.chime.setup = s.chime.setup ∧
        t.display.messages = s.display.messages ∧ t.display.setup = s.display.setup ∧
        t.display.present = s.display.present ∧ t.display.missed = s.display.missed ∧
        t.display.call = s.display.call ∧ t.display.journey = s.display.journey ∧
        t.display.blanked = s.display.blanked ∧ t.display.press = none ∧ t.display.naTimer = none ∧
        t.loop = { s.loop with
          tx := .idle, tapQ := [], requestQ := [], insertQ := t.loop.insertQ, overrun := false, force := false,
          asserted := false, refresh := none, critical := 0,
          flow := if s.loop.holdSent = true then .release else .empty,
          awaiting := s.loop.awaiting ++ [{ frame := f, left := 100 }] } ∧
        (∃ more, t.loop.insertQ = (match s.handler.startUp with
          | some codes => [{ frame := mkFrame 0xE1 s.loop.node ([0, 0, 0] ++ codes.map (fun c => BitVec.ofNat 8 c.code)),
                             restart := false }]
          | none => []) ++ more) ∧
        t.handler.restartPending = false ∧ t.handler.ext = s.handler.ext ∧ t.handler.extRequester = none ∧
        t.handler.setRequester = none ∧ t.handler.held = [] ∧ t.handler.classes = s.handler.classes ∧
        t.handler.startUp = none ∧ t.handler.dump = .idle ∧ t.handlerFree = true)

/-- R192 to R197 for a candidate count of 0 to 2, which every sample keeps. What each block makes of a key event is stated with it. The model's choices: the order of the blocks at a key event, of the warnings at a gate test, and of the effects of SECONDS_EVENT and SET CLOCK (log entry 10), that the event frames of SET CLOCK's effects stand before its response (log entry 6), and that SETTLE_TIMER_EXPIRY with the timer stopped changes nothing (log entry 3). -/
def Obligations.KeyLinesAndClockByTheirTimers : Prop :=
  (∀ l : Lines,
    (l.ign = false → keyOf l = (if l.acc = true then KeyState.acc else KeyState.off)) ∧
    (l.ign = true → keyOf l = (if l.start = true then KeyState.crank else KeyState.run))) ∧
  (∀ s : State, s.powered = true →
    let k := s.key
    let stamp : Option Stamp := if k.valid = true then some { day := k.day, seconds := k.seconds } else none
    (∀ acc ign start : Bool, k.candCount ≤ 2 →
      let found : Lines := { acc := acc, ign := ign, start := start }
      let run := exec (.keySample acc ign start) s
      let kept (x : KeyClock) : State := { s with key := { x with sampleTimer := some 10 } }
      (found = k.debounced → run = .next (kept { k with candCount := 0 })) ∧
      (found ≠ k.debounced → found ≠ k.candidate → run = .next (kept { k with candidate := found, candCount := 1 })) ∧
      (found ≠ k.debounced → found = k.candidate → k.candCount < 2 →
        run = .next (kept { k with candCount := k.candCount + 1 })) ∧
      (found ≠ k.debounced → found = k.candidate → k.candCount = 2 →
        let y := { k with debounced := found, candCount := 0 }
        (keyOf found = k.state → run = .next (kept y)) ∧
        (keyOf found ≠ k.state → ∃ t, run = .next t ∧ t = keyEvent (keyOf found) (kept y) ∧
          (let new := keyOf found
           let told := report (.keyChange k.state new) { s with key := t.key }
           let stored := settle (tripKey k.state new (gaugeKey k.state new told))
           t = displayKey new (warningKey k.state new (if new = .run then evaluateAll stored else stored)) ∧
           ∀ u : State, ∃ bulb, warningKey k.state new u =
             testGates { u with warnings := { u.warnings with bulbCheck := bulb } }) ∧
          t.channels = s.channels ∧ t.store.mem = s.store.mem ∧
          (keyOf found = .run → t.key = { y with sampleTimer := some 10, state := .run, runStart := stamp,
                                                 settled := false, settleTimer := some 3000 }) ∧
          (keyOf found = .off → t.key = { y with sampleTimer := some 10, state := .off, keyOff := stamp,
                                                 settled := false, settleTimer := none }) ∧
          (keyOf found = .acc ∨ keyOf found = .crank → t.key =
            { y with sampleTimer := some 10, state := keyOf found, settled := false, settleTimer := none })))) ∧
    (testGates s = (List.finRange 32).foldl (fun u w => testGate w u) s) ∧
    (k.settleTimer = none → exec .settleTimerExpiry s = .next s) ∧
    (k.settleTimer.isSome = true → exec .settleTimerExpiry s =
      .next (testGates { s with key := { k with settleTimer := none, settled := true } })) ∧
    (let run := exec .secondsEvent s
     let after (x : KeyClock) : State := { s with key := { x with secondsTimer := some 1000 } }
     let rest (t : State) : State := rebuild (testGates (tripSeconds t))
     (k.valid = false → run = .next (rest (after k))) ∧
     (k.valid = true → k.seconds < 86399 → run = .next (rest (after { k with seconds := k.seconds + 1 }))) ∧
     (k.valid = true → k.seconds = 86399 →
       (k.day < 65535 → run = .next (rest (evaluateAll (after { k with seconds := 0, day := k.day + 1 })))) ∧
       (k.day = 65535 → run = .next (rest (after { k with seconds := 0 })))))) ∧
  (∀ (h : Head) (seconds : BitVec 24) (day : Word) (s : State), s.takes h = true →
    (86399 < seconds.toNat → exec (.setClock h seconds day) s = .next (answered h 0xB0 .badArgument [] s)) ∧
    (seconds.toNat ≤ 86399 → ∃ t, exec (.setClock h seconds day) s = .next (answered h 0xB0 .ok [] t) ∧
      t = rebuild (evaluateAll (setSys .clockInvalid false
        { s with key := { s.key with valid := true, seconds := seconds.toNat, day := day.toNat } })) ∧
      t.key = { s.key with valid := true, seconds := seconds.toNat, day := day.toNat } ∧
      t.warnings.clockInvalid = false))

/-- The paged reads of R181, each content spelled out byte by byte in the order of its rule (R190): `one`, `two`, `three` and `four` are numbers of that many bytes, most significant first, `marked` is a field with its mark byte, `left` a time left in 0.1 s. The layouts rest on log entries 12, 15, 34 and 37. What the spec gives no value is a constant of Config without one (log entry 13): the rounding of a time left, two times without a unit, bytes of an INVALID odometer, and REAR_CALL, UNTIL_RELEASED, TICK and nothing in READ CHIMES. -/
def Obligations.PagedReadsAnswerInPartsAndChangeNothing : Prop :=
  ∀ (h : Head) (part : Option Byte) (s : State), s.takes h = true →
    let p := (part.getD 0).toNat
    let answers (i : Instr) (code : Byte) (content : List Byte) : Prop :=
      let last := (content.length - 1) / 11
      (last < p → exec i s = .next (answered h code .badArgument [] s)) ∧
      (p ≤ last → exec i s = .next (answered h code .ok
        (BitVec.ofNat 8 (16 * p + last) :: (content.drop (11 * p)).take 11) s))
    let bad (i : Instr) (code : Byte) : Prop := exec i s = .next (answered h code .badArgument [] s)
    let yes (b : Bool) : Byte := if b = true then 1 else 0
    let one (n : Nat) : Byte := BitVec.ofNat 8 n
    let two (n : Nat) : List Byte := [one (n / 256), one n]
    let three (n : Nat) : List Byte := [one (n / 65536), one (n / 256), one n]
    let four (n : Nat) : List Byte := one (n / 16777216) :: three n
    let signed2 (v : Int) : List Byte := two (v % 65536).toNat
    let signed3 (v : Int) : List Byte := three (v % 16777216).toNat
    let choice (n : Nat) (b : Option (Fin n)) : Byte := match b with | some k => one k.val | none => 0xFF
    let marked (zeros : Nat) (value : Option (List Byte)) : List Byte :=
      match value with | some bytes => 0 :: bytes | none => 1 :: List.replicate zeros 0
    let tenths (ms : Nat) : Nat :=
      if ms % 100 = 0 ∨ Config.tenthsRoundUp ms = false then ms / 100 else ms / 100 + 1
    let left (t : Timer) : List Byte := marked 2 (t.map (fun ms => two (tenths ms)))
    (∀ (b : Byte) (c : Fin 48), b.toNat = c.val →
      let ch := s.channels[c]
      (ch.setup = none → answers (.readChannelSetup h b part) 0x15 (List.replicate 11 0)) ∧
      (∀ f, ch.setup = some f → answers (.readChannelSetup h b part) 0x15
        [1, yes ch.enabled, f.tag, (match f.origin with | some n => one n.toNat | none => 0xFF), one f.kind.code,
         one f.offset, one f.bit, choice 16 f.curve, one f.timeout, one f.shift, one f.debounce]) ∧
      answers (.readChannel h b part) 0x16 ([one ch.state.code] ++ marked 2 (ch.value.map signed2) ++
        [yes ch.limited, yes ch.candLevel, one ch.candCount] ++ marked 2 (ch.raw.map two))) ∧
    (∀ b : Byte, 48 ≤ b.toNat → bad (.readChannelSetup h b part) 0x15 ∧ bad (.readChannel h b part) 0x16) ∧
    (∀ (b slot : Byte) (k : Fin 16) (i : Fin 12), b.toNat = k.val → slot.toNat = i.val + 1 →
      answers (.readCurve h b slot part) 0x17 ([one (s.curves[k]).state.code, one (s.curves[k]).count] ++
        marked 5 ((s.curves[k]).slots[i].map (fun xy => signed3 xy.1 ++ signed2 xy.2)))) ∧
    (∀ b slot : Byte, 16 ≤ b.toNat ∨ slot = 0 ∨ 12 < slot.toNat → bad (.readCurve h b slot part) 0x17) ∧
    (∀ (b : Byte) (g : Fin 6), b.toNat = g.val →
      let x := s.gauges[g]
      let f := x.setup
      answers (.readGaugeSetup h b part) 0x23 ([yes x.written, yes x.enabled, one f.source.val, one f.curve.val,
          one f.damping, one f.slew] ++ two f.park ++ [yes f.stalePark, yes f.sweep, yes f.fastSettle] ++ two f.dial ++
        [yes f.sineInverted, yes f.cosineInverted]) ∧
      answers (.readGauge h b part) 0x24 ([one x.state.code] ++ two x.position ++ marked 2 (x.target.map two) ++
        [yes x.pending] ++ signed2 x.sine ++ signed2 x.cosine)) ∧
    (∀ b : Byte, 6 ≤ b.toNat → bad (.readGaugeSetup h b part) 0x23 ∧ bad (.readGauge h b part) 0x24) ∧
    (s.trip.setup = none → answers (.readTripSetup h part) 0x31 (List.replicate 19 0 ++ [1, 0, 0, 1, 0, 0])) ∧
    (∀ f, s.trip.setup = some f → answers (.readTripSetup h part) 0x31
      ([1, one f.distance.val, one f.fuel.val, one f.speed.val, one f.level.val] ++ two f.pulsesPerKm ++
        two f.unitsPerLitre ++ two f.maxDelta ++ two f.defaultConsumption ++ two f.journeyGap ++ two s.trip.residueE ++
        two s.trip.residueF ++ marked 2 (s.trip.distanceBase.map two) ++ marked 2 (s.trip.fuelBase.map two))) ∧
    (∀ (b : Byte) (r : Fin 4), b.toNat = r.val →
      let x := s.trip.records[r]
      answers (.readTripFigures h b part) 0x32 (marked 4 ((averageSpeed x).map four) ++
        marked 2 ((averageConsumption x).map two) ++ marked 2 (s.range.map two) ++
        [yes x.distance.overflow, yes x.fuel.overflow, yes x.elapsed.overflow, yes x.moving.overflow])) ∧
    (∀ b : Byte, 4 ≤ b.toNat → bad (.readTripFigures h b part) 0x32) ∧
    (∀ (b : Byte) (a : Fin 256) (k : Fin 8), b.toNat = a.val → a.val / 32 = k.val →
      let r := s.store.readWord a
      let f := s.store.flags[k]
      answers (.readStore h b part) 0x40 ([r.1.code] ++ marked 2 (if r.1 = .ok then some (two r.2.toNat) else none) ++
        [yes f.bad, yes f.worn, yes f.erasedKnown, one s.store.ctl.code])) ∧
    (let o := s.odometer
     let f := s.store.flags[if o.active = 0 then (1 : Fin 8) else 0]
     let free (i : Nat) : Byte := Config.invalidOdometerByte i
     let rotating : List Byte := [yes o.rotation.isSome, yes o.fault]
     (∀ v, s.shown = some v → answers (.readOdometer h part) 0x43 ([0, 0] ++ three v ++ three o.stored ++ two o.pending ++
       [one o.residue, one o.active.val] ++ two o.cleared ++ [yes f.erasedKnown, yes f.worn, yes f.bad] ++ rotating)) ∧
     (s.shown = none → answers (.readOdometer h part) 0x43 ([1, 1, 0, 0, 0, free 0, free 1, free 2] ++ two o.pending ++
       [one o.residue, free 3, free 4, free 5, free 6, free 7, free 8] ++ rotating)) ∧
     (s.shown = none ↔ o.valid = false)) ∧
    (∀ (b : Byte) (i : Fin 8), b.toNat = i.val →
      let it := s.service.items[i]
      answers (.readServiceItem h b part) 0x53 ([yes it.written, yes it.enabled, choice 64 it.message] ++
        two it.intervalKm ++ two it.intervalDays ++ two it.advanceKm ++ two it.advanceDays ++ two it.overdueKm ++
        two it.overdueDays ++ marked 5 (it.record.map (fun x => three x.1 ++ two x.2)) ++ [one it.stage.code] ++
        marked 3 (it.remainingKm.map signed3) ++ marked 3 (it.remainingDays.map signed3))) ∧
    (∀ b : Byte, 8 ≤ b.toNat → bad (.readServiceItem h b part) 0x53) ∧
    (∀ (b : Byte) (w : Fin 32), b.toNat = w.val →
      let e := s.warnings.entries[w]
      (∃ condition action : List Byte,
        answers (.readWarningSetup h b part) 0x66
          ([yes e.condition.isSome, yes e.action.isSome, yes e.enabled] ++ condition ++ action) ∧
        (e.condition = none → condition = List.replicate 13 0) ∧
        (∀ c, e.condition = some c → condition = [one c.kind.code, one c.subject] ++ signed2 c.threshold ++
          two c.hysteresis ++ [one c.qualify, one c.clear, one c.keyGate.code] ++ two c.speedGate ++
          [c.staleAction, c.minStage]) ∧
        (e.action = none → action = [0, 0, 0xFF, 0xFF, 0xFF, 0, 0, 0]) ∧
        (∀ a, e.action = some a → action = [one a.priority, one a.latch.code, choice 16 a.chime, choice 64 a.message,
          choice 12 a.lamp, one a.routing.code, one a.present, one a.remind])) ∧
      answers (.readWarning h b part) 0x67 ([one e.state.code, yes e.masked, yes (!e.holds), yes (!e.gate),
        one e.qualifyCount, one e.clearCount, yes e.markFront + 2 * yes e.markRear] ++ left e.presentTimer ++
        left e.remindTimer)) ∧
    (∀ b : Byte, 32 ≤ b.toNat → bad (.readWarningSetup h b part) 0x66 ∧ bad (.readWarning h b part) 0x67) ∧
    answers (.readLamps h part) 0x68
      ((List.finRange 12).map (fun l => yes (s.lampLit l)) ++ [yes s.warnings.bulbCheck.isSome]) ∧
    (let c := s.chime
     let zone (z : Zone) : Byte := match z with | .front => 0 | .rear => 1
     (∀ (b slot : Byte) (k : Fin 16) (i : Fin 6), b.toNat = k.val → slot.toNat = i.val + 1 →
       let inUse : Bool := c.queue.any (fun r => decide (r.pattern = k)) || decide (c.front.current = .tick k) ||
         decide (c.rear.current = .tick k)
       answers (.readChimePattern h b slot part) 0x73
         ([one (c.patterns[k]).repeats, one (c.patterns[k]).segments, yes inUse] ++ marked 4
           ((c.patterns[k]).slots[i].map (fun g => two g.divisor ++ [one g.onTime, one g.offTime])))) ∧
     (∀ b slot : Byte, 16 ≤ b.toNat ∨ slot = 0 ∨ 6 < slot.toNat → bad (.readChimePattern h b slot part) 0x73) ∧
     answers (.readChimeSetup h part) 0x74 [yes c.setup.written, choice 48 c.setup.tickChannel,
       one c.setup.tickPattern.val, choice 16 c.setup.answerPattern] ∧
     (let request (r : ChimeRequest) : List Byte :=
        let played := yes (decide ((c.player r.zone).current = .request r.origin))
        let count : Byte := match r.repeatsLeft with | some n => one n | none => Config.untilReleased
        match r.origin with
        | .warning w =>
          [one w.val, zone r.zone, one r.pattern.val, one (r.rank / 32), one w.val, count, yes r.released, played]
        | .rearCall => [Config.rearCallOrigin, zone r.zone, one r.pattern.val, Config.rearCallRank 0,
          Config.rearCallRank 1, count, yes r.released, played]
      let player (z : Zone) : List Byte :=
        let x := c.player z
        let playing : Byte :=
          match x.current with
          | .nothing => Config.playingNothing
          | .tick _ => Config.playingTick
          | .request o => one (c.queue.findIdx (fun r => decide (r.origin = o ∧ r.zone = z)))
        [one x.state.code, playing] ++ (if x.state = .silent then [1, 0] else [0, one x.segment]) ++
          marked 2 (x.counter.map two)
      answers (.readChimes h part) 0x75
        ([one c.queue.length] ++ c.queue.flatMap request ++ player .front ++ player .rear))) ∧
    (∀ (b : Byte) (m : Fin 64), b.toNat = m.val → answers (.readMessage h b part) 0x81 s.display.messages[m]) ∧
    (∀ b : Byte, 64 ≤ b.toNat → bad (.readMessage h b part) 0x81) ∧
    (let d := s.display
     (d.setup = none → answers (.readDisplaySetup h part) 0x83 [0, 0xFF, 0xFF, 0, 0, 10, 3, 3]) ∧
     (∀ f, d.setup = some f → answers (.readDisplaySetup h part) 0x83
       ([1, choice 48 f.button, choice 48 f.temperature, one f.offDelay] ++ two f.idleTime ++
         [one f.mcBrightness, one f.rpBrightness])) ∧
     (let transmitter : Byte := match d.tx with | .idle => 0 | .sending _ _ => 1 | .listening => 2
      let hold (t : Timer) : List Byte := marked 2 (t.map (fun ms => two (Config.pressTimerLeft ms).toNat))
      let packet : Packet → List Byte
        | .item .mcText => [2, 0] | .item .mcAttr => [3, 1] | .item .rp1Text => [2, 2] | .item .rp1Attr => [3, 3]
        | .item .rp2Text => [2, 4] | .item .rp2Attr => [3, 5] | .item .rpClock => [4, 6]
        | .poll => [5, 0xFF] | .answered => [6, 0xFF]
      let o := d.outstanding
      let m := d.images
      answers (.readDisplay h part) 0x84 ([one d.link.code, transmitter, yes (!d.present), one d.missed,
          yes d.call + 2 * yes d.journey, one d.page, yes d.blanked] ++
        marked 2 (d.offTimer.map (fun ms => two (Config.mcOffLeft ms).toNat)) ++
        marked 8 (d.press.map (fun x => [one x.page, one x.state.code] ++ hold x.timer2 ++ hold x.timer5)) ++
        d.queue.flatMap packet ++
        [yes o.mcText, yes o.mcAttr, yes o.rp1Text, yes o.rp1Attr, yes o.rp2Text, yes o.rp2Attr, yes o.rpClock,
         yes d.pollWant, yes d.answerWant] ++
        m.mcText ++ [yes m.mcFlash, one m.mcBrightness] ++ m.rp1Text ++ [yes m.rp1Flash, one m.rp1Brightness] ++
        m.rp2Text ++ [yes m.rp2Flash, one m.rp2Brightness] ++
        (match m.clock with | some n => two n | none => [0xFF, 0xFF])))) ∧
    (let l := s.loop
     answers (.readLoop h part) 0x92 ([one l.node.toNat, one l.state.code, yes l.asserted, yes l.force, yes l.holdSent,
         one l.flow.code] ++ l.holders.flatMap (fun x => one x.node.toNat :: two (tenths x.left)) ++
       [one l.forwardQ.length, one l.tapQ.length, one l.requestQ.length, one l.insertQ.length, one l.awaiting.length] ++
       marked 2 (l.awaiting.head?.map (fun a => two a.left)) ++ [yes l.overrun])) ∧
    (let count (st : WarnState) : Byte := one (s.warnings.entries.toList.countP (fun e =>
       e.enabled && decide (e.state = st)))
     let masked : Byte := one (s.warnings.entries.toList.countP (fun e =>
       e.enabled && e.masked && decide (e.state ≠ .idle)))
     answers (.readStatus h part) 0xA0 [one s.loop.state.code, one s.store.ctl.code,
       yes (!s.odometer.valid), yes s.key.valid, one s.key.state.code, count .pending, count .presented,
       count .acknowledged, masked, yes s.loop.overrun, yes s.handler.eventsLost, s.handler.classes,
       (match s.handler.dump with | .idle => 0 | .streaming _ => 1 | .aborted _ => 2),
       one s.handler.events.length]) ∧
    (let k := s.key
     let stamp (t : Option Stamp) : List Byte := marked 5 (t.map (fun x => two x.day ++ three x.seconds))
     answers (.readClock h part) 0xB1 ([yes (!k.valid)] ++ three k.seconds ++ two k.day ++ [one k.state.code,
         yes k.debounced.acc + 2 * yes k.debounced.ign + 4 * yes k.debounced.start, yes k.settled] ++
       left k.settleTimer ++ stamp k.runStart ++ stamp k.keyOff))

/-- The form of a step in this model of a block: log entry 1. -/
def Obligations.StepRunsTheFrontCommand : Prop :=
  ∀ (c : Instr) (s : State),
    step { s with pending := c :: s.pending } = exec c s ∧
    (∀ t, exec c s = .next t → t.pending = s.pending) ∧
    (s.pending = [] → ∃ t, step s = .next t ∧ t.pending = [] ∧ t.store.mem = s.store.mem)

/-- R180 checks 1 to 3 and section 10.5.2: the request rows and the payloads agree in both directions, each row under the code of the table. -/
def Obligations.RequestFramesDecodeToTheirRequests : Prop :=
  let request (i : Instr) : Option (Head × Byte) := match i with
    | .writeChannel h .. => some (h, 0x10) | .enableChannel h .. => some (h, 0x11)
    | .disableChannel h .. => some (h, 0x12) | .curvePoint h .. => some (h, 0x13)
    | .commitCurve h .. => some (h, 0x14) | .readChannelSetup h .. => some (h, 0x15)
    | .readChannel h .. => some (h, 0x16) | .readCurve h .. => some (h, 0x17) | .writeGauge h .. => some (h, 0x20)
    | .enableGauge h .. => some (h, 0x21) | .disableGauge h .. => some (h, 0x22)
    | .readGaugeSetup h .. => some (h, 0x23) | .readGauge h .. => some (h, 0x24)
    | .writeTripSetup h .. => some (h, 0x30) | .readTripSetup h .. => some (h, 0x31)
    | .readTripFigures h .. => some (h, 0x32) | .snapshotTrip h .. => some (h, 0x33)
    | .readTrip h .. => some (h, 0x34) | .resetTrip h .. => some (h, 0x35) | .readStore h .. => some (h, 0x40)
    | .storeProgram h .. => some (h, 0x41) | .storeErase h .. => some (h, 0x42) | .readOdometer h .. => some (h, 0x43)
    | .setOdometer h .. => some (h, 0x44) | .writeServiceItem h .. => some (h, 0x50)
    | .enableServiceItem h .. => some (h, 0x51) | .disableServiceItem h .. => some (h, 0x52)
    | .readServiceItem h .. => some (h, 0x53) | .serviceReset h .. => some (h, 0x54)
    | .writeWarningCondition h .. => some (h, 0x60) | .writeWarningAction h .. => some (h, 0x61)
    | .enableWarning h .. => some (h, 0x62) | .disableWarning h .. => some (h, 0x63)
    | .maskWarning h .. => some (h, 0x64) | .unmaskWarning h .. => some (h, 0x65)
    | .readWarningSetup h .. => some (h, 0x66) | .readWarning h .. => some (h, 0x67)
    | .readLamps h .. => some (h, 0x68) | .writeChimeSegment h .. => some (h, 0x70)
    | .writeChimePattern h .. => some (h, 0x71) | .writeChimeSetup h .. => some (h, 0x72)
    | .readChimePattern h .. => some (h, 0x73) | .readChimeSetup h .. => some (h, 0x74)
    | .readChimes h .. => some (h, 0x75) | .writeMessage h .. => some (h, 0x80) | .readMessage h .. => some (h, 0x81)
    | .writeDisplaySetup h .. => some (h, 0x82) | .readDisplaySetup h .. => some (h, 0x83)
    | .readDisplay h .. => some (h, 0x84) | .assertHold h => some (h, 0x90) | .clearHold h => some (h, 0x91)
    | .readLoop h .. => some (h, 0x92) | .readStatus h .. => some (h, 0xA0) | .events h .. => some (h, 0xA1)
    | .restart h => some (h, 0xA2) | .storeDump h .. => some (h, 0xA3) | .dumpAbort h => some (h, 0xA4)
    | .dumpResume h => some (h, 0xA5) | .setClock h .. => some (h, 0xB0) | .readClock h .. => some (h, 0xB1)
    | _ => none
  (∀ (i : Instr) (h : Head) (code : Byte), request i = some (h, code) →
    ∃ args, encodeRequest i = some (h.node, code :: h.seq :: args) ∧ decodeRequest h.node (code :: h.seq :: args) = i) ∧
  (∀ i : Instr, request i = none → (∀ n p, i ≠ .unknownRequest n p) → encodeRequest i = none) ∧
  (∀ (i : Instr) (n : Node) (p : List Byte), (∀ m q, i ≠ .unknownRequest m q) → encodeRequest i = some (n, p) →
    decodeRequest n p = i ∧ 2 ≤ p.length ∧ p.length ≤ 15) ∧
  (∀ (n : Node) (p : List Byte), encodeRequest (decodeRequest n p) = some (n, p)) ∧
  (∀ (n : Node) (p : List Byte) (s : State), s.takes { node := n, seq := p.getD 1 0 } = true →
    decodeRequest n p = .unknownRequest n p →
    exec (.unknownRequest n p) s =
      .next (answered { node := n, seq := p.getD 1 0 } (p.getD 0 0) .badRequest [] s))

/-- Log entry 5 says that a request row is the arrival of its frame; this states that the two agree in every state. -/
def Obligations.RequestRowsAreTheArrivalOfTheirFrames : Prop :=
  ∀ (i : Instr) (n : Node) (p : List Byte) (s : State), i.wellFormed = true → encodeRequest i = some (n, p) →
    s.loop.requestQ = [] ∨ s.handlerFree = false →
    exec i s = exec (.loopFrameReceived (mkFrame (nodeTag s.loop.node) n p) false false) s

/-- The invariants of this file hold after reset, whatever the straps and the store. -/
def Obligations.ResetIsSafeAndConsistent : Prop :=
  State.reset.safe = true ∧ State.reset.chime.consistent = true ∧
  ∀ (straps : Node) (held : Word) (raised : List Word) (s : State), s.storeWords = true →
    ∃ t, exec (.powerOnReset straps held raised) s = .next t ∧ t.safe = true ∧ t.chime.consistent = true

/-- The bounds of R23, R134, R150, R167 to R169, R171, R173, R177 and R185, the offers of R171, the form of the store's words, and that no sector has an outcome while the erase window is open (R69, R70), as an invariant of every step. -/
def Obligations.SafeStatesStaySafe : Prop :=
  ∀ s : State, s.safe = true → safeOutcome (step s) = true
end

