-- ==== Sys2Proof/Laws/State.lean ====
section
/-! SUPPORT. One lemma per field of the state for each update of one record, true by rfl, so that no later proof unfolds
a record update; and what the element at an index is after a table's update. -/

namespace Sys2Proof.Machine

/-! ### State.setChannel -/

@[simp] theorem State.setChannel_pending (s : State) (c : Fin 48) (x : Channel) : (s.setChannel c x).pending = s.pending := rfl
@[simp] theorem State.setChannel_powered (s : State) (c : Fin 48) (x : Channel) : (s.setChannel c x).powered = s.powered := rfl
@[simp] theorem State.setChannel_channels (s : State) (c : Fin 48) (x : Channel) : (s.setChannel c x).channels = s.channels.set c x := rfl
@[simp] theorem State.setChannel_curves (s : State) (c : Fin 48) (x : Channel) : (s.setChannel c x).curves = s.curves := rfl
@[simp] theorem State.setChannel_gauges (s : State) (c : Fin 48) (x : Channel) : (s.setChannel c x).gauges = s.gauges := rfl
@[simp] theorem State.setChannel_trip (s : State) (c : Fin 48) (x : Channel) : (s.setChannel c x).trip = s.trip := rfl
@[simp] theorem State.setChannel_store (s : State) (c : Fin 48) (x : Channel) : (s.setChannel c x).store = s.store := rfl
@[simp] theorem State.setChannel_odometer (s : State) (c : Fin 48) (x : Channel) : (s.setChannel c x).odometer = s.odometer := rfl
@[simp] theorem State.setChannel_tripPair (s : State) (c : Fin 48) (x : Channel) : (s.setChannel c x).tripPair = s.tripPair := rfl
@[simp] theorem State.setChannel_servicePair (s : State) (c : Fin 48) (x : Channel) : (s.setChannel c x).servicePair = s.servicePair := rfl
@[simp] theorem State.setChannel_service (s : State) (c : Fin 48) (x : Channel) : (s.setChannel c x).service = s.service := rfl
@[simp] theorem State.setChannel_warnings (s : State) (c : Fin 48) (x : Channel) : (s.setChannel c x).warnings = s.warnings := rfl
@[simp] theorem State.setChannel_chime (s : State) (c : Fin 48) (x : Channel) : (s.setChannel c x).chime = s.chime := rfl
@[simp] theorem State.setChannel_display (s : State) (c : Fin 48) (x : Channel) : (s.setChannel c x).display = s.display := rfl
@[simp] theorem State.setChannel_loop (s : State) (c : Fin 48) (x : Channel) : (s.setChannel c x).loop = s.loop := rfl
@[simp] theorem State.setChannel_handler (s : State) (c : Fin 48) (x : Channel) : (s.setChannel c x).handler = s.handler := rfl
@[simp] theorem State.setChannel_key (s : State) (c : Fin 48) (x : Channel) : (s.setChannel c x).key = s.key := rfl

/-! ### State.setCurve -/

@[simp] theorem State.setCurve_pending (s : State) (c : Fin 16) (x : Curve) : (s.setCurve c x).pending = s.pending := rfl
@[simp] theorem State.setCurve_powered (s : State) (c : Fin 16) (x : Curve) : (s.setCurve c x).powered = s.powered := rfl
@[simp] theorem State.setCurve_channels (s : State) (c : Fin 16) (x : Curve) : (s.setCurve c x).channels = s.channels := rfl
@[simp] theorem State.setCurve_curves (s : State) (c : Fin 16) (x : Curve) : (s.setCurve c x).curves = s.curves.set c x := rfl
@[simp] theorem State.setCurve_gauges (s : State) (c : Fin 16) (x : Curve) : (s.setCurve c x).gauges = s.gauges := rfl
@[simp] theorem State.setCurve_trip (s : State) (c : Fin 16) (x : Curve) : (s.setCurve c x).trip = s.trip := rfl
@[simp] theorem State.setCurve_store (s : State) (c : Fin 16) (x : Curve) : (s.setCurve c x).store = s.store := rfl
@[simp] theorem State.setCurve_odometer (s : State) (c : Fin 16) (x : Curve) : (s.setCurve c x).odometer = s.odometer := rfl
@[simp] theorem State.setCurve_tripPair (s : State) (c : Fin 16) (x : Curve) : (s.setCurve c x).tripPair = s.tripPair := rfl
@[simp] theorem State.setCurve_servicePair (s : State) (c : Fin 16) (x : Curve) : (s.setCurve c x).servicePair = s.servicePair := rfl
@[simp] theorem State.setCurve_service (s : State) (c : Fin 16) (x : Curve) : (s.setCurve c x).service = s.service := rfl
@[simp] theorem State.setCurve_warnings (s : State) (c : Fin 16) (x : Curve) : (s.setCurve c x).warnings = s.warnings := rfl
@[simp] theorem State.setCurve_chime (s : State) (c : Fin 16) (x : Curve) : (s.setCurve c x).chime = s.chime := rfl
@[simp] theorem State.setCurve_display (s : State) (c : Fin 16) (x : Curve) : (s.setCurve c x).display = s.display := rfl
@[simp] theorem State.setCurve_loop (s : State) (c : Fin 16) (x : Curve) : (s.setCurve c x).loop = s.loop := rfl
@[simp] theorem State.setCurve_handler (s : State) (c : Fin 16) (x : Curve) : (s.setCurve c x).handler = s.handler := rfl
@[simp] theorem State.setCurve_key (s : State) (c : Fin 16) (x : Curve) : (s.setCurve c x).key = s.key := rfl

/-! ### State.setGauge -/

@[simp] theorem State.setGauge_pending (s : State) (g : Fin 6) (x : Gauge) : (s.setGauge g x).pending = s.pending := rfl
@[simp] theorem State.setGauge_powered (s : State) (g : Fin 6) (x : Gauge) : (s.setGauge g x).powered = s.powered := rfl
@[simp] theorem State.setGauge_channels (s : State) (g : Fin 6) (x : Gauge) : (s.setGauge g x).channels = s.channels := rfl
@[simp] theorem State.setGauge_curves (s : State) (g : Fin 6) (x : Gauge) : (s.setGauge g x).curves = s.curves := rfl
@[simp] theorem State.setGauge_gauges (s : State) (g : Fin 6) (x : Gauge) : (s.setGauge g x).gauges = s.gauges.set g x := rfl
@[simp] theorem State.setGauge_trip (s : State) (g : Fin 6) (x : Gauge) : (s.setGauge g x).trip = s.trip := rfl
@[simp] theorem State.setGauge_store (s : State) (g : Fin 6) (x : Gauge) : (s.setGauge g x).store = s.store := rfl
@[simp] theorem State.setGauge_odometer (s : State) (g : Fin 6) (x : Gauge) : (s.setGauge g x).odometer = s.odometer := rfl
@[simp] theorem State.setGauge_tripPair (s : State) (g : Fin 6) (x : Gauge) : (s.setGauge g x).tripPair = s.tripPair := rfl
@[simp] theorem State.setGauge_servicePair (s : State) (g : Fin 6) (x : Gauge) : (s.setGauge g x).servicePair = s.servicePair := rfl
@[simp] theorem State.setGauge_service (s : State) (g : Fin 6) (x : Gauge) : (s.setGauge g x).service = s.service := rfl
@[simp] theorem State.setGauge_warnings (s : State) (g : Fin 6) (x : Gauge) : (s.setGauge g x).warnings = s.warnings := rfl
@[simp] theorem State.setGauge_chime (s : State) (g : Fin 6) (x : Gauge) : (s.setGauge g x).chime = s.chime := rfl
@[simp] theorem State.setGauge_display (s : State) (g : Fin 6) (x : Gauge) : (s.setGauge g x).display = s.display := rfl
@[simp] theorem State.setGauge_loop (s : State) (g : Fin 6) (x : Gauge) : (s.setGauge g x).loop = s.loop := rfl
@[simp] theorem State.setGauge_handler (s : State) (g : Fin 6) (x : Gauge) : (s.setGauge g x).handler = s.handler := rfl
@[simp] theorem State.setGauge_key (s : State) (g : Fin 6) (x : Gauge) : (s.setGauge g x).key = s.key := rfl

/-! ### State.setWarning -/

@[simp] theorem State.setWarning_pending (s : State) (w : Fin 32) (x : Warning) : (s.setWarning w x).pending = s.pending := rfl
@[simp] theorem State.setWarning_powered (s : State) (w : Fin 32) (x : Warning) : (s.setWarning w x).powered = s.powered := rfl
@[simp] theorem State.setWarning_channels (s : State) (w : Fin 32) (x : Warning) : (s.setWarning w x).channels = s.channels := rfl
@[simp] theorem State.setWarning_curves (s : State) (w : Fin 32) (x : Warning) : (s.setWarning w x).curves = s.curves := rfl
@[simp] theorem State.setWarning_gauges (s : State) (w : Fin 32) (x : Warning) : (s.setWarning w x).gauges = s.gauges := rfl
@[simp] theorem State.setWarning_trip (s : State) (w : Fin 32) (x : Warning) : (s.setWarning w x).trip = s.trip := rfl
@[simp] theorem State.setWarning_store (s : State) (w : Fin 32) (x : Warning) : (s.setWarning w x).store = s.store := rfl
@[simp] theorem State.setWarning_odometer (s : State) (w : Fin 32) (x : Warning) : (s.setWarning w x).odometer = s.odometer := rfl
@[simp] theorem State.setWarning_tripPair (s : State) (w : Fin 32) (x : Warning) : (s.setWarning w x).tripPair = s.tripPair := rfl
@[simp] theorem State.setWarning_servicePair (s : State) (w : Fin 32) (x : Warning) : (s.setWarning w x).servicePair = s.servicePair := rfl
@[simp] theorem State.setWarning_service (s : State) (w : Fin 32) (x : Warning) : (s.setWarning w x).service = s.service := rfl
@[simp] theorem State.setWarning_warnings (s : State) (w : Fin 32) (x : Warning) : (s.setWarning w x).warnings = { s.warnings with entries := s.warnings.entries.set w x } := rfl
@[simp] theorem State.setWarning_chime (s : State) (w : Fin 32) (x : Warning) : (s.setWarning w x).chime = s.chime := rfl
@[simp] theorem State.setWarning_display (s : State) (w : Fin 32) (x : Warning) : (s.setWarning w x).display = s.display := rfl
@[simp] theorem State.setWarning_loop (s : State) (w : Fin 32) (x : Warning) : (s.setWarning w x).loop = s.loop := rfl
@[simp] theorem State.setWarning_handler (s : State) (w : Fin 32) (x : Warning) : (s.setWarning w x).handler = s.handler := rfl
@[simp] theorem State.setWarning_key (s : State) (w : Fin 32) (x : Warning) : (s.setWarning w x).key = s.key := rfl

/-! ### State.setItem -/

@[simp] theorem State.setItem_pending (s : State) (i : Fin 8) (x : ServiceItem) : (s.setItem i x).pending = s.pending := rfl
@[simp] theorem State.setItem_powered (s : State) (i : Fin 8) (x : ServiceItem) : (s.setItem i x).powered = s.powered := rfl
@[simp] theorem State.setItem_channels (s : State) (i : Fin 8) (x : ServiceItem) : (s.setItem i x).channels = s.channels := rfl
@[simp] theorem State.setItem_curves (s : State) (i : Fin 8) (x : ServiceItem) : (s.setItem i x).curves = s.curves := rfl
@[simp] theorem State.setItem_gauges (s : State) (i : Fin 8) (x : ServiceItem) : (s.setItem i x).gauges = s.gauges := rfl
@[simp] theorem State.setItem_trip (s : State) (i : Fin 8) (x : ServiceItem) : (s.setItem i x).trip = s.trip := rfl
@[simp] theorem State.setItem_store (s : State) (i : Fin 8) (x : ServiceItem) : (s.setItem i x).store = s.store := rfl
@[simp] theorem State.setItem_odometer (s : State) (i : Fin 8) (x : ServiceItem) : (s.setItem i x).odometer = s.odometer := rfl
@[simp] theorem State.setItem_tripPair (s : State) (i : Fin 8) (x : ServiceItem) : (s.setItem i x).tripPair = s.tripPair := rfl
@[simp] theorem State.setItem_servicePair (s : State) (i : Fin 8) (x : ServiceItem) : (s.setItem i x).servicePair = s.servicePair := rfl
@[simp] theorem State.setItem_service (s : State) (i : Fin 8) (x : ServiceItem) : (s.setItem i x).service = { s.service with items := s.service.items.set i x } := rfl
@[simp] theorem State.setItem_warnings (s : State) (i : Fin 8) (x : ServiceItem) : (s.setItem i x).warnings = s.warnings := rfl
@[simp] theorem State.setItem_chime (s : State) (i : Fin 8) (x : ServiceItem) : (s.setItem i x).chime = s.chime := rfl
@[simp] theorem State.setItem_display (s : State) (i : Fin 8) (x : ServiceItem) : (s.setItem i x).display = s.display := rfl
@[simp] theorem State.setItem_loop (s : State) (i : Fin 8) (x : ServiceItem) : (s.setItem i x).loop = s.loop := rfl
@[simp] theorem State.setItem_handler (s : State) (i : Fin 8) (x : ServiceItem) : (s.setItem i x).handler = s.handler := rfl
@[simp] theorem State.setItem_key (s : State) (i : Fin 8) (x : ServiceItem) : (s.setItem i x).key = s.key := rfl

/-! ### State.setFlags -/

@[simp] theorem State.setFlags_pending (s : State) (k : Fin 8) (x : SectorFlags) : (s.setFlags k x).pending = s.pending := rfl
@[simp] theorem State.setFlags_powered (s : State) (k : Fin 8) (x : SectorFlags) : (s.setFlags k x).powered = s.powered := rfl
@[simp] theorem State.setFlags_channels (s : State) (k : Fin 8) (x : SectorFlags) : (s.setFlags k x).channels = s.channels := rfl
@[simp] theorem State.setFlags_curves (s : State) (k : Fin 8) (x : SectorFlags) : (s.setFlags k x).curves = s.curves := rfl
@[simp] theorem State.setFlags_gauges (s : State) (k : Fin 8) (x : SectorFlags) : (s.setFlags k x).gauges = s.gauges := rfl
@[simp] theorem State.setFlags_trip (s : State) (k : Fin 8) (x : SectorFlags) : (s.setFlags k x).trip = s.trip := rfl
@[simp] theorem State.setFlags_store (s : State) (k : Fin 8) (x : SectorFlags) : (s.setFlags k x).store = { s.store with flags := s.store.flags.set k x } := rfl
@[simp] theorem State.setFlags_odometer (s : State) (k : Fin 8) (x : SectorFlags) : (s.setFlags k x).odometer = s.odometer := rfl
@[simp] theorem State.setFlags_tripPair (s : State) (k : Fin 8) (x : SectorFlags) : (s.setFlags k x).tripPair = s.tripPair := rfl
@[simp] theorem State.setFlags_servicePair (s : State) (k : Fin 8) (x : SectorFlags) : (s.setFlags k x).servicePair = s.servicePair := rfl
@[simp] theorem State.setFlags_service (s : State) (k : Fin 8) (x : SectorFlags) : (s.setFlags k x).service = s.service := rfl
@[simp] theorem State.setFlags_warnings (s : State) (k : Fin 8) (x : SectorFlags) : (s.setFlags k x).warnings = s.warnings := rfl
@[simp] theorem State.setFlags_chime (s : State) (k : Fin 8) (x : SectorFlags) : (s.setFlags k x).chime = s.chime := rfl
@[simp] theorem State.setFlags_display (s : State) (k : Fin 8) (x : SectorFlags) : (s.setFlags k x).display = s.display := rfl
@[simp] theorem State.setFlags_loop (s : State) (k : Fin 8) (x : SectorFlags) : (s.setFlags k x).loop = s.loop := rfl
@[simp] theorem State.setFlags_handler (s : State) (k : Fin 8) (x : SectorFlags) : (s.setFlags k x).handler = s.handler := rfl
@[simp] theorem State.setFlags_key (s : State) (k : Fin 8) (x : SectorFlags) : (s.setFlags k x).key = s.key := rfl

/-! ### State.setRecord -/

@[simp] theorem State.setRecord_pending (s : State) (r : Fin 4) (x : TripRecord) : (s.setRecord r x).pending = s.pending := rfl
@[simp] theorem State.setRecord_powered (s : State) (r : Fin 4) (x : TripRecord) : (s.setRecord r x).powered = s.powered := rfl
@[simp] theorem State.setRecord_channels (s : State) (r : Fin 4) (x : TripRecord) : (s.setRecord r x).channels = s.channels := rfl
@[simp] theorem State.setRecord_curves (s : State) (r : Fin 4) (x : TripRecord) : (s.setRecord r x).curves = s.curves := rfl
@[simp] theorem State.setRecord_gauges (s : State) (r : Fin 4) (x : TripRecord) : (s.setRecord r x).gauges = s.gauges := rfl
@[simp] theorem State.setRecord_trip (s : State) (r : Fin 4) (x : TripRecord) : (s.setRecord r x).trip = { s.trip with records := s.trip.records.set r x } := rfl
@[simp] theorem State.setRecord_store (s : State) (r : Fin 4) (x : TripRecord) : (s.setRecord r x).store = s.store := rfl
@[simp] theorem State.setRecord_odometer (s : State) (r : Fin 4) (x : TripRecord) : (s.setRecord r x).odometer = s.odometer := rfl
@[simp] theorem State.setRecord_tripPair (s : State) (r : Fin 4) (x : TripRecord) : (s.setRecord r x).tripPair = s.tripPair := rfl
@[simp] theorem State.setRecord_servicePair (s : State) (r : Fin 4) (x : TripRecord) : (s.setRecord r x).servicePair = s.servicePair := rfl
@[simp] theorem State.setRecord_service (s : State) (r : Fin 4) (x : TripRecord) : (s.setRecord r x).service = s.service := rfl
@[simp] theorem State.setRecord_warnings (s : State) (r : Fin 4) (x : TripRecord) : (s.setRecord r x).warnings = s.warnings := rfl
@[simp] theorem State.setRecord_chime (s : State) (r : Fin 4) (x : TripRecord) : (s.setRecord r x).chime = s.chime := rfl
@[simp] theorem State.setRecord_display (s : State) (r : Fin 4) (x : TripRecord) : (s.setRecord r x).display = s.display := rfl
@[simp] theorem State.setRecord_loop (s : State) (r : Fin 4) (x : TripRecord) : (s.setRecord r x).loop = s.loop := rfl
@[simp] theorem State.setRecord_handler (s : State) (r : Fin 4) (x : TripRecord) : (s.setRecord r x).handler = s.handler := rfl
@[simp] theorem State.setRecord_key (s : State) (r : Fin 4) (x : TripRecord) : (s.setRecord r x).key = s.key := rfl

/-! ### insertFrame -/

@[simp] theorem insertFrame_pending (s : State) (f : Frame) (b : Bool) : (insertFrame f b s).pending = s.pending := rfl
@[simp] theorem insertFrame_powered (s : State) (f : Frame) (b : Bool) : (insertFrame f b s).powered = s.powered := rfl
@[simp] theorem insertFrame_channels (s : State) (f : Frame) (b : Bool) : (insertFrame f b s).channels = s.channels := rfl
@[simp] theorem insertFrame_curves (s : State) (f : Frame) (b : Bool) : (insertFrame f b s).curves = s.curves := rfl
@[simp] theorem insertFrame_gauges (s : State) (f : Frame) (b : Bool) : (insertFrame f b s).gauges = s.gauges := rfl
@[simp] theorem insertFrame_trip (s : State) (f : Frame) (b : Bool) : (insertFrame f b s).trip = s.trip := rfl
@[simp] theorem insertFrame_store (s : State) (f : Frame) (b : Bool) : (insertFrame f b s).store = s.store := rfl
@[simp] theorem insertFrame_odometer (s : State) (f : Frame) (b : Bool) : (insertFrame f b s).odometer = s.odometer := rfl
@[simp] theorem insertFrame_tripPair (s : State) (f : Frame) (b : Bool) : (insertFrame f b s).tripPair = s.tripPair := rfl
@[simp] theorem insertFrame_servicePair (s : State) (f : Frame) (b : Bool) : (insertFrame f b s).servicePair = s.servicePair := rfl
@[simp] theorem insertFrame_service (s : State) (f : Frame) (b : Bool) : (insertFrame f b s).service = s.service := rfl
@[simp] theorem insertFrame_warnings (s : State) (f : Frame) (b : Bool) : (insertFrame f b s).warnings = s.warnings := rfl
@[simp] theorem insertFrame_chime (s : State) (f : Frame) (b : Bool) : (insertFrame f b s).chime = s.chime := rfl
@[simp] theorem insertFrame_display (s : State) (f : Frame) (b : Bool) : (insertFrame f b s).display = s.display := rfl
@[simp] theorem insertFrame_loop (s : State) (f : Frame) (b : Bool) : (insertFrame f b s).loop = { s.loop with insertQ := s.loop.insertQ ++ [{ frame := f, restart := b }] } := rfl
@[simp] theorem insertFrame_handler (s : State) (f : Frame) (b : Bool) : (insertFrame f b s).handler = s.handler := rfl
@[simp] theorem insertFrame_key (s : State) (f : Frame) (b : Bool) : (insertFrame f b s).key = s.key := rfl

/-! ### placeEvent, buildEvent, report -/

@[simp] theorem placeEvent_loop (g : Bool → List Byte) (s : State) : (placeEvent g s).loop =
    { s.loop with insertQ := s.loop.insertQ ++
        [{ frame := mkFrame 0xE1 s.loop.node (g s.handler.eventsLost), restart := false }] } := rfl
@[simp] theorem placeEvent_handler (g : Bool → List Byte) (s : State) :
    (placeEvent g s).handler = { s.handler with eventsLost := false } := rfl

/-- More than 2 places are free exactly with fewer than 6 frames in the insert queue (R171). -/
theorem State.streamRoom_iff (s : State) : s.streamRoom = true ↔ s.loop.insertQ.length < 6 := by
  unfold State.streamRoom State.freePlaces
  rw [decide_eq_true_eq]
  omega

/-- With 2 places free or fewer, or with no event listed, no event frame is built. -/
theorem buildEvent_waits {s : State} (h : s.handler.events = [] ∨ 6 ≤ s.loop.insertQ.length) : buildEvent s = s := by
  unfold buildEvent
  split
  · rename_i e rest he
    rcases h with h | h
    · rw [he] at h; cases h
    · rw [if_neg]
      rw [State.streamRoom_iff]
      omega
  · rfl

/-- With more than 2 places free the oldest event is placed (R186). -/
theorem buildEvent_places {s : State} {e : Event} {rest : List Event} (h : s.handler.events = e :: rest)
    (hr : s.loop.insertQ.length < 6) :
    buildEvent s = placeEvent e.payload { s with handler := { s.handler with events := rest } } := by
  simp only [buildEvent, h, (State.streamRoom_iff s).mpr hr, if_true]

/-- What a report can do (R185, R186): nothing, with its class disabled; lose the event, with the list full; list it,
with 2 places free or fewer; list it and place the oldest event, with more. -/
theorem report_cases (e : Event) (s : State) :
    (s.handler.classes.getLsbD e.cls = false ∧ report e s = s) ∨
    (s.handler.classes.getLsbD e.cls = true ∧ 16 ≤ s.handler.events.length ∧
      report e s = { s with handler := { s.handler with eventsLost := true } }) ∨
    (s.handler.classes.getLsbD e.cls = true ∧ s.handler.events.length < 16 ∧ 6 ≤ s.loop.insertQ.length ∧
      report e s = { s with handler := { s.handler with events := s.handler.events ++ [e] } }) ∨
    (s.handler.classes.getLsbD e.cls = true ∧ s.handler.events.length < 16 ∧ s.loop.insertQ.length < 6 ∧
      ∃ first rest, s.handler.events ++ [e] = first :: rest ∧
        report e s = placeEvent first.payload { s with handler := { s.handler with events := rest } }) := by
  cases hc : s.handler.classes.getLsbD e.cls with
  | false => exact .inl ⟨rfl, by simp [report, Handler.report, Handler.lists, hc]⟩
  | true =>
    refine .inr ?_
    by_cases hl : s.handler.events.length < 16
    · have hr : report e s = buildEvent { s with handler := { s.handler with events := s.handler.events ++ [e] } } := by
        simp [report, Handler.report, Handler.lists, hc, hl]
      refine .inr ?_
      by_cases hq : s.loop.insertQ.length < 6
      · refine .inr ⟨rfl, hl, hq, ?_⟩
        cases he : s.handler.events ++ [e] with
        | nil => simp at he
        | cons first rest =>
          refine ⟨first, rest, rfl, ?_⟩
          rw [hr, he]
          exact buildEvent_places (e := first) (rest := rest) rfl hq
      · refine .inl ⟨rfl, hl, Nat.le_of_not_lt hq, ?_⟩
        rw [hr]
        exact buildEvent_waits (.inr (Nat.le_of_not_lt hq))
    · exact .inl ⟨rfl, Nat.le_of_not_lt hl, by simp [report, Handler.report, Handler.lists, hc, hl]⟩

/-- A report changes the event list, the events-lost flag and the insert queue only. -/
theorem report_eq (e : Event) (s : State) : report e s =
    { s with loop := { s.loop with insertQ := (report e s).loop.insertQ },
             handler := { s.handler with events := (report e s).handler.events,
                                         eventsLost := (report e s).handler.eventsLost } } := by
  rcases report_cases e s with ⟨_, h⟩ | ⟨_, _, h⟩ | ⟨_, _, _, h⟩ | ⟨_, _, _, first, rest, _, h⟩
  · rw [h]
  · rw [h]
  · rw [h]
  · rw [h]; rfl

@[simp] theorem report_pending (s : State) (e : Event) : (report e s).pending = s.pending := by rw [report_eq]
@[simp] theorem report_powered (s : State) (e : Event) : (report e s).powered = s.powered := by rw [report_eq]
@[simp] theorem report_channels (s : State) (e : Event) : (report e s).channels = s.channels := by rw [report_eq]
@[simp] theorem report_curves (s : State) (e : Event) : (report e s).curves = s.curves := by rw [report_eq]
@[simp] theorem report_gauges (s : State) (e : Event) : (report e s).gauges = s.gauges := by rw [report_eq]
@[simp] theorem report_trip (s : State) (e : Event) : (report e s).trip = s.trip := by rw [report_eq]
@[simp] theorem report_store (s : State) (e : Event) : (report e s).store = s.store := by rw [report_eq]
@[simp] theorem report_odometer (s : State) (e : Event) : (report e s).odometer = s.odometer := by rw [report_eq]
@[simp] theorem report_tripPair (s : State) (e : Event) : (report e s).tripPair = s.tripPair := by rw [report_eq]
@[simp] theorem report_servicePair (s : State) (e : Event) : (report e s).servicePair = s.servicePair := by rw [report_eq]
@[simp] theorem report_service (s : State) (e : Event) : (report e s).service = s.service := by rw [report_eq]
@[simp] theorem report_warnings (s : State) (e : Event) : (report e s).warnings = s.warnings := by rw [report_eq]
@[simp] theorem report_chime (s : State) (e : Event) : (report e s).chime = s.chime := by rw [report_eq]
@[simp] theorem report_display (s : State) (e : Event) : (report e s).display = s.display := by rw [report_eq]
@[simp] theorem report_key (s : State) (e : Event) : (report e s).key = s.key := by rw [report_eq]
@[simp] theorem report_loop_node (s : State) (e : Event) : (report e s).loop.node = s.loop.node := by rw [report_eq]
@[simp] theorem report_loop_forwardQ (s : State) (e : Event) : (report e s).loop.forwardQ = s.loop.forwardQ := by rw [report_eq]
@[simp] theorem report_loop_tapQ (s : State) (e : Event) : (report e s).loop.tapQ = s.loop.tapQ := by rw [report_eq]
@[simp] theorem report_loop_requestQ (s : State) (e : Event) : (report e s).loop.requestQ = s.loop.requestQ := by rw [report_eq]
@[simp] theorem report_loop_awaiting (s : State) (e : Event) : (report e s).loop.awaiting = s.loop.awaiting := by rw [report_eq]
@[simp] theorem report_loop_overrun (s : State) (e : Event) : (report e s).loop.overrun = s.loop.overrun := by rw [report_eq]
@[simp] theorem report_loop_tx (s : State) (e : Event) : (report e s).loop.tx = s.loop.tx := by rw [report_eq]
@[simp] theorem report_loop_state (s : State) (e : Event) : (report e s).loop.state = s.loop.state := by rw [report_eq]
@[simp] theorem report_loop_asserted (s : State) (e : Event) : (report e s).loop.asserted = s.loop.asserted := by rw [report_eq]
@[simp] theorem report_loop_force (s : State) (e : Event) : (report e s).loop.force = s.loop.force := by rw [report_eq]
@[simp] theorem report_loop_holdSent (s : State) (e : Event) : (report e s).loop.holdSent = s.loop.holdSent := by rw [report_eq]
@[simp] theorem report_loop_flow (s : State) (e : Event) : (report e s).loop.flow = s.loop.flow := by rw [report_eq]
@[simp] theorem report_loop_critical (s : State) (e : Event) : (report e s).loop.critical = s.loop.critical := by rw [report_eq]
@[simp] theorem report_loop_refresh (s : State) (e : Event) : (report e s).loop.refresh = s.loop.refresh := by rw [report_eq]
@[simp] theorem report_loop_holders (s : State) (e : Event) : (report e s).loop.holders = s.loop.holders := by rw [report_eq]
@[simp] theorem report_loop_broadcast (s : State) (e : Event) : (report e s).loop.broadcast = s.loop.broadcast := by rw [report_eq]
@[simp] theorem report_handler_restartPending (s : State) (e : Event) : (report e s).handler.restartPending = s.handler.restartPending := by rw [report_eq]
@[simp] theorem report_handler_ext (s : State) (e : Event) : (report e s).handler.ext = s.handler.ext := by rw [report_eq]
@[simp] theorem report_handler_extRequester (s : State) (e : Event) : (report e s).handler.extRequester = s.handler.extRequester := by rw [report_eq]
@[simp] theorem report_handler_setRequester (s : State) (e : Event) : (report e s).handler.setRequester = s.handler.setRequester := by rw [report_eq]
@[simp] theorem report_handler_held (s : State) (e : Event) : (report e s).handler.held = s.handler.held := by rw [report_eq]
@[simp] theorem report_handler_classes (s : State) (e : Event) : (report e s).handler.classes = s.handler.classes := by rw [report_eq]
@[simp] theorem report_handler_startUp (s : State) (e : Event) : (report e s).handler.startUp = s.handler.startUp := by rw [report_eq]
@[simp] theorem report_handler_dump (s : State) (e : Event) : (report e s).handler.dump = s.handler.dump := by rw [report_eq]

/-! ### placeResponse -/

/-- With a place free a response takes it (R171). -/
theorem placeResponse_places {s : State} (f : Frame) (restart : Bool) (h : s.loop.insertQ.length < 8) :
    placeResponse f restart s = insertFrame f restart s := by
  rw [placeResponse, if_pos]
  simp only [State.freePlaces]
  omega

/-- With none free it waits (R182). -/
theorem placeResponse_waits {s : State} (f : Frame) (restart : Bool) (h : 8 ≤ s.loop.insertQ.length) :
    placeResponse f restart s = { s with handler := { s.handler with held := s.handler.held ++ [f] } } := by
  rw [placeResponse, if_neg]
  simp only [State.freePlaces]
  omega

/-! ### setPattern -/

@[simp] theorem setPattern_pending (s : State) (k : Fin 16) (x : Pattern) : (setPattern k x s).pending = s.pending := rfl
@[simp] theorem setPattern_powered (s : State) (k : Fin 16) (x : Pattern) : (setPattern k x s).powered = s.powered := rfl
@[simp] theorem setPattern_channels (s : State) (k : Fin 16) (x : Pattern) : (setPattern k x s).channels = s.channels := rfl
@[simp] theorem setPattern_curves (s : State) (k : Fin 16) (x : Pattern) : (setPattern k x s).curves = s.curves := rfl
@[simp] theorem setPattern_gauges (s : State) (k : Fin 16) (x : Pattern) : (setPattern k x s).gauges = s.gauges := rfl
@[simp] theorem setPattern_trip (s : State) (k : Fin 16) (x : Pattern) : (setPattern k x s).trip = s.trip := rfl
@[simp] theorem setPattern_store (s : State) (k : Fin 16) (x : Pattern) : (setPattern k x s).store = s.store := rfl
@[simp] theorem setPattern_odometer (s : State) (k : Fin 16) (x : Pattern) : (setPattern k x s).odometer = s.odometer := rfl
@[simp] theorem setPattern_tripPair (s : State) (k : Fin 16) (x : Pattern) : (setPattern k x s).tripPair = s.tripPair := rfl
@[simp] theorem setPattern_servicePair (s : State) (k : Fin 16) (x : Pattern) : (setPattern k x s).servicePair = s.servicePair := rfl
@[simp] theorem setPattern_service (s : State) (k : Fin 16) (x : Pattern) : (setPattern k x s).service = s.service := rfl
@[simp] theorem setPattern_warnings (s : State) (k : Fin 16) (x : Pattern) : (setPattern k x s).warnings = s.warnings := rfl
@[simp] theorem setPattern_chime (s : State) (k : Fin 16) (x : Pattern) : (setPattern k x s).chime = { s.chime with patterns := s.chime.patterns.set k x } := rfl
@[simp] theorem setPattern_display (s : State) (k : Fin 16) (x : Pattern) : (setPattern k x s).display = s.display := rfl
@[simp] theorem setPattern_loop (s : State) (k : Fin 16) (x : Pattern) : (setPattern k x s).loop = s.loop := rfl
@[simp] theorem setPattern_handler (s : State) (k : Fin 16) (x : Pattern) : (setPattern k x s).handler = s.handler := rfl
@[simp] theorem setPattern_key (s : State) (k : Fin 16) (x : Pattern) : (setPattern k x s).key = s.key := rfl

/-! ### State.setPair -/

@[simp] theorem State.setPair_pending (s : State) (p : PairId) (x : Pair) : (s.setPair p x).pending = s.pending := by
  cases p <;> rfl
@[simp] theorem State.setPair_powered (s : State) (p : PairId) (x : Pair) : (s.setPair p x).powered = s.powered := by
  cases p <;> rfl
@[simp] theorem State.setPair_channels (s : State) (p : PairId) (x : Pair) : (s.setPair p x).channels = s.channels := by
  cases p <;> rfl
@[simp] theorem State.setPair_curves (s : State) (p : PairId) (x : Pair) : (s.setPair p x).curves = s.curves := by
  cases p <;> rfl
@[simp] theorem State.setPair_gauges (s : State) (p : PairId) (x : Pair) : (s.setPair p x).gauges = s.gauges := by
  cases p <;> rfl
@[simp] theorem State.setPair_trip (s : State) (p : PairId) (x : Pair) : (s.setPair p x).trip = s.trip := by
  cases p <;> rfl
@[simp] theorem State.setPair_store (s : State) (p : PairId) (x : Pair) : (s.setPair p x).store = s.store := by
  cases p <;> rfl
@[simp] theorem State.setPair_odometer (s : State) (p : PairId) (x : Pair) : (s.setPair p x).odometer = s.odometer := by
  cases p <;> rfl
@[simp] theorem State.setPair_service (s : State) (p : PairId) (x : Pair) : (s.setPair p x).service = s.service := by
  cases p <;> rfl
@[simp] theorem State.setPair_warnings (s : State) (p : PairId) (x : Pair) : (s.setPair p x).warnings = s.warnings := by
  cases p <;> rfl
@[simp] theorem State.setPair_chime (s : State) (p : PairId) (x : Pair) : (s.setPair p x).chime = s.chime := by
  cases p <;> rfl
@[simp] theorem State.setPair_display (s : State) (p : PairId) (x : Pair) : (s.setPair p x).display = s.display := by
  cases p <;> rfl
@[simp] theorem State.setPair_loop (s : State) (p : PairId) (x : Pair) : (s.setPair p x).loop = s.loop := by
  cases p <;> rfl
@[simp] theorem State.setPair_handler (s : State) (p : PairId) (x : Pair) : (s.setPair p x).handler = s.handler := by
  cases p <;> rfl
@[simp] theorem State.setPair_key (s : State) (p : PairId) (x : Pair) : (s.setPair p x).key = s.key := by
  cases p <;> rfl
@[simp] theorem State.setPair_trip_tripPair (s : State) (x : Pair) : (s.setPair .trip x).tripPair = x := rfl
@[simp] theorem State.setPair_trip_servicePair (s : State) (x : Pair) : (s.setPair .trip x).servicePair = s.servicePair := rfl
@[simp] theorem State.setPair_service_servicePair (s : State) (x : Pair) : (s.setPair .service x).servicePair = x := rfl
@[simp] theorem State.setPair_service_tripPair (s : State) (x : Pair) : (s.setPair .service x).tripPair = s.tripPair := rfl
@[simp] theorem State.pair_setPair (s : State) (p : PairId) (x : Pair) : (s.setPair p x).pair p = x := by cases p <;> rfl

/-! ### The element at an index -/

theorem State.setChannel_get (s : State) (c d : Fin 48) (x : Channel) :
    (s.setChannel c x).channels[d] = if c = d then x else s.channels[d] := by
  simp only [setChannel_channels, Fin.getElem_fin, Vector.getElem_set, Fin.ext_iff]

theorem State.setCurve_get (s : State) (c d : Fin 16) (x : Curve) :
    (s.setCurve c x).curves[d] = if c = d then x else s.curves[d] := by
  simp only [setCurve_curves, Fin.getElem_fin, Vector.getElem_set, Fin.ext_iff]

theorem State.setGauge_get (s : State) (c d : Fin 6) (x : Gauge) :
    (s.setGauge c x).gauges[d] = if c = d then x else s.gauges[d] := by
  simp only [setGauge_gauges, Fin.getElem_fin, Vector.getElem_set, Fin.ext_iff]

theorem State.setWarning_get (s : State) (w v : Fin 32) (x : Warning) :
    (s.setWarning w x).warnings.entries[v] = if w = v then x else s.warnings.entries[v] := by
  simp only [setWarning_warnings, Fin.getElem_fin, Vector.getElem_set, Fin.ext_iff]

theorem State.setItem_get (s : State) (i j : Fin 8) (x : ServiceItem) :
    (s.setItem i x).service.items[j] = if i = j then x else s.service.items[j] := by
  simp only [setItem_service, Fin.getElem_fin, Vector.getElem_set, Fin.ext_iff]

theorem State.setRecord_get (s : State) (r q : Fin 4) (x : TripRecord) :
    (s.setRecord r x).trip.records[q] = if r = q then x else s.trip.records[q] := by
  simp only [setRecord_trip, Fin.getElem_fin, Vector.getElem_set, Fin.ext_iff]

/-! ### Players -/

@[simp] theorem Chime.player_setPlayer (c : Chime) (z : Zone) (p : Player) : (c.setPlayer z p).player z = p := by
  cases z <;> rfl

theorem Chime.player_setPlayer_other (c : Chime) (z y : Zone) (p : Player) (h : z ≠ y) :
    (c.setPlayer z p).player y = c.player y := by
  cases z <;> cases y <;> first | rfl | exact absurd rfl h

@[simp] theorem Chime.setPlayer_patterns (c : Chime) (z : Zone) (p : Player) :
    (c.setPlayer z p).patterns = c.patterns := by cases z <;> rfl
@[simp] theorem Chime.setPlayer_setup (c : Chime) (z : Zone) (p : Player) : (c.setPlayer z p).setup = c.setup := by
  cases z <;> rfl
@[simp] theorem Chime.setPlayer_queue (c : Chime) (z : Zone) (p : Player) : (c.setPlayer z p).queue = c.queue := by
  cases z <;> rfl

/-! ### Slots of the Store Controller -/

@[simp] theorem Store.setSlot_mem (x : Store) (c : StoreClass) (v : Option StoreStep) : (x.setSlot c v).mem = x.mem := by
  cases c <;> rfl
@[simp] theorem Store.setSlot_flags (x : Store) (c : StoreClass) (v : Option StoreStep) :
    (x.setSlot c v).flags = x.flags := by cases c <;> rfl
@[simp] theorem Store.slot_setSlot (x : Store) (c : StoreClass) (v : Option StoreStep) : (x.setSlot c v).slot c = v := by
  cases c <;> rfl

/-! ### Outstanding marks -/

theorem Outstanding.get_put (o : Outstanding) (i j : Item) (b : Bool) :
    (o.put i b).get j = if i = j then b else o.get j := by cases i <;> cases j <;> rfl

end Sys2Proof.Machine
end

