-- ==== Sys2Proof/Laws/Memory.lean ====
section
/-! SUPPORT. The store's words (R64): a read after a write, and that every operation over them keeps the canonical form. -/

namespace Sys2Proof.Machine

/-! ### Read after write -/

theorem Memory.read_of_wfFrom (m : List (Nat × Word)) (lo a : Nat) (h : Memory.wfFrom lo m = true) (ha : a < lo) :
    Memory.read m a = Memory.erased := by
  induction m generalizing lo with
  | nil => rfl
  | cons p r ih =>
    obtain ⟨b, v⟩ := p
    simp only [Memory.wfFrom, Bool.and_eq_true, decide_eq_true_eq] at h
    have hne : a ≠ b := by omega
    simp only [Memory.read, hne, if_false]
    exact ih (b + 1) h.2 (by omega)

theorem Memory.read_write_same (m : List (Nat × Word)) (lo a : Nat) (v : Word) (h : Memory.wfFrom lo m = true) :
    Memory.read (Memory.write m a v) a = v := by
  induction m generalizing lo with
  | nil => by_cases hv : v = Memory.erased <;> simp [Memory.write, Memory.read, hv]
  | cons p r ih =>
    obtain ⟨b, w⟩ := p
    simp only [Memory.wfFrom, Bool.and_eq_true, decide_eq_true_eq] at h
    simp only [Memory.write]
    by_cases h1 : a < b
    · by_cases hv : v = Memory.erased
      · have hne : a ≠ b := by omega
        simp [h1, hv, Memory.read, hne, Memory.read_of_wfFrom r (b + 1) a h.2 (by omega)]
      · simp [h1, hv, Memory.read]
    · by_cases h2 : a = b
      · subst h2
        by_cases hv : v = Memory.erased
        · simp [hv, Memory.read_of_wfFrom r (a + 1) a h.2 (by omega)]
        · simp [hv, Memory.read]
      · simp only [h1, h2, if_false, Memory.read]
        exact ih (b + 1) h.2

theorem Memory.read_write_other (m : List (Nat × Word)) (lo a c : Nat) (v : Word) (h : Memory.wfFrom lo m = true)
    (hc : c ≠ a) : Memory.read (Memory.write m a v) c = Memory.read m c := by
  induction m generalizing lo with
  | nil => by_cases hv : v = Memory.erased <;> simp [Memory.write, Memory.read, hv, hc]
  | cons p r ih =>
    obtain ⟨b, w⟩ := p
    simp only [Memory.wfFrom, Bool.and_eq_true, decide_eq_true_eq] at h
    simp only [Memory.write]
    by_cases h1 : a < b
    · by_cases hv : v = Memory.erased <;> simp [h1, hv, Memory.read, hc]
    · by_cases h2 : a = b
      · subst h2
        by_cases hv : v = Memory.erased <;> simp [hv, Memory.read, hc]
      · simp only [h1, h2, if_false, Memory.read, ih (b + 1) h.2]

/-! ### The canonical form -/

theorem Memory.wfFrom_mono (m : List (Nat × Word)) (lo hi : Nat) (h : Memory.wfFrom hi m = true) (hl : lo ≤ hi) :
    Memory.wfFrom lo m = true := by
  cases m with
  | nil => rfl
  | cons p r =>
    simp only [Memory.wfFrom, Bool.and_eq_true, decide_eq_true_eq] at h ⊢
    exact ⟨⟨⟨by omega, h.1.1.2⟩, h.1.2⟩, h.2⟩

theorem Memory.wfFrom_write (m : List (Nat × Word)) (lo a : Nat) (v : Word) (h : Memory.wfFrom lo m = true)
    (hl : lo ≤ a) (ha : a < 256) : Memory.wfFrom lo (Memory.write m a v) = true := by
  induction m generalizing lo with
  | nil =>
    by_cases hv : v = Memory.erased <;> simp [Memory.write, Memory.wfFrom, hv, hl, ha]
  | cons p r ih =>
    obtain ⟨b, w⟩ := p
    have h' := h
    simp only [Memory.wfFrom, Bool.and_eq_true, decide_eq_true_eq] at h
    simp only [Memory.write]
    by_cases h1 : a < b
    · by_cases hv : v = Memory.erased
      · simp only [h1, hv, if_true]; exact h'
      · simp only [h1, hv, if_true, if_false, Memory.wfFrom, Bool.and_eq_true, decide_eq_true_eq]
        exact ⟨⟨⟨hl, ha⟩, hv⟩, ⟨⟨by omega, h.1.1.2⟩, h.1.2⟩, h.2⟩
    · by_cases h2 : a = b
      · subst h2
        by_cases hv : v = Memory.erased
        · simp only [hv, if_true, Nat.lt_irrefl, if_false]
          exact Memory.wfFrom_mono r lo (a + 1) h.2 (by omega)
        · simp only [hv, if_true, if_false, Nat.lt_irrefl, Memory.wfFrom, Bool.and_eq_true, decide_eq_true_eq]
          exact ⟨⟨⟨hl, ha⟩, hv⟩, h.2⟩
      · simp only [h1, h2, if_false, Memory.wfFrom, Bool.and_eq_true, decide_eq_true_eq]
        exact ⟨h.1, ih (b + 1) h.2 (by omega)⟩

/-- A write to an address of the store keeps the canonical form. -/
theorem Memory.wf_write (m : List (Nat × Word)) (a : Nat) (v : Word) (h : Memory.wf m = true) (ha : a < 256) :
    Memory.wf (Memory.write m a v) = true := Memory.wfFrom_write m 0 a v h (Nat.zero_le a) ha

theorem Memory.wf_foldl_write (ws : List Nat) (m : List (Nat × Word)) (f : Nat → Nat × Word)
    (hf : ∀ w ∈ ws, (f w).1 < 256) (h : Memory.wf m = true) :
    Memory.wf (ws.foldl (fun acc w => Memory.write acc (f w).1 (f w).2) m) = true := by
  induction ws generalizing m with
  | nil => exact h
  | cons w r ih =>
    simp only [List.foldl_cons]
    exact ih _ (fun x hx => hf x (List.mem_cons_of_mem w hx))
      (Memory.wf_write m _ _ h (hf w List.mem_cons_self))

/-- Rewriting a sector keeps the canonical form. -/
theorem Memory.wf_mapSector (m : List (Nat × Word)) (k : Fin 8) (f : Nat → Word → Word) (h : Memory.wf m = true) :
    Memory.wf (Memory.mapSector m k f) = true := by
  refine Memory.wf_foldl_write (List.range 32) m (fun w => (wordAddr k w, f w (sectorWord m k w))) ?_ h
  intro w hw
  have h1 := List.mem_range.1 hw
  have h2 := k.isLt
  show 32 * k.val + w < 256
  omega

theorem Memory.read_foldl_write_other (ws : List Nat) (m : List (Nat × Word)) (f : Nat → Nat × Word) (c : Nat)
    (hf : ∀ w ∈ ws, (f w).1 < 256 ∧ (f w).1 ≠ c) (h : Memory.wf m = true) :
    Memory.read (ws.foldl (fun acc w => Memory.write acc (f w).1 (f w).2) m) c = Memory.read m c := by
  induction ws generalizing m with
  | nil => rfl
  | cons w r ih =>
    simp only [List.foldl_cons]
    have h1 := hf w List.mem_cons_self
    rw [ih _ (fun x hx => hf x (List.mem_cons_of_mem w hx)) (Memory.wf_write m _ _ h h1.1)]
    exact Memory.read_write_other m 0 _ c _ h (fun e => h1.2 e.symm)

/-- Rewriting a sector leaves every address outside it alone. -/
theorem Memory.read_mapSector_other (m : List (Nat × Word)) (k : Fin 8) (f : Nat → Word → Word) (c : Nat)
    (h : Memory.wf m = true) (hc : c / 32 ≠ k.val) : Memory.read (Memory.mapSector m k f) c = Memory.read m c := by
  refine Memory.read_foldl_write_other (List.range 32) m (fun w => (wordAddr k w, f w (sectorWord m k w))) c ?_ h
  intro w hw
  have h1 := List.mem_range.1 hw
  have h2 := k.isLt
  refine ⟨show 32 * k.val + w < 256 by omega, show 32 * k.val + w ≠ c from ?_⟩
  intro e
  apply hc
  omega

/-! ### The operations of the Store Controller -/

@[simp] theorem Store.join_mem (x : Store) (c : StoreClass) (b : BitVec 8) : (x.join c b).mem = x.mem := by
  cases c <;> rfl

theorem Store.beginFrom_mem (ks : List (Fin 8)) (x : Store) : (Store.beginFrom ks x).mem = x.mem := by
  induction ks generalizing x with
  | nil => rfl
  | cons k r ih => simp only [Store.beginFrom]; split <;> simp [ih]

@[simp] theorem Store.beginNext_mem (x : Store) : x.beginNext.mem = x.mem := Store.beginFrom_mem _ _

@[simp] theorem Store.closeWindow_mem (x : Store) : x.closeWindow.mem = x.mem := by simp [Store.closeWindow]

/-- Placing a step changes no word of the store. -/
@[simp] theorem Store.place_mem (x : Store) (c : StoreClass) (st : StoreStep) : (x.place c st).mem = x.mem := by
  cases st with
  | erase b => simp only [Store.place]; split <;> simp
  | program a v =>
    simp only [Store.place]
    split <;> split <;> simp

@[simp] theorem Store.gather_mem (x : Store) (c : StoreClass) : (x.gather c).mem = x.mem := by
  simp only [Store.gather]; split <;> simp

theorem Store.gather_foldl_mem (cs : List StoreClass) (x : Store) : (cs.foldl Store.gather x).mem = x.mem := by
  induction cs generalizing x with
  | nil => rfl
  | cons c r ih => simp [ih]

/-- Taking a step changes no word of the store. -/
theorem Store.take_mem (x y : Store) (h : x.take = some y) : y.mem = x.mem := by
  simp only [Store.take] at h
  split at h
  · split at h
    · cases h
    · split at h
      · cases h; simp
      · cases h; simp [Store.gather_foldl_mem]
      · cases h
  · cases h

@[simp] theorem Store.windowExpiry_mem (x : Store) : x.windowExpiry.mem = x.mem := by
  simp only [Store.windowExpiry]; split <;> simp

@[simp] theorem Store.takeSuspending_mem (x : Store) : x.takeSuspending.mem = x.mem := by
  simp only [Store.takeSuspending]; split <;> rfl

@[simp] theorem Store.suspensionReached_mem (x : Store) : x.suspensionReached.mem = x.mem := by
  simp only [Store.suspensionReached]; split <;> simp

@[simp] theorem Store.dropStep_mem (x : Store) (j : StoreClass × BitVec 8) : (x.dropStep j).mem = x.mem := rfl

/-- A program's end writes (old AND new) at its address and nothing else (R65). -/
theorem Store.programEnd_mem (x y : Store) (worn : Bool) (r : ProgramReport) (h : x.programEnd worn = some (r, y)) :
    ∃ run, x.running = some run ∧ r.addr = run.addr ∧ r.word = Memory.read x.mem run.addr.val &&& run.value ∧
      y.mem = Memory.write x.mem run.addr.val r.word := by
  simp only [Store.programEnd] at h
  split at h
  · cases h
  · rename_i run hrun
    refine ⟨run, hrun, ?_⟩
    simp only [Option.some.injEq, Prod.mk.injEq] at h
    obtain ⟨rfl, rfl⟩ := h
    refine ⟨rfl, rfl, ?_⟩
    split
    · split <;> simp [programmed]
    · rfl

/-- The end of a sector's erase rewrites that sector and nothing else (R66). -/
theorem Store.eraseEnd_mem (x y : Store) (failed : Bool) (raised : List Word) (k : Fin 8)
    (h : x.eraseEnd failed raised = some (k, y)) :
    x.current = some k ∧ y.mem = eraseSector x.mem k failed raised := by
  simp only [Store.eraseEnd] at h
  split at h
  · cases h
  · rename_i j hj
    split at h
    · simp only [Option.some.injEq, Prod.mk.injEq] at h
      obtain ⟨rfl, rfl⟩ := h
      refine ⟨hj, ?_⟩
      have hz : ∀ z : Store,
          (if z.todo = [] then { z with ctl := .ready, eraseSet := 0 } else z.takeSuspending).mem = z.mem := by
        intro z
        split <;> simp
      by_cases hc : x.ctl = .erasing
      · rw [if_pos hc, Store.beginNext_mem]
      · rw [if_neg hc, hz]
    · cases h

/-- What a loss of power leaves keeps the canonical form. -/
theorem Store.wf_afterLoss (x : Store) (held : Word) (raised : List Word) (h : Memory.wf x.mem = true) :
    Memory.wf (x.afterLoss held raised) = true := by
  simp only [Store.afterLoss]
  have h1 : Memory.wf (match x.running with
      | some r => Memory.write x.mem r.addr.val (Memory.read x.mem r.addr.val &&& (r.value ||| held))
      | none => x.mem) = true := by
    split
    · exact Memory.wf_write _ _ _ h (Fin.isLt _)
    · exact h
  split
  · exact Memory.wf_mapSector _ _ _ h1
  · exact h1

/-- The store of State.reset stands in its canonical form. -/
theorem reset_storeWords : State.reset.storeWords = true := rfl

end Sys2Proof.Machine
end

