-- ==== Sys2Proof/Laws/Frame.lean ====
section
/-! SUPPORT. What the shared operations of the displays, the chimes and the Warning Controller can change, said once for
each as a frame: everything outside the Warning Controller, the chime queue and its players, the display's content and the
event list stays as it was, both halves, the enabled and the masked field of every warning stay, and the queues stay
within their bounds. -/

namespace Sys2Proof.Machine

/-! ### The display queue and the chime queue stay bounded -/

theorem Display.itemChanged_queue (d : Display) (i : Item) (h : d.queue.length ≤ 6) :
    (d.itemChanged i).queue.length ≤ 6 := by
  simp only [Display.itemChanged]
  split
  · exact h
  · split
    · rename_i hr
      simp only [Display.room, Bool.and_eq_true, decide_eq_true_eq] at hr
      simp only [List.length_append, List.length_singleton]
      omega
    · exact h

theorem Display.foldl_itemChanged_queue (is : List Item) (d : Display) (h : d.queue.length ≤ 6) :
    (is.foldl Display.itemChanged d).queue.length ≤ 6 := by
  induction is generalizing d with
  | nil => exact h
  | cons i r ih => exact ih _ (Display.itemChanged_queue d i h)

theorem Display.takeImages_queue (d : Display) (m : Images) (h : d.queue.length ≤ 6) :
    (d.takeImages m).queue.length ≤ 6 := Display.foldl_itemChanged_queue _ _ h

theorem Display.fillItem_queue (d : Display) (i : Item) (h : d.queue.length ≤ 6) :
    (d.fillItem i).queue.length ≤ 6 := by
  simp only [Display.fillItem]
  split
  · rename_i hr
    simp only [Display.room, Bool.and_eq_true, decide_eq_true_eq] at hr
    simp only [List.length_append, List.length_singleton]
    omega
  · exact h

theorem Display.foldl_fillItem_queue (is : List Item) (d : Display) (h : d.queue.length ≤ 6) :
    (is.foldl Display.fillItem d).queue.length ≤ 6 := by
  induction is generalizing d with
  | nil => exact h
  | cons i r ih => exact ih _ (Display.fillItem_queue d i h)

/-- Filling from the wants keeps the six places (R150). -/
theorem Display.fillWants_queue (d : Display) (h : d.queue.length ≤ 6) : d.fillWants.queue.length ≤ 6 := by
  refine Display.foldl_fillItem_queue _ _ ?_
  have hp : d.fillPoll.queue.length ≤ 6 := by
    simp only [Display.fillPoll]
    split
    · rename_i hr
      simp only [Display.room, Bool.and_eq_true, decide_eq_true_eq] at hr
      simp only [List.length_append, List.length_singleton]
      omega
    · exact h
  simp only [Display.fillAnswer]
  split
  · rename_i hr
    simp only [Display.room, Bool.and_eq_true, decide_eq_true_eq] at hr
    simp only [List.length_append, List.length_singleton]
    omega
  · exact hp

theorem insertByRank_length (r : ChimeRequest) (q : List ChimeRequest) :
    (insertByRank r q).length = q.length + 1 := by
  induction q with
  | nil => rfl
  | cons a as ih => simp only [insertByRank]; split <;> simp [ih]

@[simp] theorem Chime.enterTone_queue (c : Chime) (z : Zone) (cur : Current) (p : Fin 16) (k : Nat) :
    (c.enterTone z cur p k).queue = c.queue := by
  simp only [Chime.enterTone, Chime.silence]; split <;> simp

@[simp] theorem Chime.enterTone_patterns (c : Chime) (z : Zone) (cur : Current) (p : Fin 16) (k : Nat) :
    (c.enterTone z cur p k).patterns = c.patterns := by
  simp only [Chime.enterTone, Chime.silence]; split <;> simp

@[simp] theorem Chime.enterTone_setup (c : Chime) (z : Zone) (cur : Current) (p : Fin 16) (k : Nat) :
    (c.enterTone z cur p k).setup = c.setup := by
  simp only [Chime.enterTone, Chime.silence]; split <;> simp

@[simp] theorem Chime.startTop_queue (c : Chime) (z : Zone) : (c.startTop z).queue = c.queue := by
  simp only [Chime.startTop]; split <;> simp

@[simp] theorem Chime.startTop_patterns (c : Chime) (z : Zone) : (c.startTop z).patterns = c.patterns := by
  simp only [Chime.startTop]; split <;> simp

@[simp] theorem Chime.startTop_setup (c : Chime) (z : Zone) : (c.startTop z).setup = c.setup := by
  simp only [Chime.startTop]; split <;> simp

@[simp] theorem Chime.stopAndStart_queue (c : Chime) (z : Zone) : (c.stopAndStart z).queue = c.queue := by
  simp [Chime.stopAndStart, Chime.silence]

@[simp] theorem Chime.stopAndStart_patterns (c : Chime) (z : Zone) : (c.stopAndStart z).patterns = c.patterns := by
  simp [Chime.stopAndStart, Chime.silence]

@[simp] theorem Chime.stopAndStart_setup (c : Chime) (z : Zone) : (c.stopAndStart z).setup = c.setup := by
  simp [Chime.stopAndStart, Chime.silence]

@[simp] theorem Chime.afterPlacing_queue (c : Chime) (z : Zone) : (c.afterPlacing z).queue = c.queue := by
  simp only [Chime.afterPlacing]
  split
  · simp
  · split <;> simp
  · rfl

@[simp] theorem Chime.afterPlacing_patterns (c : Chime) (z : Zone) : (c.afterPlacing z).patterns = c.patterns := by
  simp only [Chime.afterPlacing]
  split
  · simp
  · split <;> simp
  · rfl

@[simp] theorem Chime.afterPlacing_setup (c : Chime) (z : Zone) : (c.afterPlacing z).setup = c.setup := by
  simp only [Chime.afterPlacing]
  split
  · simp
  · split <;> simp
  · rfl

@[simp] theorem Chime.place_patterns (c : Chime) (r : ChimeRequest) : (c.place r).patterns = c.patterns := by
  simp [Chime.place]
@[simp] theorem Chime.place_setup (c : Chime) (r : ChimeRequest) : (c.place r).setup = c.setup := by simp [Chime.place]
theorem Chime.place_length (c : Chime) (r : ChimeRequest) : (c.place r).queue.length = c.queue.length + 1 := by
  simp [Chime.place, insertByRank_length]

@[simp] theorem Chime.remove_patterns (c : Chime) (o : ChimeOrigin) (z : Zone) :
    (c.remove o z).patterns = c.patterns := rfl
@[simp] theorem Chime.remove_setup (c : Chime) (o : ChimeOrigin) (z : Zone) : (c.remove o z).setup = c.setup := rfl

theorem Chime.remove_length (c : Chime) (o : ChimeOrigin) (z : Zone) :
    (c.remove o z).queue.length ≤ c.queue.length := List.length_filter_le _ _

theorem Chime.remove_length_lt (c : Chime) (v : ChimeRequest) (h : v ∈ c.queue) :
    (c.remove v.origin v.zone).queue.length < c.queue.length := by
  have h1 : (c.remove v.origin v.zone).queue.length ≤ c.queue.length := Chime.remove_length c _ _
  rcases Nat.lt_or_eq_of_le h1 with h2 | h2
  · exact h2
  · exact absurd (List.length_filter_eq_length_iff.1 h2 v h) (by simp)

@[simp] theorem Chime.modify_patterns (c : Chime) (o : ChimeOrigin) (z : Zone) (f : ChimeRequest → ChimeRequest) :
    (c.modify o z f).patterns = c.patterns := rfl
@[simp] theorem Chime.modify_setup (c : Chime) (o : ChimeOrigin) (z : Zone) (f : ChimeRequest → ChimeRequest) :
    (c.modify o z f).setup = c.setup := rfl
theorem Chime.modify_length (c : Chime) (o : ChimeOrigin) (z : Zone) (f : ChimeRequest → ChimeRequest) :
    (c.modify o z f).queue.length = c.queue.length := List.length_map _

/-- What a chime request can do (R135): the patterns and the setup stay, and the queue holds at most 8. -/
theorem Chime.request_frame (c : Chime) (o : ChimeOrigin) (z : Zone) (p : Fin 16) (rank : Nat) (f : Nat → Option Nat) :
    (c.request o z p rank f).patterns = c.patterns ∧ (c.request o z p rank f).setup = c.setup ∧
      (c.queue.length ≤ 8 → (c.request o z p rank f).queue.length ≤ 8) := by
  simp only [Chime.request]
  split
  · exact ⟨rfl, rfl, id⟩
  · split
    · exact ⟨rfl, rfl, fun h => by rw [Chime.modify_length]; exact h⟩
    · split
      · refine ⟨by simp, by simp, fun _ => ?_⟩
        rw [Chime.place_length]
        omega
      · split
        · rename_i v hv
          split
          · refine ⟨by simp, by simp, fun h => ?_⟩
            have hm : v ∈ c.queue := List.mem_reverse.1 (List.mem_of_find?_eq_some hv)
            have := Chime.remove_length_lt c v hm
            rw [Chime.place_length]
            omega
          · exact ⟨rfl, rfl, id⟩
        · exact ⟨rfl, rfl, id⟩

/-- What a release can do (R136). -/
theorem Chime.release_frame (c : Chime) (o : ChimeOrigin) (z : Zone) :
    (c.release o z).patterns = c.patterns ∧ (c.release o z).setup = c.setup ∧
      (c.queue.length ≤ 8 → (c.release o z).queue.length ≤ 8) := by
  have hr := Chime.remove_length c o z
  simp only [Chime.release]
  split
  · exact ⟨rfl, rfl, id⟩
  · split
    · split
      · exact ⟨rfl, rfl, fun h => by rw [Chime.modify_length]; exact h⟩
      · exact ⟨by simp, by simp, fun h => by rw [Chime.stopAndStart_queue]; omega⟩
    · exact ⟨rfl, rfl, fun h => by omega⟩

/-! ### The frame of the Warning Controller's operations -/

/-- The display with the content that notices and rebuilds can change taken from `e`. -/
def Display.contentOf (d e : Display) : Display :=
  { d with mcWarning := e.mcWarning, rearWarning := e.rearWarning, press := e.press, idleTimer := e.idleTimer,
           link := e.link, wakeAfter := e.wakeAfter, settleTimer := e.settleTimer, images := e.images, queue := e.queue,
           outstanding := e.outstanding, pollTimer := e.pollTimer, pollWant := e.pollWant }

/-- What an operation of the Warning Controller leaves as it was. -/
structure WarnFrame (s t : State) : Prop where
  /-- Every block but the Warning Controller, the Chime Generator, the display, the event list and the event frames in
  the insert queue. -/
  rest : t = { s with
    warnings := t.warnings, chime := t.chime, display := t.display,
    loop := { s.loop with insertQ := t.loop.insertQ },
    handler := { s.handler with events := t.handler.events, eventsLost := t.handler.eventsLost } }
  /-- What is loaded of every warning, and its masked field. -/
  loaded : ∀ w : Fin 32, (t.warnings.entries[w]).condition = (s.warnings.entries[w]).condition ∧
    (t.warnings.entries[w]).action = (s.warnings.entries[w]).action ∧
    (t.warnings.entries[w]).enabled = (s.warnings.entries[w]).enabled ∧
    (t.warnings.entries[w]).masked = (s.warnings.entries[w]).masked
  /-- The system conditions and the bulb check. -/
  conds : t.warnings = { s.warnings with entries := t.warnings.entries }
  patterns : t.chime.patterns = s.chime.patterns
  setup : t.chime.setup = s.chime.setup
  /-- The display's own records. -/
  display : t.display = s.display.contentOf t.display
  events : s.handler.events.length ≤ 16 → t.handler.events.length ≤ 16
  packets : s.display.queue.length ≤ 6 → t.display.queue.length ≤ 6
  chimes : s.chime.queue.length ≤ 8 → t.chime.queue.length ≤ 8
  /-- Event frames leave two places free (R171). -/
  places : t.loop.insertQ.length ≤ max s.loop.insertQ.length 6

theorem WarnFrame.refl (s : State) : WarnFrame s s :=
  ⟨rfl, fun _ => ⟨rfl, rfl, rfl, rfl⟩, rfl, rfl, rfl, rfl, id, id, id, Nat.le_max_left _ _⟩

theorem WarnFrame.trans {s t u : State} (h : WarnFrame s t) (k : WarnFrame t u) : WarnFrame s u where
  rest := by
    refine k.rest.trans ?_
    rw [h.rest]
  loaded := fun w => ⟨(k.loaded w).1.trans (h.loaded w).1, (k.loaded w).2.1.trans (h.loaded w).2.1,
    (k.loaded w).2.2.1.trans (h.loaded w).2.2.1, (k.loaded w).2.2.2.trans (h.loaded w).2.2.2⟩
  conds := by
    refine k.conds.trans ?_
    rw [h.conds]
  patterns := k.patterns.trans h.patterns
  setup := k.setup.trans h.setup
  display := by
    refine k.display.trans ?_
    rw [h.display]
    rfl
  events := k.events ∘ h.events
  packets := k.packets ∘ h.packets
  chimes := k.chimes ∘ h.chimes
  places := by have := h.places; have := k.places; omega

/-- Reporting an event changes the event list, the events-lost flag and, by event frames, the insert queue only (R185,
R186). -/
theorem report_frame (e : Event) (s : State) : WarnFrame s (report e s) where
  rest := by
    simp only [report_warnings, report_chime, report_display]
    exact report_eq e s
  loaded := fun _ => by rw [report_warnings]; exact ⟨rfl, rfl, rfl, rfl⟩
  conds := by rw [report_warnings]
  patterns := by rw [report_chime]
  setup := by rw [report_chime]
  display := by rw [report_display]; rfl
  events := by
    intro b
    rcases report_cases e s with ⟨_, h⟩ | ⟨_, _, h⟩ | ⟨_, hl, _, h⟩ | ⟨_, hl, _, first, rest, he, h⟩ <;> rw [h]
    · exact b
    · exact b
    · simp only [List.length_append, List.length_singleton]
      omega
    · have := congrArg List.length he
      simp only [List.length_append, List.length_cons, List.length_nil] at this
      simp only [placeEvent_handler]
      omega
  packets := by rw [report_display]; exact id
  chimes := by rw [report_chime]; exact id
  places := by
    rcases report_cases e s with ⟨_, h⟩ | ⟨_, _, h⟩ | ⟨_, _, _, h⟩ | ⟨_, _, hq, first, rest, _, h⟩ <;> rw [h]
    · exact Nat.le_max_left _ _
    · exact Nat.le_max_left _ _
    · exact Nat.le_max_left _ _
    · simp only [placeEvent_loop, List.length_append, List.length_singleton]
      omega

/-- A warning's entry that keeps what is loaded and the masked field. -/
theorem setWarning_frame (w : Fin 32) (x : Warning) (s : State)
    (h : x.condition = (s.warnings.entries[w]).condition ∧ x.action = (s.warnings.entries[w]).action ∧
      x.enabled = (s.warnings.entries[w]).enabled ∧ x.masked = (s.warnings.entries[w]).masked) :
    WarnFrame s (s.setWarning w x) where
  rest := rfl
  loaded := fun v => by
    rw [State.setWarning_get]
    split
    · rename_i e; subst e; exact h
    · exact ⟨rfl, rfl, rfl, rfl⟩
  conds := rfl
  patterns := rfl
  setup := rfl
  display := rfl
  events := id
  packets := id
  chimes := id
  places := Nat.le_max_left _ _

/-- A chime operation that keeps the patterns, the setup and the bound. -/
theorem setChime_frame (c : Chime) (s : State)
    (h : c.patterns = s.chime.patterns ∧ c.setup = s.chime.setup ∧ (s.chime.queue.length ≤ 8 → c.queue.length ≤ 8)) :
    WarnFrame s { s with chime := c } where
  rest := rfl
  loaded := fun _ => ⟨rfl, rfl, rfl, rfl⟩
  conds := rfl
  patterns := h.1
  setup := h.2.1
  display := rfl
  events := id
  packets := id
  chimes := h.2.2
  places := Nat.le_max_left _ _

/-- A display operation that changes content only and keeps the six places. -/
theorem setDisplay_frame (d : Display) (s : State) (h : d = s.display.contentOf d)
    (hq : s.display.queue.length ≤ 6 → d.queue.length ≤ 6) : WarnFrame s { s with display := d } where
  rest := rfl
  loaded := fun _ => ⟨rfl, rfl, rfl, rfl⟩
  conds := rfl
  patterns := rfl
  setup := rfl
  display := h
  events := id
  packets := hq
  chimes := id
  places := Nat.le_max_left _ _

/-! ### The display's shared operations -/

theorem Display.itemChanged_content (d : Display) (i : Item) : d.itemChanged i = d.contentOf (d.itemChanged i) := by
  simp only [Display.itemChanged]
  split
  · rfl
  · split <;> rfl

theorem Display.contentOf_trans {d e f : Display} (h : e = d.contentOf e) (k : f = e.contentOf f) :
    f = d.contentOf f := by
  refine k.trans ?_
  rw [h]
  rfl

theorem Display.foldl_itemChanged_content (is : List Item) (d : Display) :
    is.foldl Display.itemChanged d = d.contentOf (is.foldl Display.itemChanged d) := by
  induction is generalizing d with
  | nil => rfl
  | cons i r ih => exact Display.contentOf_trans (Display.itemChanged_content d i) (ih (d.itemChanged i))

/-- A rebuild changes the display's content only (R146). -/
theorem rebuild_frame (s : State) : WarnFrame s (rebuild s) := by
  refine setDisplay_frame _ s ?_ (Display.takeImages_queue _ _)
  exact Display.contentOf_trans (d := s.display) (e := { s.display with images := buildImages s }) rfl
    (Display.foldl_itemChanged_content _ _)

/-- The shutdown check changes the link state, the poll timer and the poll want only (R161). -/
theorem checkShutdown_frame (s : State) : WarnFrame s (checkShutdown s) := by
  simp only [checkShutdown]
  split
  · exact setDisplay_frame _ s rfl id
  · exact WarnFrame.refl s

theorem Display.wake_content (d : Display) : d.wake = d.contentOf d.wake := by
  simp only [Display.wake]
  split <;> rfl

theorem Display.wake_queue (d : Display) : d.wake.queue = d.queue := by
  simp only [Display.wake]
  split <;> rfl

/-- A content notice changes the display's content only (R125). -/
theorem contentNotice_frame (mc : Option (Fin 64 × Bool)) (rear : Option (Fin 64)) (entered : Bool) (s : State) :
    WarnFrame s (contentNotice mc rear entered s) := by
  simp only [contentNotice]
  split
  · refine WarnFrame.trans (WarnFrame.trans ?_ (rebuild_frame _)) (checkShutdown_frame _)
    split
    · refine setDisplay_frame _ s ?_ ?_
      · exact Display.contentOf_trans (d := s.display) rfl (Display.wake_content _)
      · rw [Display.wake_queue]; exact id
    · exact setDisplay_frame _ s rfl id
  · exact WarnFrame.refl s

/-! ### The Warning Controller's shared operations -/

theorem notifyDisplay_frame (entered : Bool) (s : State) : WarnFrame s (notifyDisplay entered s) :=
  contentNotice_frame _ _ _ s

theorem changeState_frame (w : Fin 32) (new : WarnState) (cause : WarnCause) (s : State) :
    WarnFrame s (changeState w new cause s) :=
  WarnFrame.trans (setWarning_frame w { s.warnings.entries[w] with state := new } s ⟨rfl, rfl, rfl, rfl⟩)
    (report_frame _ _)

theorem stopTimers_frame (w : Fin 32) (s : State) : WarnFrame s (stopTimers w s) :=
  setWarning_frame w _ s ⟨rfl, rfl, rfl, rfl⟩

theorem setCounters_frame (w : Fin 32) (q c : Nat) (s : State) : WarnFrame s (setCounters w q c s) :=
  setWarning_frame w _ s ⟨rfl, rfl, rfl, rfl⟩

theorem releaseChimes_frame (w : Fin 32) (s : State) : WarnFrame s (releaseChimes w s) := by
  refine WarnFrame.trans (setWarning_frame w
    { s.warnings.entries[w] with markFront := false, markRear := false } s ⟨rfl, rfl, rfl, rfl⟩) ?_
  refine setChime_frame _ (s.setWarning w _) ?_
  simp only [State.setWarning_chime]
  cases hr : (s.warnings.entries[w]).markRear <;> cases hf : (s.warnings.entries[w]).markFront <;>
    simp only [Bool.false_eq_true, if_false, if_true]
  · exact ⟨trivial, trivial, id⟩
  · exact Chime.release_frame s.chime (.warning w) .front
  · exact Chime.release_frame s.chime (.warning w) .rear
  · have h1 := Chime.release_frame s.chime (.warning w) .front
    have h2 := Chime.release_frame (s.chime.release (.warning w) .front) (.warning w) .rear
    exact ⟨h2.1.trans h1.1, h2.2.1.trans h1.2.1, h2.2.2 ∘ h1.2.2⟩

theorem requestChimes_frame (w : Fin 32) (s : State) : WarnFrame s (requestChimes w s) := by
  simp only [requestChimes]
  split
  · exact WarnFrame.refl s
  · rename_i a _
    split
    · exact WarnFrame.refl s
    · rename_i p _
      refine WarnFrame.trans (setWarning_frame w
        { s.warnings.entries[w] with
          markFront := (s.warnings.entries[w]).markFront || a.routing != .rear,
          markRear := (s.warnings.entries[w]).markRear || a.routing != .front } s ⟨rfl, rfl, rfl, rfl⟩) ?_
      refine setChime_frame _ (s.setWarning w _) ?_
      simp only [State.setWarning_chime]
      cases a.routing <;> simp only [bne]
      all_goals first
        | exact Chime.request_frame s.chime (.warning w) .front p _ repeatsOf
        | exact Chime.request_frame s.chime (.warning w) .rear p _ repeatsOf
        | skip
      all_goals
        have h1 := Chime.request_frame s.chime (.warning w) .front p (rankOf w s.warnings.entries[w]) repeatsOf
        have h2 := Chime.request_frame
          (s.chime.request (.warning w) .front p (rankOf w s.warnings.entries[w]) repeatsOf) (.warning w) .rear p
          (rankOf w s.warnings.entries[w]) repeatsOf
        exact ⟨h2.1.trans h1.1, h2.2.1.trans h1.2.1, h2.2.2 ∘ h1.2.2⟩

theorem presentWarning_frame (w : Fin 32) (s : State) : WarnFrame s (presentWarning w s) :=
  ((changeState_frame w .presented .present s).trans (setWarning_frame w
    { (changeState w .presented .present s).warnings.entries[w] with
      presentTimer := match ((changeState w .presented .present s).warnings.entries[w]).action with
        | some a => presentStart a
        | none => none } _ ⟨rfl, rfl, rfl, rfl⟩)).trans
    ((requestChimes_frame w _).trans (notifyDisplay_frame true _))

theorem displaceWarning_frame (w : Fin 32) (s : State) : WarnFrame s (displaceWarning w s) :=
  (changeState_frame w .pending .displaced s).trans (stopTimers_frame w _)

/-- Selection (R120) stays within the frame. -/
theorem select_frame (s : State) : WarnFrame s (select s) := by
  simp only [select]
  split
  · exact notifyDisplay_frame false s
  · rename_i q _
    split
    · exact presentWarning_frame q s
    · rename_i p _
      split
      · exact (displaceWarning_frame p s).trans (presentWarning_frame q _)
      · exact notifyDisplay_frame false s

theorem endWarning_frame (w : Fin 32) (cause : WarnCause) (s : State) : WarnFrame s (endWarning w cause s) := by
  have h : WarnFrame s (releaseChimes w (stopTimers w (changeState w .idle cause s))) :=
    (changeState_frame w .idle cause s).trans ((stopTimers_frame w _).trans (releaseChimes_frame w _))
  simp only [endWarning]
  split
  · exact h.trans (select_frame _)
  · exact h.trans (notifyDisplay_frame false _)

theorem becameTrue_frame (w : Fin 32) (s : State) : WarnFrame s (becameTrue w s) := by
  simp only [becameTrue]
  split
  · exact (changeState_frame w .pending .qualify s).trans (select_frame _)
  · exact WarnFrame.refl s

theorem becameFalse_frame (w : Fin 32) (s : State) : WarnFrame s (becameFalse w s) := by
  simp only [becameFalse]
  split <;> first | exact WarnFrame.refl s | exact endWarning_frame w .clear s

/-- A change of a condition (R119) stays within the frame. -/
theorem setCondition_frame (w : Fin 32) (b : Bool) (s : State) : WarnFrame s (setCondition w b s) := by
  simp only [setCondition]
  split
  · exact WarnFrame.refl s
  · refine WarnFrame.trans (setWarning_frame w { s.warnings.entries[w] with holds := b } s ⟨rfl, rfl, rfl, rfl⟩) ?_
    split
    · exact becameTrue_frame w _
    · exact becameFalse_frame w _

theorem countVerdict_frame (w : Fin 32) (c : WarnCondition) (v : Bool) (s : State) :
    WarnFrame s (countVerdict w c v s) := by
  simp only [countVerdict]
  split
  · exact setCounters_frame w 0 0 s
  · split
    · split
      · exact (setCounters_frame w 0 0 s).trans (setCondition_frame w true _)
      · exact setCounters_frame w _ 0 s
    · split
      · exact (setCounters_frame w 0 0 s).trans (setCondition_frame w false _)
      · exact setCounters_frame w 0 _ s

/-- A gate test (R118) stays within the frame. -/
theorem testGate_frame (w : Fin 32) (s : State) : WarnFrame s (testGate w s) := by
  simp only [testGate]
  split
  · split
    · exact WarnFrame.refl s
    · split
      · exact (setWarning_frame w
          { s.warnings.entries[w] with gate := true, qualifyCount := 0, clearCount := 0 } s ⟨rfl, rfl, rfl, rfl⟩).trans
          (setCondition_frame w _ _)
      · have h := setWarning_frame w
          { s.warnings.entries[w] with gate := false, qualifyCount := 0, clearCount := 0, holds := false } s
          ⟨rfl, rfl, rfl, rfl⟩
        split
        · exact h
        all_goals repeat' split
        all_goals first
          | exact h
          | exact h.trans (endWarning_frame w .gate _)
  · exact WarnFrame.refl s

theorem foldl_frame {α : Type} (f : State → α → State) (h : ∀ s a, WarnFrame s (f s a)) (l : List α) (s : State) :
    WarnFrame s (l.foldl f s) := by
  induction l generalizing s with
  | nil => exact WarnFrame.refl s
  | cons a r ih => exact (h s a).trans (ih _)

theorem forWarnings_frame (f : Fin 32 → State → State) (h : ∀ w s, WarnFrame s (f w s)) (s : State) :
    WarnFrame s (forWarnings f s) := foldl_frame _ (fun t w => h w t) _ s

theorem testGates_frame (s : State) : WarnFrame s (testGates s) := forWarnings_frame _ testGate_frame s

theorem warnNotice_frame (n : Notice) (w : Fin 32) (s : State) : WarnFrame s (warnNotice n w s) := by
  have h := testGate_frame w s
  simp only [warnNotice]
  split
  · split
    · split
      · exact h.trans (countVerdict_frame w _ _ _)
      · exact h
    · exact h.trans (setCondition_frame w false _)
    · exact h.trans ((setCounters_frame w 0 0 _).trans (setCondition_frame w _ _))
    · exact h.trans (setCondition_frame w true _)
  · exact h

/-- A channel's notice at the Warning Controller stays within the frame (R20). -/
theorem warnChannel_frame (c : Fin 48) (n : Notice) (s : State) : WarnFrame s (warnChannel c n s) := by
  refine forWarnings_frame _ (fun w t => ?_) s
  show WarnFrame t (match (t.warnings.entries[w]).enabled, (t.warnings.entries[w]).condition with
    | true, some k => if k.channel = some c then warnNotice n w t else t
    | _, _ => t)
  split
  · split
    · exact warnNotice_frame n w t
    · exact WarnFrame.refl t
  · exact WarnFrame.refl t

theorem warnSubject_frame (kind : WarnKind) (subject : Nat) (w : Fin 32) (s : State) :
    WarnFrame s (warnSubject kind subject w s) := by
  simp only [warnSubject]
  split
  · split
    · split
      · exact (testGate_frame w s).trans (setCondition_frame w _ _)
      · exact testGate_frame w s
    · exact WarnFrame.refl s
  · exact WarnFrame.refl s

theorem warnStage_frame (i : Fin 8) (s : State) : WarnFrame s (warnStage i s) :=
  forWarnings_frame _ (warnSubject_frame _ _) s

/-- The five system conditions with one of them at `b`. -/
def Warnings.withSys (x : Warnings) (k : SysCond) (b : Bool) : Warnings :=
  match k with
  | .loopBroken => { x with loopBroken := b }
  | .odometerFault => { x with odometerFault := b }
  | .storeFault => { x with storeFault := b }
  | .clockInvalid => { x with clockInvalid := b }
  | .rearCall => { x with rearCall := b }

/-- A system condition takes its value and the others keep theirs; the rest stays within the frame (R107). -/
theorem setSys_frame (k : SysCond) (b : Bool) (s : State) :
    WarnFrame { s with warnings := s.warnings.withSys k b } (setSys k b s) := by
  simp only [setSys]
  split
  · rename_i h
    have e : s.warnings.withSys k b = s.warnings := by
      subst h
      cases k <;> rfl
    rw [e]
    exact WarnFrame.refl s
  · exact forWarnings_frame _ (warnSubject_frame _ _) _

theorem setSys_sys (k : SysCond) (b : Bool) (s : State) : (setSys k b s).warnings.sys k = b := by
  have h := (setSys_frame k b s).conds
  rw [h]
  cases k <;> rfl

end Sys2Proof.Machine
end

