-- ==== Sys2Proof/Laws/Kept.lean ====
section
/-! SUPPORT. What follows inside an event cannot change: the queue of commands, the supply, the Channel Table, the curves,
the key and the clock, the words of the store, and the Loop Port but for the responses it is given. Said once for each
shared operation of the odometer, the save pairs, the service reminder, the trip computer, the controller's settling and
the delivery of notices. -/

namespace Sys2Proof.Machine

/-- What the operations below leave as it was, and the bounds that they keep. -/
structure Kept (s t : State) : Prop where
  pending : t.pending = s.pending
  powered : t.powered = s.powered
  channels : t.channels = s.channels
  curves : t.curves = s.curves
  key : t.key = s.key
  mem : t.store.mem = s.store.mem
  loop : t.loop = { s.loop with overrun := t.loop.overrun, insertQ := t.loop.insertQ }
  events : s.handler.events.length ≤ 16 → t.handler.events.length ≤ 16
  packets : s.display.queue.length ≤ 6 → t.display.queue.length ≤ 6
  chimes : s.chime.queue.length ≤ 8 → t.chime.queue.length ≤ 8
  places : s.loop.insertQ.length ≤ 8 → t.loop.insertQ.length ≤ 8

theorem Kept.refl (s : State) : Kept s s := ⟨rfl, rfl, rfl, rfl, rfl, rfl, rfl, id, id, id, id⟩

theorem Kept.trans {s t u : State} (h : Kept s t) (k : Kept t u) : Kept s u where
  pending := k.pending.trans h.pending
  powered := k.powered.trans h.powered
  channels := k.channels.trans h.channels
  curves := k.curves.trans h.curves
  key := k.key.trans h.key
  mem := k.mem.trans h.mem
  loop := by
    refine k.loop.trans ?_
    rw [h.loop]
  events := k.events ∘ h.events
  packets := k.packets ∘ h.packets
  chimes := k.chimes ∘ h.chimes
  places := k.places ∘ h.places

/-- Whatever stays within the Warning Controller's frame is kept. -/
theorem WarnFrame.kept {s t : State} (h : WarnFrame s t) : Kept s t where
  pending := by rw [h.rest]
  powered := by rw [h.rest]
  channels := by rw [h.rest]
  curves := by rw [h.rest]
  key := by rw [h.rest]
  mem := by rw [h.rest]
  loop := by rw [h.rest]
  events := h.events
  packets := h.packets
  chimes := h.chimes
  places := fun b => by have := h.places; omega

/-! ### Updates of one block -/

theorem kept_trip (x : Trip) (s : State) : Kept s { s with trip := x } := ⟨rfl, rfl, rfl, rfl, rfl, rfl, rfl, id, id, id, id⟩
theorem kept_odometer (x : Odometer) (s : State) : Kept s { s with odometer := x } :=
  ⟨rfl, rfl, rfl, rfl, rfl, rfl, rfl, id, id, id, id⟩
theorem kept_service (x : Service) (s : State) : Kept s { s with service := x } :=
  ⟨rfl, rfl, rfl, rfl, rfl, rfl, rfl, id, id, id, id⟩
theorem kept_gauges (x : Vector Gauge 6) (s : State) : Kept s { s with gauges := x } :=
  ⟨rfl, rfl, rfl, rfl, rfl, rfl, rfl, id, id, id, id⟩
theorem kept_setPair (p : PairId) (x : Pair) (s : State) : Kept s (s.setPair p x) := by
  cases p <;> exact ⟨rfl, rfl, rfl, rfl, rfl, rfl, rfl, id, id, id, id⟩
theorem kept_store (x : Store) (s : State) (h : x.mem = s.store.mem) : Kept s { s with store := x } :=
  ⟨rfl, rfl, rfl, rfl, rfl, h, rfl, id, id, id, id⟩
theorem kept_handler (x : Handler) (s : State) (h : x.events = s.handler.events) : Kept s { s with handler := x } :=
  ⟨rfl, rfl, rfl, rfl, rfl, rfl, rfl, fun b => by show x.events.length ≤ 16; rw [h]; exact b, id, id, id⟩
theorem kept_display (x : Display) (s : State) (h : s.display.queue.length ≤ 6 → x.queue.length ≤ 6) :
    Kept s { s with display := x } := ⟨rfl, rfl, rfl, rfl, rfl, rfl, rfl, id, h, id, id⟩
theorem kept_warnings (x : Warnings) (s : State) : Kept s { s with warnings := x } :=
  ⟨rfl, rfl, rfl, rfl, rfl, rfl, rfl, id, id, id, id⟩

/-! ### Reports, responses and system conditions -/

theorem report_kept (e : Event) (s : State) : Kept s (report e s) := (report_frame e s).kept

theorem setSys_kept (k : SysCond) (b : Bool) (s : State) : Kept s (setSys k b s) :=
  (kept_warnings _ s).trans (setSys_frame k b s).kept

/-- A response takes one of the eight places, or waits (R171, R182). -/
theorem placeResponse_kept (f : Frame) (restart : Bool) (s : State) : Kept s (placeResponse f restart s) := by
  by_cases h : s.loop.insertQ.length < 8
  · rw [placeResponse_places f restart h]
    exact ⟨rfl, rfl, rfl, rfl, rfl, rfl, rfl, id, id, id, fun _ => by
      simp only [insertFrame_loop, List.length_append, List.length_singleton]
      omega⟩
  · rw [placeResponse_waits f restart (Nat.le_of_not_lt h)]
    exact kept_handler _ s rfl

theorem buildResponse_kept (r : Requester) (st : Status) (data : List Byte) (s : State) :
    Kept s (buildResponse r st data s).2 := ⟨rfl, rfl, rfl, rfl, rfl, rfl, rfl, id, id, id, id⟩

theorem holdResponse_kept (f : Frame) (s : State) : Kept s (holdResponse f s) := by
  unfold holdResponse
  split
  · exact placeResponse_kept f false s
  · exact kept_handler _ s rfl

/-! ### The Service Reminder -/

theorem stageNotice_kept (s : State) : Kept s (stageNotice s) := by
  refine (kept_display _ s ?_).trans (rebuild_frame _).kept
  split <;> exact id

theorem noteStage_kept (i : Fin 8) (old new : Stage) (s : State) : Kept s (noteStage i old new s) := by
  unfold noteStage
  split
  · exact Kept.refl s
  · exact ((report_kept _ s).trans (warnStage_frame i _).kept).trans (stageNotice_kept _)

/-- An evaluation (R99) is kept. -/
theorem evaluateItem_kept (i : Fin 8) (s : State) : Kept s (evaluateItem i s) := by
  unfold evaluateItem
  simp only
  split
  · exact (kept_service _ s).trans (noteStage_kept _ _ _ _)
  · exact Kept.refl s

theorem foldl_kept {α : Type} (f : State → α → State) (h : ∀ s a, Kept s (f s a)) (l : List α) (s : State) :
    Kept s (l.foldl f s) := by
  induction l generalizing s with
  | nil => exact Kept.refl s
  | cons a r ih => exact (h s a).trans (ih _)

theorem evaluateAll_kept (s : State) : Kept s (evaluateAll s) := foldl_kept _ (fun t i => evaluateItem_kept i t) _ s

theorem shownNotice_kept (s : State) : Kept s (shownNotice s) := by
  unfold shownNotice
  simp only
  split
  · exact Kept.refl s
  · exact (kept_service _ s).trans (evaluateAll_kept _)

theorem refreshStoreFault_kept (s : State) : Kept s (refreshStoreFault s) := setSys_kept _ _ s

/-! ### The save pairs (R85, R88) -/

theorem failSave_kept (p : PairId) (s : State) : Kept s (failSave p s) := (kept_setPair p _ s).trans (report_kept _ _)

theorem beginSave_kept (p : PairId) (data : List Word) (s : State) : Kept s (beginSave p data s) := by
  unfold beginSave
  simp only
  split
  · exact failSave_kept p s
  · exact kept_setPair p _ s

theorem requestSave_kept (p : PairId) (data : List Word) (s : State) : Kept s (requestSave p data s) := by
  unfold requestSave
  simp only
  split
  · exact beginSave_kept p data s
  · exact kept_setPair p _ s

theorem beginHeld_kept (p : PairId) (s : State) : Kept s (beginHeld p s) := by
  unfold beginHeld
  simp only
  split
  · exact (kept_setPair p _ s).trans (beginSave_kept p _ _)
  · exact Kept.refl s

theorem pairPump_kept (p : PairId) (s t : State) (h : pairPump p s = some t) : Kept s t := by
  unfold pairPump at h
  split at h
  · cases h
  · cases h
    exact (kept_setPair p _ s).trans (kept_store _ _ (by cases p <;> simp [State.setPair]))

theorem finishSave_kept (p : PairId) (j : SaveJob) (s : State) : Kept s (finishSave p j s) := by
  unfold finishSave
  simp only
  split
  · exact kept_setPair p _ s
  · exact (kept_setPair p _ s).trans (report_kept _ _)

/-- The end of a program of a pair's class is kept. -/
theorem pairProgramEnd_kept (p : PairId) (exceeded : Bool) (s : State) : Kept s (pairProgramEnd p exceeded s) := by
  unfold pairProgramEnd
  simp only
  repeat' split
  all_goals first
    | exact kept_setPair p _ s
    | exact (kept_setPair p _ s).trans (beginHeld_kept p _)
    | exact (kept_setPair p _ s).trans (failSave_kept p _)
    | exact (kept_setPair p _ s).trans (finishSave_kept p _ _)

theorem pairEraseEnd_kept (p : PairId) (o : Option EraseOutcome) (s : State) : Kept s (pairEraseEnd p o s) := by
  unfold pairEraseEnd
  simp only
  repeat' split
  all_goals first
    | exact kept_setPair p _ s
    | exact (kept_setPair p _ s).trans (beginHeld_kept p _)
    | exact (kept_setPair p _ s).trans (failSave_kept p _)

theorem serviceSaveEnd_kept (ok : Bool) (s : State) : Kept s (serviceSaveEnd ok s) := by
  unfold serviceSaveEnd
  simp only
  split
  · exact (((kept_service _ s).trans (refreshStoreFault_kept _)).trans (kept_service _ _)).trans (requestSave_kept _ _ _)
  · exact ((kept_service _ s).trans (refreshStoreFault_kept _)).trans (kept_service _ _)

/-- What follows the report of a trip save's end: the pending capture, if there is one. -/
theorem pendingCapture_kept (s : State) :
    Kept s (match s.trip.pendingCapture with
      | none => { s with trip := { s.trip with saving := false } }
      | some c =>
        let s2 := { s with trip := { s.trip with pendingCapture := none } }
        if s2.trip.savedCopy = some c then { s2 with trip := { s2.trip with saving := false } }
        else requestSave .trip c.words s2) := by
  split
  · exact kept_trip _ s
  · simp only
    split
    · exact kept_trip _ s
    · exact (kept_trip _ s).trans (requestSave_kept _ _ _)

theorem tripSaveEnd_kept (ok : Bool) (s : State) : Kept s (tripSaveEnd ok s) := by
  unfold tripSaveEnd
  exact ((kept_trip _ s).trans (refreshStoreFault_kept _)).trans (pendingCapture_kept _)

theorem tripCapture_kept (s : State) : Kept s (tripCapture s) := by
  unfold tripCapture
  simp only
  split
  · exact Kept.refl s
  · split
    · exact kept_trip _ s
    · split
      · exact Kept.refl s
      · exact (kept_trip _ s).trans (requestSave_kept _ _ _)

theorem askServiceSave_kept (s : State) : Kept s (askServiceSave s) := by
  unfold askServiceSave
  split
  · exact kept_service _ s
  · exact (kept_service _ s).trans (requestSave_kept _ _ _)

theorem takeServiceReset_kept (i : Fin 8) (src : ResetSource) (s : State) : Kept s (takeServiceReset i src s) := by
  unfold takeServiceReset
  simp only
  refine Kept.trans ?_ (askServiceSave_kept _)
  refine Kept.trans ?_ (report_kept _ _)
  refine Kept.trans ?_ (evaluateAll_kept _)
  exact kept_service _ s

/-! ### The Odometer (R79 to R82, R89) -/

theorem setOdoFault_kept (b : Bool) (s : State) : Kept s (setOdoFault b s) := by
  unfold setOdoFault
  split
  · exact Kept.refl s
  · exact ((kept_odometer _ s).trans (report_kept _ _)).trans (setSys_kept _ _ _)

theorem checkOdoFault_kept (s : State) : Kept s (checkOdoFault s) := by
  unfold checkOdoFault
  split
  · exact setOdoFault_kept _ s
  · exact Kept.refl s

/-- Metres handed to the Odometer (R79) are kept. -/
theorem addMetres_kept (metres : Nat) (s : State) : Kept s (addMetres metres s) := by
  unfold addMetres
  split
  · exact Kept.refl s
  · split
    · exact ((kept_odometer _ s).trans (shownNotice_kept _)).trans (checkOdoFault_kept _)
    · exact Kept.refl s

theorem placeOdometer_kept (step : StoreStep) (o : Odometer) (s : State) : Kept s (placeOdometer step o s) :=
  (kept_odometer o s).trans (kept_store _ _ (by simp))

theorem odometerPump_kept (s t : State) (h : odometerPump s = some t) : Kept s t := by
  unfold odometerPump at h
  simp only at h
  split at h
  · cases h
  · split at h
    · split at h
      · cases h
      · obtain ⟨_, _, rfl⟩ := Option.map_eq_some_iff.mp h
        exact placeOdometer_kept _ _ s
    · split at h
      · cases h
        exact placeOdometer_kept _ _ s
      · split at h
        · split at h <;> cases h <;> exact placeOdometer_kept _ _ s
        · split at h
          · cases h
            exact placeOdometer_kept _ _ s
          · split at h
            · cases h
              exact placeOdometer_kept _ _ s
            · obtain ⟨_, _, rfl⟩ := Option.map_eq_some_iff.mp h
              exact placeOdometer_kept _ _ s

theorem answerSetting_kept (st : Status) (s : State) : Kept s (answerSetting st s) := by
  have h : Kept s { s with handler := { s.handler with setRequester := none },
                           odometer := { s.odometer with setting := none } } :=
    (kept_handler { s.handler with setRequester := none } s rfl).trans (kept_odometer _ _)
  unfold answerSetting
  simp only
  split
  · exact h
  · exact h.trans ((buildResponse_kept _ _ _ _).trans (holdResponse_kept _ _))

theorem finishSetting_kept (t : Fin 8) (value : Nat) (s : State) : Kept s (finishSetting t value s) :=
  (((kept_odometer _ s).trans (setOdoFault_kept _ _)).trans (shownNotice_kept _)).trans (answerSetting_kept _ _)

theorem incrementEnd_kept (r : ProgramReport) (s : State) : Kept s (incrementEnd r s) := by
  unfold incrementEnd
  simp only
  split
  · exact kept_odometer _ s
  · exact (kept_odometer _ s).trans (setOdoFault_kept _ _)

theorem rotationEnd_kept (rot : Rotation) (exceeded : Bool) (s : State) : Kept s (rotationEnd rot exceeded s) := by
  unfold rotationEnd
  simp only
  split
  · exact (kept_odometer _ s).trans (setOdoFault_kept _ _)
  · split <;> exact kept_odometer _ s

theorem settingEnd_kept (g : Setting) (exceeded : Bool) (s : State) : Kept s (settingEnd g exceeded s) := by
  unfold settingEnd
  split
  · exact Kept.refl s
  · exact Kept.refl s
  · split
    · exact answerSetting_kept _ s
    · exact kept_odometer _ s
  · exact finishSetting_kept _ _ s

/-- The end of an ODOMETER program is kept. -/
theorem odometerProgramEnd_kept (r : ProgramReport) (s : State) : Kept s (odometerProgramEnd r s) := by
  unfold odometerProgramEnd
  simp only
  repeat' split
  all_goals first
    | exact kept_odometer _ s
    | exact ((kept_odometer _ s).trans (kept_odometer _ _)).trans (checkOdoFault_kept _)
    | exact ((kept_odometer _ s).trans (incrementEnd_kept _ _)).trans (checkOdoFault_kept _)
    | exact ((kept_odometer _ s).trans (rotationEnd_kept _ _ _)).trans (checkOdoFault_kept _)
    | exact ((kept_odometer _ s).trans (settingEnd_kept _ _ _)).trans (checkOdoFault_kept _)

theorem odometerEraseEnd_kept (os : List (Fin 8 × EraseOutcome)) (s : State) : Kept s (odometerEraseEnd os s) := by
  unfold odometerEraseEnd
  simp only
  repeat' split
  all_goals first
    | exact kept_odometer _ s
    | exact (kept_odometer _ s).trans (checkOdoFault_kept _)
    | exact (kept_odometer _ s).trans (answerSetting_kept _ _)

/-! ### Settling -/

theorem answerExternal_kept (st : Status) (data : List Byte) (s : State) : Kept s (answerExternal st data s) := by
  have h : Kept s { s with handler := { s.handler with ext := none, extRequester := none } } := kept_handler _ s rfl
  unfold answerExternal
  simp only
  split
  · exact h
  · exact h.trans ((buildResponse_kept _ _ _ _).trans (holdResponse_kept _ _))

theorem externalEraseEnd_kept (b : BitVec 8) (os : List (Fin 8 × EraseOutcome)) (s : State) :
    Kept s (externalEraseEnd b os s) := by
  unfold externalEraseEnd
  split
  · exact answerExternal_kept _ _ s
  · exact Kept.refl s

/-- A program's outcome at its class is kept. -/
theorem classProgramEnd_kept (r : ProgramReport) (s : State) : Kept s (classProgramEnd r s) := by
  unfold classProgramEnd
  split
  · exact odometerProgramEnd_kept r s
  · exact pairProgramEnd_kept _ _ s
  · exact pairProgramEnd_kept _ _ s
  · exact answerExternal_kept _ _ s

theorem classEraseEnd_kept (c : StoreClass) (b : BitVec 8) (os : List (Fin 8 × EraseOutcome)) (s : State) :
    Kept s (classEraseEnd c b os s) := by
  unfold classEraseEnd
  simp only
  split
  · exact odometerEraseEnd_kept os s
  · exact pairEraseEnd_kept _ _ s
  · exact pairEraseEnd_kept _ _ s
  · exact externalEraseEnd_kept b os s

theorem reportSave_kept (p : PairId) (s t : State) (h : reportSave p s = some t) : Kept s t := by
  unfold reportSave at h
  split at h
  · cases h
  · cases h
    cases p
    · exact (kept_setPair _ _ s).trans (tripSaveEnd_kept _ _)
    · exact (kept_setPair _ _ s).trans (serviceSaveEnd_kept _ _)

theorem reportErase_kept (s t : State) (h : reportErase s = some t) : Kept s t := by
  unfold reportErase at h
  split at h
  · cases h
  · cases h
    refine Kept.trans ?_ (classEraseEnd_kept _ _ _ _)
    exact kept_store _ s (by simp [Store.dropStep])

theorem takeNext_kept (s t : State) (h : takeNext s = some t) : Kept s t := by
  obtain ⟨x, hx, rfl⟩ := Option.map_eq_some_iff.mp h
  exact kept_store x s (Store.take_mem _ _ hx)

theorem orElse_some {α : Type} {a b : Option α} {t : α} (h : (a <|> b) = some t) : a = some t ∨ b = some t := by
  cases a with
  | none => exact Or.inr h
  | some u => exact Or.inl h

theorem settleOnce_kept (s t : State) (h : settleOnce s = some t) : Kept s t := by
  unfold settleOnce at h
  rcases orElse_some h with h | h
  · exact reportSave_kept .trip s t h
  rcases orElse_some h with h | h
  · exact reportSave_kept .service s t h
  rcases orElse_some h with h | h
  · exact reportErase_kept s t h
  rcases orElse_some h with h | h
  · exact odometerPump_kept s t h
  rcases orElse_some h with h | h
  · exact pairPump_kept .trip s t h
  rcases orElse_some h with h | h
  · exact pairPump_kept .service s t h
  · exact takeNext_kept s t h

theorem settleFor_kept (n : Nat) (s : State) : Kept s (settleFor n s) := by
  induction n generalizing s with
  | zero => exact Kept.refl s
  | succ n ih =>
    unfold settleFor
    split
    · rename_i t h
      exact (settleOnce_kept s t h).trans (ih t)
    · exact Kept.refl s

/-- Everything that follows within an event is kept. -/
theorem settle_kept (s : State) : Kept s (settle s) := settleFor_kept s.settleBound s

/-! ### The Trip Computer -/

theorem addField_kept (r : Fin 4) (f : TripField) (n : Nat) (s : State) : Kept s (addField r f n s) := by
  unfold addField
  simp only
  split
  · exact (kept_trip _ s).trans (report_kept _ _)
  · exact kept_trip _ s

theorem addToRecords_kept (f : TripField) (n : Nat) (s : State) : Kept s (addToRecords f n s) := by
  refine foldl_kept _ (fun t r => ?_) _ s
  split
  · exact addField_kept r f n t
  · exact Kept.refl t

theorem applyDistance_kept (k delta : Nat) (s : State) : Kept s (applyDistance k delta s) := by
  unfold applyDistance
  simp only
  split
  · exact kept_trip _ s
  · exact ((kept_trip _ s).trans (addToRecords_kept _ _ _)).trans (addMetres_kept _ _)

theorem applyFuel_kept (u delta : Nat) (s : State) : Kept s (applyFuel u delta s) := by
  unfold applyFuel
  simp only
  split
  · exact kept_trip _ s
  · exact (kept_trip _ s).trans (addToRecords_kept _ _ _)

theorem rollingCount_kept (t : TripSetup) (fuel : Bool) (count : Nat) (seeded : Bool) (s : State) :
    Kept s (rollingCount t fuel count seeded s) := by
  unfold rollingCount
  simp only
  repeat' split
  all_goals first
    | exact kept_trip _ s
    | exact (kept_trip _ s).trans (report_kept _ _)
    | exact (kept_trip _ s).trans (applyFuel_kept _ _ _)
    | exact (kept_trip _ s).trans (applyDistance_kept _ _ _)

theorem rollingNotice_kept (t : TripSetup) (fuel : Bool) (n : Notice) (s : State) :
    Kept s (rollingNotice t fuel n s) := by
  unfold rollingNotice
  split
  · exact rollingCount_kept _ _ _ _ s
  · exact Kept.refl s
  · exact Kept.refl s
  · exact kept_trip _ s

theorem tripNotice_kept (c : Fin 48) (n : Notice) (s : State) : Kept s (tripNotice c n s) := by
  unfold tripNotice
  split
  · exact Kept.refl s
  · simp only
    repeat' split
    all_goals first
      | exact Kept.refl s
      | exact rollingNotice_kept _ _ _ s
      | exact (rollingNotice_kept _ _ _ s).trans (rollingNotice_kept _ _ _ _)

theorem tripSeconds_kept (s : State) : Kept s (tripSeconds s) := by
  unfold tripSeconds
  split
  · exact Kept.refl s
  · refine foldl_kept _ (fun t r => ?_) _ s
    simp only
    repeat' split
    all_goals first
      | exact Kept.refl t
      | exact addField_kept _ _ _ t
      | exact (addField_kept _ _ _ t).trans (addField_kept _ _ _ _)

theorem resetTrip_kept (r : Fin 4) (cause : TripCause) (s : State) : Kept s (resetTrip r cause s) :=
  (kept_trip _ s).trans (report_kept _ _)

theorem tripKey_kept (old new : KeyState) (s : State) : Kept s (tripKey old new s) := by
  unfold tripKey journeyTest
  repeat' split
  all_goals first
    | exact resetTrip_kept _ _ s
    | exact tripCapture_kept s
    | exact Kept.refl s

end Sys2Proof.Machine
end

