-- ==== Sys2Proof/Laws/Requests.lean ====
section
/-! SUPPORT. What the shared operations of the request handler do, said once: a command on a part with its supply, a
request carried out at its arrival, its response, the parts of a paged read, the offers of a free place, and the ends of
`pump` and `settle`. -/

namespace Sys2Proof.Machine

/-! ### A command and the supply -/

/-- A command on a part that has its supply has its effect. -/
theorem live_powered (f : State → State) (s : State) (h : s.powered = true) : live f s = .next (f s) := by
  simp [live, h]

/-- A command on a part without its supply does nothing (log entry 20). -/
theorem live_unpowered (f : State → State) (s : State) (h : s.powered = false) : live f s = .next s := by
  simp [live, h]

/-! ### A request that is carried out at its arrival (R180) -/

/-- What `takes` says. -/
theorem State.takes_iff (s : State) (h : Head) : s.takes h = true ↔
    s.powered = true ∧ h.node ≠ s.loop.node ∧ s.loop.requestQ = [] ∧ s.handlerFree = true := by
  simp [State.takes, and_assoc]

/-- Whether a request is taken depends on its sender only. -/
theorem State.takes_congr (s : State) {h k : Head} (e : h.node = k.node) : s.takes h = s.takes k := by
  simp [State.takes, e]

/-- A request row is the arrival of its request (log entry 5). -/
theorem exec_request {i : Instr} {n : Node} {p : List Byte} (s : State) (hi : ∀ m q, i ≠ .unknownRequest m q)
    (he : encodeRequest i = some (n, p)) : exec i s = live (arrive i) s := by
  cases i <;> first | (rw [encodeRequest] at he; cases he; done) | (exact absurd rfl (hi _ _)) | rfl

/-- A request that finds the handler free is carried out. -/
theorem arrive_taken {i : Instr} {n : Node} {p : List Byte} {s : State} (he : encodeRequest i = some (n, p))
    (hn : n ≠ s.loop.node) (hq : s.loop.requestQ = []) (hf : s.handlerFree = true) : arrive i s = serve i s := by
  simp [arrive, he, hn, hq, hf]

/-- Both together: the request's row answers the state after its being carried out. -/
theorem exec_taken {i : Instr} {h : Head} {p : List Byte} {s : State} (hi : ∀ m q, i ≠ .unknownRequest m q)
    (he : encodeRequest i = some (h.node, p)) (ht : s.takes h = true) : exec i s = .next (serve i s) := by
  obtain ⟨hp, hn, hq, hf⟩ := (State.takes_iff s h).mp ht
  rw [exec_request s hi he, live_powered _ _ hp, arrive_taken he hn hq hf]

/-! ### The response (R181) -/

/-- With a place free the response takes it and nothing else changes but the overrun flag (R171, R181). -/
theorem answered_room {h : Head} {code : Byte} {st : Status} {data : List Byte} {s : State}
    (hq : s.loop.insertQ.length < 8) : answered h code st data s =
      { s with loop := { s.loop with overrun := false, insertQ := s.loop.insertQ ++
        [{ frame := responseFrame h code st data s, restart := false }] } } := if_pos hq

/-- A take finds a place free. -/
theorem State.takes_room {s : State} {h : Head} (ht : s.takes h = true) : s.loop.insertQ.length < 8 := by
  have hf := ((State.takes_iff s h).mp ht).2.2.2
  simp only [State.handlerFree, Bool.and_eq_true] at hf
  have := of_decide_eq_true hf.1.1
  simp only [State.freePlaces] at this
  omega

/-- An answer given at once places its response. -/
theorem respond_now (h : Head) (code : Byte) (st : Status) (data : List Byte) (t : State) :
    respond h code false (t, .now st data) = answered h code st data t := by
  by_cases hq : t.loop.insertQ.length < 8
  · rw [answered_room hq]
    exact placeResponse_places _ _ hq
  · rw [answered, if_neg hq]
    exact placeResponse_waits _ _ (Nat.le_of_not_lt hq)

/-- A store request that passed its checks places none yet (R182). -/
theorem respond_later (h : Head) (code : Byte) (restart : Bool) (t : State) : respond h code restart (t, .later) = t := rfl

/-- A refusal changes nothing but its response. -/
theorem respond_refuse (h : Head) (code : Byte) (st : Status) (s : State) :
    respond h code false (refuse st s) = answered h code st [] s := respond_now h code st [] s

/-- A response changes the insert queue, the overrun flag and, with no place free, the held responses only. -/
theorem answered_eq (h : Head) (code : Byte) (st : Status) (data : List Byte) (s : State) :
    answered h code st data s =
      { s with loop := { s.loop with overrun := false, insertQ := (answered h code st data s).loop.insertQ },
               handler := { s.handler with held := (answered h code st data s).handler.held } } := by
  by_cases hq : s.loop.insertQ.length < 8
  · rw [answered_room hq]
  · rw [answered, if_neg hq]

/-! ### Paged reads (R181) -/

/-- A part above the last one. -/
theorem pageOf_above {part : Option Byte} {content : List Byte} (h : (content.length - 1) / 11 < (part.getD 0).toNat) :
    pageOf part content = .now .badArgument [] := if_pos h

/-- A part up to the last one: the part byte and up to 11 bytes. -/
theorem pageOf_within {part : Option Byte} {content : List Byte} (h : (part.getD 0).toNat ≤ (content.length - 1) / 11) :
    pageOf part content = .now .ok (BitVec.ofNat 8 (16 * (part.getD 0).toNat + (content.length - 1) / 11) ::
      (content.drop (11 * (part.getD 0).toNat)).take 11) := if_neg (Nat.not_lt.mpr h)

/-- A paged read of an index in the table. -/
theorem pagedAt_some {n : Nat} (part : Option Byte) (k : Fin n) (content : Fin n → List Byte) (s : State) :
    pagedAt part (some k) content s = (s, pageOf part (content k)) := rfl

/-- A paged read of an index outside the table. -/
theorem pagedAt_none {n : Nat} (part : Option Byte) (content : Fin n → List Byte) (s : State) :
    pagedAt part none content s = (s, .now .badArgument []) := rfl

/-- An index byte that names an entry of the table. -/
theorem fin?_some {n : Nat} (k : Fin n) {i : Nat} (h : i = k.val) : fin? n i = some k := by
  subst h; simp [fin?]

/-- An index byte above the table. -/
theorem fin?_none {n i : Nat} (h : n ≤ i) : fin? n i = none := by
  simp [fin?, Nat.not_lt.mpr h]

/-! ### The offers of a free place (R171) -/

/-- What keeps every waiting producer from placing: no place for a held response or a request that may be taken, and no
place for a stream frame. -/
theorem State.producerWaits_eq_false {s : State}
    (hr : 8 ≤ s.loop.insertQ.length ∨
      (s.handler.held = [] ∧ (s.handler.restartPending = true ∨ s.loop.requestQ = [])))
    (hs : 6 ≤ s.loop.insertQ.length ∨
      (s.handler.startUp = none ∧ s.handler.events = [] ∧ ∀ c, s.handler.dump ≠ .streaming c)) :
    s.producerWaits = false := by
  have h1 : (decide (0 < s.freePlaces) &&
      (!s.handler.held.isEmpty || (!s.handler.restartPending && !s.loop.requestQ.isEmpty))) = false := by
    rcases hr with hr | ⟨hh, hr⟩
    · have : ¬ 0 < s.freePlaces := by
        unfold State.freePlaces
        omega
      simp [this]
    · rcases hr with hr | hr <;> simp [hh, hr]
  have h2 : (s.streamRoom && (s.handler.startUp.isSome || !s.handler.events.isEmpty || s.handler.dump.isStreaming)) =
      false := by
    rcases hs with hs | ⟨ha, hb, hc⟩
    · have : s.streamRoom = false := by
        rw [← Bool.not_eq_true, State.streamRoom_iff]
        omega
      simp [this]
    · have : s.handler.dump.isStreaming = false := by
        cases hd : s.handler.dump with
        | streaming c => exact absurd hd (hc c)
        | idle => rfl
        | aborted c => rfl
      simp [this, ha, hb]
  unfold State.producerWaits
  rw [h1, h2]
  rfl

/-- With no producer that waits and can place, the offers change nothing. -/
theorem offer_none {s : State} (h : s.producerWaits = false) : offer s = s := by
  simp [offer, offerFor, h]

/-- With 2 places free or fewer, or no dump streaming, no dump frame is built (R188). -/
theorem buildDump_waits {s : State} (h : 6 ≤ s.loop.insertQ.length ∨ ∀ c, s.handler.dump ≠ .streaming c) :
    buildDump s = s := by
  unfold buildDump
  split
  · rename_i c hd
    rcases h with h | h
    · rw [if_neg]
      rw [State.streamRoom_iff]
      omega
    · exact absurd hd (h c)
  · rfl

/-- Nor are several. -/
theorem dumpFill_waits {s : State} (h : 6 ≤ s.loop.insertQ.length ∨ ∀ c, s.handler.dump ≠ .streaming c) :
    dumpFill s = s := by
  simp [dumpFill, dumpFor, buildDump_waits h]

/-! ### The ends of `pump` and `settle` -/

/-- With no request waiting, the offer of a place changes nothing. -/
theorem pump_empty {s : State} (h : s.loop.requestQ = []) : pump s = s := by
  simp [pump, h, pumpFor]

/-- With the handler not free, the offer of a place changes nothing. -/
theorem pump_busy {s : State} (h : s.handlerFree = false) : pump s = s := by
  unfold pump
  cases hq : s.loop.requestQ with
  | nil => rfl
  | cons f r => simp [pumpFor, hq, h]

/-- With nothing left to follow, `settle` changes nothing. -/
theorem settle_of_none {s : State} (h : settleOnce s = none) : settle s = s := by
  have hb : s.settleBound = (127 + 16 * s.store.joined.length) + 1 := by simp only [State.settleBound]; omega
  simp [settle, hb, settleFor, h]

/-! ### A step -/

/-- A step on a queue with a command in front. -/
theorem step_cons (c : Instr) (s : State) : step { s with pending := c :: s.pending } = exec c s := rfl

/-- A step on an empty queue. -/
theorem step_idle {s : State} (h : s.pending = []) : step s = .next (idleMillisecond s) := by
  simp [step, h]

end Sys2Proof.Machine
end

