-- ==== Sys2Proof/Laws/Settle.lean ====
section
/-! SUPPORT. That what follows within an event comes to an end: each follow-up of `settleOnce` takes something off a count
of the work that is left, and the bound of `settle` exceeds that count (log entry 24). -/

namespace Sys2Proof.Machine

/-! ### The count of the work that is left -/

/-- What an erase step of a class counts while it stands in its slot. -/
def slotCount (c : StoreClass) : Option StoreStep → Nat
  | some (.erase _) => (match c with | .odometer => 1 | .trip => 12 | .service => 12 | .external => 1)
  | _ => 0

/-- What an erase step of the erase set counts. -/
def joinCount : StoreClass × BitVec 8 → Nat
  | (.odometer, b) => if b = 0 then 5 else 3
  | (.trip, _) => 12
  | (.service, _) => 12
  | (.external, _) => 1

/-- The steps that have been placed. -/
def Store.placedCount (x : Store) : Nat :=
  slotCount .odometer x.slotOdometer + slotCount .trip x.slotTrip + slotCount .service x.slotService +
    slotCount .external x.slotExternal + (x.joined.map joinCount).sum

/-- A take is to come. -/
def ctlCount (x : Store) : Nat := if x.ctl = .ready then 10 else 0

/-- A pair's next step is an erase. -/
def Pair.erases (x : Pair) : Bool :=
  x.recovery.isEmpty && (match x.job with | some j => decide (j.phase = .erase) | none => x.tidy.isSome)

def jobCount : Option SaveJob → Nat
  | some j => if j.phase = .erase then 4 else 3
  | none => 0

/-- The steps and saves that a pair may still bring; `again` is its owner's wish for another save. -/
def Pair.count (x : Pair) (again : Bool) : Nat :=
  jobCount x.job + (if x.held.isSome then 6 else 0) + (if again then 6 else 0) + (if x.ended.isSome then 1 else 0) +
    (if x.out then 0 else if x.erases then 13 else 11)

/-- The steps that the Odometer may still bring. -/
def Odometer.count (o : Odometer) (window : Bool) : Nat :=
  (if o.work.isSome then 0 else 11) +
    (if o.eraseOut then 0 else if window then (if o.setting.isSome then 6 else 4) else 2)

/-- The work that is left within the event. -/
def State.workLeft (s : State) : Nat :=
  s.odometer.count (decide (s.store.ctl = .eraseWindow)) + s.tripPair.count s.trip.pendingCapture.isSome +
    s.servicePair.count s.service.saveAgain + s.store.placedCount + ctlCount s.store

theorem joinCount_le (j : StoreClass × BitVec 8) : joinCount j ≤ 12 := by
  obtain ⟨c, b⟩ := j
  cases c <;> simp only [joinCount] <;> try split
  all_goals omega

theorem joinCount_sum (l : List (StoreClass × BitVec 8)) : (l.map joinCount).sum ≤ 12 * l.length := by
  induction l with
  | nil => simp
  | cons j r ih =>
    have := joinCount_le j
    simp only [List.map_cons, List.sum_cons, List.length_cons]
    omega

theorem slotCount_le (c : StoreClass) (v : Option StoreStep) : slotCount c v ≤ 12 := by
  unfold slotCount
  split <;> (try split) <;> omega

theorem slotCount_small (v : Option StoreStep) : slotCount .odometer v ≤ 1 ∧ slotCount .external v ≤ 1 := by
  unfold slotCount
  split <;> simp

theorem Pair.count_le (x : Pair) (again : Bool) : x.count again ≤ 30 := by
  unfold Pair.count jobCount
  repeat' split
  all_goals omega

/-- The bound of `settle` exceeds the count. -/
theorem workLeft_le (s : State) : s.workLeft ≤ s.settleBound := by
  have h1 := joinCount_sum s.store.joined
  have h2 := slotCount_small s.store.slotOdometer
  have h3 := slotCount_small s.store.slotExternal
  have h4 := slotCount_le .trip s.store.slotTrip
  have h5 := slotCount_le .service s.store.slotService
  have h6 := s.tripPair.count_le s.trip.pendingCapture.isSome
  have h7 := s.servicePair.count_le s.service.saveAgain
  have h8 : s.odometer.count (decide (s.store.ctl = .eraseWindow)) ≤ 17 := by
    unfold Odometer.count
    repeat' split
    all_goals omega
  have h9 : ctlCount s.store ≤ 10 := by unfold ctlCount; split <;> omega
  unfold State.workLeft State.settleBound Store.placedCount
  omega

/-! ### The store's operations -/

theorem Store.slot_count (x : Store) (c : StoreClass) (v : Option StoreStep) :
    (x.setSlot c v).placedCount + slotCount c (x.slot c) = x.placedCount + slotCount c v := by
  cases c <;> simp only [Store.setSlot, Store.slot, Store.placedCount] <;> omega

theorem Store.join_count (x : Store) (c : StoreClass) (b : BitVec 8) :
    (x.join c b).placedCount + slotCount c (x.slot c) = x.placedCount + joinCount (c, b) := by
  have h := x.slot_count c none
  have e : (x.join c b).placedCount = (x.setSlot c none).placedCount + joinCount (c, b) := by
    cases c <;> simp only [Store.join, Store.setSlot, Store.placedCount, List.map_append, List.sum_append, List.map_cons,
      List.map_nil, List.sum_cons, List.sum_nil] <;> omega
  have e0 : slotCount c none = 0 := rfl
  omega

theorem Store.beginFrom_count (l : List (Fin 8)) (x : Store) :
    (Store.beginFrom l x).placedCount = x.placedCount ∧
      ((Store.beginFrom l x).ctl = .ready ∨ (Store.beginFrom l x).ctl = .erasing) := by
  induction l generalizing x with
  | nil => exact ⟨rfl, Or.inl rfl⟩
  | cons k r ih =>
    unfold Store.beginFrom
    split
    · exact ih _
    · exact ⟨rfl, Or.inr rfl⟩

theorem Store.closeWindow_count (x : Store) :
    x.closeWindow.placedCount = x.placedCount ∧ (x.closeWindow.ctl = .ready ∨ x.closeWindow.ctl = .erasing) :=
  Store.beginFrom_count _ _

theorem Store.setSlot_ctl (x : Store) (c : StoreClass) (v : Option StoreStep) :
    (x.setSlot c v).ctl = x.ctl ∧ (x.setSlot c v).outcomes = x.outcomes := by
  cases c <;> exact ⟨rfl, rfl⟩

/-- An erase that is placed waits in its slot, or joins the window. -/
theorem Store.placeErase_count (x : Store) (c : StoreClass) (b : BitVec 8) :
    (x.place c (.erase b)).ctl = x.ctl ∧ (x.place c (.erase b)).outcomes = x.outcomes ∧
      (x.place c (.erase b)).placedCount + slotCount c (x.slot c) =
        x.placedCount + (if x.ctl = .eraseWindow then joinCount (c, b) else slotCount c (some (.erase b))) := by
  unfold Store.place
  simp only
  split
  · refine ⟨?_, ?_, x.join_count c b⟩
    · exact (x.setSlot_ctl c none).1
    · exact (x.setSlot_ctl c none).2
  · exact ⟨(x.setSlot_ctl c _).1, (x.setSlot_ctl c _).2, x.slot_count c _⟩

/-- A program that is placed waits in its slot; it may close the window. -/
theorem Store.placeProgram_count (x : Store) (c : StoreClass) (a : Fin 256) (v : Word) :
    (x.place c (.program a v)).placedCount ≤ x.placedCount ∧ (x.place c (.program a v)).ctl ≠ .eraseWindow ∧
      (x.ctl = .eraseWindow ∨ ((x.place c (.program a v)).ctl = .ready → x.ctl = .ready)) := by
  have hs := x.setSlot_ctl c (some (.program a v))
  have hc := x.slot_count c (some (.program a v))
  have h0 : slotCount c (some (.program a v)) = 0 := rfl
  have hw := (x.setSlot c (some (.program a v))).closeWindow_count
  unfold Store.place
  by_cases hx : x.ctl = .eraseWindow
  · simp only [hx, if_true]
    split
    · refine ⟨?_, by simp, Or.inl trivial⟩
      show Store.placedCount (Store.closeWindow _) ≤ _
      omega
    · refine ⟨by omega, ?_, Or.inl trivial⟩
      rcases hw.2 with h | h <;> rw [h] <;> simp
  · simp only [hx, if_false, false_or]
    split
    · refine ⟨?_, by simp, by simp⟩
      show Store.placedCount (Store.setSlot _ _ _) ≤ _
      omega
    · exact ⟨by omega, by rw [hs.1]; exact hx, by rw [hs.1]; exact id⟩

theorem Store.gather_count (x : Store) (c : StoreClass) :
    (x.gather c).ctl = x.ctl ∧ (x.gather c).outcomes = x.outcomes ∧
      (x.gather c).placedCount ≤ x.placedCount + (if c = .odometer then 4 else 0) := by
  unfold Store.gather
  split
  · rename_i b hb
    have h := x.join_count c b
    rw [hb] at h
    refine ⟨(x.setSlot_ctl c none).1, (x.setSlot_ctl c none).2, ?_⟩
    revert h
    cases c <;> simp only [slotCount, joinCount, if_true, reduceCtorEq, if_false] <;> try split
    all_goals omega
  · exact ⟨rfl, rfl, by omega⟩

/-- A take leaves READY: a program starts, or the window opens with no outcome in it. -/
theorem Store.take_count (x y : Store) (h : x.take = some y) :
    x.ctl = .ready ∧ y.ctl ≠ .ready ∧ (y.ctl = .eraseWindow → y.outcomes = []) ∧ y.placedCount ≤ x.placedCount + 4 := by
  unfold Store.take at h
  split at h
  · rename_i hr
    refine ⟨hr, ?_⟩
    split at h
    · cases h
    · rename_i c hc
      split at h
      · cases h
        rename_i a v hv
        have := x.slot_count c none
        have e0 : slotCount c none = 0 := rfl
        refine ⟨by simp, by simp, ?_⟩
        show (x.setSlot c none).placedCount ≤ _
        omega
      · cases h
        rename_i b hb
        obtain ⟨y0, hy0⟩ : ∃ y0 : Store, y0 = { x with ctl := .eraseWindow, window := some 10, outcomes := [] } := ⟨_, rfl⟩
        rw [← hy0]
        have c0 : y0.ctl = .eraseWindow ∧ y0.outcomes = [] ∧ y0.placedCount = x.placedCount := by rw [hy0]; exact ⟨rfl, rfl, rfl⟩
        have h1 := y0.gather_count .odometer
        have h2 := (y0.gather .odometer).gather_count .trip
        have h3 := ((y0.gather .odometer).gather .trip).gather_count .service
        have h4 := (((y0.gather .odometer).gather .trip).gather .service).gather_count .external
        simp only [if_true, reduceCtorEq, if_false] at h1 h2 h3 h4
        simp only [allClasses, List.foldl_cons, List.foldl_nil]
        refine ⟨?_, fun _ => ?_, by omega⟩
        · rw [h4.1, h3.1, h2.1, h1.1, c0.1]; simp
        · rw [h4.2.1, h3.2.1, h2.2.1, h1.2.1, c0.2.1]
      · cases h
  · cases h

/-- A finished erase step that is dropped. -/
theorem Store.dropStep_count (x : Store) (j : StoreClass × BitVec 8) (h : x.finishedStep = some j) :
    (x.dropStep j).ctl = x.ctl ∧ (x.outcomes = [] → (x.dropStep j).outcomes = [] ∧ sectorsOf j.2 = []) ∧
      (x.dropStep j).placedCount + joinCount j = x.placedCount := by
  unfold Store.finishedStep at h
  have hm := List.mem_of_find?_eq_some h
  have hp := List.find?_some h
  refine ⟨rfl, fun e => ⟨?_, ?_⟩, ?_⟩
  · simp [Store.dropStep, e]
  · cases hs : sectorsOf j.2 with
    | nil => rfl
    | cons k r => simp [hs, e, outcomeOf] at hp
  · have := ((List.perm_cons_erase hm).map joinCount).sum_eq
    rw [List.map_cons, List.sum_cons] at this
    simp only [Store.dropStep, Store.placedCount]
    omega

/-! ### The pairs -/

/-- The parts of the state that the count reads. -/
structure SameWork (s t : State) : Prop where
  store : t.store = s.store
  tripPair : t.tripPair = s.tripPair
  servicePair : t.servicePair = s.servicePair
  work : t.odometer.work = s.odometer.work
  eraseOut : t.odometer.eraseOut = s.odometer.eraseOut
  setting : t.odometer.setting = s.odometer.setting
  capture : t.trip.pendingCapture = s.trip.pendingCapture
  again : t.service.saveAgain = s.service.saveAgain

theorem SameWork.count {s t : State} (h : SameWork s t) : t.workLeft = s.workLeft := by
  simp only [State.workLeft, Odometer.count, h.store, h.tripPair, h.servicePair, h.work, h.eraseOut, h.setting, h.capture,
    h.again]

theorem SameWork.trans {s t u : State} (h : SameWork s t) (k : SameWork t u) : SameWork s u :=
  ⟨k.store.trans h.store, k.tripPair.trans h.tripPair, k.servicePair.trans h.servicePair, k.work.trans h.work,
    k.eraseOut.trans h.eraseOut, k.setting.trans h.setting, k.capture.trans h.capture, k.again.trans h.again⟩

theorem WarnFrame.same {s t : State} (h : WarnFrame s t) : SameWork s t := by
  have e := h.rest
  constructor <;> rw [e]

theorem setSys_same (k : SysCond) (b : Bool) (s : State) : SameWork s (setSys k b s) := by
  obtain ⟨h1, h2, h3, h4, h5, h6, h7, h8⟩ := (setSys_frame k b s).same
  exact ⟨h1, h2, h3, h4, h5, h6, h7, h8⟩

theorem setOdoFault_same (b : Bool) (s : State) : SameWork s (setOdoFault b s) := by
  unfold setOdoFault
  split
  · exact ⟨rfl, rfl, rfl, rfl, rfl, rfl, rfl, rfl⟩
  · obtain ⟨h1, h2, h3, h4, h5, h6, h7, h8⟩ :=
      (report_frame (.odometerFault b) { s with odometer := { s.odometer with fault := b } }).same
    exact SameWork.trans ⟨h1, h2, h3, h4, h5, h6, h7, h8⟩ (setSys_same _ _ _)

theorem checkOdoFault_same (s : State) : SameWork s (checkOdoFault s) := by
  unfold checkOdoFault
  split
  · exact setOdoFault_same true s
  · exact ⟨rfl, rfl, rfl, rfl, rfl, rfl, rfl, rfl⟩

/-- The owner of a pair wishes another save. -/
def State.again (s : State) : PairId → Bool
  | .trip => s.trip.pendingCapture.isSome
  | .service => s.service.saveAgain

/-- What the count reads outside a pair. -/
structure SameBut (p : PairId) (s t : State) : Prop where
  store : t.store = s.store
  other : ∀ q, q ≠ p → t.pair q = s.pair q ∧ t.again q = s.again q
  work : t.odometer.work = s.odometer.work
  eraseOut : t.odometer.eraseOut = s.odometer.eraseOut
  setting : t.odometer.setting = s.odometer.setting

/-- A change that stays within a pair and its owner's wish. -/
theorem SameBut.count {p : PairId} {s t : State} (h : SameBut p s t) :
    t.workLeft + (s.pair p).count (s.again p) = s.workLeft + (t.pair p).count (t.again p) := by
  simp only [State.workLeft, Odometer.count, h.store, h.work, h.eraseOut, h.setting]
  cases p
  · have e := h.other .service (by simp)
    simp only [State.pair, State.again] at e ⊢
    rw [e.1, e.2]
    omega
  · have e := h.other .trip (by simp)
    simp only [State.pair, State.again] at e ⊢
    rw [e.1, e.2]
    omega

theorem SameBut.trans {p : PairId} {s t u : State} (h : SameBut p s t) (k : SameBut p t u) : SameBut p s u :=
  ⟨k.store.trans h.store, fun q n => ⟨(k.other q n).1.trans (h.other q n).1, (k.other q n).2.trans (h.other q n).2⟩,
    k.work.trans h.work, k.eraseOut.trans h.eraseOut, k.setting.trans h.setting⟩

theorem SameWork.but {s t : State} (p : PairId) (h : SameWork s t) : SameBut p s t :=
  ⟨h.store, fun q _ => by cases q <;> simp only [State.pair, State.again, h.tripPair, h.servicePair, h.capture, h.again]
                          <;> exact ⟨trivial, trivial⟩,
    h.work, h.eraseOut, h.setting⟩

theorem SameWork.pair {s t : State} (h : SameWork s t) (p : PairId) : t.pair p = s.pair p ∧ t.again p = s.again p := by
  cases p
  · exact ⟨h.tripPair, by simp only [State.again, h.capture]⟩
  · exact ⟨h.servicePair, by simp only [State.again, h.again]⟩

theorem setPair_but (p : PairId) (x : Pair) (s : State) : SameBut p s (s.setPair p x) := by
  cases p <;> refine ⟨rfl, fun q n => ?_, rfl, rfl, rfl⟩ <;> cases q <;> first | exact ⟨rfl, rfl⟩ | exact absurd rfl n

theorem setPair_own (p : PairId) (x : Pair) (s : State) : (s.setPair p x).pair p = x ∧ (s.setPair p x).again p = s.again p := by
  cases p <;> exact ⟨rfl, rfl⟩

/-- A save that fails: nothing of it is left but its end. -/
theorem failSave_count (p : PairId) (s : State) :
    SameBut p s (failSave p s) ∧ (failSave p s).again p = s.again p ∧
      (failSave p s).pair p = { s.pair p with state := .idle, job := none, ended := some false } := by
  unfold failSave
  have h := (report_frame (.saveFailed p) (s.setPair p { s.pair p with state := .idle, job := none, ended := some false })).same
  have o := setPair_own p { s.pair p with state := .idle, job := none, ended := some false } s
  exact ⟨(setPair_but p _ s).trans (h.but p), (h.pair p).2.trans o.2, (h.pair p).1.trans o.1⟩

/-- A save that begins has a job, or has failed. -/
theorem beginSave_count (p : PairId) (data : List Word) (s : State) :
    SameBut p s (beginSave p data s) ∧ (beginSave p data s).again p = s.again p ∧
      ((beginSave p data s).pair p = { s.pair p with state := .idle, job := none, ended := some false } ∨
       ∃ j : SaveJob, j.phase = .erase ∧ (beginSave p data s).pair p = { s.pair p with state := .saving, job := some j }) := by
  unfold beginSave
  simp only
  split
  · have h := failSave_count p s
    exact ⟨h.1, h.2.1, Or.inl h.2.2⟩
  · rename_i t ht
    exact ⟨setPair_but p _ s, (setPair_own p _ s).2, Or.inr ⟨_, rfl, (setPair_own p _ s).1⟩⟩

/-- The count of a pair whose save begins. -/
theorem begin_count (p : PairId) (data : List Word) (s : State) (again : Bool) :
    ((beginSave p data s).pair p).count again ≤ (s.pair p).count again + 6 := by
  have placing (x y : Pair) (h : y.held = x.held) (o : y.out = x.out)
      (w : jobCount y.job + (if y.ended.isSome then 1 else 0) ≤ jobCount x.job + (if x.ended.isSome then 1 else 0) + 4) :
      y.count again ≤ x.count again + 6 := by
    have l : ∀ b : Bool, 11 ≤ (if b then 13 else 11) ∧ (if b then 13 else 11) ≤ 13 := by decide
    have l1 := l x.erases
    have l2 := l y.erases
    simp only [Pair.count, h, o]
    cases x.out <;> simp only [if_true, if_false, Bool.false_eq_true] <;> omega
  have z : ∀ j : SaveJob, jobCount (some j) ≤ 4 := by
    intro j
    simp only [jobCount]
    split <;> omega
  rcases (beginSave_count p data s).2.2 with e | ⟨j, hj, e⟩ <;> rw [e] <;> refine placing _ _ rfl rfl ?_ <;>
    simp only [Option.isSome_some, if_true]
  · show 0 + 1 ≤ _
    omega
  · have := z j
    omega

theorem requestSave_count (p : PairId) (data : List Word) (s : State) :
    SameBut p s (requestSave p data s) ∧
      ((requestSave p data s).pair p).count ((requestSave p data s).again p) ≤ (s.pair p).count (s.again p) + 6 := by
  unfold requestSave
  simp only
  split
  · have h := beginSave_count p data s
    refine ⟨h.1, ?_⟩
    rw [h.2.1]
    have := begin_count p data s (s.again p)
    omega
  · have o := setPair_own p { s.pair p with held := some data } s
    refine ⟨setPair_but p _ s, ?_⟩
    rw [o.1, o.2]
    unfold Pair.count Pair.erases
    simp only [Option.isSome_some, if_true]
    omega

/-- What a pair counts beside its next step. -/
def Pair.base (x : Pair) : Nat :=
  jobCount x.job + (if x.ended.isSome then 1 else 0) + (if x.held.isSome then 6 else 0)

/-- A pair whose step has ended. -/
theorem Pair.freed_count (x y : Pair) (again : Bool) (o : y.out = false)
    (w : y.base + 2 ≤ x.base ∨ (y.erases = false ∧ y.base ≤ x.base)) : y.count again ≤ x.count again + 11 := by
  have l : ∀ b : Bool, (if b then 13 else 11) ≤ 13 := by decide
  have := l y.erases
  unfold Pair.base at w
  simp only [Pair.count, o, Bool.false_eq_true, if_false]
  rcases w with w | ⟨e, w⟩
  · omega
  · simp only [e, Bool.false_eq_true, if_false]
    omega

/-- The end of an erase at its pair gives back less than the erase counted. -/
theorem pairEraseEnd_count (p : PairId) (outcome : Option EraseOutcome) (s : State) :
    SameBut p s (pairEraseEnd p outcome s) ∧
      ((pairEraseEnd p outcome s).pair p).count ((pairEraseEnd p outcome s).again p) ≤ (s.pair p).count (s.again p) + 11 := by
  unfold pairEraseEnd
  simp only
  split
  · rename_i j hj
    have j3 : 3 ≤ jobCount (s.pair p).job := by
      rw [hj]
      simp only [jobCount]
      split <;> omega
    split
    · refine ⟨setPair_but p _ s, ?_⟩
      rw [(setPair_own p _ s).1, (setPair_own p _ s).2]
      refine Pair.freed_count _ _ _ rfl (Or.inr ⟨by simp [Pair.erases], ?_⟩)
      show 3 + (if (s.pair p).ended.isSome then 1 else 0) + (if (s.pair p).held.isSome then 6 else 0) ≤ _
      unfold Pair.base
      omega
    · have h := failSave_count p (s.setPair p { s.pair p with out := false })
      have o := setPair_own p { s.pair p with out := false } s
      refine ⟨(setPair_but p _ s).trans h.1, ?_⟩
      rw [h.2.2, h.2.1, o.1, o.2]
      refine Pair.freed_count _ _ _ rfl (Or.inl ?_)
      show 0 + 1 + (if (s.pair p).held.isSome then 6 else 0) + 2 ≤ _
      unfold Pair.base
      omega
  · rename_i hj
    have o := setPair_own p { s.pair p with out := false, tidy := none, state := .idle } s
    unfold beginHeld
    simp only [o.1]
    split
    · rename_i data hh
      have e := setPair_own p { s.pair p with out := false, tidy := none, state := .idle, held := none }
        (s.setPair p { s.pair p with out := false, tidy := none, state := .idle })
      have h := beginSave_count p data ((s.setPair p { s.pair p with out := false, tidy := none, state := .idle }).setPair p
        { s.pair p with out := false, tidy := none, state := .idle, held := none })
      refine ⟨(setPair_but p _ s).trans ((setPair_but p _ _).trans h.1), ?_⟩
      rw [h.2.1, e.2, o.2]
      rw [e.1] at h
      have b : (s.pair p).base = 0 + (if (s.pair p).ended.isSome then 1 else 0) + 6 := by
        unfold Pair.base
        rw [hj, hh]
        rfl
      rcases h.2.2 with k | ⟨j, hp, k⟩ <;> rw [k] <;> refine Pair.freed_count _ _ _ rfl (Or.inl ?_) <;> rw [b]
      · show 0 + 1 + 0 + 2 ≤ _
        omega
      · unfold Pair.base
        simp only [jobCount, hp, if_true, Option.isSome_none, Bool.false_eq_true, if_false]
        omega
    · refine ⟨setPair_but p _ s, ?_⟩
      rw [o.1, o.2]
      exact Pair.freed_count _ _ _ rfl (Or.inr ⟨by simp [Pair.erases, hj], Nat.le_refl _⟩)

/-- The end of a trip save takes the pending capture: the count does not rise. -/
theorem tripSaveEnd_count (ok : Bool) (s : State) :
    SameBut .trip s (tripSaveEnd ok s) ∧
      ((tripSaveEnd ok s).pair .trip).count ((tripSaveEnd ok s).again .trip) ≤ (s.pair .trip).count (s.again .trip) := by
  unfold tripSaveEnd
  simp only
  generalize hx : (if ok = true then _ else _ : Option Capture) = copy
  have e : SameWork s (refreshStoreFault { s with trip := { s.trip with savedCopy := copy, saveFault := !ok } }) :=
    SameWork.trans (t := { s with trip := { s.trip with savedCopy := copy, saveFault := !ok } })
      ⟨rfl, rfl, rfl, rfl, rfl, rfl, rfl, rfl⟩ (setSys_same _ _ _)
  generalize refreshStoreFault { s with trip := { s.trip with savedCopy := copy, saveFault := !ok } } = u at e
  have wish : ∀ (v : Trip), v.pendingCapture = none → SameBut .trip s { u with trip := v } ∧
      (({ u with trip := v } : State).pair .trip).count (({ u with trip := v } : State).again .trip) +
        (if s.again .trip then 6 else 0) = (s.pair .trip).count (s.again .trip) := by
    intro v hv
    refine ⟨⟨e.store, fun q n => ?_, e.work, e.eraseOut, e.setting⟩, ?_⟩
    · cases q
      · exact absurd rfl n
      · exact ⟨e.servicePair, e.again⟩
    · have h1 : ({ u with trip := v } : State).pair .trip = s.pair .trip := e.tripPair
      have h2 : ({ u with trip := v } : State).again .trip = false := by simp only [State.again, hv]; rfl
      rw [h1, h2]
      simp only [Pair.count]
      cases s.again .trip <;> simp
      omega
  split
  · rename_i hn
    have w := wish { u.trip with saving := false } hn
    exact ⟨w.1, Nat.le.intro w.2⟩
  · rename_i c hc
    have w := wish { u.trip with pendingCapture := none } rfl
    have a : s.again .trip = true := by
      have := e.capture
      simp only [State.again, ← this, hc]
      rfl
    rw [a] at w
    simp only [if_true] at w
    split
    · have w' := wish { ({ u with trip := { u.trip with pendingCapture := none } } : State).trip with saving := false } rfl
      exact ⟨w'.1, Nat.le.intro w'.2⟩
    · have r := requestSave_count .trip c.words { u with trip := { u.trip with pendingCapture := none } }
      rw [a]
      exact ⟨w.1.trans r.1, Nat.le_trans r.2 (Nat.le_of_eq w.2)⟩

theorem serviceSaveEnd_count (ok : Bool) (s : State) :
    SameBut .service s (serviceSaveEnd ok s) ∧
      ((serviceSaveEnd ok s).pair .service).count ((serviceSaveEnd ok s).again .service) ≤
        (s.pair .service).count (s.again .service) := by
  unfold serviceSaveEnd
  simp only
  have e : SameWork s (refreshStoreFault { s with service := { s.service with saveFault := !ok } }) :=
    SameWork.trans (t := { s with service := { s.service with saveFault := !ok } }) ⟨rfl, rfl, rfl, rfl, rfl, rfl, rfl, rfl⟩
      (setSys_same _ _ _)
  generalize refreshStoreFault { s with service := { s.service with saveFault := !ok } } = u at e
  have wish : ∀ (v : Service), v.saveAgain = false → SameBut .service s { u with service := v } ∧
      (({ u with service := v } : State).pair .service).count (({ u with service := v } : State).again .service) +
        (if s.again .service then 6 else 0) = (s.pair .service).count (s.again .service) := by
    intro v hv
    refine ⟨⟨e.store, fun q n => ?_, e.work, e.eraseOut, e.setting⟩, ?_⟩
    · cases q
      · exact ⟨e.tripPair, congrArg Option.isSome e.capture⟩
      · exact absurd rfl n
    · have h1 : ({ u with service := v } : State).pair .service = s.pair .service := e.servicePair
      have h2 : ({ u with service := v } : State).again .service = false := hv
      rw [h1, h2]
      simp only [Pair.count]
      cases s.again .service <;> simp
      omega
  split
  · rename_i hc
    have w := wish { u.service with saveAgain := false } rfl
    have a : s.again .service = true := e.again.symm.trans hc
    rw [a] at w
    simp only [if_true] at w
    have r := requestSave_count .service u.serviceImage { u with service := { u.service with saveAgain := false } }
    rw [a]
    exact ⟨w.1.trans r.1, Nat.le_trans r.2 (Nat.le_of_eq w.2)⟩
  · rename_i hc
    have w := wish { u.service with saving := false } (by simpa using hc)
    exact ⟨w.1, Nat.le.intro w.2⟩

/-! ### Each follow-up takes something off the count -/

theorem setPair_self (p : PairId) (x : Pair) (s : State) (again : Bool) {b : Bool} (h : (s.pair p).ended = some b)
    (hx : x = { s.pair p with ended := none }) : x.count again + 1 = (s.pair p).count again := by
  subst hx
  simp only [Pair.count, Pair.erases, h, Option.isSome_some, Option.isSome_none, if_true]
  simp
  omega

theorem reportSave_left (p : PairId) (s t : State) (h : reportSave p s = some t) :
    t.workLeft < s.workLeft ∧ t.store = s.store := by
  unfold reportSave at h
  split at h
  · cases h
  · rename_i ok hok
    obtain ⟨s1, hs1⟩ : ∃ s1, s1 = s.setPair p { s.pair p with ended := none } := ⟨_, rfl⟩
    have b1 : SameBut p s s1 := hs1 ▸ setPair_but p _ s
    have o1 := setPair_own p { s.pair p with ended := none } s
    rw [← hs1] at o1
    rw [← hs1] at h
    have e1 : (s1.pair p).count (s1.again p) + 1 = (s.pair p).count (s.again p) := by
      rw [o1.2]; exact setPair_self p _ s _ hok o1.1
    suffices hh : SameBut p s1 t ∧ (t.pair p).count (t.again p) ≤ (s1.pair p).count (s1.again p) by
      have := (b1.trans hh.1).count
      have := hh.2
      exact ⟨by omega, (b1.trans hh.1).store⟩
    cases p
    · simp only [Option.some.injEq] at h
      subst h
      exact tripSaveEnd_count _ _
    · simp only [Option.some.injEq] at h
      subst h
      exact serviceSaveEnd_count _ _

/-- In an open window only a step that names no sector can be finished. -/
theorem sectorsOf_nil (b : BitVec 8) (h : sectorsOf b = []) : b = 0 := by
  revert b
  decide +kernel

theorem answerSetting_same (st : Status) (s : State) :
    (answerSetting st s).store = s.store ∧ (answerSetting st s).tripPair = s.tripPair ∧
      (answerSetting st s).servicePair = s.servicePair ∧ (answerSetting st s).trip = s.trip ∧
      (answerSetting st s).service = s.service ∧ (answerSetting st s).odometer = { s.odometer with setting := none } := by
  unfold answerSetting holdResponse placeResponse buildResponse
  simp only
  repeat' split
  all_goals exact ⟨rfl, rfl, rfl, rfl, rfl, rfl⟩

/-- The end of an erase at the Odometer. -/
theorem odometerEraseEnd_count (os : List (Fin 8 × EraseOutcome)) (s : State) :
    (odometerEraseEnd os s).store = s.store ∧ (odometerEraseEnd os s).tripPair = s.tripPair ∧
      (odometerEraseEnd os s).servicePair = s.servicePair ∧
      (odometerEraseEnd os s).trip.pendingCapture = s.trip.pendingCapture ∧
      (odometerEraseEnd os s).service.saveAgain = s.service.saveAgain ∧
      (odometerEraseEnd os s).odometer.work = s.odometer.work ∧
      (os = [] → (odometerEraseEnd os s).odometer.setting = none) := by
  unfold odometerEraseEnd
  simp only
  split
  · rename_i hn
    have e := checkOdoFault_same { s with odometer := { s.odometer with eraseOut := false } }
    exact ⟨e.store, e.tripPair, e.servicePair, e.capture, e.again, e.work, fun _ => e.setting.trans hn⟩
  · split
    · rename_i t ht
      refine ⟨rfl, rfl, rfl, rfl, rfl, rfl, fun h => ?_⟩
      subst h
      simp [State.settingTarget, outcomeOf] at ht
    · have e := answerSetting_same .failed { s with odometer := { s.odometer with eraseOut := false } }
      refine ⟨e.1, e.2.1, e.2.2.1, by rw [e.2.2.2.1], by rw [e.2.2.2.2.1], by rw [e.2.2.2.2.2], fun _ => by rw [e.2.2.2.2.2]⟩

/-- The window gathers no outcome. -/
def State.fresh (s : State) : Prop := s.store.ctl = .eraseWindow → s.store.outcomes = []

theorem reportErase_left (s t : State) (f : s.fresh) (h : reportErase s = some t) : t.workLeft < s.workLeft ∧ t.fresh := by
  unfold reportErase at h
  split at h
  · cases h
  · rename_i j hj
    cases h
    obtain ⟨c, b⟩ := j
    have d := s.store.dropStep_count (c, b) hj
    obtain ⟨s1, hs1⟩ : ∃ s1, s1 = { s with store := s.store.dropStep (c, b) } := ⟨_, rfl⟩
    simp only [← hs1]
    have w1 : s1.workLeft + joinCount (c, b) = s.workLeft := by
      have h1 : s1.store = s.store.dropStep (c, b) := by rw [hs1]
      have h2 : ctlCount (s.store.dropStep (c, b)) = ctlCount s.store := by simp only [ctlCount, d.1]
      simp only [State.workLeft, h1, d.1, h2]
      rw [hs1]
      simp only
      omega
    have f1 : s1.fresh := by
      intro e
      rw [hs1] at e ⊢
      exact (d.2.1 (f (d.1.symm.trans e))).1
    have e1 : s1.store.ctl = .eraseWindow → s.store.outcomes = [] ∧ b = 0 := by
      intro e
      rw [hs1] at e
      have o := f (d.1.symm.trans e)
      exact ⟨o, sectorsOf_nil b (d.2.1 o).2⟩
    clear hs1 d f
    have keeps (p : PairId) (o : Option EraseOutcome) (hc : joinCount (c, b) = 12) :
        (pairEraseEnd p o s1).workLeft < s.workLeft ∧ (pairEraseEnd p o s1).fresh := by
      have k := pairEraseEnd_count p o s1
      have := k.1.count
      have := k.2
      exact ⟨by omega, fun e => by rw [k.1.store] at e ⊢; exact f1 e⟩
    unfold classEraseEnd
    simp only
    cases c
    · have k := odometerEraseEnd_count s.store.outcomes s1
      obtain ⟨k1, k2, k3, k4, k5, k6, k7⟩ := k
      refine ⟨?_, fun e => by rw [k1] at e ⊢; exact f1 e⟩
      suffices hh : (odometerEraseEnd s.store.outcomes s1).odometer.count (decide (s1.store.ctl = .eraseWindow)) <
          s1.odometer.count (decide (s1.store.ctl = .eraseWindow)) + joinCount (.odometer, b) by
        simp only [State.workLeft, k1, k2, k3, k4, k5] at hh w1 ⊢
        omega
      simp only [Odometer.count, k6, joinCount]
      by_cases hw : s1.store.ctl = .eraseWindow
      · have h := e1 hw
        simp only [hw, h.2, k7 h.1, Option.isSome_none, Bool.false_eq_true, decide_true, if_true, if_false]
        repeat' split
        all_goals omega
      · simp only [hw, decide_false, Bool.false_eq_true, if_false]
        repeat' split
        all_goals omega
    · exact keeps .trip _ rfl
    · exact keeps .service _ rfl
    · have x : SameWork s1 (externalEraseEnd b s.store.outcomes s1) := by
        unfold externalEraseEnd
        split
        · unfold answerExternal holdResponse placeResponse buildResponse
          simp only
          repeat' split
          all_goals exact ⟨rfl, rfl, rfl, rfl, rfl, rfl, rfl, rfl⟩
        · exact ⟨rfl, rfl, rfl, rfl, rfl, rfl, rfl, rfl⟩
      have hj : joinCount (StoreClass.external, b) = 1 := rfl
      refine ⟨?_, fun e => by rw [x.store] at e ⊢; exact f1 e⟩
      rw [x.count]
      omega

theorem takeNext_left (s t : State) (h : takeNext s = some t) : t.workLeft < s.workLeft ∧ t.fresh := by
  obtain ⟨x, hx, rfl⟩ := Option.map_eq_some_iff.mp h
  have k := Store.take_count _ _ hx
  refine ⟨?_, k.2.2.1⟩
  simp only [State.workLeft, ctlCount, k.1, k.2.1, Odometer.count, if_true, if_false, reduceCtorEq, decide_false,
    Bool.false_eq_true]
  have := k.2.2.2
  have w : (if s.odometer.eraseOut = true then 0 else
      if decide (x.ctl = .eraseWindow) = true then (if s.odometer.setting.isSome = true then 6 else 4) else 2) ≤
      (if s.odometer.eraseOut = true then 0 else 2) + 4 := by
    repeat' split
    all_goals omega
  omega

/-- A program that the Odometer places. -/
theorem placeOdometer_program (a : Fin 256) (v : Word) (o : Odometer) (s : State) (hw : s.odometer.work = none)
    (h : o.work.isSome = true) (he : o.eraseOut = s.odometer.eraseOut) (hs : o.setting.isSome = s.odometer.setting.isSome) :
    (placeOdometer (.program a v) o s).workLeft < s.workLeft ∧ (placeOdometer (.program a v) o s).fresh := by
  have k := s.store.placeProgram_count .odometer a v
  refine ⟨?_, fun e => absurd e k.2.1⟩
  have hc : ctlCount (s.store.place .odometer (.program a v)) ≤ ctlCount s.store + 10 := by
    unfold ctlCount
    repeat' split
    all_goals omega
  simp only [placeOdometer, State.workLeft, Odometer.count, h, hw, he, hs, k.2.1, decide_false, Bool.false_eq_true,
    Option.isSome_none, if_true, if_false]
  have := k.1
  have w : (if s.odometer.eraseOut = true then 0 else 2) ≤
      (if s.odometer.eraseOut = true then 0 else
        if decide (s.store.ctl = .eraseWindow) = true then (if s.odometer.setting.isSome = true then 6 else 4) else 2) := by
    repeat' split
    all_goals omega
  omega

/-- An erase that the Odometer places. -/
theorem placeOdometer_erase (b : BitVec 8) (o : Odometer) (s : State) (f : s.fresh) (hw : o.work = s.odometer.work)
    (h : o.eraseOut = true) (he : s.odometer.eraseOut = false) (hb : b ≠ 0 ∨ s.odometer.setting.isSome = true) :
    (placeOdometer (.erase b) o s).workLeft < s.workLeft ∧ (placeOdometer (.erase b) o s).fresh := by
  have k := s.store.placeErase_count .odometer b
  refine ⟨?_, fun e => ?_⟩
  · have hc : ctlCount (s.store.place .odometer (.erase b)) = ctlCount s.store := by simp only [ctlCount, k.1]
    simp only [placeOdometer, State.workLeft, Odometer.count, h, hw, he, hc, k.1, Bool.false_eq_true, if_true, if_false]
    have := k.2.2
    have w : (if s.store.ctl = .eraseWindow then joinCount (.odometer, b) else slotCount .odometer (some (.erase b))) <
        (if decide (s.store.ctl = .eraseWindow) = true then (if s.odometer.setting.isSome = true then 6 else 4) else 2) := by
      simp only [joinCount, slotCount]
      by_cases hx : s.store.ctl = .eraseWindow
      · simp only [hx, if_true, decide_true]
        rcases hb with hb | hb
        · simp only [hb, if_false]; split <;> omega
        · simp only [hb, if_true]; split <;> omega
      · simp [hx]
    omega
  · show (s.store.place .odometer (.erase b)).outcomes = []
    rw [k.2.1]
    exact f (k.1.symm.trans e)

theorem odometerPump_left (s t : State) (f : s.fresh) (h : odometerPump s = some t) : t.workLeft < s.workLeft ∧ t.fresh := by
  have inc (u : State) (hw : s.odometer.work = none)
      (hu : s.incrementStep.map (fun st => placeOdometer st { s.odometer with work := some .increment } s) = some u) :
      u.workLeft < s.workLeft ∧ u.fresh := by
    obtain ⟨st, hst, rfl⟩ := Option.map_eq_some_iff.mp hu
    unfold State.incrementStep at hst
    simp only at hst
    split at hst
    · obtain ⟨w, _, rfl⟩ := Option.map_eq_some_iff.mp hst
      exact placeOdometer_program _ _ _ _ hw rfl rfl rfl
    · cases hst
  unfold odometerPump at h
  simp only at h
  split at h
  · cases h
  · rename_i hn
    have hw : s.odometer.work = none := by
      cases e : s.odometer.work with
      | none => rfl
      | some x => exact absurd (Or.inr (Or.inr (by rw [e]; rfl))) hn
    split at h
    · split at h
      · cases h
      · exact inc t hw h
    · rename_i he
      have he : s.odometer.eraseOut = false := by simpa using he
      split at h
      · cases h
        exact placeOdometer_program _ _ _ _ hw rfl rfl rfl
      · split at h
        · rename_i g hg
          have hs : s.odometer.setting.isSome = true := by rw [hg]; rfl
          generalize s.settingStep g = q at h
          obtain ⟨step, phase⟩ := q
          cases step with
          | program a v =>
            simp only [Option.some.injEq] at h
            subst h
            exact placeOdometer_program a v _ s hw rfl rfl (by rw [hs]; rfl)
          | erase b =>
            simp only [Option.some.injEq] at h
            subst h
            exact placeOdometer_erase b _ s f rfl rfl he (Or.inr hs)
        · split at h
          · rename_i r hr
            cases h
            obtain ⟨a, v, e⟩ : ∃ a v, s.rotationStep r = .program a v := by
              unfold State.rotationStep
              split <;> exact ⟨_, _, rfl⟩
            rw [e]
            exact placeOdometer_program _ _ _ _ hw rfl rfl rfl
          · split at h
            · cases h
              refine placeOdometer_erase _ _ _ f rfl rfl he (Or.inl ?_)
              generalize s.spare = k
              revert k
              decide
            · exact inc t hw h

/-- The next step of a pair: an erase with the pair as it stands, or a program with a job that counts no more. -/
theorem pairStep_count (p : PairId) (s : State) (step : StoreStep) (job : Option SaveJob)
    (h : s.pairStep p = some (step, job)) :
    (s.pair p).out = false ∧
      ((∃ b, step = .erase b ∧ (s.pair p).erases = true ∧ job = (s.pair p).job) ∨
       (∃ a v, step = .program a v ∧ jobCount job ≤ jobCount (s.pair p).job)) := by
  unfold State.pairStep at h
  simp only at h
  split at h
  · cases h
  · rename_i ho
    refine ⟨by simpa using ho, ?_⟩
    split at h
    · cases h
      exact Or.inr ⟨_, _, rfl, Nat.le_refl _⟩
    · rename_i hr
      split at h
      · rename_i j hj
        split at h
        · rename_i hp
          split at h
          · cases h
            refine Or.inr ⟨_, _, rfl, ?_⟩
            rw [hj]
            simp [jobCount, hp]
          · cases h
            exact Or.inl ⟨_, rfl, by simp [Pair.erases, hr, hj, hp], hj.symm⟩
        all_goals
          cases h
          refine Or.inr ⟨_, _, rfl, ?_⟩
          rw [hj]
      · rename_i hj
        obtain ⟨k, hk, e⟩ := Option.map_eq_some_iff.mp h
        cases e
        exact Or.inl ⟨_, rfl, by simp [Pair.erases, hr, hj, hk], hj.symm⟩

theorem pairPump_left (p : PairId) (s t : State) (f : s.fresh) (h : pairPump p s = some t) :
    t.workLeft < s.workLeft ∧ t.fresh := by
  unfold pairPump at h
  split at h
  · cases h
  · rename_i step job hst
    obtain ⟨ho, hc⟩ := pairStep_count p s step job hst
    obtain ⟨y, hy⟩ : ∃ y : Pair, y = { s.pair p with out := true, job := job } := ⟨_, rfl⟩
    obtain ⟨s1, hs1⟩ : ∃ s1, s1 = s.setPair p y := ⟨_, rfl⟩
    have b1 : SameBut p s s1 := hs1 ▸ setPair_but p _ s
    have o1 := setPair_own p y s
    rw [← hs1] at o1
    rw [← hy, ← hs1] at h
    have c1 := b1.count
    rw [o1.1, o1.2] at c1
    simp only [Option.some.injEq] at h
    subst h
    have hst' : s1.store = s.store := b1.store
    have cnt : y.count (s.again p) + jobCount (s.pair p).job +
        (if (s.pair p).erases then 13 else 11) = (s.pair p).count (s.again p) + jobCount job := by
      simp only [hy, Pair.count, ho, if_true, Bool.false_eq_true, if_false]
      omega
    rcases hc with ⟨b, rfl, he, hj⟩ | ⟨a, v, rfl, hj⟩
    · have k := s.store.placeErase_count p.cls b
      refine ⟨?_, fun e => ?_⟩
      · have e1 : ({ s1 with store := s.store.place p.cls (.erase b) } : State).workLeft + s.store.placedCount =
            s1.workLeft + (s.store.place p.cls (.erase b)).placedCount := by
          simp only [State.workLeft, ctlCount, hst', k.1]
          omega
        have e2 : (if s.store.ctl = .eraseWindow then joinCount (p.cls, b) else slotCount p.cls (some (.erase b))) = 12 := by
          cases p <;> simp [joinCount, slotCount, PairId.cls]
        have := k.2.2
        rw [e2] at this
        rw [he, hj] at cnt
        simp only [if_true] at cnt
        omega
      · show (s.store.place p.cls (.erase b)).outcomes = []
        rw [k.2.1]
        exact f (k.1.symm.trans e)
    · have k := s.store.placeProgram_count p.cls a v
      refine ⟨?_, fun e => absurd e k.2.1⟩
      have e0 : (if (s.pair p).erases = true then 13 else 11) ≥ 11 := by split <;> omega
      have hc : ctlCount (s.store.place p.cls (.program a v)) ≤ ctlCount s.store + 10 := by
        unfold ctlCount
        repeat' split
        all_goals omega
      have w : s1.odometer.count (decide ((s.store.place p.cls (.program a v)).ctl = .eraseWindow)) ≤
          s1.odometer.count (decide (s.store.ctl = .eraseWindow)) := by
        simp only [Odometer.count, k.2.1, decide_false, Bool.false_eq_true, if_false]
        repeat' split
        all_goals omega
      have := k.1
      have e1 : ({ s1 with store := s.store.place p.cls (.program a v) } : State).workLeft ≤ s1.workLeft + 10 := by
        simp only [State.workLeft, hst']
        omega
      omega

theorem settleOnce_left (s t : State) (f : s.fresh) (h : settleOnce s = some t) : t.workLeft < s.workLeft ∧ t.fresh := by
  unfold settleOnce at h
  have saves (p : PairId) (h : reportSave p s = some t) : t.workLeft < s.workLeft ∧ t.fresh :=
    have k := reportSave_left p s t h
    ⟨k.1, fun e => by rw [k.2] at e ⊢; exact f e⟩
  rcases orElse_some h with h | h
  · exact saves .trip h
  rcases orElse_some h with h | h
  · exact saves .service h
  rcases orElse_some h with h | h
  · exact reportErase_left s t f h
  rcases orElse_some h with h | h
  · exact odometerPump_left s t f h
  rcases orElse_some h with h | h
  · exact pairPump_left .trip s t f h
  rcases orElse_some h with h | h
  · exact pairPump_left .service s t f h
  · exact takeNext_left s t h

theorem settleFor_done (n : Nat) (s : State) (f : s.fresh) (h : s.workLeft ≤ n) : settleOnce (settleFor n s) = none := by
  induction n generalizing s with
  | zero =>
    cases e : settleOnce s with
    | none => exact e
    | some t =>
      have := (settleOnce_left s t f e).1
      omega
  | succ n ih =>
    unfold settleFor
    split
    · rename_i t e
      have k := settleOnce_left s t f e
      exact ih t k.2 (by omega)
    · assumption

theorem windowFresh_iff (s : State) : s.windowFresh = true ↔ s.fresh := by
  unfold State.windowFresh State.fresh
  cases s.store.ctl <;> simp

/-- After `settle` nothing more follows (log entry 24). -/
theorem settle_done (s : State) (f : s.windowFresh = true) : settleOnce (settle s) = none :=
  settleFor_done _ s ((windowFresh_iff s).mp f) (workLeft_le s)

/-- More fuel changes nothing once nothing follows. -/
theorem settleFor_more (n k : Nat) (s : State) (h : settleOnce (settleFor n s) = none) :
    settleFor (n + k) s = settleFor n s := by
  induction n generalizing s with
  | zero =>
    cases k with
    | zero => rfl
    | succ k =>
      have h : settleOnce s = none := h
      show settleFor (0 + k + 1) s = s
      simp only [settleFor, h]
  | succ n ih =>
    rw [Nat.succ_add]
    unfold settleFor at h ⊢
    split
    · rename_i t e
      simp only [e] at h
      exact ih t h
    · rfl

/-- `settle` takes one thing that follows and settles what it leaves. -/
theorem settle_next (s t : State) (f : s.windowFresh = true) (h : settleOnce s = some t) :
    settle s = settle t ∧ t.windowFresh = true := by
  have g := (settleOnce_left s t ((windowFresh_iff s).mp f) h).2
  refine ⟨?_, (windowFresh_iff t).mpr g⟩
  have d := settleFor_done (s.settleBound - 1) t g (by
    have := (settleOnce_left s t ((windowFresh_iff s).mp f) h).1
    have := workLeft_le s
    omega)
  have e := settleFor_done t.settleBound t g (workLeft_le t)
  have hb : s.settleBound = (s.settleBound - 1) + 1 := by simp only [State.settleBound]; omega
  have hs : settle s = settleFor (s.settleBound - 1) t := by
    unfold settle
    rw [hb]
    simp only [settleFor, h, Nat.add_sub_cancel]
  rw [hs]
  unfold settle
  rw [← settleFor_more _ t.settleBound t d, ← settleFor_more _ (s.settleBound - 1) t e, Nat.add_comm]

end Sys2Proof.Machine
end

