-- ==== Sys2Proof/Tests/Slice0.lean ====
section
/-! SUPPORT. The model's own tests. `test_…` checks one step against a worked case or a table of the manual (the comment
names it); `witness_…` shows a concrete case of every clause of the obligation of that name, at the boundary of its
range, so that no hypothesis is empty. -/

namespace Sys2Proof.Tests

open Sys2Proof.Machine

/-! ### A part to test: node 2, its scan done, the sender node 5 -/

set_option Elab.async false

def h : Head := { node := 5, seq := 7 }

def bench : State :=
  { State.reset with store := { State.reset.store with ctl := .ready }, loop := .initial 2,
                     handler := { State.reset.handler with classes := 0x3F } }

/-- The state after a command. -/
def after (i : Instr) (s : State) : State :=
  match exec i s with
  | .next t => t
  | .fault _ => s
  | .refused _ => s

/-- The response that a request of `h` placed: the first of the new frames that is addressed to its node. -/
def response (i : Instr) (s : State) : Option (List Byte) :=
  (((after i s).loop.insertQ.drop s.loop.insertQ.length).map Inserted.frame).find? (fun f => f.getD 0 0 == 0xF5)

/-- The status code of the response. -/
def status (i : Instr) (s : State) : Option Nat := (response i s).map (fun f => (f.getD 4 0).toNat)

/-- The data of the response. -/
def data (i : Instr) (s : State) : List Nat :=
  ((response i s).map (fun f => (f.drop 5).dropLast.map BitVec.toNat)).getD []

/-- The tag and the payload of each frame that a change of state has placed. -/
def placedBy (s t : State) : List (Nat × List Nat) :=
  (t.loop.insertQ.drop s.loop.insertQ.length).map (fun x =>
    ((x.frame.getD 0 0).toNat, (framePayload x.frame).map BitVec.toNat))

def setup (kind : ChanKind) (tag : Byte) (curve : Option (Fin 16)) : ChanSetup :=
  { tag := tag, origin := none, kind := kind, offset := 0, bit := 3, curve := curve, timeout := 100, shift := 4,
    debounce := 3 }

def fresh (f : ChanSetup) (v : Int) : Channel :=
  { Channel.initial with setup := some f, enabled := true, state := .fresh, value := some v, timer := some 5000 }

def curveOf (points : List (Int × Int)) : Curve :=
  { slots := Vector.ofFn (fun i : Fin 12 => points[i.val]?), count := points.length, state := .valid }

/-- The five-point fuel curve and the falling temperature curve of chapter 1. -/
def fuelPoints : List (Int × Int) := [(12, 0), (40, 150), (90, 400), (170, 700), (240, 800)]
def coolantPoints : List (Int × Int) := [(40, 1250), (80, 1050), (160, 750), (200, 600)]

/-- The fuel gauge of section 2.10. -/
def fuelGauge : GaugeSetup :=
  { source := 12, curve := 5, damping := 3, slew := 8, park := 0, stalePark := false, sweep := true, fastSettle := true,
    dial := 90, sineInverted := false, cosineInverted := false }

def gauge (st : GaugeState) (position : Nat) (target : Option Nat) (pending : Bool) : Gauge :=
  { written := true, enabled := true, setup := fuelGauge, state := st, position := position, target := target,
    pending := pending, timer := some 20, sine := 0, cosine := 255 }

/-- The trip setup of chapter 3. -/
def tripSetup : TripSetup :=
  { distance := 0, fuel := 1, speed := 2, level := 12, pulsesPerKm := 6250, unitsPerLitre := 25000, maxDelta := 400,
    defaultConsumption := 110, journeyGap := 120 }

def record (d f e m : Nat) : TripRecord :=
  { distance := ⟨d, false⟩, fuel := ⟨f, false⟩, elapsed := ⟨e, false⟩, moving := ⟨m, false⟩ }

/-- The part in a car: fuel level on channel 12, speed on 2, a door on 21, the fuel gauge, the trip setup; key RUN. -/
def car : State :=
  { bench with
    channels := (((bench.channels.set 12 (fresh (setup .analogU8 0x20 (some 3)) 539)).set 2
      (fresh (setup .analogU16 0x32 none) 0)).set 21 (fresh (setup .discrete 0x50 none) 0)).set 0
      (fresh (setup .rolling 0x30 none) 0)
    curves := (bench.curves.set 3 (curveOf fuelPoints)).set 5 (curveOf [(0, 40), (800, 980)])
    gauges := bench.gauges.set 3 (gauge .tracking 0 (some 673) true)
    trip := { bench.trip with setup := some tripSetup, residueE := 4100, residueF := 12000, distanceBase := some 18220 }
    odometer := { bench.odometer with valid := true, stored := 1250222, cleared := 222, residue := 60 }
    key := { bench.key with state := .run } }

def withGauge (g : Gauge) (s : State) : State := { s with gauges := s.gauges.set 3 g }
def withKey (k : KeyState) (s : State) : State := { s with key := { s.key with state := k } }
def withChannel (c : Fin 48) (x : Channel) (s : State) : State := { s with channels := s.channels.set c x }

/-- A frame of sender node 9 with the check byte that section 10.5.2 gives it. -/
def frame (tag : Byte) (payload : List Byte) : Frame := mkFrame tag 9 payload

/-! ### Well-formedness: what no sender and no die can bring -/

theorem test_reset_needs_32_raised : (Instr.powerOnReset 2 0 []).wellFormed = false := by decide
theorem test_erase_needs_32_raised : (Instr.sectorEraseEnd false (List.replicate 31 0)).wellFormed = false := by decide
theorem test_loss_needs_32_raised : (Instr.powerLoss 0 (List.replicate 33 0)).wellFormed = false := by decide
theorem test_payload_at_most_15 : (Instr.unknownRequest 5 (List.replicate 16 0)).wellFormed = false := by decide
theorem test_payload_of_15_stands : (Instr.unknownRequest 5 (List.replicate 15 0)).wellFormed = true := by decide
theorem test_no_word_spells_a_command : decodeTableWord 16 0xA200 = none := by decide

/-! ### Chapter 1: the worked cases of the fuel curve, the falling curve, the smoothed approach and the door -/

theorem test_fuel_curve : [127, 5, 12, 255, 240].map (convertCurve fuelPoints) =
    [(539, false), (0, true), (0, false), (800, true), (800, false)] := by decide +kernel
theorem test_falling_curve : [125, 84, 82, 30, 210].map (convertCurve coolantPoints) =
    [(881, false), (1035, false), (1042, false), (1250, true), (600, true)] := by decide +kernel
theorem test_smoothing : smooth 4 560 539 = 558 ∧ smooth 2 1000 1042 = 1011 ∧ smooth 2 1041 1042 = 1042 := by decide +kernel
theorem test_door_debounce :
    let f := setup .discrete 0x50 none
    let step (x : Channel × List Content) (b : Bool) : Channel × List Content :=
      ((sampleDiscrete f b x.1).1, x.2 ++ [(sampleDiscrete f b x.1).2])
    let r := [true, true, false, true, true, true, true, false].foldl step (fresh f 0, [])
    r.2 = [.discrete false none, .discrete false none, .discrete false none, .discrete false none,
           .discrete false none, .discrete true (some true), .discrete true none, .discrete true none] ∧
      r.1.candCount = 1 := by decide +kernel
theorem test_take_smooths_the_fuel_level :
    (((after .channelTake { car with loop := { car.loop with tapQ := [frame 0x20 [110]] } }).channels[12]).value) =
      some (539 - 4) := by decide +kernel
/-- The node that falls silent: STALE keeps the value, and the first sample after it seeds. -/
theorem test_silence_keeps_the_value : let t := after (.freshnessExpiry 12) car
    (t.channels[12]).state = .stale ∧ (t.channels[12]).value = some 539 ∧
      ((after .channelTake { t with loop := { t.loop with tapQ := [frame 0x20 [82]] } }).channels[12]).value =
        some 360 := by decide +kernel

/-! ### Chapter 2: section 2.10 -/

theorem test_gauge_target : car.mapTarget fuelGauge 539 = 673 ∧ car.mapTarget fuelGauge 535 = 669 := by decide +kernel
theorem test_coils_at_673 : coilLevels true fuelGauge 673 = (219, 131) := by decide +kernel
theorem test_coils_on_270 : coilLevels true { fuelGauge with dial := 270 } 512 = (180, -181) := by decide +kernel
theorem test_sweep_turns_at_1023 :
    let g := (after (.driveUpdate 3) (withGauge (gauge .sweepUp 992 (some 673) true) car)).gauges[3]
    g.state = .sweepDown ∧ g.position = 1023 := by decide +kernel
theorem test_sweep_ends_holding_in_crank :
    let g := (after (.driveUpdate 3) (withKey .crank (withGauge (gauge .sweepDown 31 (some 673) true) car))).gauges[3]
    g.state = .holding ∧ g.position = 0 ∧ g.pending = true := by decide +kernel
theorem test_fast_settle_ends :
    let g := (after (.driveUpdate 3) (withGauge (gauge .tracking 510 (some 673) true) car)).gauges[3]
    g.position = 673 ∧ g.pending = false := by decide +kernel
theorem test_damped_steps : (trackStep (gauge .tracking 673 (some 669) false) 669,
    trackStep (gauge .tracking 669 (some 651) false) 651) = (1, 3) := by decide +kernel

/-! ### Chapter 3: the worked cases -/

theorem test_residues : divideResidue 4100 37 6250 = (6, 3600) ∧ divideResidue 12000 1130 25000 = (45, 17000) := by decide +kernel
theorem test_wrap_and_discontinuity : rollingDelta 30 65500 = 66 ∧ rollingDelta 2 96 = 65442 := by decide +kernel
theorem test_metres_reach_trip_and_odometer :
    let t := after .channelTake { car with loop := { car.loop with tapQ := [frame 0x30 [0x47, 0x51]] } }
    t.trip.residueE = 3600 ∧ (t.trip.records.map (fun r => r.distance.value)).toList = [6, 6, 6, 0] ∧
      t.odometer.residue = 66 := by decide +kernel
theorem test_standing_time : (standingTime ⟨4210, 70000⟩ ⟨4210, 64800⟩, standingTime ⟨4211, 25200⟩ ⟨4210, 64800⟩,
    standingTime ⟨4210, 60000⟩ ⟨4210, 64800⟩) = (5200, 46800, 0) := by decide +kernel
theorem test_journey_figures : averageSpeed (record 84300 10540 4470 3912) = some 776 ∧
    averageConsumption (record 84300 10540 4470 3912) = some 125 ∧ rangeFor 539 125 = 431 ∧ rangeFor 539 110 = 490 := by
  decide +kernel
theorem test_snapshot_of_trip_b :
    let s := { car with trip := { car.trip with records := car.trip.records.set 1 (record 152040 18911 9020 7800) } }
    data (.readTrip h 1) (after (.snapshotTrip h 1) s) =
      [2, 81, 232, 0, 73, 223, 0, 35, 60, 128, 30, 120] := by decide +kernel

/-! ### Chapter 4: section 4.8 -/

/-- The store of section 4.8: sector 0 ACTIVE, word 17 the first open one. -/
def rotating : State :=
  let words : List (Nat × Word) := [(0, 0x00FF), (1, 0x0013), (2, 0x12D0), (3, 0xED1C)]
  let full : List (Nat × Word) := (List.range 13).map (fun i => (4 + i, 0))
  { car with store := { car.store with mem := words ++ full ++ [(17, 3), (32, 0)] } }

theorem test_increment_program : (settle (addMetres 45 rotating)).store.running =
    some { cls := .odometer, addr := 17, value := 0x0001 } := by decide +kernel
theorem test_shown_follows_the_metres : (addMetres 45 rotating).shown = some 1250223 ∧
    (addMetres 45 rotating).odometer.residue = 5 := by decide +kernel
theorem test_spare_erase_at_224 :
    let t := after (.programEnd false) (settle (addMetres 98 { rotating with
      odometer := { rotating.odometer with cleared := 223, residue := 5 },
      store := { rotating.store with mem := Memory.write rotating.store.mem 17 1 } }))
    t.odometer.cleared = 224 ∧ t.store.ctl = .eraseWindow ∧ t.store.eraseSet = 0x02 := by decide +kernel
/-- The rotation of section 4.8 begins with the high word of the base 1,250,448; its third step is the complement. -/
theorem test_rotation_words :
    let spare : SectorFlags := { bad := false, worn := false, erasedKnown := true }
    let full : State := { rotating with odometer := { rotating.odometer with cleared := 448, stored := 1250448, pending := 1 }
                                        store := { rotating.store with flags := rotating.store.flags.set 1 spare } }
    let third : State := { full with odometer := { full.odometer with rotation := some { base := 1250448, step := 3 } } }
    (settle full).store.running = some { cls := .odometer, addr := 33, value := 0x0013 } ∧
      (settle third).store.running = some { cls := .odometer, addr := 35, value := 0xEB5C } := by decide +kernel
theorem test_odometer_program_suspends_an_erase :
    (settle (addMetres 97 { rotating with
      odometer := { rotating.odometer with residue := 3, cleared := 224, eraseOut := true },
      store := { rotating.store with
        ctl := .erasing, current := some 1, eraseSet := 0x02, joined := [(.odometer, 0x02)] } })).store.ctl = .suspending := by
  decide +kernel

/-! ### Chapter 5: the oil service item -/

/-- The part with the oil item of chapter 5, shown value `C` and day `today`. -/
def oil (C today : Nat) : State :=
  let item : ServiceItem :=
    { ServiceItem.initial with
      written := true, enabled := true, intervalKm := 15000, intervalDays := 365, advanceKm := 1500, advanceDays := 30,
      overdueKm := 1000, overdueDays := 30, record := some (1185437, 4030) }
  { car with odometer := { car.odometer with stored := C }
             key := { car.key with valid := true, day := today }
             service := { car.service with items := car.service.items.set 0 item } }

def oilFigures (C today : Nat) : Option Int × Option Int × Stage :=
  let it := (evaluateItem 0 (oil C today)).service.items[0]
  (it.remainingKm, it.remainingDays, it.stage)

theorem test_oil_item : oilFigures 1322109 4210 = (some 1332, some 185, .advance) ∧
    oilFigures 1335440 4240 = (some (-1), some 155, .due) ∧ oilFigures 1336442 4250 = (some (-101), some 145, .due) ∧
    oilFigures 1346500 4300 = (some (-1107), some 95, .overdue) := by decide +kernel
theorem test_service_reset_saves : let t := after (.serviceReset h 0) (oil 1336442 4250)
    (t.service.items[0]).record = some (1336442, 4250) ∧ (t.service.items[0]).stage = .notDue ∧
      t.service.saving = true := by decide +kernel

/-! ### Chapter 6: section 6.8 -/

def doorCondition : WarnCondition :=
  { kind := .discreteOn, subject := 21, threshold := 0, hysteresis := 0, qualify := 1, clear := 1, keyGate := .notOff,
    speedGate := 0, staleAction := 2, minStage := 0 }
def doorAction : WarnAction :=
  { priority := 3, latch := .selfClearing, chime := some 4, message := some 20, lamp := some 7, routing := .both,
    present := 0, remind := 0 }
def oilCondition : WarnCondition :=
  { kind := .low, subject := 14, threshold := 50, hysteresis := 20, qualify := 3, clear := 3, keyGate := .any,
    speedGate := 0, staleAction := 0, minStage := 0 }
def oilAction : WarnAction :=
  { priority := 0, latch := .latching, chime := some 1, message := some 3, lamp := some 1, routing := .front,
    present := 0, remind := 60 }

def warning (c : WarnCondition) (a : WarnAction) (st : WarnState) (holds : Bool) : Warning :=
  { Warning.initial with condition := some c, action := some a, enabled := true, state := st, holds := holds, gate := true }

/-- Warning 9 stands presented with its chimes queued; warning 2 has two of its three counts (oil notice 48). -/
def standing : State :=
  let door : Warning := { warning doorCondition doorAction .presented true with markFront := true, markRear := true }
  let oil : Warning := { warning oilCondition oilAction .idle false with qualifyCount := 2 }
  { car with
    warnings := { car.warnings with entries := (car.warnings.entries.set 9 door).set 2 oil }
    chime := { car.chime with
      patterns := (car.chime.patterns.set 1
        { repeats := 0, segments := 1, slots := (Vector.replicate 6 none).set 0 (some ⟨125, 25, 25⟩) }).set 4
        { repeats := 1, segments := 1, slots := (Vector.replicate 6 none).set 0 (some ⟨500, 10, 10⟩) }
      queue := [{ origin := .warning 9, zone := .front, pattern := 4, rank := 105, repeatsLeft := some 1, released := false }]
      front := { state := .tone, current := .request (.warning 9), segment := 1, timer := some 100, counter := some 500 } } }

theorem test_low_verdicts : [(false, 44), (true, 62), (true, 74)].map (fun p =>
    verdict oilCondition p.1 (.analog p.2 false)) = [some true, some true, some false] := by decide +kernel
theorem test_oil_warning_displaces_the_door :
    let t := countVerdict 2 oilCondition true standing
    (t.warnings.entries[2]).state = .presented ∧ (t.warnings.entries[9]).state = .pending ∧
      t.display.mcWarning = some (3, true) ∧ t.chime.queue.map (fun r => r.origin) = [.warning 2, .warning 9] ∧
      (List.finRange 12).filter t.lampLit = [1, 7] := by decide +kernel
theorem test_press_acknowledges_and_reminds :
    let t := pressEdge (countVerdict 2 oilCondition true standing)
    (t.warnings.entries[2]).state = .acknowledged ∧ (t.warnings.entries[2]).remindTimer = some 60000 ∧
      (t.warnings.entries[9]).state = .presented ∧ t.display.mcWarning = some (20, false) := by decide +kernel

/-! ### Chapter 7: section 7.8 -/

/-- Pattern 6 of section 7.8 requested by warning 30 and sounding its second segment; pattern 9 is the tick. -/
def calling : Chime :=
  { Chime.initial with
    patterns := (((Vector.replicate 16 Pattern.initial).set 6
      { repeats := 3, segments := 2,
        slots := ((Vector.replicate 6 none).set 0 (some ⟨250, 15, 5⟩)).set 1 (some ⟨400, 15, 60⟩) }).set 7
      { repeats := 2, segments := 1, slots := (Vector.replicate 6 none).set 0 (some ⟨200, 10, 0⟩) }).set 9
      { repeats := 0, segments := 1, slots := (Vector.replicate 6 none).set 0 (some ⟨1000, 2, 0⟩) }
    setup := { written := true, tickChannel := some 18, tickPattern := 9, answerPattern := some 7 }
    queue := [{ origin := .warning 30, zone := .front, pattern := 6, rank := 158, repeatsLeft := some 3, released := false }]
    front := { state := .tone, current := .request (.warning 30), segment := 2, timer := some 150, counter := some 400 } }

theorem test_calling_is_consistent : calling.consistent = true := by decide +kernel
theorem test_gap_of_600_ms : (calling.toneEnd .front).front =
    { state := .gap, current := .request (.warning 30), segment := 2, timer := some 600, counter := none } := by decide +kernel
theorem test_repetition_counts_down : let c := (calling.toneEnd .front).gapEnd .front
    c.front.segment = 1 ∧ c.queue.map (fun r => r.repeatsLeft) = [some 2] := by decide +kernel
theorem test_abandon_plays_the_tone_out : let c := (calling.release (.warning 30) .front)
    c.front.state = .tone ∧ (c.toneEnd .front).front = .silent ∧ (c.toneEnd .front).queue = [] := by decide +kernel
theorem test_tick_dropped_while_front_sounds : calling.tick = calling := by decide +kernel
theorem test_tick_on_a_silent_front : (Chime.tick { calling with queue := [], front := .silent }).front =
    { state := .tone, current := .tick 9, segment := 1, timer := some 20, counter := some 1000 } := by decide +kernel
theorem test_answer_on_rear : (calling.answer).rear =
    { state := .tone, current := .request .rearCall, segment := 1, timer := some 100, counter := some 200 } := by decide +kernel

/-! ### Chapter 8: the pages and the wake with contention -/

/-- The characters of a text. -/
def text (t : List Byte) : List Nat := t.map BitVec.toNat

theorem test_page_1 : text (distancePage txtTripA (record 41220 0 0 0)) = "TRIP A       41.2 KM".toList.map Char.toNat := by
  decide +kernel
theorem test_page_4 : text (journeyPage (record 84300 10540 4470 3912)) = "J  77.6 KMH     1:14".toList.map Char.toNat ∧
    text (journeyPage (record 84300 10540 4470 9)) = "J ---.- KMH     1:14".toList.map Char.toNat := by decide +kernel
theorem test_page_5 : text (rangePage { car with
      odometer := { car.odometer with stored := 1250450 },
      trip := { car.trip with records := car.trip.records.set 2 (record 84300 10540 4470 3912) } }) =
    " 431 KM ODO   125045".toList.map Char.toNat := by decide +kernel
/-- After LINK START the queue holds POLL and five items, and two items stay outstanding. -/
def waking : State :=
  { car with display := { car.display with
      link := .waking, tx := .sending .linkStart [0x01, 0xFF], headMark := true, idleTimer := some 10000 } }
theorem test_wake_fills_the_queue : let d := (after .linkStartSent waking).display
    d.queue = [.poll, .item .mcText, .item .mcAttr, .item .rp1Text, .item .rp1Attr, .item .rp2Text] ∧
      d.outstanding.rp2Attr = true ∧ d.outstanding.rpClock = true ∧ d.outstanding.rp2Text = false := by decide +kernel
theorem test_poll_packet : (after .packetDone (after .linkStartSent waking)).display.tx =
    .sending (.packet .poll) [0x05, 0xFB] := by decide +kernel

/-! ### Chapter 9: the break found and mended, the hold -/

theorem test_first_miss_is_suspect :
    let t := after .returnTimerExpiry { bench with loop := { bench.loop with awaiting := [⟨frame 0xE0 [1], 0⟩] } }
    t.loop.state = .suspect ∧ t.warnings.loopBroken = false := by decide +kernel
theorem test_second_miss_breaks_the_loop :
    let t := after .returnTimerExpiry
      { bench with loop := { bench.loop with state := .suspect, awaiting := [⟨frame 0xE0 [1], 0⟩] } }
    t.loop.state = .broken ∧ t.warnings.loopBroken = true := by decide +kernel
theorem test_twelfth_tap_asserts_the_hold :
    let l := { bench.loop with tapQ := List.replicate 11 (frame 0x20 [5]) }
    (l.tap (frame 0x20 [5])).asserted = true ∧ (l.tap (frame 0x20 [5])).flow = .hold := by decide +kernel
theorem test_takes_to_seven_release :
    let l : LoopPort := { bench.loop with tapQ := List.replicate 7 (frame 0x20 [5]), asserted := true, holdSent := true }
    l.holdTake.asserted = false ∧ l.holdTake.flow = .release := by decide +kernel

/-! ### Chapter 10: the worked dump of section 10.4; a response -/

theorem test_dump_response : data (.storeDump h 160 40) bench = [160, 0, 40] := by decide +kernel
/-- STORE DUMP builds five frames at once, and the sixth when the transmitter takes the response (section 10.4). -/
theorem test_dump_frames_of_the_worked_case :
    let s := after (.storeDump h 160 40) bench
    let t := after .loopTransmitStart s
    let first := [0xA3, 7, 0, 160] ++ List.replicate 10 255
    s.loop.insertQ.length = 6 ∧ ((placedBy bench s).drop 1).head? = some (0xF5, first) ∧
    s.handler.dump = .streaming { recipient := 5, seq := 7, next := 185, remaining := 15 } ∧
    t.loop.insertQ.length = 6 ∧ t.handler.dump = .streaming { recipient := 5, seq := 7, next := 190, remaining := 10 } := by
  decide +kernel
theorem test_read_store_while_erasing : data (.readStore h 33 none) { bench with
    store := { bench.store with ctl := .erasing, eraseSet := 0x02, current := some 1 } } = [0, 4, 1, 0, 0, 0, 0, 0, 2] := by
  decide +kernel
theorem test_unknown_code_is_bad_request : status (.unknownRequest 5 [0x99, 7]) bench = some 1 := by decide +kernel
theorem test_wrong_length_is_unknown : decodeRequest 5 [0x11, 7] = .unknownRequest 5 [0x11, 7] := by decide +kernel
theorem test_enable_channel_frame : decodeRequest 5 [0x11, 7, 12] = .enableChannel h 12 := by decide +kernel

/-! ### Chapter 11: section 11.5 -/

theorem test_three_samples_make_a_key_event :
    let s := after (.keySample true false false) (after (.keySample true false false) bench)
    s.key.candCount = 2 ∧ s.key.state = .off ∧ (after (.keySample true false false) s).key.state = .acc := by decide +kernel
theorem test_bounce_starts_the_count_again :
    let s := { bench with key := { bench.key with debounced := ⟨true, false, false⟩, candidate := ⟨true, true, false⟩,
                                                  candCount := 1, state := .acc } }
    (after (.keySample true false false) s).key.candCount = 0 := by decide +kernel
theorem test_run_starts_the_settle_timer :
    let s := { bench with key := { bench.key with candidate := ⟨true, true, false⟩, candCount := 2, valid := true,
                                                  day := 4211, seconds := 25190 } }
    let k := (after (.keySample true true false) s).key
    k.state = .run ∧ k.settleTimer = some 3000 ∧ k.runStart = some ⟨4211, 25190⟩ := by decide +kernel

/-! ### Witnesses: chapter 1 -/

def writeChannel (ch tag origin kind offset bit curve shift debounce : Byte) : Instr :=
  .writeChannel h ch tag origin kind offset bit curve 255 shift debounce

theorem witness_WriteAndEnableChannelByTheirChecks :
    bench.takes h = true ∧ car.takes h = true ∧ (car.channels[12]).enabled = true ∧ (bench.channels[47]).enabled = false ∧
    status (writeChannel 48 0x20 0xFF 0 0 0 0xFF 0 0) bench = some 2 ∧
    status (writeChannel 12 0x20 0xFF 0 0 0 0xFF 0 0) car = some 3 ∧
    [writeChannel 47 0xE0 0xFF 0 0 0 0xFF 0 0, writeChannel 47 0xDF 16 0 0 0 0xFF 0 0, writeChannel 47 0xDF 15 6 0 0 0xFF 0 0,
     writeChannel 47 0xDF 15 0 15 0 0xFF 0 0, writeChannel 47 0xDF 15 5 14 0 0xFF 0 0, writeChannel 47 0xDF 15 0 0 0 16 0 0,
     writeChannel 47 0xDF 15 0 0 0 15 7 0, writeChannel 47 0xDF 15 5 0 0 0 0 0, writeChannel 47 0xDF 15 4 0 8 0xFF 0 1,
     writeChannel 47 0xDF 15 4 0 7 0xFF 0 8].map (status · bench) = List.replicate 10 (some 2) ∧
    [writeChannel 47 0xDF 15 0 14 0 15 6 0, writeChannel 47 0xDF 15 3 13 0 15 6 0, writeChannel 47 0xDF 15 4 14 7 0xFF 0 7,
     writeChannel 47 0xDF 15 5 13 0 0xFF 0 0].map (status · bench) = List.replicate 4 (some 0) := by decide +kernel

/-- Channel 12 written, disabled, on a curve that is not VALID. -/
def written (curve : Option (Fin 16)) : State :=
  withChannel 12 { Channel.initial with setup := some (setup .analogU8 0x20 curve) } bench

theorem witness_WriteAndEnableChannelByTheirChecks_enable :
    (written (some 3)).takes h = true ∧ ((written (some 3)).curves[3]).state ≠ .valid ∧
    [status (.enableChannel h 48) bench, status (.enableChannel h 47) bench, status (.enableChannel h 12) (written (some 3)),
     status (.enableChannel h 12) car, status (.enableChannel h 12) (written none)] =
      [some 2, some 7, some 7, some 0, some 0] ∧
    ((after (.enableChannel h 12) (written none)).channels[12]).enabled = true := by decide +kernel

theorem witness_SilentChannelTellsItsUsers :
    car.takes h = true ∧ car.powered = true ∧ ((car.channels[12]).timer).isSome = true ∧
    [status (.disableChannel h 48) car, status (.disableChannel h 47) car, status (.disableChannel h 12) car] =
      [some 2, some 0, some 0] ∧ (car.channels[47]).enabled = false ∧ (car.channels[12]).enabled = true := by decide +kernel

theorem witness_CurveRequestsByTheirChecks :
    let two := { bench with curves := bench.curves.set 0 { curveOf [(0, 40), (800, 980)] with state := .editing, count := 0 } }
    car.takes h = true ∧ two.takes h = true ∧
    [Instr.curvePoint h 16 1 0 0, .curvePoint h 0 0 0 0, .curvePoint h 0 13 0 0, .curvePoint h 0 1 0xFF7FFF 0,
     .curvePoint h 0 1 0x010000 0, .commitCurve h 16 2, .commitCurve h 0 1, .commitCurve h 0 3, .commitCurve h 0 13].map
      (status · two) = List.replicate 9 (some 2) ∧
    [Instr.curvePoint h 3 1 0 0, .curvePoint h 5 1 0 0, .commitCurve h 3 5, .commitCurve h 5 2].map (status · car) =
      List.replicate 4 (some 3) ∧
    [Instr.curvePoint h 15 1 0xFF8000 0x8000, .curvePoint h 15 12 0x00FFFF 0x7FFF, .commitCurve h 0 2].map (status · two) =
      List.replicate 3 (some 0) := by decide +kernel

theorem witness_ConversionStaysWithinTheCurve :
    2 ≤ fuelPoints.length ∧ (∀ i : Fin 4, (fuelPoints[i.val]!).1 < (fuelPoints[i.val + 1]!).1) ∧
    fuelPoints.head? = some (12, 0) ∧ fuelPoints.getLast? = some (240, 800) ∧
    [12, 11, 240, 241, 90, 169].map (convertCurve fuelPoints) =
      [(0, false), (0, true), (800, false), (800, true), (400, false), (696, false)] := by decide +kernel

theorem witness_AnalogSamplesSmoothAndDiscreteSamplesDebounce :
    let f := setup .analogU8 0x20 none
    let d := setup .discrete 0x50 none
    let sure := fresh f 1000
    ((sampleAnalog f 1042 false Channel.initial).1.value, (sampleAnalog { f with shift := 0 } 1042 false sure).1.value,
      (sampleAnalog { f with shift := 1 } 1042 true sure).1.value, (sampleAnalog f 1000 true sure).1.value) =
      (some 1042, some 1042, some 1021, some 1000) ∧
    ((sampleDiscrete d true Channel.initial).2, (sampleDiscrete d false (fresh d 0)).2, (sampleDiscrete d true (fresh d 0)).2,
      (sampleDiscrete d true { fresh d 0 with candCount := 2 }).2, (sampleDiscrete { d with debounce := 1 } true (fresh d 0)).2) =
      (.discrete true none, .discrete false none, .discrete false none, .discrete true (some true),
       .discrete true (some true)) := by decide +kernel

theorem witness_TakeSamplesEveryReferencingChannel :
    let s := { car with loop := { car.loop with tapQ := [frame 0x20 [110]] } }
    let short := { car with loop := { car.loop with tapQ := [frame 0x32 [110]] } }
    s.powered = true ∧ s.loop.tapQ = frame 0x20 [110] :: [] ∧ rawField (setup .analogU8 0x20 (some 3)) [110] = some 110 ∧
    (car.channels[12]).enabled = true ∧ (after .channelTake s).channels[12] ≠ car.channels[12] ∧
    rawField (setup .analogU16 0x32 none) [110] = none ∧ (after .channelTake short).channels[2] = car.channels[2] := by
  decide +kernel

/-! ### Witnesses: chapter 2 -/

def writeGauge (g source curve damping slew : Byte) (park : Word) (flags : Byte) (dial : Word) : Instr :=
  .writeGauge h g source curve damping slew park flags dial

theorem witness_WriteGaugeByItsChecks :
    bench.takes h = true ∧ (bench.gauges[5]).enabled = false ∧ (car.gauges[3]).enabled = true ∧
    status (writeGauge 6 0 0 0 1 0 0 90) bench = some 2 ∧ status (writeGauge 3 0 0 0 1 0 0 90) car = some 3 ∧
    [writeGauge 5 48 0 0 1 0 0 90, writeGauge 5 0 16 0 1 0 0 90, writeGauge 5 0 0 6 1 0 0 90, writeGauge 5 0 0 0 0 0 0 90,
     writeGauge 5 0 0 0 1 1024 0 90, writeGauge 5 0 0 0 1 0 32 90, writeGauge 5 0 0 0 1 0 0 89, writeGauge 5 0 0 0 1 0 0 331].map
      (status · bench) = List.replicate 8 (some 2) ∧
    [writeGauge 5 47 15 5 255 1023 31 330, writeGauge 5 0 0 0 1 0 0 90].map (status · bench) = List.replicate 2 (some 0) ∧
    ((after (writeGauge 5 47 15 5 255 1023 31 330) bench).gauges[5]).state = .returning := by decide +kernel

/-- The fuel gauge disabled at position `p`, with the key in `k`. -/
def off (p : Nat) (stalePark : Bool) (k : KeyState) : State :=
  withKey k (withGauge
    { gauge .parked p none false with enabled := false, timer := none, setup := { fuelGauge with stalePark := stalePark } } car)

def silent (s : State) : State := withChannel 12 { fresh (setup .analogU8 0x20 (some 3)) 539 with state := .stale } s

def enabledGauge (s : State) : GaugeState × Option Nat × Option Nat :=
  let g := (after (.enableGauge h 3) s).gauges[3]
  (g.state, g.target, g.timer)

theorem witness_EnableAndDisableGaugeByTheirTables :
    (off 0 false .run).takes h = true ∧ ((off 0 false .run).curves[5]).state = .valid ∧ (off 0 false .run).sourceLive 12 = true ∧
    (silent (off 0 false .run)).sourceLive 12 = false ∧
    [status (.enableGauge h 6) car, status (.disableGauge h 6) car, status (.enableGauge h 5) car,
     status (.enableGauge h 3) { off 0 false .run with curves := bench.curves }, status (.enableGauge h 3) car,
     status (.disableGauge h 5) car, status (.disableGauge h 3) car] = [some 2, some 2, some 7, some 7, some 0, some 0, some 0] ∧
    [enabledGauge (off 0 false .run), enabledGauge (silent (off 0 false .run)), enabledGauge (silent (off 0 true .run)),
     enabledGauge (off 0 false .crank), enabledGauge (off 0 false .off), enabledGauge (off 9 false .acc)] =
      [(.tracking, some 673, some 20), (.holding, none, some 20), (.parked, none, none), (.holding, some 673, some 20),
       (.parked, some 673, none), (.returning, some 673, some 20)] := by decide +kernel

def updated (s : State) : GaugeState × Nat × Timer :=
  let g := (after (.driveUpdate 3) s).gauges[3]
  (g.state, g.position, g.timer)

theorem witness_DriveUpdateMovesByItsState :
    car.powered = true ∧ ((car.gauges[3]).timer).isSome = true ∧
    [updated (withGauge (gauge .parked 0 none false) car), updated (withGauge (gauge .holding 669 none false) car),
     updated (withGauge (gauge .tracking 669 none false) car), updated (withGauge (gauge .tracking 0 (some 1023) true) car),
     updated (withGauge (gauge .tracking 1023 (some 0) false) car), updated (withGauge (gauge .tracking 5 (some 5) true) car),
     updated (withGauge (gauge .returning 8 none false) car), updated (withGauge (gauge .returning 9 none false) car),
     updated (withGauge (gauge .sweepUp 991 none true) car), updated (withGauge (gauge .sweepUp 1023 none true) car),
     updated (withGauge (gauge .sweepDown 33 none true) car), updated (withGauge (gauge .sweepDown 32 none true) car),
     updated (silent (withGauge (gauge .sweepDown 32 none true) car))] =
    [(.parked, 0, some 20), (.holding, 669, some 20), (.tracking, 669, some 20), (.tracking, 255, some 20),
     (.tracking, 1015, some 20), (.tracking, 5, some 20), (.parked, 0, none), (.returning, 1, some 20),
     (.sweepDown, 1023, some 20), (.sweepDown, 1023, some 20), (.sweepDown, 1, some 20), (.tracking, 0, some 20),
     (.holding, 0, some 20)] := by decide +kernel

def keyed (old new : KeyState) (st : GaugeState) (position : Nat) (f : GaugeSetup) (s : State) : GaugeState :=
  let g := { gauge st position none false with setup := f }
  ((gaugeKey old new (withKey new (withGauge g s))).gauges[3]).state

theorem witness_GaugeKeyEventsByTheTable :
    let still := { fuelGauge with sweep := false }
    let parks := { still with stalePark := true }
    (car.gauges[3]).enabled = true ∧ (car.gauges[0]).enabled = false ∧
    [keyed .off .run .parked 0 fuelGauge car, keyed .acc .run .returning 4 still car, keyed .off .run .parked 0 still (silent car),
     keyed .off .run .parked 0 parks (silent car), keyed .off .crank .parked 0 still car, keyed .run .crank .tracking 4 still car,
     keyed .run .crank .sweepUp 4 still car, keyed .crank .run .holding 4 still car, keyed .crank .run .holding 4 still (silent car),
     keyed .crank .run .holding 4 parks (silent car), keyed .crank .run .holding 0 parks (silent car),
     keyed .crank .run .parked 0 parks (silent car), keyed .crank .run .sweepDown 4 still car, keyed .run .off .tracking 0 still car,
     keyed .run .acc .tracking 4 still car, keyed .crank .off .parked 0 still car] =
    [.sweepUp, .tracking, .holding, .parked, .parked, .holding, .sweepUp, .tracking, .holding, .returning, .parked, .parked,
     .sweepDown, .parked, .returning, .parked] := by decide +kernel

/-! ### Witnesses: chapter 3 -/

def writeTrip (level : Byte) (pulses units maxDelta : Word) (gap default : Nat) : Instr :=
  .writeTripSetup h 0 1 2 level pulses units maxDelta (BitVec.ofNat 24 (gap * 4096 + default))

theorem witness_WriteTripSetupByItsChecks :
    car.takes h = true ∧ car.key.state = .run ∧ bench.key.state ≠ .run ∧ status (writeTrip 47 1000 1000 1 0 30) car = some 7 ∧
    [writeTrip 48 1000 1000 1 0 30, writeTrip 47 999 1000 1 0 30, writeTrip 47 20001 1000 1 0 30, writeTrip 47 1000 999 1 0 30,
     writeTrip 47 1000 1000 0 0 30, writeTrip 47 1000 1000 1 1441 30, writeTrip 47 1000 1000 1 0 29,
     writeTrip 47 1000 1000 1 0 301].map (status · bench) = List.replicate 8 (some 2) ∧
    [writeTrip 47 1000 1000 1 0 30, writeTrip 47 20000 65535 65535 1440 300].map (status · bench) =
      List.replicate 2 (some 0) := by decide +kernel

theorem witness_SnapshotsReadsAndResetsOfTrips :
    let held := after (.snapshotTrip h 3) car
    car.takes h = true ∧ held.takes h = true ∧ car.trip.snapshots[3] = none ∧ (held.trip.snapshots[3]).isSome = true ∧
    [Instr.snapshotTrip h 4, .readTrip h 4, .resetTrip h 4].map (status · car) = List.replicate 3 (some 2) ∧
    (data (.snapshotTrip h 3) car, data (.snapshotTrip h 3) held) = ([0], [1]) ∧
    (data (.readTrip h 3) car, data (.readTrip h 3) held) =
      (List.replicate 12 0, List.replicate 9 0 ++ [128, 0, 0]) ∧ status (.resetTrip h 3) held = some 0 := by decide +kernel

theorem witness_RollingCountsBecomeWholeUnits :
    let counted (count : Nat) (s : State) : Option Nat × Nat := 
      let t := rollingNotice tripSetup false (.sample (.rolling count) false) s
      (t.trip.distanceBase, t.trip.residueE)
    car.trip.setup = some tripSetup ∧ 0 < tripSetup.pulsesPerKm ∧ 0 < tripSetup.unitsPerLitre ∧ car.store.ctl ≠ .scanning ∧
    car.key.state = .run ∧ (18220 + 400) % 65536 = 18620 ∧ 400 ≤ tripSetup.maxDelta ∧ tripSetup.maxDelta < 401 ∧
    [counted 18620 car, counted 18621 car, counted 18620 (withKey .acc car),
     counted 65535 { car with trip := { car.trip with distanceBase := none } }] =
    [(some 18620, 4100 + 400000 - 64 * 6250), (some 18621, 4100), (some 18620, 4100), (some 65535, 4100)] := by decide +kernel

theorem witness_TripFieldsSaturateOnce :
    let full (d : Nat) (o : Bool) : State :=
      { car with trip := { car.trip with records := car.trip.records.set 0 { record 0 0 359999 0 with distance := ⟨d, o⟩ } } }
    let distance (s : State) : Counter := ((addField 0 .distance 6 s).trip.records[0]).distance
    [distance (full 9999993 false), distance (full 9999994 false), distance (full 9999999 true)] =
      [⟨9999999, false⟩, ⟨9999999, true⟩, ⟨9999999, true⟩] ∧
    ((addField 0 .elapsed 1 (full 0 false)).trip.records[0]).elapsed = ⟨359999, true⟩ := by decide +kernel

theorem witness_DerivedFiguresRoundHalfUp :
    (averageSpeed (record 1 0 0 9), averageSpeed (record 1 0 0 10)) = (none, some 4) ∧
    (averageConsumption (record 999 1 0 0), averageConsumption (record 1000 5 0 0)) = (none, some 5) ∧
    bench.range = none ∧ (silent car).range = none ∧ car.range = some 490 ∧
    (withChannel 12 (fresh (setup .analogU8 0x20 none) 0) car).range = some 0 ∧
    ({ car with trip := { car.trip with records := car.trip.records.set 2 (record 10000 0 0 0) } }).range = some 1999 ∧
    car.takes h = true ∧ [status (.readTripFigures h 4 none) car, status (.readTripFigures h 3 (some 2)) car,
      status (.readTripFigures h 3 (some 1)) car] = [some 2, some 2, some 0] := by decide +kernel

theorem witness_KeyOffCapturesOnlyWhatChanged :
    let c : Capture := { tripA := .zero, tripB := .zero }
    let held (saving : Bool) (copy : Option Capture) : State := { car with trip := { car.trip with saving := saving, savedCopy := copy } }
    State.reset.store.ctl = .scanning ∧ (held false (some c)).trip.savedCopy = some c ∧ (held true none).trip.savedCopy ≠ some c ∧
    (held true none).store.ctl ≠ .scanning ∧ (tripKey .run .off (held true none)).trip.pendingCapture = some c ∧
    (tripKey .run .off (held false none)).trip.saving = true := by decide +kernel

/-! ### Witnesses: chapter 4 -/

def withStore (x : Store) (s : State) : State := { s with store := x }
def bad : SectorFlags := { bad := true, worn := false, erasedKnown := false }

theorem witness_StoreRequestsByTheirChecks :
    let busy := after (.storeProgram h 192 5) bench
    let broken := withStore { bench.store with flags := (bench.store.flags.set 6 bad).set 7 bad } bench
    bench.takes h = true ∧ busy.takes h = true ∧ broken.takes h = true ∧ busy.handler.ext.isSome = true ∧
    settleOnce bench = none ∧ bench.store.ctl = .ready ∧ (bench.sector 6).bad = false ∧
    [status (.storeProgram h 191 5) bench, status (.storeProgram h 192 5) busy, status (.storeProgram h 192 5) broken,
     status (.storeProgram h 255 5) bench, status (.storeErase h 0) bench, status (.storeErase h 0x3F) bench,
     status (.storeErase h 0x40) busy, status (.storeErase h 0xC0) broken, status (.storeErase h 0x40) bench] =
      [some 5, some 6, some 8, none, some 2, some 5, some 6, some 8, none] ∧
    busy.store.running = some { cls := .external, addr := 192, value := 5 } ∧
    (after (.storeErase h 0x40) bench).store.ctl = .eraseWindow := by decide +kernel

/-- A program of the word at 192 in progress over what it holds. -/
def programming (old value : Word) : State :=
  withStore { bench.store with
    ctl := .programming, mem := Memory.write [] 192 old, running := some { cls := .external, addr := 192, value := value } } bench

theorem witness_ProgramEndLeavesOldAndNew :
    let s := programming 0x00F0 0x0030
    let t := programming 0x00F0 0x0130
    s.powered = true ∧ s.storeWords = true ∧ s.store.running = some { cls := .external, addr := 192, value := 0x0030 } ∧
    t.storeWords = true ∧ (0x0130 : Word).getLsbD 8 = true ∧ (0x00F0 : Word).getLsbD 8 = false ∧
    Memory.read (after (.programEnd false) s).store.mem 192 = 0x0030 ∧
    ((after (.programEnd false) s).sector 6).worn = false ∧ ((after (.programEnd true) s).sector 6).worn = true ∧
    Memory.read (after (.programEnd false) t).store.mem 192 = 0x0030 ∧ ((after (.programEnd false) t).sector 6).worn = true := by
  decide +kernel

/-- The erase of sector 6 in progress over one programmed word. -/
def erasing (ctl : CtlState) : State :=
  withStore { bench.store with
    ctl := ctl, mem := [(192, 0)], eraseSet := 0x40, joined := [(.external, 0x40)], current := some 6 } bench

theorem witness_ErasingGoesSectorBySector :
    let window := withStore { bench.store with
      ctl := .eraseWindow, eraseSet := 0x40, joined := [(.external, 0x40)], window := some 0 } bench
    let suspending := withStore { (erasing .suspending).store with slotOdometer := some (.program 17 1) } (erasing .suspending)
    window.powered = true ∧ window.store.window.isSome = true ∧ (after .eraseWindowExpiry window).store.ctl = .erasing ∧
    (erasing .erasing).storeWords = true ∧ (erasing .erasing).store.current = some 6 ∧
    Memory.read (after (.sectorEraseEnd false []) (erasing .erasing)).store.mem 192 = 0xFFFF ∧
    Memory.read (after (.sectorEraseEnd true [0x8000]) (erasing .suspending)).store.mem 192 = 0x8000 ∧
    ((after (.sectorEraseEnd true []) (erasing .erasing)).sector 6).bad = true ∧
    suspending.store.ctl = .suspending ∧ suspending.store.slotOdometer = some (.program 17 1) ∧
    (after .suspensionReached suspending).store.ctl = .suspendedProgramming := by decide +kernel

theorem witness_OnlyAnEraseRaisesABit :
    (erasing .erasing).storeWords = true ∧ (Memory.read (erasing .erasing).store.mem 192).getLsbD 0 = false ∧
    (Memory.read (after (.sectorEraseEnd false []) (erasing .erasing)).store.mem 192).getLsbD 0 = true ∧
    (Memory.read (after (.powerLoss 0 [1]) (erasing .erasing)).store.mem 192).getLsbD 0 = true ∧
    (erasing .erasing).store.current = some (sectorOf 192) := by decide +kernel

/-- An ACTIVE odometer sector of a base below 65,536, with the first word of its increment field. -/
def odometerSector (k base : Nat) (field : Word) : List (Nat × Word) :=
  [(32 * k, 0x00FF), (32 * k + 1, 0), (32 * k + 2, BitVec.ofNat 16 base), (32 * k + 3, ~~~(BitVec.ofNat 16 base))] ++
    (if field = 0xFFFF then [] else [(32 * k + 4, field)])

def queued (n : Nat) (s : State) : State :=
  { s with loop := { s.loop with insertQ := List.replicate n { frame := frame 0xE0 [1], restart := false } } }

theorem witness_ScanGivesOneCodePerSector :
    let words : List (Nat × Word) := [(0, 0x00FF), (1, 0x0098), (2, 0x967F), (3, 0x68E8), (32, 0x00FF), (64, 0), (96, 0x1234)]
    let s := withStore { State.reset.store with mem := words } State.reset
    s.powered = true ∧ s.store.ctl = .scanning ∧ 0x0098 * 65536 + 0x967F = 9999999 ∧
    placedBy (queued 5 s) (after .scanComplete (queued 5 s)) = [(0xE1, [0, 0, 0, 1, 3, 2, 4, 0, 0, 5, 5])] ∧
    (after .scanComplete (queued 6 s)).handler.startUp =
      some [.activeOk, .checkFail, .obsolete, .corrupt, .erased, .erased, .openSector, .openSector] := by decide +kernel

theorem witness_ScanGivesOneCodePerSector_recovery :
    let recovered (m : List (Nat × Word)) : List Nat :=
      let o := (recoverOdometer (withStore { State.reset.store with mem := m } State.reset)).odometer
      [o.valid.toNat, o.active.val, o.stored, o.cleared, o.fault.toNat] ++ o.recovery.map Fin.val
    State.reset.odometer.setting = none ∧
    [recovered (odometerSector 1 9 0xFFFF), recovered (odometerSector 0 9 0xFFFF ++ odometerSector 1 9 0xFFFE),
     recovered (odometerSector 0 9 0xFFFE ++ odometerSector 1 10 0xFFFF),
     recovered (odometerSector 0 9 0x7FFE ++ odometerSector 1 9 0x7FFE), recovered [(0, 0x00FF)], recovered []] =
    [[1, 1, 9, 0, 0], [1, 1, 10, 1, 0, 0], [1, 1, 10, 0, 0, 0], [1, 0, 11, 2, 0, 1], [0, 0, 0, 0, 1, 0], [0, 0, 0, 0, 1]] := by decide +kernel

theorem witness_SetOdometerByItsChecks :
    let setting := after (.setOdometer h 1250448) bench
    let broken := withStore { bench.store with flags := (bench.store.flags.set 0 bad).set 1 bad } bench
    let last := { bench with odometer := { bench.odometer with
      work := some .setting, setting := some { value := 1250448, phase := .status 1 } } }
    car.takes h = true ∧ bench.takes h = true ∧ bench.odometer.valid = false ∧ car.odometer.valid = true ∧
    setting.takes h = true ∧ setting.odometer.setting.isSome = true ∧
    [status (.setOdometer h 10000000) bench, status (.setOdometer h 9999999) car, status (.setOdometer h 9999999) setting,
     status (.setOdometer h 9999999) broken, status (.setOdometer h 9999999) bench] = [some 2, some 7, some 6, some 8, none] ∧
    last.odometer.work = some .setting ∧
    (odometerProgramEnd { cls := .odometer, addr := 32, exceeded := false, word := 0xFF, cleared := 8 } last).odometer.valid =
      true := by decide +kernel

theorem witness_MetresBecomeIncrements :
    let s := { rotating with odometer := { rotating.odometer with pending := 1 } }
    bench.shown = none ∧ ({ car with odometer := { car.odometer with stored := 9999999 } }).shown = some 9999999 ∧
    car.shown = some 1250222 ∧ (addMetres 40 car).odometer.residue = 0 ∧ (addMetres 39 car).odometer.residue = 99 ∧
    s.incrementStep = some (.program 17 1) ∧ s.odometer.valid = true ∧
    (incrementEnd { cls := .odometer, addr := 17, exceeded := false, word := 1, cleared := 1 } s).shown = s.shown := by
  decide +kernel

theorem witness_OdometerNeverDecreases :
    let s := { rotating with loop := { rotating.loop with tapQ := [frame 0x30 [0x48, 0xB4]] } }
    s.odometer.valid = true ∧ s.odometer.setting = none ∧ s.store.ctl ≠ .scanning ∧ s.shown = some 1250222 ∧
    (after .channelTake s).shown = some 1250223 := by decide +kernel

theorem witness_PowerLossKeepsOnlyTheStore :
    let s := programming 0x00F0 0x0030
    s.storeWords = true ∧ s.powered = true ∧ (after (.powerLoss 0x0040 []) s).powered = false ∧
    Memory.read (after (.powerLoss 0x0040 []) s).store.mem 192 = 0x0070 ∧
    Memory.read (after (.powerOnReset 2 0xFFFF []) s).store.mem 192 = 0x00F0 ∧
    Memory.read (after (.powerLoss 0 [0x00FF]) (erasing .erasing)).store.mem 192 = 0x00FF ∧
    (after (.powerOnReset 3 0 []) (after (.powerLoss 0 []) s)).loop.node = 3 := by decide +kernel

theorem witness_PairDataReadBackAsSaved :
    let c : Capture := { tripA := { record 9999999 0 359999 0 with distance := ⟨9999999, true⟩ }, tripB := record 0 9999999 0 359999 }
    let m := (List.range 16).foldl (fun m i => Memory.write m (66 + i) (c.words.getD i 0)) []
    let r := (Vector.replicate 8 (none : Option (Nat × Nat))).set 0 (some (9999999, 65535))
    let n := (List.range 24).foldl (fun m i => Memory.write m (130 + i) ((r.toList.flatMap recordWords).getD i 0)) []
    c.tripA.inRange = true ∧ c.tripB.inRange = true ∧ captureAt m 2 = c ∧ recordAt n 4 0 = some (9999999, 65535) ∧
    recordAt n 4 7 = none ∧ newer 0 0xFFFF = true ∧ newer 0x7FFF 0 = true ∧ newer 0x8000 0 = false := by decide +kernel

/-! ### Witnesses: chapter 5 -/

def writeItem (i message : Byte) (km days : Word) (advance overdue : Nat) : Instr :=
  .writeServiceItem h i message km days 65535 65535 (BitVec.ofNat 24 (advance * 4096 + overdue))

theorem witness_ServiceItemRequestsByTheirChecks :
    let item0 := (oil 1322109 4210).service.items[0]
    let disabled := (oil 1322109 4210).setItem 0 { item0 with enabled := false }
    (oil 1322109 4210).takes h = true ∧ item0.written = true ∧ item0.enabled = true ∧ disabled.takes h = true ∧
    [writeItem 8 0 1 0 0 0, writeItem 7 64 1 0 0 0, writeItem 7 0 1 1096 0 0, writeItem 7 0 1 0 366 0,
     writeItem 7 0 1 0 0 366, writeItem 7 0 0 0 0 0, .enableServiceItem h 8, .disableServiceItem h 8].map (status · bench) =
      List.replicate 8 (some 2) ∧
    [writeItem 7 63 1 0 365 365, writeItem 7 255 0 1095 0 0, .disableServiceItem h 7].map (status · bench) =
      List.replicate 3 (some 0) ∧
    status (.enableServiceItem h 7) bench = some 7 ∧ status (.enableServiceItem h 0) (oil 1322109 4210) = some 0 ∧
    ((after (.enableServiceItem h 0) disabled).service.items[0]).stage = .advance ∧
    ((after (.disableServiceItem h 0) (evaluateAll (oil 1322109 4210))).service.items[0]).stage = .notDue ∧
    item0.stage = .notDue ∧ ((evaluateAll (oil 1322109 4210)).service.items[0]).stage = .advance ∧
    status (writeItem 0 0 1 0 0 0) (oil 1322109 4210) = some 0 := by decide +kernel

theorem witness_EvaluationGivesTheStage :
    let day (today : Nat) (km : Nat) : State :=
      let s := oil 1185437 today
      s.setItem 0 { s.service.items[0] with intervalKm := km }
    let unknown := (oil 0 0).setItem 0 { (oil 0 0).service.items[0] with record := none }
    let stage (s : State) : Stage := ((evaluateItem 0 s).service.items[0]).stage
    ((oil 0 0).service.items[0]).enabled = true ∧ (bench.service.items[0]).enabled = false ∧
    [stage unknown, stage (day 4364 0), stage (day 4365 0), stage (day 4395 0), stage (day 4424 0), stage (day 4425 0)] =
      [.due, .notDue, .advance, .due, .due, .overdue] ∧ (oil 1185437 0).shown = some 1185437 := by decide +kernel

theorem witness_ServiceResetOnlyStandingInRun :
    let s := oil 1336442 4250
    let moving := withChannel 2 (fresh (setup .analogU16 0x32 none) 12) s
    let again := { s with service := { s.service with saving := true } }
    let pressed (t : State) : State :=
      let u := evaluateAll t
      { u with display := { u.display with page := 6, press := some { page := 6, state := .long, timer2 := none, timer5 := some 0 } } }
    s.takes h = true ∧ s.key.state = .run ∧ (s.channels[2]).value = some 0 ∧ s.odometer.valid = true ∧ s.key.valid = true ∧
    (pressed s).mostUrgent = some 0 ∧ s.shown = some 1336442 ∧
    [status (.serviceReset h 8) s, status (.serviceReset h 7) s, status (.serviceReset h 0) moving, status (.serviceReset h 0) s] =
      [some 2, some 7, some 7, some 0] ∧
    (after (.serviceReset h 0) again).service.saveAgain = true ∧
    (after .hold5sExpiry (pressed moving)).display.naTimer = some 3000 ∧
    ((after .hold5sExpiry (pressed s)).service.items[0]).record = some (1336442, 4250) := by decide +kernel

/-! ### Witnesses: chapter 6 -/

def writeCondition (w kind subject : Byte) (hysteresis : Word) (counts keyGate : Byte) (speedGate : Word)
    (staleAction minStage : Byte) : Instr :=
  .writeWarningCondition h w kind subject 0x8000 hysteresis counts keyGate speedGate staleAction minStage

def writeAction (w priority latch chime message lamp routing present : Byte) : Instr :=
  .writeWarningAction h w priority latch chime message lamp routing present 255

theorem witness_WriteWarningHalvesByTheirChecks :
    bench.takes h = true ∧ standing.takes h = true ∧ (standing.warnings.entries[9]).enabled = true ∧
    (bench.warnings.entries[31]).enabled = false ∧
    [writeCondition 32 6 0 0 0 0 0 0 0, writeCondition 31 7 0 0 0 0 0 0 0, writeCondition 31 6 5 0 0 0 0 0 0,
     writeCondition 31 5 8 0 0 0 0 0 0, writeCondition 31 4 48 0 0 0 0 0 0, writeCondition 31 6 0 0 0 4 0 0 0,
     writeCondition 31 6 0 0 0 0 0x8000 0 0, writeCondition 31 0 0 0 0x01 0 0 0 0, writeCondition 31 2 0 0 0x10 0 0 0 0,
     writeCondition 31 3 0 0 0x11 0 0 3 0, writeCondition 31 1 0 0x8000 0x11 0 0 0 0, writeCondition 31 5 0 0 0 0 0 0 3,
     writeAction 32 0 0 0 0 0 0 0, writeAction 31 8 0 0 0 0 0 0, writeAction 31 0 3 0 0 0 0 0, writeAction 31 0 0 16 0 0 0 0,
     writeAction 31 0 0 0 64 0 0 0, writeAction 31 0 0 0 0 12 0 0, writeAction 31 0 0 0 0 0 3 0,
     writeAction 31 0 0 0 0 0 0 16].map (status · bench) = List.replicate 20 (some 2) ∧
    [writeCondition 9 6 0 0 0 0 0 0 0, writeAction 9 0 0 0 0 0 0 0].map (status · standing) = List.replicate 2 (some 3) ∧
    [writeCondition 31 0 47 0x7FFF 0xFF 3 0x7FFF 2 255, writeCondition 31 6 4 0xFFFF 0 0 0 255 255,
     writeCondition 31 5 7 0 0 0 0 0 2, writeCondition 31 4 47 0 0 0 0 0 0, writeAction 31 7 2 15 63 11 2 15,
     writeAction 31 0 0 255 255 255 0 0].map (status · bench) = List.replicate 6 (some 0) := by decide +kernel

/-- Warning 9 of `standing` alone, changed by `f`. -/
def door (f : Warning → Warning) : State := standing.setWarning 9 (f standing.warnings.entries[9])

theorem witness_EnableDisableAndMaskWarnings :
    let idle := door (fun e => { e with enabled := false, state := .idle, holds := false, gate := false })
    let gated := withKey .off idle
    let masked := door (fun e => { e with masked := true, state := .pending })
    standing.takes h = true ∧ idle.takes h = true ∧ gated.takes h = true ∧ masked.takes h = true ∧
    gated.keyGateMet .notOff = false ∧ idle.keyGateMet .notOff = true ∧ idle.speedGateMet 0 = true ∧
    [Instr.enableWarning h 32, .disableWarning h 32, .maskWarning h 32, .unmaskWarning h 32].map (status · standing) =
      List.replicate 4 (some 2) ∧ status (.enableWarning h 31) standing = some 7 ∧
    [Instr.enableWarning h 9, .disableWarning h 31, .unmaskWarning h 9].map (status · standing) = List.replicate 3 (some 0) ∧
    status (.maskWarning h 9) masked = some 0 ∧ ((after (.enableWarning h 9) idle).warnings.entries[9]).gate = true ∧
    ((after (.enableWarning h 9) gated).warnings.entries[9]).gate = false ∧
    ((after (.disableWarning h 9) standing).warnings.entries[9]).state = .idle ∧
    ((after (.maskWarning h 9) standing).warnings.entries[9]).state = .pending ∧
    ((after (.unmaskWarning h 9) masked).warnings.entries[9]).masked = false := by decide +kernel

/-- What R120 asks of a state, over all 32 warnings. -/
def selected (s : State) : Bool :=
  (List.finRange 32).all (fun w =>
    let e := s.warnings.entries[w]
    (e.enabled || e.state = .idle) && (e.state != .presented || !e.masked) &&
      (List.finRange 32).all (fun v => (s.warnings.entries[v]).state != .presented || e.state != .presented || v = w) &&
      (!(e.enabled && !e.masked && e.state = .pending) || (List.finRange 32).any (fun p =>
        (s.warnings.entries[p]).state = .presented && decide (rankOf p s.warnings.entries[p] ≤ rankOf w e))))

theorem witness_SelectionIsAlwaysSettled :
    selected standing = true ∧ selected (countVerdict 2 oilCondition true standing) = true ∧
    ((countVerdict 2 oilCondition true standing).warnings.entries[2]).state = .presented := by decide +kernel

theorem witness_PresentationsEndByTheirRules :
    let timed := door (fun e => { e with presentTimer := some 0 })
    let past := door (fun e => { e with presentTimer := some 0, holds := false })
    let momentary := door (fun e => { e with presentTimer := some 0, action := some { doorAction with latch := .momentary } })
    let seen := door (fun e => { e with state := .acknowledged, remindTimer := some 0 })
    let call := door (fun e => { e with condition := some { doorCondition with kind := .system, subject := 4 } })
    timed.powered = true ∧ ((timed.warnings.entries[9]).presentTimer).isSome = true ∧
    (timed.warnings.entries[9]).state = .presented ∧ (timed.warnings.entries[9]).action = some doorAction ∧
    [timed, past, momentary].map (fun s => ((after (.presentTimerExpiry 9) s).warnings.entries[9]).state) =
      [.acknowledged, .idle, .idle] ∧
    ((seen.warnings.entries[9]).remindTimer).isSome = true ∧ (seen.warnings.entries[9]).state = .acknowledged ∧
    ((after (.remindTimerExpiry 9) seen).warnings.entries[9]).state = .presented ∧
    standing.presented = some 9 ∧ call.presented = some 9 ∧
    [standing, past, call].map (fun s => ((pressEdge s).warnings.entries[9]).state) = [.acknowledged, .idle, .acknowledged] := by
  decide +kernel

theorem witness_VerdictsAreCountedAgainstTheCondition :
    let high := { oilCondition with kind := .high }
    [verdict high false (.analog 50 false), verdict high true (.analog 30 false), verdict high true (.analog 29 false),
     verdict oilCondition true (.analog 70 false), verdict oilCondition true (.analog 71 false),
     verdict doorCondition false (.discrete true none), verdict { doorCondition with kind := .discreteOff } false (.discrete true none),
     verdict doorCondition false (.analog 1 false)] =
      [some true, some true, some false, some true, some false, some true, some false, none] ∧
    (standing.warnings.entries[2]).holds = false ∧ (standing.warnings.entries[2]).qualifyCount + 1 = oilCondition.qualify ∧
    (standing.warnings.entries[9]).holds = true ∧ (standing.warnings.entries[9]).clearCount + 1 = doorCondition.clear ∧
    ((countVerdict 9 doorCondition false standing).warnings.entries[9]).state = .idle ∧
    ((countVerdict 9 { doorCondition with clear := 2 } false standing).warnings.entries[9]).clearCount = 1 := by decide +kernel

theorem witness_LampsFollowStandingWarnings :
    standing.takes h = true ∧ standing.lampLit 7 = true ∧ standing.lampLit 1 = false ∧
    status (.readLamps h (some 2)) standing = some 2 ∧ data (.readLamps h (some 1)) standing = [17, 0, 0] ∧
    (warningKey .off .run standing).warnings.bulbCheck = some 3000 ∧ (warningKey .run .acc standing).warnings.bulbCheck = none ∧
    (warningKey .run .crank standing).warnings.bulbCheck = standing.warnings.bulbCheck ∧ standing.powered = true := by
  decide +kernel

/-! ### Witnesses: chapter 7 -/

def withChime (c : Chime) (s : State) : State := { s with chime := c }

theorem witness_WriteChimesByTheirChecks :
    let s := withChime calling bench
    bench.takes h = true ∧ s.takes h = true ∧ s.chime.queue.map (fun r => r.pattern) = [6] ∧
    [Instr.writeChimeSegment h 16 1 100 1 0, .writeChimeSegment h 15 0 100 1 0, .writeChimeSegment h 15 7 100 1 0,
     .writeChimeSegment h 15 1 99 1 0, .writeChimeSegment h 15 1 2501 1 0, .writeChimeSegment h 15 1 100 0 0,
     .writeChimePattern h 16 0 0, .writeChimePattern h 15 16 0, .writeChimePattern h 15 0 7, .writeChimePattern h 15 0 1,
     .writeChimeSetup h 48 0 0, .writeChimeSetup h 0 16 0, .writeChimeSetup h 0 0 16].map (status · s) =
      List.replicate 13 (some 2) ∧
    [Instr.writeChimeSegment h 6 1 100 1 0, .writeChimePattern h 6 0 1].map (status · s) = List.replicate 2 (some 3) ∧
    [Instr.writeChimeSegment h 15 6 2500 255 255, .writeChimeSegment h 15 1 100 1 0, .writeChimePattern h 15 15 0,
     .writeChimePattern h 7 0 1, .writeChimeSetup h 255 15 255, .writeChimeSetup h 47 0 15].map (status · s) =
      List.replicate 6 (some 0) := by decide +kernel

/-- Eight requests of pattern 6 from warnings 24 to 31, in rank order, the first one playing its tone. -/
def crowded : Chime :=
  { calling with
    queue := (List.finRange 8).map (fun k =>
      { origin := .warning ⟨24 + k.val, by omega⟩, zone := .front, pattern := 6, rank := 152 + k.val, repeatsLeft := some 3,
        released := false })
    front := { calling.front with current := .request (.warning 24) } }

def ranks (c : Chime) : List Nat := c.queue.map (fun r => r.rank)

theorem witness_ChimeRequestsRefreshRankAndPushOut :
    let gap : Chime := { calling with front := { calling.front with state := .gap, counter := none } }
    calling.consistent = true ∧ crowded.consistent = true ∧ gap.consistent = true ∧
    calling.request (.warning 2) .front 0 2 repeatsOf = calling ∧
    ranks (calling.request (.warning 30) .front 7 158 repeatsOf) = [158] ∧
    ranks (calling.request (.warning 2) .front 7 2 repeatsOf) = [2, 158] ∧
    (calling.request (.warning 2) .front 7 2 repeatsOf).front = calling.front ∧
    (gap.request (.warning 2) .front 7 2 repeatsOf).front.current = .request (.warning 2) ∧
    (gap.request (.warning 31) .front 7 159 repeatsOf).front = gap.front ∧
    (calling.request (.warning 2) .rear 7 2 repeatsOf).rear.state = .tone ∧
    ranks (crowded.request (.warning 2) .front 7 2 repeatsOf) = [2, 152, 153, 154, 155, 156, 157, 158] ∧
    crowded.request (.warning 2) .rear 7 159 repeatsOf = crowded ∧ crowded.release (.warning 2) .front = crowded ∧
    ranks (crowded.release (.warning 25) .front) = [152, 154, 155, 156, 157, 158, 159] ∧
    (gap.release (.warning 30) .front).front = .silent ∧ (calling.release (.warning 30) .front).front = calling.front := by
  decide +kernel

theorem witness_PlayersStepThroughTheirPatterns :
    let gap : Chime := { calling with front := { calling.front with state := .gap, counter := none } }
    let last : Chime := { gap with queue := calling.queue.map (fun r => { r with repeatsLeft := some 1 }) }
    let first : Chime := { gap with front := { gap.front with segment := 1 } }
    let forever : Chime := { gap with queue := calling.queue.map (fun r => { r with repeatsLeft := none }) }
    let released : Chime := { calling with queue := calling.queue.map (fun r => { r with released := true }) }
    let beaten := calling.request (.warning 2) .front 7 2 repeatsOf
    let tick : Chime := Chime.tick { calling with queue := [], front := .silent }
    let tone (c : Chime) : Player := (after (.toneEnd .front) (withChime c bench)).chime.front
    let over' (c : Chime) : Player := (after (.gapEnd .front) (withChime c bench)).chime.front
    bench.powered = true ∧ [gap, last, first, forever, released, beaten, tick].all Chime.consistent = true ∧
    (tone calling).state = .gap ∧ (tone released) = .silent ∧ (tone beaten).current = .request (.warning 2) ∧
    (tone tick) = .silent ∧ (over' gap).segment = 1 ∧ (over' last) = .silent ∧ (over' first).segment = 2 ∧
    (over' forever).segment = 1 ∧ tone gap = gap.front ∧ over' calling = calling.front := by decide +kernel

theorem witness_ChimeQueueStaysConsistent :
    let s := { withChime calling bench with pending := [.toneEnd .front] }
    s.chime.consistent = true ∧ step s = .next (after (.toneEnd .front) { s with pending := [] }) := by
  refine ⟨by decide +kernel, rfl⟩

/-! ### Witnesses: chapter 8 -/

def withDisplay (d : Display) (s : State) : State := { s with display := d }

def shown : Display := bench.display

theorem witness_WrittenContentIsRebuiltIntoTheImages :
    let write (m chunk char : Byte) : Instr := .writeMessage h m chunk (Vector.replicate 10 char)
    let setup (b t off : Byte) (idle : Word) (mc rp : Byte) : Instr := .writeDisplaySetup h b t off idle mc rp
    let mc (d : Display) : Nat × Nat := ((d.images.mcText.map BitVec.toNat).headD 0, d.images.mcBrightness)
    bench.takes h = true ∧
    [write 64 0 0x41, write 63 2 0x41, write 63 0 0x1F, write 63 0 0x60, setup 48 0 0 10 0 0, setup 0 48 0 10 0 0,
     setup 0 0 121 10 0 0, setup 0 0 0 9 0 0, setup 0 0 0 601 0 0, setup 0 0 0 10 4 0, setup 0 0 0 10 0 4].map (status · bench) =
      List.replicate 11 (some 2) ∧
    [write 63 0 0x20, write 0 1 0x5F, setup 255 255 0 10 0 0, setup 47 47 120 600 3 3].map (status · bench) =
      List.replicate 4 (some 0) ∧
    [mc (rebuild (withDisplay { shown with mcWarning := some (0, true) } bench)).display, mc (rebuild bench).display,
     mc (rebuild (withDisplay { shown with blanked := false, naTimer := some 1 } bench)).display,
     mc (rebuild (withDisplay { shown with blanked := false } bench)).display] = [(32, 3), (32, 3), (78, 3), (84, 3)] ∧
    (rebuild (withDisplay { shown with rearWarning := some 5 } bench)).display.images.rp2Flash = true := by decide +kernel

theorem witness_DisplayPacketsAreFilledWhenTaken :
    let full : Display := { shown with link := .active, queue := [.item .rp1Text, .item .rp1Attr, .item .rp2Text, .item .rp2Attr, .item .rpClock] }
    let sending : Display := { shown with tx := .sending (.packet .poll) [0x05, 0xFB] }
    (full.itemChanged .rp1Text = full) ∧ (full.itemChanged .mcText).queue.length = 6 ∧
    ({ full with present := false }.itemChanged .rp1Text = { full with present := false }) ∧
    ((full.itemChanged .mcText).itemChanged .mcAttr).outstanding.mcAttr = true ∧ full.fillWants.queue.length = 6 ∧
    shown.fillWants = shown ∧ bench.powered = true ∧ full.tx = .idle ∧
    (after .packetDone (withDisplay full bench)).display.queue.length = 6 ∧
    after .packetDone bench = bench ∧ (after .packetSent (withDisplay sending bench)).display.tx = .listening ∧
    (after .packetSent (withDisplay { sending with tx := .sending (.packet .answered) [0x06, 0xFA] } bench)).display.tx = .idle := by
  decide +kernel

theorem witness_LinkStatesByTheirEvents :
    let at' (l : LinkState) : Display := { shown with link := l, settleTimer := some 0, pollTimer := some 0, idleTimer := some 0, quietTimer := some 0 }
    let go (i : Instr) (d : Display) : Display := (after i (withDisplay d bench)).display
    let parked : Display := { shown with link := .active }
    bench.powered = true ∧ bench.key.state = .off ∧ parked.blanked = true ∧ parked.idleTimer = none ∧
    [(go .dlWakeAsserted (at' .hibernating)).link, (go .dlWakeAsserted (at' .waking)).link, (go .dlWakeAsserted (at' .active)).link,
     (go .dlWakeAsserted (at' .shuttingDown)).link, (go .rpIdleTimerExpiry (at' .active)).link, (go .quietTimerExpiry (at' .shuttingDown)).link,
     (go .quietTimerExpiry { at' .shuttingDown with wakeAfter := true }).link, (checkShutdown (withDisplay parked bench)).display.link,
     (checkShutdown (withDisplay { parked with blanked := false } bench)).display.link] =
      [.waking, .waking, .active, .shuttingDown, .shuttingDown, .hibernating, .waking, .shuttingDown, .active] ∧
    (go .linkSettleExpiry (at' .waking)).tx = .sending .linkStart [0x01, 0xFF] ∧
    (go .dlWakeAsserted (at' .active)).queue = [.poll] ∧ (go .pollTimerExpiry (at' .active)).queue = [.poll] ∧
    (go .pollTimerExpiry { at' .active with queue := List.replicate 6 (.item .mcText) }).pollWant = true ∧
    (go .pollTimerExpiry { at' .active with tx := .listening }).queue = [] ∧
    (go .linkShutdownSend { shown with link := .shuttingDown }).tx = .sending .linkShutdown [0x07, 0xF9] ∧
    go .linkShutdownSend shown = shown ∧
    (go .linkShutdownSent { shown with tx := .sending .linkShutdown [0x07, 0xF9] }).quietTimer = some 5 := by decide +kernel

theorem witness_RepliesAndMissesOfTheRearPanel :
    let on (missed : Nat) (present : Bool) : Display := { shown with tx := .listening, replyWindow := some 0, missed := missed, present := present, link := .active }
    let go (i : Instr) (d : Display) : Bool × Nat × Bool × Bool :=
      let e := (after i (withDisplay d bench)).display
      (e.present, e.missed, e.call, e.journey)
    let reply (b : Byte) : Instr := .statusReply (withCheck [0x81, b])
    bench.powered = true ∧ shown.tx ≠ .listening ∧ after .replyWindowExpiry bench = bench ∧
    [go .replyWindowExpiry (on 1 true), go .replyWindowExpiry (on 2 true), go .replyWindowExpiry (on 2 false),
     go .replyWindowExpiry (on 3 true), go (.statusReply [0x81, 0, 0]) (on 0 true), go (reply 0) (on 2 true), go (reply 0) (on 3 false),
     go (reply 1) (on 3 false), go (reply 2) (on 0 true), go (reply 3) { on 0 true with call := true }] =
    [(true, 2, false, false), (false, 3, false, false), (false, 3, false, false), (true, 3, false, false),
     (true, 1, false, false), (true, 0, false, false), (true, 0, false, false), (true, 0, true, false),
     (true, 0, false, true), (true, 0, true, true)] := by decide +kernel

theorem witness_PressRecordsAndMcTimers :
    let p (n : Nat) (st : PressState) : Display := { shown with blanked := false, press := some { page := n, state := st, timer2 := some 0, timer5 := some 0 } }
    let pg (n : Nat) (s : State) : Nat := (releaseEdge (withDisplay { p n .held with page := n } s)).display.page
    let reset (n : Nat) : List (List Nat) :=
      (placedBy bench (after .hold2sExpiry (withDisplay (p n .held) bench))).map Prod.snd
    bench.powered = true ∧ bench.presented = none ∧ (pressEdge bench).display.blanked = false ∧
    (pressEdge (withDisplay { shown with blanked := false } bench)).display.press =
      some { page := 1, state := .held, timer2 := some 2000, timer5 := some 5000 } ∧ releaseEdge bench = bench ∧
    [pg 1 bench, pg 5 bench, pg 5 (evaluateAll (oil 1346500 4300)), pg 6 bench] = [2, 1, 6, 1] ∧
    (releaseEdge (withDisplay { p 3 .long with page := 3 } bench)).display.page = 3 ∧
    [reset 1, reset 2, reset 3, reset 4] = [[[5, 2, 0, 0, 1]], [[5, 2, 0, 0, 1]], [[5, 2, 0, 1, 1]], []] ∧
    (after .mcOffTimerExpiry (withDisplay { shown with offTimer := some 0, blanked := false } bench)).display.blanked = true ∧
    after .mcOffTimerExpiry bench = bench ∧ after .notAvailableExpiry bench = bench ∧
    (after .notAvailableExpiry (withDisplay { shown with naTimer := some 0 } bench)).display.naTimer = none := by decide +kernel

/-! ### Witnesses: chapter 9 -/

def withLoop (l : LoopPort) (s : State) : State := { s with loop := l }

theorem witness_FramesAreTreatedByTheFirstCase :
    let f (tag : Byte) : Frame := frame tag [1]
    let go (b : Frame) (s : State) : LoopPort := (after (.loopFrameReceived b false false) s).loop
    let pending : State := { car with handler := { car.handler with restartPending := true } }
    let full : State := withLoop { car.loop with forwardQ := List.replicate 4 (f 0x11), requestQ := List.replicate 4 (f 0xF2) } pending
    let own : Frame := mkFrame 0x20 2 [1]
    car.powered = true ∧ car.loop.requestQ = [] ∧ pending.handlerFree = false ∧ car.handlerFree = true ∧
    go ((f 0x11).dropLast) car = car.loop ∧ after (.loopFrameReceived (f 0x11) true false) car = car ∧
    after (.loopFrameReceived (f 0x11) false true) car = car ∧ go (mkFrame 0xE8 2 []) car = car.loop ∧
    (go own car).state = .suspect ∧ (go (mkFrame 0xF2 5 [0x11, 7, 12]) car).insertQ.length = 1 ∧
    (go (f 0xF2) pending).requestQ.length = 1 ∧ (go (f 0xF2) full).overrun = true ∧
    (go (mkFrame 0xE8 9 []) car).holders = [⟨9, 2000⟩] ∧
    (go (mkFrame 0xE8 9 []) (withLoop { car.loop with holders := [⟨9, 5⟩] } car)).holders = [⟨9, 2000⟩] ∧
    (go (mkFrame 0xE9 9 []) (withLoop { car.loop with holders := [⟨9, 5⟩] } car)).holders = [] ∧
    ((go (f 0x20) car).forwardQ.length, (go (f 0x20) car).tapQ.length) = (1, 1) ∧
    ((go (f 0x11) full).forwardQ.length, (go (f 0x11) full).tapQ.length) = (4, 0) := by decide +kernel

theorem witness_ReturnsAndMissesMoveTheLoopState :
    let a : Awaiting := ⟨frame 0xE0 [1], 0⟩
    let b : Awaiting := ⟨frame 0xE0 [2], 0⟩
    let on (l : List Awaiting) (st : LoopState) : State := withLoop { bench.loop with awaiting := l, state := st } bench
    bench.powered = true ∧ after .returnTimerExpiry bench = bench ∧ a.frame ≠ b.frame ∧
    [(after .returnTimerExpiry (on [a] .intact)).loop.state, (after .returnTimerExpiry (on [a] .broken)).loop.state,
     (loopReturn b.frame (on [a] .suspect)).loop.state, (loopReturn a.frame (on [a, b] .broken)).loop.state,
     (loopReturn b.frame (on [a, b] .suspect)).loop.state] = [.suspect, .broken, .broken, .intact, .intact] ∧
    (loopReturn b.frame (on [a, b] .suspect)).loop.awaiting = [] := by decide +kernel

theorem witness_TransmitterChoosesByTheOrder :
    let x : Inserted := { frame := frame 0xE0 [1], restart := false }
    let l : LoopPort := { bench.loop with insertQ := [x] }
    let hold : Frame := [0xE8, 0x20, 0xF8]
    let release : Frame := [0xE9, 0x20, 0xF7]
    let start (l : LoopPort) : LoopTx := (after .loopTransmitStart (withLoop l bench)).loop.tx
    let sent (t : LoopTx) : LoopPort := (after .loopFrameSent (withLoop { l with tx := t } bench)).loop
    bench.powered = true ∧ bench.loop.node = 2 ∧ bench.handler.held = [] ∧ bench.handler.events = [] ∧
    bench.handler.startUp = none ∧ bench.handler.dump = .idle ∧ l.requestQ = [] ∧
    [start { l with tx := .forwarded [1] }, start { l with flow := .hold, forwardQ := [[1]] }, start { l with flow := .release },
     start { l with forwardQ := [[1]] }, start { l with insertQ := [] }, start l, start { l with holders := [⟨9, 5⟩] },
     start { l with awaiting := List.replicate 8 ⟨[1], 5⟩ }, start { l with awaiting := [⟨x.frame, 5⟩] }] =
    [.forwarded [1], .hold hold, .release release, .forwarded [1], .idle, .inserted x, .idle, .idle, .idle] ∧
    sent .idle = l ∧ (sent (.hold hold)).holdSent = true ∧ (sent (.release release)).holdSent = false ∧
    (sent (.forwarded [1])).tx = .idle ∧ (sent (.inserted x)).awaiting = [⟨x.frame, 100⟩] := by decide +kernel

theorem witness_HoldsByTheirEvents :
    let on (n : Nat) (asserted force : Bool) (critical : Nat) : LoopPort := { bench.loop with tapQ := List.replicate n [0x20], asserted := asserted, force := force, critical := critical }
    let clear (l : LoopPort) : Bool := (after (.clearHold h) (withLoop l bench)).loop.asserted
    bench.takes h = true ∧ bench.powered = true ∧ (after (.assertHold h) bench).loop.flow = .hold ∧
    (after (.assertHold h) (withLoop (on 0 true false 0) bench)).loop.flow = .empty ∧
    [clear (on 7 true true 0), clear (on 8 true true 0), clear (on 0 false false 0)] = [false, true, false] ∧
    [((on 16 true false 0).tap [1]).tapQ.length, ((on 10 false false 0).tap [1]).tapQ.length, ((on 11 false false 0).tap [1]).tapQ.length,
     ((on 15 true false 1).tap [1]).tapQ.length] = [16, 11, 12, 16] ∧
    [((on 10 false false 0).tap [1]).asserted, ((on 11 false false 0).tap [1]).asserted] = [false, true] ∧
    [((on 15 true false 0).tap [1]).critical, ((on 15 true false 1).tap [1]).critical, (on 12 true false 1).holdTake.critical,
     (on 11 true false 1).holdTake.critical, (on 8 true false 1).holdTake.critical] = [1, 0, 1, 0, 0] ∧
    [(on 7 true false 0).holdTake.asserted, (on 7 true true 0).holdTake.asserted, (on 7 false false 0).holdTake.asserted] =
      [false, true, false] ∧
    (after .refreshTimerExpiry (withLoop { on 8 true false 0 with refresh := some 0 } bench)).loop.flow = .hold ∧
    after .refreshTimerExpiry bench = bench ∧ after (.holdListTimerExpiry 9) bench = bench ∧
    (after (.holdListTimerExpiry 9) (withLoop { bench.loop with holders := [⟨9, 0⟩] } bench)).loop.holders = [] := by decide +kernel

/-! ### Witnesses: chapter 10 -/

def withHandler (x : Handler) (s : State) : State := { s with handler := x }

def dumping : DumpContext := { recipient := 5, seq := 7, next := 160, remaining := 6 }

theorem witness_EventsAndDumpRequestsByTheirChecks :
    let on (d : DumpState) : State := withHandler { bench.handler with dump := d } bench
    bench.takes h = true ∧ (on (.streaming dumping)).takes h = true ∧ (on (.aborted dumping)).takes h = true ∧
    [Instr.events h 0x40, .storeDump h 0 0, .storeDump h 0 257, .storeDump h 255 2].map (status · bench) = List.replicate 4 (some 2) ∧
    [Instr.events h 0x3F, .storeDump h 0 256, .storeDump h 255 1].map (status · bench) = List.replicate 3 (some 0) ∧
    [status (.storeDump h 0 1) (on (.streaming dumping)), status (.dumpAbort h) bench, status (.dumpResume h) bench,
     status (.dumpResume h) (on (.streaming dumping)), status (.dumpAbort h) (on (.streaming dumping)),
     status (.dumpAbort h) (on (.aborted dumping)), status (.dumpResume h) (on (.aborted dumping))] =
      [some 6, some 7, some 7, some 7, some 0, some 0, some 0] := by decide +kernel

theorem witness_ProducersPlaceByTheirLimits :
    let x := bench.handler
    let placed (i : Instr) (n : Nat) (x : Handler) : Nat := (after i (queued n (withHandler x bench))).loop.insertQ.length - n
    let e : Event := .sectorBad 6
    let dump (r : Nat) : Handler := { x with dump := .streaming { dumping with remaining := r } }
    bench.powered = true ∧
    [placed .heldResponsePlaced 7 { x with held := [frame 0xF5 [1]] }, placed .heldResponsePlaced 8 { x with held := [frame 0xF5 [1]] },
     placed .startUpReport 5 { x with startUp := some (List.replicate 8 .erased) },
     placed .startUpReport 6 { x with startUp := some (List.replicate 8 .erased) }, placed .eventFrameBuild 5 { x with events := [e] },
     placed .eventFrameBuild 6 { x with events := [e] }, placed .dumpFrameBuild 5 (dump 6), placed .dumpFrameBuild 6 (dump 6),
     placed .dumpFrameBuild 5 x, placed .broadcastTimerExpiry 5 x, placed .broadcastTimerExpiry 6 x] =
      [1, 0, 1, 0, 1, 0, 1, 0, 0, 1, 0] ∧
    dumping.next + dumping.remaining ≤ 256 ∧ bench.roadSpeed = none ∧ car.roadSpeed = some 0 ∧
    [(after .dumpFrameBuild (withHandler (dump 6) bench)).handler.dump, (after .dumpFrameBuild (withHandler (dump 5) bench)).handler.dump] =
      [.streaming { dumping with next := 165, remaining := 1 }, .idle] ∧
    (erasing .erasing).store.readWord 192 = (.notReady, 0) := by decide +kernel

/-- A report: its class, its list and its place. -/
theorem witness_ProducersPlaceByTheirLimits_report :
    let e : Event := .sectorBad 6
    let on (n : Nat) (x : Handler) : State := queued n (withHandler x bench)
    let full : Handler := { bench.handler with events := List.replicate 16 e }
    report e (on 5 { bench.handler with classes := 0 }) = on 5 { bench.handler with classes := 0 } ∧
    report e (on 6 full) = on 6 { full with eventsLost := true } ∧
    report e (on 6 bench.handler) = on 6 { bench.handler with events := [e] } ∧
    placedBy (on 5 bench.handler) (report e (on 5 { bench.handler with eventsLost := true })) = [(0xE1, [4, 1, 1, 6])] ∧
    (report e (on 5 { bench.handler with eventsLost := true })).handler = bench.handler ∧
    [Event.warning 9 .idle .pending true .qualify, .stage 2 .notDue .due, .serviceReset 1 .button 70000 300, .loopState .intact .broken,
     .holdExpired 9, .programFailed .trip 200, .saveFailed .service, .odometerFault true, .discontinuity true 513, .overflow 3 .moving,
     .tripReset 2 .gap, .journeyStart, .journeyEnd 65536 258, .keyChange .off .run].map (fun e =>
       (placedBy bench (report e bench)).flatMap Prod.snd) =
    [[1, 0, 0, 9, 0, 1, 1, 0], [2, 0, 0, 2, 0, 2], [2, 1, 0, 1, 0, 1, 17, 112, 1, 44], [3, 0, 0, 0, 2], [3, 1, 0, 9], [4, 0, 0, 1, 200],
     [4, 2, 0, 1], [4, 3, 0, 1], [5, 0, 0, 1, 2, 1], [5, 1, 0, 3, 3], [5, 2, 0, 2, 2], [5, 3, 0], [5, 4, 0, 1, 0, 0, 0, 1, 2],
     [6, 0, 0, 0, 2]] := by decide +kernel

/-- The offers of a freed place: a held response, then a request, then an event and a dump frame while 3 are free. -/
theorem witness_ProducersPlaceByTheirLimits_offer :
    let e : Event := .sectorBad 6
    let request : Frame := mkFrame 0xF2 5 [0x11, 7, 12]
    let busy : Frame := mkFrame 0xF2 5 [0x41, 7, 0xC0, 0, 5]
    let on (n : Nat) (x : Handler) (q : List Frame) : State :=
      queued n { bench with handler := x, loop := { bench.loop with requestQ := q } }
    let held : Handler := { bench.handler with held := [frame 0xF5 [1]] }
    let waits : Handler := { held with events := [e], dump := .streaming dumping }
    let tags (s t : State) : List Nat := (placedBy s t).map Prod.fst
    [(on 8 held []).producerWaits, (on 7 held []).producerWaits, (on 7 bench.handler [request]).producerWaits,
     (on 7 { bench.handler with restartPending := true } [request]).producerWaits,
     (on 5 { bench.handler with events := [e] } []).producerWaits, (on 6 { bench.handler with events := [e] } []).producerWaits] =
      [false, true, true, false, true, false] ∧
    tags (on 4 waits []) (offer (on 4 waits [request])) = [0xF5, 0xE1, 0xF5] ∧
    (offer (on 4 waits [request])).handler.dump = .streaming dumping ∧
    tags (on 3 waits []) (offer (on 3 waits [request])) = [0xF5, 0xE1, 0xF5, 0xF5] ∧
    (offer (on 3 waits [request])).producerWaits = false ∧
    (on 7 bench.handler [request]).handlerFree = true ∧ (on 7 bench.handler []).handlerFree = true ∧ (on 8 held []).handlerFree = false ∧
    (handlerTurn (on 7 bench.handler [request, request])).loop.requestQ = [request] ∧
    (handlerTurn (on 7 bench.handler [busy, request])).loop.requestQ = [] ∧
    (handlerTurn (on 7 bench.handler [busy, request])).loop.insertQ.length = 8 ∧
    tags (on 4 waits []) (after .loopTransmitStart (on 5 waits [])) = [0xF5, 0xE1] := by decide +kernel

theorem witness_RestartWaitsForItsResponse :
    let f := responseFrame h 0xA2 .ok [] bench
    let s := withLoop { bench.loop with tx := .inserted { frame := f, restart := true } } bench
    bench.takes h = true ∧ (after (.restart h) bench).handler.restartPending = true ∧ s.powered = true ∧
    s.loop.tx = .inserted { frame := f, restart := true } ∧ after .restartEffect bench = bench ∧
    (after .loopFrameSent s).loop.awaiting = [⟨f, 100⟩] := by decide +kernel

/-! ### Witnesses: chapter 11 and the whole machine -/

theorem witness_KeyLinesAndClockByTheirTimers :
    let k := bench.key
    let on (x : KeyClock) : State := { bench with key := x }
    let last : KeyClock := { k with candidate := ⟨true, true, false⟩, candCount := 2 }
    let day (n : Nat) : KeyClock := { k with valid := true, seconds := 86399, day := n }
    bench.takes h = true ∧ bench.powered = true ∧ k.candCount ≤ 2 ∧
    [(after (.keySample false false false) (on last)).key.candCount, (after (.keySample true false false) (on last)).key.candCount,
     (after (.keySample true true false) (on { last with candCount := 1 })).key.candCount] = [0, 1, 2] ∧
    [(after (.keySample true true false) (on last)).key.state,
     (after (.keySample false true true) (on { last with candidate := ⟨false, true, true⟩ })).key.state,
     (after (.keySample true false false) (on { last with candidate := ⟨true, false, false⟩, state := .run, debounced := ⟨true, true, false⟩ })).key.state,
     (after (.keySample false false true) (on { last with candidate := ⟨false, false, true⟩ })).key.state] = [.run, .crank, .acc, .off] ∧
    after .settleTimerExpiry bench = bench ∧ (after .settleTimerExpiry (on { k with settleTimer := some 0 })).key.settled = true ∧
    [(after .secondsEvent bench).key.seconds, (after .secondsEvent (on { day 5 with seconds := 86398 })).key.seconds] = [0, 86399] ∧
    [(after .secondsEvent (on (day 65534))).key.day, (after .secondsEvent (on (day 65535))).key.day] = [65535, 65535] ∧
    [status (.setClock h 86400 0) bench, status (.setClock h 86399 65535) bench] = [some 2, some 0] := by decide +kernel

theorem witness_PagedReadsAnswerInPartsAndChangeNothing :
    car.takes h = true ∧
    [Instr.readChannelSetup h 48 none, .readChannel h 48 none, .readCurve h 16 1 none, .readCurve h 0 0 none, .readCurve h 0 13 none,
     .readGaugeSetup h 6 none, .readGauge h 6 none, .readTripFigures h 4 none, .readServiceItem h 8 none, .readWarningSetup h 32 none,
     .readWarning h 32 none, .readChimePattern h 16 1 none, .readChimePattern h 0 7 none, .readMessage h 64 none,
     .readMessage h 63 (some 2), .readStatus h (some 2), .readClock h (some 15)].map (status · car) = List.replicate 17 (some 2) ∧
    [Instr.readChannelSetup h 47 none, .readChannel h 47 none, .readCurve h 15 12 none, .readGaugeSetup h 5 none, .readGauge h 5 none,
     .readTripSetup h none, .readTripFigures h 3 none, .readStore h 255 none, .readOdometer h none, .readServiceItem h 7 none,
     .readWarningSetup h 31 none, .readWarning h 31 none, .readLamps h none, .readChimePattern h 15 6 none, .readChimeSetup h none,
     .readChimes h none, .readMessage h 63 (some 1), .readDisplaySetup h none, .readDisplay h none, .readLoop h none,
     .readStatus h (some 1), .readClock h none].map (status · car) = List.replicate 22 (some 0) ∧
    data (.readChannel h 12 none) car = [0, 1, 0, 2, 27, 0, 0, 0, 1, 0, 0] ∧
    data (.readStatus h none) car = [1, 0, 0, 0, 0, 2, 0, 0, 0, 0, 0, 0] := by decide +kernel

theorem witness_StepRunsTheFrontCommand :
    step { bench with pending := [.assertHold h] } = .next (after (.assertHold h) bench) ∧
    exec (.assertHold h) bench = .next (after (.assertHold h) bench) ∧ bench.pending = [] := ⟨rfl, rfl, rfl⟩

theorem witness_RequestFramesDecodeToTheirRequests :
    encodeRequest (.enableChannel h 12) = some (5, [0x11, 7, 12]) ∧ decodeRequest 5 [0x11, 7, 12] = .enableChannel h 12 ∧
    encodeRequest (.readLamps h (some 1)) = some (5, [0x68, 7, 1]) ∧ decodeRequest 5 [] = .unknownRequest 5 [] ∧
    decodeRequest 5 (List.replicate 15 0) = .unknownRequest 5 (List.replicate 15 0) ∧
    bench.takes { node := 5, seq := ([] : List Byte).getD 1 0 } = true := by decide +kernel

theorem witness_RequestRowsAreTheArrivalOfTheirFrames :
    (Instr.enableChannel h 12).wellFormed = true ∧ encodeRequest (.enableChannel h 12) = some (5, [0x11, 7, 12]) ∧
    bench.loop.requestQ = [] ∧ ({ bench with handler := { bench.handler with restartPending := true } }).handlerFree = false ∧
    after (.loopFrameReceived (mkFrame 0xF2 5 [0x11, 7, 12]) false false) car = after (.enableChannel h 12) car := by decide +kernel

theorem witness_ResetIsSafeAndConsistent :
    State.reset.safe = true ∧ State.reset.chime.consistent = true ∧ (erasing .erasing).storeWords = true := by decide +kernel

theorem witness_SafeStatesStaySafe :
    State.reset.safe = true ∧ standing.safe = true ∧ safeOutcome (step { standing with pending := [.toneEnd .front] }) = true := by
  decide +kernel

/-! ### Witnesses of the further clauses, by chapter -/

theorem witness_TripFieldsSaturateOnce_seconds :
    let on (k : KeyState) (rear : JourneyState) (speed : Int) (elapsed : Nat) : State :=
      let s := withKey k (withChannel 2 (fresh (setup .analogU16 0x32 none) speed) car)
      { s with trip := { s.trip with rear := rear, records := s.trip.records.set 0 (record 0 0 elapsed 0) } }
    let times (s : State) : List Nat :=
      (tripSeconds s).trip.records.toList.map (fun r => r.elapsed.value) ++
        (tripSeconds s).trip.records.toList.map (fun r => r.moving.value)
    bench.trip.setup = none ∧ tripSeconds bench = bench ∧ car.trip.setup = some tripSetup ∧ car.store.ctl ≠ .scanning ∧
    [times (on .run .running 30 0), times (on .run .running 29 0), times (on .crank .running 30 0),
     times (on .off .running 30 0), times (on .off .ended 30 0), times (on .run .idle 30 359999)] =
    [[1, 1, 1, 1, 1, 1, 1, 1], [1, 1, 1, 1, 0, 0, 0, 0], [1, 1, 1, 1, 1, 1, 1, 0], [0, 0, 0, 1, 0, 0, 0, 0],
     [0, 0, 0, 0, 0, 0, 0, 0], [359999, 1, 1, 0, 1, 1, 1, 0]] := by decide +kernel

theorem witness_KeyOffCapturesOnlyWhatChanged_saves :
    let c : Capture := { tripA := .zero, tripB := .zero }
    let on (saving : Bool) (waits copy : Option Capture) : State :=
      { car with trip := { car.trip with saving := saving, pendingCapture := waits, savedCopy := copy } }
    let ended (s : State) : Bool × Option Capture := (s.trip.saving, s.trip.pendingCapture)
    tripKey .run .off (on false none (some c)) = on false none (some c) ∧
    (tripKey .run .off (on true none (some c))).trip.pendingCapture = some c ∧
    ended (tripSaveEnd false (on true none none)) = (false, none) ∧
    ended (tripSaveEnd false (on true (some c) (some c))) = (false, none) ∧
    ended (tripSaveEnd false (on true (some c) none)) = (true, none) ∧
    (tripSaveEnd false (on true (some c) none)).tripPair.held = some c.words ∧
    (tripSaveEnd false (on true none none)).warnings.storeFault = true := by decide +kernel

theorem witness_KeyOffCapturesOnlyWhatChanged_gap :
    let on (stood : Nat) (stamp : Option Stamp) (f : Option TripSetup) : State :=
      { car with key := { car.key with valid := true, day := 11, seconds := stood, keyOff := stamp }
                 trip := { car.trip with setup := f } }
    let off : Option Stamp := some ⟨11, 0⟩
    let gap (s : State) : List (Nat × List Nat) := placedBy s (tripKey .off .run s)
    tripSetup.journeyGap * 60 = 7200 ∧
    [gap (on 7200 off (some tripSetup)), gap (on 7199 off (some tripSetup)), gap (on 0 (some ⟨11, 9⟩) (some { tripSetup with journeyGap := 0 })),
     gap (on 7200 none (some tripSetup))] = [[(0xE1, [5, 2, 0, 2, 2])], [], [(0xE1, [5, 2, 0, 2, 2])], []] ∧
    tripKey .run .acc (on 7200 off (some tripSetup)) = on 7200 off (some tripSetup) ∧ (on 9 off none).trip.setup = none := by
  decide +kernel

theorem witness_ErasingGoesSectorBySector_lowest :
    let x : Store := { bench.store with
      ctl := .eraseWindow, mem := [(64, 0x00FF)], eraseSet := 0xCC, flags := bench.store.flags.set 6 bad,
      outcomes := [(3, .erased)] }
    let none' : Store := { x with outcomes := [(3, .erased), (7, .exceeded)] }
    (x.beginNext.ctl, x.beginNext.current, x.beginNext.eraseSet) = (.erasing, some 7, 0xCC) ∧
    (none'.beginNext.ctl, none'.beginNext.current, none'.beginNext.eraseSet) = (.ready, none, 0) ∧
    ({ x with outcomes := [] }).beginNext.current = some 3 := by decide +kernel

/-- The store of section 4.8 with its field used up and the spare known erased. -/
def rotatingFull (f : Odometer → Odometer) : State :=
  { rotating with odometer := f { rotating.odometer with cleared := 448, stored := 1250448, pending := 1 }
                  store := { rotating.store with
                    flags := rotating.store.flags.set 1 { bad := false, worn := false, erasedKnown := true } } }

theorem witness_MetresBecomeIncrements_rotation :
    let at' (k : Nat) : State :=
      rotatingFull (fun o => { o with rotation := some { base := 1250448, step := k }, work := some .rotation })
    let next (k : Nat) : State :=
      rotatingFull (fun o => { o with rotation := some { base := 1250448, step := k } })
    let rep (e : Bool) : ProgramReport := { cls := .odometer, addr := 33, exceeded := e, word := 0, cleared := 0 }
    let ended (k : Nat) (e : Bool) : Option Nat × Fin 8 × Bool :=
      let o := (odometerProgramEnd (rep e) (at' k)).odometer
      (o.rotation.map Rotation.step, o.active, o.fault)
    (rotatingFull id).rotationNow = some { base := 1250448, step := 1 } ∧ rotating.rotationNow = none ∧
    [next 1, next 2, next 3, next 4, next 5].map (fun s => (odometerPump s).bind (fun t => t.store.slotOdometer)) =
      [some (.program 33 0x0013), some (.program 34 0x1490), some (.program 35 0xEB5C), some (.program 32 0x00FF),
       some (.program 0 0x0000)] ∧
    [ended 3 true, ended 3 false, ended 4 true, ended 5 false] =
      [(none, 0, true), (some 4, 0, false), (some 5, 0, false), (none, 1, false)] := by decide +kernel

theorem witness_MetresBecomeIncrements_fault :
    let stuck : State := { rotatingFull id with store := rotating.store }
    let faulty : State := { rotating with odometer := { rotating.odometer with fault := true } }
    let rep (e : Bool) : ProgramReport := { cls := .odometer, addr := 17, exceeded := e, word := 1, cleared := 1 }
    stuck.spareReady = false ∧ (checkOdoFault stuck).odometer.fault = true ∧
    (checkOdoFault stuck).warnings.odometerFault = true ∧ placedBy stuck (checkOdoFault stuck) = [(0xE1, [4, 3, 0, 1])] ∧
    checkOdoFault (rotatingFull id) = rotatingFull id ∧ setOdoFault true faulty = faulty ∧
    (incrementEnd (rep false) faulty).odometer.fault = false ∧ (incrementEnd (rep true) faulty).odometer.fault = true := by
  decide +kernel

theorem witness_OdometerNeverDecreases_step :
    let s := { rotating with loop := { rotating.loop with tapQ := [frame 0x30 [0x48, 0xB4]] }, pending := [.channelTake] }
    s.pending.head? = some .channelTake ∧ s.odometer.valid = true ∧ s.odometer.setting = none ∧ s.store.ctl ≠ .scanning ∧
    step s = .next (after .channelTake { s with pending := [] }) := ⟨rfl, rfl, rfl, by decide, rfl⟩

/-- A recovered trip pair, changed by `f`. -/
def tripPairOn (f : Pair → Pair) (s : State) : State := s.setPair .trip (f { Pair.initial with recovered := true })

def worn (k : Fin 8) (s : State) : State := s.setFlags k { bad := false, worn := true, erasedKnown := false }
def knownErased (k : Fin 8) (s : State) : State := s.setFlags k { bad := false, worn := false, erasedKnown := true }

theorem witness_PairDataReadBackAsSaved_target :
    let data : List Word := List.replicate 16 7
    let target (a : Option (Fin 8)) (s : State) : Option (Fin 8) :=
      ((requestSave .trip data (tripPairOn (fun x => { x with active := a }) s)).tripPair.job).map SaveJob.target
    let none' := requestSave .trip data (tripPairOn id (worn 2 (worn 3 bench)))
    [target none bench, target (some 2) bench, target (some 3) bench, target none (worn 2 bench),
     target (some 2) (worn 3 bench)] = [some 2, some 3, some 2, some 3, none] ∧
    none'.tripPair.ended = some false ∧ placedBy bench none' = [(0xE1, [4, 2, 0, 0])] ∧
    (requestSave .trip data bench).tripPair.held = some data ∧
    (requestSave .trip data (tripPairOn (fun x => { x with state := .saving }) bench)).tripPair.held = some data := by
  decide +kernel

/-- A save into sector 3 with save number 5, at a phase. -/
def savingAt (phase : SavePhase) (old : Option (Fin 8)) : State :=
  tripPairOn (fun x => { x with
    active := old, state := .saving,
    job := some { target := 3, image := pairImage 5 (List.replicate 16 0), old := old, phase := phase, allOk := true } }) bench

theorem witness_PairDataReadBackAsSaved_steps :
    let placed (s : State) : Option StoreStep := (pairPump .trip s).bind (fun t => t.store.slotTrip)
    let tidy : State := tripPairOn (fun x => { x with state := .tidying, tidy := some 2 }) bench
    let lost : State := tripPairOn (fun x => { x with recovery := [2] }) bench
    [placed (savingAt .erase none), placed (knownErased 3 (savingAt .erase none)), placed (savingAt (.word 1) none),
     placed (savingAt (.word 18) none), placed (savingAt .status none), placed (savingAt .obsolete (some 2)), placed tidy,
     placed lost] =
      [some (.erase 0x08), some (.program 97 5), some (.program 97 5), some (.program 114 0xFFFB), some (.program 96 0x00FF),
       some (.program 64 0), some (.erase 0x04), some (.program 64 0)] ∧
    pairPump .trip (tripPairOn (fun x => { x with out := true, recovery := [2] }) bench) = none := by decide +kernel

theorem witness_PairDataReadBackAsSaved_ends :
    let phase (s : State) : Option SavePhase := (s.tripPair.job).map SaveJob.phase
    let ended (s : State) : PairState × Option (Fin 8) × Option Bool := (s.tripPair.state, s.tripPair.active, s.tripPair.ended)
    let tidy (held : Option (List Word)) : State :=
      tripPairOn (fun x => { x with state := .tidying, tidy := some 2, held := held }) bench
    [phase (pairProgramEnd .trip false (savingAt (.word 17) none)), phase (pairProgramEnd .trip false (savingAt (.word 18) none)),
     phase (pairProgramEnd .trip true (savingAt .status (some 2))), phase (pairEraseEnd .trip (some .erased) (savingAt .erase none))] =
      [some (.word 18), some .status, some .obsolete, some (.word 1)] ∧
    ended (pairProgramEnd .trip true (savingAt (.word 18) none)) = (.idle, none, some false) ∧
    ended (pairEraseEnd .trip (some .exceeded) (savingAt .erase none)) = (.idle, none, some false) ∧
    ended (pairProgramEnd .trip false (savingAt .status none)) = (.idle, some 3, some true) ∧
    ended (pairProgramEnd .trip true (savingAt .status none)) = (.idle, some 3, some false) ∧
    ended (pairProgramEnd .trip false (savingAt .obsolete (some 2))) = (.tidying, some 3, some true) ∧
    (pairEraseEnd .trip (some .erased) (tidy none)).tripPair.state = .idle ∧
    (pairEraseEnd .trip none (tidy (some []))).tripPair.state = .saving := by decide +kernel

/-- An ACTIVE trip sector with a save number and trip records of 0. -/
def tripSector (k number : Nat) : List (Nat × Word) :=
  [(32 * k, 0x00FF), (32 * k + 1, BitVec.ofNat 16 number)] ++ (List.range 16).map (fun i => (32 * k + 2 + i, 0)) ++
    [(32 * k + 18, -(BitVec.ofNat 16 number))]

theorem witness_PairDataReadBackAsSaved_recovery :
    let over' (m : List (Nat × Word)) (held : Option (List Word)) : State :=
      withStore { bench.store with mem := m } (bench.setPair .trip { Pair.initial with held := held })
    let recovered (m : List (Nat × Word)) : Option (Fin 8) × Word × List (Fin 8) :=
      let x := (recoverPair .trip (over' m none)).tripPair
      (x.active, x.lastNumber, x.recovery)
    let lost := fun (held : Option (List Word)) => bench.setPair .trip { Pair.initial with recovery := [2], held := held }
    [recovered [], recovered (tripSector 3 7), recovered (tripSector 2 7 ++ tripSector 3 8), recovered (tripSector 2 1 ++ tripSector 3 0xFFFF),
     recovered (tripSector 2 7 ++ tripSector 3 7), recovered [(64, 0x00FF)]] =
      [(none, 0xFFFF, []), (some 3, 7, []), (some 3, 8, [2]), (some 2, 1, [3]), (some 2, 7, [3]), (none, 0xFFFF, [2])] ∧
    (recoverPair .trip (over' (tripSector 3 7) (some []))).tripPair.state = .saving ∧
    (pairProgramEnd .trip false (lost none)).tripPair.recovered = true ∧
    (pairProgramEnd .trip false (lost (some []))).tripPair.state = .saving ∧
    (recoverTrips (over' (tripSector 3 7) none)).trip.savedCopy = none ∧
    (recoverTrips (recoverPair .trip (over' (tripSector 3 7) none))).trip.savedCopy =
      some { tripA := .zero, tripB := .zero } := by decide +kernel

theorem witness_EvaluationGivesTheStage_mostUrgent :
    let on (l : List (Nat × Stage)) : State :=
      { bench with service := { bench.service with items := Vector.ofFn (fun i : Fin 8 =>
          match l.find? (fun p => p.1 = i.val) with
          | some p => { ServiceItem.initial with enabled := true, stage := p.2 }
          | none => { ServiceItem.initial with stage := .overdue }) } }
    [(on []).mostUrgent, (on [(3, .notDue)]).mostUrgent, (on [(3, .due), (5, .due)]).mostUrgent,
     (on [(0, .due), (7, .overdue)]).mostUrgent] = [none, none, some 3, some 7] := by decide +kernel

theorem witness_PresentationsEndByTheirRules_chimes :
    let until' (s : State) : State :=
      { s with chime := { s.chime with patterns := s.chime.patterns.set 4 { s.chime.patterns[4] with repeats := 0 } } }
    let momentary := door (fun e => { e with presentTimer := some 0, action := some { doorAction with latch := .momentary } })
    let call := door (fun e => { e with condition := some { doorCondition with kind := .system, subject := 4 } })
    let released (s : State) : List Bool := s.chime.queue.map ChimeRequest.released
    [released standing, released (after (.presentTimerExpiry 9) momentary), released (after (.presentTimerExpiry 9) (until' momentary)),
     released (pressEdge standing)] = [[false], [false], [true], [true]] ∧
    (pressEdge (withDisplay { call.display with call := true } call)).display.answerWant = true ∧
    (pressEdge standing).display.answerWant = false := by decide +kernel

/-- Warning 9 on a condition, with its gate and its state. -/
def gated (c : WarnCondition) (latch : LatchMode) (st : WarnState) (gate : Bool) : State :=
  standing.setWarning 9 { warning c { doorAction with latch := latch } st true with gate := gate }

theorem witness_VerdictsAreCountedAgainstTheCondition_gates :
    let tested (s : State) : Bool × WarnState × Bool :=
      let e := (testGate 9 s).warnings.entries[9]
      (e.gate, e.state, e.holds)
    let run (c : WarnCondition) (latch : LatchMode) (st : WarnState) : State := withKey .off (gated c latch st true)
    let speed (v : Nat) : State := gated { doorCondition with speedGate := v } .selfClearing .idle false
    testGate 9 (gated doorCondition .selfClearing .presented true) = gated doorCondition .selfClearing .presented true ∧
    [tested (run doorCondition .selfClearing .idle), tested (run doorCondition .latching .presented),
     tested (run doorCondition .latching .acknowledged), tested (run doorCondition .selfClearing .pending),
     tested (run doorCondition .momentary .presented)] =
      [(false, .idle, false), (false, .presented, false), (false, .idle, false), (false, .idle, false), (false, .idle, false)] ∧
    [tested (gated doorCondition .selfClearing .idle false), tested (speed 1), tested (speed 0)] =
      [(true, .idle, false), (false, .idle, true), (true, .idle, false)] ∧
    [KeyGate.any, .notOff, .run, .runSettled].map (fun g => (bench.keyGateMet g, (withKey .crank bench).keyGateMet g, car.keyGateMet g,
        ({ car with key := { car.key with settled := true } }).keyGateMet g)) =
      [(true, true, true, true), (false, true, true, true), (false, false, true, true), (false, false, false, true)] := by
  decide +kernel

theorem witness_VerdictsAreCountedAgainstTheCondition_takenUp :
    let quiet (a : Byte) : WarnCondition := { doorCondition with subject := 40, staleAction := a }
    let stale (k : Nat) : WarnCondition := { doorCondition with kind := .stale, subject := k }
    let service (m : Byte) : WarnCondition := { doorCondition with kind := .service, subject := 0, minStage := m }
    let sys (k : Nat) : WarnCondition := { doorCondition with kind := .system, subject := k }
    let due : State := evaluateAll (oil 1335440 4240)
    [(car.takenUp (quiet 1)), car.takenUp (quiet 0), car.takenUp { quiet 1 with subject := 21 }, car.takenUp (stale 40), car.takenUp (stale 21),
     due.takenUp (service 1), due.takenUp (service 2), car.takenUp (sys 3), car.takenUp (sys 0)] =
      [true, false, false, true, false, true, false, true, false] ∧
    (let e (a : Byte) (holds : Bool) : State :=
       standing.setWarning 9 { warning { doorCondition with staleAction := a } doorAction .idle holds with clearCount := 1 }
     [((warnNotice .stale 9 (e 0 true)).warnings.entries[9]), (warnNotice .stale 9 (e 1 false)).warnings.entries[9],
      (warnNotice .stale 9 (e 2 true)).warnings.entries[9]].map (fun x => (x.holds, x.clearCount)) = [(true, 0), (true, 0), (false, 0)] ∧
     warnNotice (.sample (.rolling 5) false) 9 (e 0 true) = e 0 true ∧
     ((warnNotice (.sample (.discrete true none) false) 9 (e 0 false)).warnings.entries[9]).holds = true) ∧
    (let s := gated (stale 21) .selfClearing .idle true
     ((warnNotice .stale 9 (s.setWarning 9 { s.warnings.entries[9] with holds := false })).warnings.entries[9]).state = .presented ∧
     ((warnNotice (.sample (.discrete true none) false) 9 s).warnings.entries[9]).holds = false) ∧
    ((warnSubject .system 3 9 (gated (sys 3) .selfClearing .idle false)).warnings.entries[9]).gate = true ∧
    warnSubject .system 3 9 (gated (sys 2) .selfClearing .idle false) = gated (sys 2) .selfClearing .idle false ∧
    ((warnSubject .system 2 9 (gated (sys 2) .selfClearing .presented true)).warnings.entries[9]).state = .idle := by decide +kernel

theorem witness_VerdictsAreCountedAgainstTheCondition_changes :
    let st (s : State) : WarnState := (s.warnings.entries[9]).state
    let on (latch : LatchMode) (x : WarnState) : State := gated doorCondition latch x true
    [st (becameTrue 9 (on .latching .idle)), st (becameTrue 9 (on .latching .acknowledged)), st (becameFalse 9 (on .latching .pending)),
     st (becameFalse 9 (on .momentary .pending)), st (becameFalse 9 (on .momentary .presented)), st (becameFalse 9 (on .selfClearing .presented)),
     st (becameFalse 9 (on .latching .acknowledged)), st (becameFalse 9 (on .latching .idle))] =
      [.presented, .acknowledged, .pending, .idle, .presented, .idle, .idle, .idle] ∧
    setCondition 9 true (on .latching .idle) = on .latching .idle ∧
    placedBy standing (endWarning 9 .clear standing) = [(0xE1, [1, 0, 0, 9, 2, 0, 0, 5])] ∧
    (endWarning 9 .clear standing).chime.queue.map ChimeRequest.released = [true] := by decide +kernel

theorem witness_ChimeRequestsRefreshRankAndPushOut_answer :
    let quiet : Chime := { calling with queue := [], front := .silent }
    let s := withChime quiet bench
    let edge (level up : Bool) : Notice := .sample (.discrete level (some up)) false
    calling.consistent = true ∧ quiet.consistent = true ∧ Chime.initial.answer = Chime.initial ∧
    (let c := { calling with setup := { calling.setup with answerPattern := none } }; c.answer = c) ∧
    (calling.answer).queue.map (fun r => (r.origin, r.rank, r.repeatsLeft)) =
      [(.warning 30, 158, some 3), (.rearCall, 256, some 2)] ∧
    (quiet.tick).front.current = .tick 9 ∧ calling.tick = calling ∧
    (let c := { quiet with setup := { quiet.setup with tickPattern := 3 } }; c.tick = c) ∧
    (chimeNotice 18 (edge true true) s).chime.front.state = .tone ∧ (chimeNotice 18 (edge false false) s).chime.front.state = .tone ∧
    chimeNotice 17 (edge true true) s = s ∧ chimeNotice 18 (.sample (.discrete true none) false) s = s ∧
    chimeNotice 18 .stale s = s ∧ chimeNotice 18 (edge true true) bench = bench := by decide +kernel

theorem witness_WrittenContentIsRebuiltIntoTheImages_pages :
    let chars (t : String) : List Nat := t.toList.map Char.toNat
    let on (n : Nat) (s : State) : State := withDisplay { s.display with page := n } s
    let far : State := { car with trip := { car.trip with records :=
      (car.trip.records.set 0 { record 9999999 999999 0 0 with distance := ⟨9999999, true⟩ }).set 1 (record 50 0 0 0) } }
    let dark : State := { car with odometer := { car.odometer with valid := false }, trip := { car.trip with setup := none } }
    let due : State := evaluateAll (oil 1335440 4240)
    let named : State := due.setItem 0 { due.service.items[0] with message := some 5 }
    [on 1 far, on 2 far, on 2 car, on 3 far, on 4 car, on 5 car, on 5 dark].map (fun s => text (pageText s)) =
      [chars "TRIP A     9999.9+KM", chars "TRIP A L/100KM  10.0", chars "TRIP A L/100KM  --.-", chars "TRIP B        0.0 KM",
       chars "J ---.- KMH     0:00", chars " 490 KM ODO   125022", chars "---- KM ODO   ------"] ∧
    due.mostUrgent = some 0 ∧ text (pageText (on 6 due)) = chars "SERVICE 0        DUE" ∧
    pageText (on 6 named) = named.display.messages[5] := by decide +kernel

theorem witness_WrittenContentIsRebuiltIntoTheImages_rear :
    let chars (t : String) : List Nat := t.toList.map Char.toNat
    let f : DisplaySetup := { button := none, temperature := some 30, offDelay := 0, idleTime := 10, mcBrightness := 3, rpBrightness := 3 }
    let line (v : Int) : List Nat :=
      text (rebuild (withDisplay { shown with setup := some f }
        (withChannel 30 (fresh (setup .analogS16 0x40 none) v) bench))).display.images.rp1Text
    [line (-100), line (-99), line (-1), line 0, line 99, line 100] =
      [chars "OUTSIDE    -99 C", chars "OUTSIDE    -99 C", chars "OUTSIDE     -1 C", chars "OUTSIDE      0 C", chars "OUTSIDE     99 C",
       chars "OUTSIDE     99 C"] ∧
    text (rebuild bench).display.images.rp1Text = chars "OUTSIDE     -- C" ∧
    text (rearJourneyText .running (record 12345 0 3660 0)) = chars " 1:01    12.3 KM" ∧
    rearJourneyText .idle (record 12345 0 3660 0) = List.replicate 16 0x20 ∧
    text (decimal 0) = [48] ∧ text (decimal 999999999999) = List.replicate 12 57 := by decide +kernel

theorem witness_DisplayPacketsAreFilledWhenTaken_bytes :
    let m : Images := { bench.display.images with mcFlash := true, rp2Brightness := 1 }
    let sum0 (l : List Byte) : Bool := byteSum l == 0
    [packetBytes m (.item .mcAttr), packetBytes m (.item .rp1Attr), packetBytes m (.item .rp2Attr), packetBytes m (.item .rpClock),
     packetBytes { m with clock := some 1439 } (.item .rpClock), packetBytes m .poll, packetBytes m .answered].map (fun b => b.map BitVec.toNat) =
      [[3, 1, 1, 3, 248], [3, 0x11, 0, 3, 233], [3, 0x12, 0, 1, 234], [4, 255, 255, 254], [4, 5, 159, 88], [5, 251], [6, 250]] ∧
    sum0 (packetBytes m (.item .mcText)) = true ∧ (packetBytes m (.item .mcText)).length = 23 ∧
    ((({ shown with link := .active }).itemChanged .rp1Text).outstanding.rp1Text,
      (({ shown with link := .active }).itemChanged .rp1Text).queue) = (false, [.item .rp1Text]) := by decide +kernel

theorem witness_RepliesAndMissesOfTheRearPanel_journey :
    let on (rear : JourneyState) (call journey : Bool) : State :=
      { withDisplay { shown with tx := .listening, replyWindow := some 0, call := call, journey := journey, link := .active } bench with
        trip := { bench.trip with rear := rear, records := bench.trip.records.set 3 (record 258 0 3 0) } }
    let go (b : Byte) (s : State) : JourneyState × Nat × List (List Nat) :=
      let t := after (.statusReply (withCheck [0x81, b])) s
      (t.trip.rear, (t.trip.records[3]).distance.value, (placedBy s t).map Prod.snd)
    [go 2 (on .idle false false), go 0 (on .running false true), go 0 (on .ended false true), go 2 (on .running false true),
     go 3 (on .running false true)] =
      [(.running, 0, [[5, 3, 0]]), (.ended, 258, [[5, 4, 0, 0, 1, 2, 0, 0, 3]]), (.ended, 258, []), (.running, 258, []),
       (.running, 258, [])] ∧
    (after (.statusReply (withCheck [0x81, 3])) (on .running false true)).warnings.rearCall = true := by decide +kernel

theorem witness_EventsAndDumpRequestsByTheirChecks_fill :
    let on (n : Nat) (r : Nat) : State := queued n (withHandler { bench.handler with dump := .streaming { dumping with remaining := r } } bench)
    [(dumpFill (on 0 40)).loop.insertQ.length, (dumpFill (on 0 6)).loop.insertQ.length, (dumpFill (on 6 6)).loop.insertQ.length] = [6, 2, 6] ∧
    (dumpFill (on 0 6)).handler.dump = .idle ∧ dumpFill bench = bench ∧
    (placedBy bench (after (.dumpResume h) (withHandler { bench.handler with dump := .aborted dumping } bench))).map (fun x => x.2.take 4) =
      [[0xA5, 7, 0, 160], [0xA3, 7, 0, 160], [0xA3, 7, 1, 165]] := by decide +kernel

theorem witness_RestartWaitsForItsResponse_report :
    let f := responseFrame h 0xA2 .ok [] bench
    let s := withHandler { bench.handler with startUp := some (List.replicate 8 .erased), eventsLost := true }
      (queued 6 (withLoop { bench.loop with tx := .inserted { frame := f, restart := true } } bench))
    let t := after .restartEffect s
    (t.loop.insertQ.head?).map (fun x => (framePayload x.frame).map BitVec.toNat) = some ([0, 0, 0] ++ List.replicate 8 0) ∧
    t.handler.startUp = none ∧ t = after .loopFrameSent s := by decide +kernel

theorem witness_SafeStatesStaySafe_places :
    let a : Awaiting := ⟨[1], 5⟩
    let x : Inserted := { frame := frame 0xE0 [1], restart := false }
    [withLoop { bench.loop with awaiting := List.replicate 8 a } bench,
     withLoop { bench.loop with awaiting := List.replicate 8 a, tx := .inserted x } bench,
     withLoop { bench.loop with holders := [⟨9, 5⟩, ⟨9, 6⟩] } bench, withLoop { bench.loop with holders := [⟨2, 5⟩] } bench,
     queued 9 bench, withHandler { bench.handler with events := [.journeyStart] } bench,
     queued 6 (withHandler { bench.handler with events := [.journeyStart] } bench)].map State.safe =
      [true, false, false, false, false, false, true] := by decide +kernel

/-! ### Witnesses of the clauses that say how an effect comes about -/

theorem witness_CoilLevelsAreTheRoundedSineAndCosine :
    let full := { fuelGauge with dial := 270 }
    [coilLevels false full 512, coilLevels true full 0, coilLevels true full 341, coilLevels true full 512, coilLevels true full 1023,
     coilLevels true { full with dial := 330 } 651, coilLevels true { full with sineInverted := true } 512,
     coilLevels true { full with cosineInverted := true } 512, coilLevels true fuelGauge 341, coilLevels true fuelGauge 1023] =
      [(0, 0), (0, 255), (255, 0), (180, -181), (-255, 0), (-128, -221), (-180, -181), (180, 181), (128, 221), (255, 0)] := by
  decide +kernel

theorem witness_SilentChannelTellsItsUsers_users :
    let live (n : Notice) (c : Fin 48) : Bool × Bool × Bool × Bool :=
      let s : State := { standing with
        display := { standing.display with
          setup := some { button := some 21, temperature := some 12, offDelay := 0, idleTime := 10, mcBrightness := 3, rpBrightness := 3 }
          blanked := false }
        chime := { standing.chime with setup := { written := true, tickChannel := some 21, tickPattern := 4, answerPattern := none }
                                       queue := [], front := .silent } }
      (decide ((gaugeNotice c n s).gauges ≠ s.gauges), decide ((warnChannel c n s).warnings ≠ s.warnings),
       decide (displayNotice c n s ≠ s), decide ((chimeNotice c n s).chime ≠ s.chime))
    let up : Notice := .sample (.discrete true (some true)) false
    let low : Notice := .sample (.discrete false (some false)) false
    [live .stale 12, live .stale 21, live .stale 40, live up 21, live low 21, live up 40] =
      [(true, false, true, false), (false, true, false, false), (false, false, false, false), (false, false, true, true),
       (false, true, false, true), (false, false, false, false)] ∧
    car.trip.setup = some tripSetup ∧ (tripNotice 0 .stale car).trip.distanceBase = none ∧ (tripNotice 1 .stale car).trip = car.trip ∧
    (let both := { car with trip := { car.trip with setup := some { tripSetup with fuel := 0 }, fuelBase := some 7 } }
     ((tripNotice 0 .stale both).trip.distanceBase, (tripNotice 0 .stale both).trip.fuelBase) = (none, none)) ∧
    tripNotice 0 .stale bench = bench ∧ displayNotice 21 up bench = bench := by decide +kernel

theorem witness_TakeSamplesEveryReferencingChannel_fields :
    let f (k : ChanKind) (offset : Nat) : ChanSetup := { setup k 0x20 none with offset := offset }
    [rawField (f .analogU8 2) [1, 2], rawField (f .analogU8 1) [1, 2], rawField (f .analogU16 1) [1, 2], rawField (f .analogU16 0) [1, 2],
     rawField (f .rolling 0) [255, 255], rawField (f .rolling 1) [255, 255], rawField (f .analogS8 0) [127], rawField (f .analogS8 0) [128],
     rawField (f .analogS16 0) [127, 255], rawField (f .analogS16 0) [128, 0], rawField (f .discrete 0) [8], rawField (f .discrete 0) [0xF7]] =
      [none, some 2, none, some 258, some 65535, none, some 127, some (-128), some 32767, some (-32768), some 1, some 0] ∧
    (let r := car.sampleOf (f .analogU16 0) 40000 { Channel.initial with state := .stale, value := some 5 }
     (r.1.state, r.1.value, r.1.limited, r.1.timer, r.2) = (.fresh, some 32767, true, some 5000, .analog 32767 true)) ∧
    ((car.sampleOf { f .rolling 0 with timeout := 0 } 65535 Channel.initial).1.timer,
      (car.sampleOf (f .rolling 0) 65535 Channel.initial).2) = (none, .rolling 65535) ∧
    (car.sampleOf (f .discrete 0) 1 (fresh (f .discrete 0) 0)).1.candCount = 1 := by decide +kernel

theorem witness_RollingCountsBecomeWholeUnits_odometer :
    let took (fuel : Bool) (count : Nat) (s : State) : Nat × Nat :=
      let t := rollingNotice tripSetup fuel (.sample (.rolling count) false) s
      (t.odometer.residue, t.odometer.pending)
    let based : State := { car with trip := { car.trip with fuelBase := some 0 } }
    let km (stored : Nat) (last : Option Nat) : State :=
      { oil stored 4250 with service := { (oil stored 4250).service with lastKm := last } }
    [took false 18257 car, took false 18222 car, took true 400 based] = [(66, 0), (60, 0), (60, 0)] ∧
    shownNotice (km 1250229 (some 125022)) = km 1250229 (some 125022) ∧ shownNotice bench = bench ∧
    [(shownNotice (km 1250230 (some 125022))).service.lastKm,
      (shownNotice { bench with service := { bench.service with lastKm := some 0 } }).service.lastKm] = [some 125023, none] ∧
    ((shownNotice (km 1336440 (some 133643))).service.items[0]).stage = .due := by decide +kernel

/-- The Store Controller as a step leaves it: its state, the erase set, how many steps share it, the sector being erased. -/
structure Controller where
  ctl : CtlState
  eraseSet : BitVec 8
  steps : Nat
  current : Option (Fin 8)
  deriving DecidableEq

def controller (y : Store) : Controller := ⟨y.ctl, y.eraseSet, y.joined.length, y.current⟩

theorem witness_ErasingGoesSectorBySector_steps :
    let x := bench.store
    let p : StoreStep := .program 17 1
    let window : Store := { x with ctl := .eraseWindow, window := some 4, eraseSet := 0x40, joined := [(.external, 0x40)] }
    let skips : Store := { window with flags := x.flags.set 6 bad }
    let e := (erasing .erasing).store
    [controller (x.place .trip (.erase 4)), controller (window.place .trip (.erase 4)), controller (e.place .trip (.erase 4)), controller (window.place .odometer p),
     controller (window.place .trip p), controller (skips.place .odometer p), controller (e.place .odometer p), controller (e.place .external p), controller (x.place .odometer p)] =
      [⟨.ready, 0, 0, none⟩, ⟨.eraseWindow, 0x44, 2, none⟩, ⟨.erasing, 0x40, 1, some 6⟩, ⟨.suspending, 0x40, 1, some 6⟩,
       ⟨.erasing, 0x40, 1, some 6⟩, ⟨.ready, 0, 1, none⟩, ⟨.suspending, 0x40, 1, some 6⟩, ⟨.erasing, 0x40, 1, some 6⟩, ⟨.ready, 0, 0, none⟩] ∧
    (let full : Store := { x with slotTrip := some (.erase 8), slotService := some (.program 130 5), slotExternal := some (.erase 0x80) }
     x.take = none ∧ e.take = none ∧
     (full.take).map controller = some ⟨.eraseWindow, 0x88, 2, none⟩ ∧
     (full.take).map (fun y => (y.window, y.slotTrip, y.slotService, y.slotExternal)) = some (some 10, none, some (.program 130 5), none) ∧
     (Store.take { full with slotTrip := none }).map (fun y : Store => (y.ctl, y.running, y.slotExternal)) =
       some (.programming, some { cls := .service, addr := 130, value := 5 }, some (.erase 0x80))) := by decide +kernel

theorem witness_ErasingGoesSectorBySector_ends :
    let e := (erasing .erasing).store
    let r : Running := { cls := .odometer, addr := 17, value := 1 }
    let over' (c : Option (Fin 8)) : Store := { e with ctl := .suspendedProgramming, current := c, running := some r }
    let waits (b : BitVec 8) : Store := { e with ctl := .suspending, eraseSet := b, slotOdometer := some (.program 17 1) }
    let see (y : Store) : CtlState × BitVec 8 × Option (Fin 8) := (y.ctl, y.eraseSet, y.current)
    [((over' (some 6)).programEnd false).map (fun y : ProgramReport × Store => see y.2), ((over' none).programEnd false).map (fun y : ProgramReport × Store => see y.2),
     (Store.programEnd { over' none with outcomes := [(6, .erased)] } false).map (fun y : ProgramReport × Store => see y.2)] =
      [some (.erasing, 0x40, some 6), some (.erasing, 0x40, some 6), some (.ready, 0, none)] ∧
    [(e.eraseEnd false []).map (fun y => see y.2), (Store.eraseEnd { e with eraseSet := 0xC0 } true []).map (fun y => see y.2),
     ((waits 0x40).eraseEnd false []).map (fun y => see y.2), ((waits 0xC0).eraseEnd false []).map (fun y => see y.2)] =
      [some (.ready, 0, none), some (.erasing, 0xC0, some 7), some (.ready, 0, none), some (.suspendedProgramming, 0xC0, none)] ∧
    [e.readWord 192, e.readWord 191, ({ e with outcomes := [(6, .exceeded)], flags := e.flags.set 6 bad }).readWord 192,
     ({ e with flags := e.flags.set 6 bad }).readWord 192, ({ e with outcomes := [(6, .erased)] }).readWord 192,
     (over' none).readWord 17, (over' none).readWord 16, State.reset.store.readWord 0] =
      [(.notReady, 0), (.ok, 0xFFFF), (.failed, 0), (.notReady, 0), (.ok, 0), (.notReady, 0), (.ok, 0xFFFF), (.notReady, 0)] := by
  decide +kernel

/-- What an ODOMETER step that was placed leaves in its slot and in the Odometer. -/
structure Placed where
  step : Option StoreStep
  phase : Option SetPhase
  work : Option OdometerWork
  eraseOut : Bool
  deriving DecidableEq

def pumped (s : State) : Option Placed :=
  (odometerPump s).map (fun t => ⟨t.store.slotOdometer, t.odometer.setting.map Setting.phase, t.odometer.work, t.odometer.eraseOut⟩)

/-- A SET ODOMETER of 1,250,448 in a phase, over a store and its flags. -/
def settingIn (phase : SetPhase) (m : List (Nat × Word)) (flags : Vector SectorFlags 8) : State :=
  { bench with store := { bench.store with mem := m, flags := flags }
               odometer := { bench.odometer with setting := some { value := 1250448, phase := phase } }
               handler := { bench.handler with setRequester := some { node := 5, code := 0x44, seq := 7 } } }

theorem witness_SetOdometerByItsChecks_steps :
    let none' := bench.store.flags
    let both : List (Nat × Word) := [(0, 0x00FF), (32, 0x00FF)]
    let behind : State := { settingIn .obsolete both none' with
      odometer := { (settingIn .obsolete both none').odometer with recovery := [1] } }
    let marks (a : Fin 256) (w : OdometerWork) : Option Placed := some ⟨some (.program a 0), some .obsolete, some w, false⟩
    let erases (b : BitVec 8) : Option Placed := some ⟨some (.erase b), some .erase, none, true⟩
    let writes (p : SetPhase) (a : Fin 256) (v : Word) : Option Placed := some ⟨some (.program a v), some p, some .setting, false⟩
    [pumped (settingIn .obsolete both none'), pumped (settingIn .obsolete [(32, 0x00FF)] none'),
     pumped (settingIn .obsolete both (none'.set 0 bad)), pumped behind] =
      [marks 0 .setting, marks 32 .setting, marks 32 .setting, marks 32 .recovery] ∧
    [none', none'.set 0 bad, none'.set 1 bad].map (fun f => pumped (settingIn .obsolete [] f)) = [erases 3, erases 2, erases 1] ∧
    [SetPhase.word 1 1, .word 1 2, .word 1 3, .status 1].map (fun p => pumped (settingIn p [] none')) =
      [writes (.word 1 1) 33 0x0013, writes (.word 1 2) 34 0x1490, writes (.word 1 3) 35 0xEB5C, writes (.status 1) 32 0x00FF] := by
  decide +kernel

theorem witness_SetOdometerByItsChecks_ends :
    let none' := bench.store.flags
    let worn' : SectorFlags := { bad := false, worn := true, erasedKnown := true }
    let see (s t : State) : Option SetPhase × Bool × List (List Nat) :=
      (t.odometer.setting.map Setting.phase, t.odometer.valid, (placedBy s t).map Prod.snd)
    let ended (p : SetPhase) (exceeded : Bool) : Option SetPhase × Bool × List (List Nat) :=
      let s := settingIn p [] none'
      let t : State := { s with odometer := { s.odometer with work := some .setting } }
      see t (odometerProgramEnd { cls := .odometer, addr := 33, exceeded := exceeded, word := 0, cleared := 0 } t)
    let erased (os : List (Fin 8 × EraseOutcome)) (flags : Vector SectorFlags 8) : Option SetPhase × Bool × List (List Nat) :=
      let s := settingIn .erase [] flags
      let t : State := { s with odometer := { s.odometer with eraseOut := true } }
      see t (odometerEraseEnd os t)
    [ended .obsolete true, ended (.word 1 2) false, ended (.word 1 3) false, ended (.word 1 3) true] =
      [(some .obsolete, false, []), (some (.word 1 3), false, []), (some (.status 1), false, []), (none, false, [[0x44, 7, 8]])] ∧
    (let t := ended (.status 1) false
     (t.1, t.2.1, t.2.2.getLast?) = (none, true, some [0x44, 7, 0])) ∧
    [erased [(0, .erased), (1, .erased)] none', erased [(0, .exceeded), (1, .erased)] none', erased [(0, .erased), (1, .erased)] (none'.set 0 worn'),
     erased [(1, .erased)] none', erased [(0, .exceeded), (1, .exceeded)] none'] =
      [(some (.word 0 1), false, []), (some (.word 1 1), false, []), (some (.word 1 1), false, []), (some (.word 1 1), false, []),
       (none, false, [[0x44, 7, 8]])] ∧
    placedBy bench (answerSetting .ok bench) = [] := by decide +kernel

theorem witness_MetresBecomeIncrements_placed :
    let on (f : Odometer → Odometer) : State := { rotating with odometer := f { rotating.odometer with pending := 1 } }
    let program (e : Bool) : Option Placed := some ⟨some (.program 17 1), none, some .increment, e⟩
    let erase : Option Placed := some ⟨some (.erase 2), none, none, true⟩
    (rotating.sector 1).erasedKnown = false ∧ (rotating.sector 1).bad = false ∧ (rotating.sector 1).worn = false ∧
    [pumped (on id), pumped rotating, pumped (on (fun o => { o with cleared := 223 })), pumped (on (fun o => { o with cleared := 224 })),
     pumped (knownErased 1 (on (fun o => { o with cleared := 447 }))), pumped (on (fun o => { o with cleared := 447, eraseOut := true })),
     pumped (on (fun o => { o with cleared := 448, eraseOut := true })), pumped (on (fun o => { o with work := some .increment })),
     pumped (worn 0 (on id)), pumped (worn 1 (on (fun o => { o with cleared := 224 }))), pumped (worn 1 (on (fun o => { o with cleared := 448 })))] =
      [program false, none, program false, erase, program false, program true, none, none, erase, program false, none] ∧
    (odometerEraseEnd [] (on (fun o => { o with cleared := 448, eraseOut := true }))).odometer.fault = true ∧
    (odometerProgramEnd { cls := .odometer, addr := 32, exceeded := true, word := 0, cleared := 0 }
      (on (fun o => { o with work := some .recovery, recovery := [1, 0] }))).odometer.recovery = [0] := by decide +kernel

theorem witness_PresentationsEndByTheirRules_selection :
    let two (a : WarnAction) (w : Fin 32) (s : State) : State := s.setWarning w (warning doorCondition a .pending true)
    let clear : State := door (fun e => { e with state := .idle, holds := false, markFront := false, markRear := false })
    let quiet : State := { clear with chime := { clear.chime with queue := [], front := .silent } }
    let see (w : Fin 32) (s : State) : WarnState × Timer × Bool × Bool :=
      let e := s.warnings.entries[w]
      (e.state, e.presentTimer, e.markFront, e.markRear)
    let a (latch : LatchMode) (present : Nat) (r : Routing) : WarnAction := { doorAction with latch := latch, present := present, routing := r }
    let shows (x : WarnAction) : WarnState × Timer × Bool × Bool := see 5 (select (two x 5 quiet))
    [shows (a .selfClearing 0 .both), shows (a .momentary 0 .front), shows (a .momentary 15 .rear), shows (a .latching 1 .both),
     shows { a .latching 0 .both with chime := none }] =
      [(.presented, none, true, true), (.presented, some 4000, true, false), (.presented, some 15000, false, true),
       (.presented, some 1000, true, true), (.presented, none, false, false)] ∧
    (select (two (a .latching 0 .both) 5 quiet)).chime.queue.map (fun r => (r.origin, r.zone, r.rank)) =
      [(.warning 5, .front, 101), (.warning 5, .rear, 101)] ∧
    [see 9 (select (two doorAction 8 standing)), see 9 (select (two doorAction 10 standing)),
     see 9 (select (two { doorAction with priority := 2 } 10 standing)), see 8 (select (two doorAction 8 standing))] =
      [(.pending, none, true, true), (.presented, none, true, true), (.pending, none, true, true), (.presented, none, true, true)] ∧
    (placedBy standing (displaceWarning 9 standing)).map Prod.snd = [[1, 0, 0, 9, 2, 1, 0, 2]] := by decide +kernel

theorem witness_PresentationsEndByTheirRules_contents :
    let told (f : Warning → Warning) : Option (Fin 64 × Bool) × Option (Fin 64) :=
      let d := (notifyDisplay false (door f)).display
      (d.mcWarning, d.rearWarning)
    let act (x : WarnAction) : Warning → Warning := fun e => { e with action := some x }
    [told id, told (act { doorAction with priority := 1 }), told (act { doorAction with priority := 2 }), told (act { doorAction with message := none }),
     told (act { doorAction with routing := .front }), told (fun e => { e with state := .acknowledged }),
     told (fun e => { e with state := .pending, masked := true })] =
      [(some (20, false), some 20), (some (20, true), some 20), (some (20, false), some 20), (none, none), (some (20, false), none),
       (none, some 20), (none, none)] := by decide +kernel

theorem witness_WrittenContentIsRebuiltIntoTheImages_changed :
    let active (f : Display → Display) : State := withDisplay (f { (rebuild bench).display with link := .active, queue := [], outstanding := .all }) bench
    let see (s : State) : List Packet × Bool × Bool := let d := (rebuild s).display; (d.queue, d.outstanding.mcText, d.outstanding.rp2Text)
    let warned (d : Display) : Display := { d with mcWarning := some (0, true), rearWarning := some 0, messages := d.messages.set 0 (List.replicate 20 0x41) }
    [see (active id), see (active warned), see (active (fun d => { warned d with queue := [.item .mcText] })),
     see (active (fun d => { warned d with present := false })), see (active (fun d => { warned d with link := .waking }))] =
      [([], true, true), ([.item .mcText, .item .mcAttr, .item .rp2Text, .item .rp2Attr], false, false),
       ([.item .mcText, .item .mcAttr, .item .rp2Text, .item .rp2Attr], true, false), ([.item .mcText, .item .mcAttr], false, true),
       ([], true, true)] := by decide +kernel

theorem witness_DisplayPacketsAreFilledWhenTaken_wants :
    let on (n : Nat) (f : Display → Display) : Display :=
      (f { shown with link := .active, queue := List.replicate n (.item .rp1Text), pollWant := true, answerWant := true,
                      outstanding := .all }).fillWants
    let see (d : Display) : Nat × Bool × Bool × Bool := (d.queue.length, d.pollWant, d.answerWant, d.outstanding.mcText)
    [see (on 3 id), see (on 4 id), see (on 5 id), see (on 6 id), see (on 0 (fun d => { d with present := false })),
     see (on 0 (fun d => { d with queue := [.poll] })), see (on 0 (fun d => { d with link := .shuttingDown }))] =
      [(6, false, false, false), (6, false, false, true), (6, false, true, true), (6, true, true, true), (3, false, true, false),
       (6, true, false, false), (0, true, true, true)] := by decide +kernel

theorem witness_PressRecordsAndMcTimers_notices :
    let on (d : Display) : State := withDisplay d bench
    let held : Display := { shown with blanked := false, press := some { page := 1, state := .held, timer2 := some 5, timer5 := some 6 } }
    let edge (up : Option Bool) : Notice := .sample (.discrete true up) false
    let see (s : State) : LinkState × Bool × Timer × Option PressState :=
      let d := s.display
      (d.link, d.wakeAfter, d.idleTimer, d.press.map Press.state)
    [(buttonNotice (edge (some true)) (on { held with press := none })).display.press.isSome,
     (buttonNotice (edge (some false)) (on held)).display.press.isSome, (buttonNotice (edge none) (on held)).display.press.isSome] =
      [true, false, true] ∧ buttonNotice (.sample (.rolling 3) false) (on held) = on held ∧
    [see (contentNotice none none false (on held)), see (contentNotice none none true (on held)),
     see (contentNotice (some (3, false)) none false (on held)), see (contentNotice none (some 3) false (on { held with link := .shuttingDown })),
     see (contentNotice none none false (on { held with mcWarning := some (3, true) }))] =
      [(.hibernating, false, none, some .held), (.hibernating, false, none, some .cancelled), (.waking, false, none, some .held),
       (.shuttingDown, true, some 10000, some .held), (.hibernating, false, none, some .held)] := by decide +kernel

theorem witness_PressRecordsAndMcTimers_keys :
    let setup (off : Nat) : DisplaySetup :=
      { button := none, temperature := none, offDelay := off, idleTime := 10, mcBrightness := 3, rpBrightness := 3 }
    let key (new : KeyState) (off : Nat) (l : LinkState) : Bool × Timer × LinkState × Bool :=
      let d := (displayKey new (withKey new
        (withDisplay { shown with setup := some (setup off), blanked := false, offTimer := some 3, link := l } bench))).display
      (d.blanked, d.offTimer, d.link, d.wakeAfter)
    [key .off 0 .active, key .off 1 .active, key .off 120 .hibernating, key .run 0 .hibernating, key .acc 0 .shuttingDown,
     key .crank 0 .active] =
      [(true, none, .shuttingDown, false), (false, some 1000, .active, false), (false, some 120000, .hibernating, false),
       (false, none, .waking, false), (false, none, .shuttingDown, true), (false, none, .active, false)] ∧
    (pressEdge (withDisplay { shown with link := .hibernating } bench)).display.link = .waking := by decide +kernel

theorem witness_RestartWaitsForItsResponse_gauges :
    let f := responseFrame h 0xA2 .ok [] bench
    let at' (g : Gauge) (k : KeyState) : GaugeState × Timer × Bool × Option Nat :=
      let s := withKey k (withGauge g car)
      let t := after .loopFrameSent (withLoop { s.loop with tx := .inserted { frame := f, restart := true } } s)
      let x := t.gauges[3]
      (x.state, x.timer, x.pending, x.target)
    let still (p : Nat) : Gauge := { gauge .parked p (some 5) false with timer := none }
    [at' (still 0) .run, at' (gauge .sweepUp 9 (some 5) false) .run, at' (still 0) .off, at' (gauge .holding 0 (some 5) true) .crank,
     at' (gauge .tracking 1 (some 5) true) .acc, at' { still 7 with enabled := false, pending := true } .run] =
      [(.tracking, some 20, true, none), (.tracking, some 20, true, none), (.parked, none, false, none), (.parked, none, false, none),
       (.returning, some 20, false, none), (.parked, none, true, none)] := by decide +kernel

theorem witness_KeyLinesAndClockByTheirTimers_blocks :
    let s := { oil 1336442 4250 with gauges := car.gauges.set 3 (gauge .parked 0 (some 673) false)
                                     key := { (oil 1336442 4250).key with state := .off, candidate := ⟨true, true, false⟩, candCount := 2 } }
    let t := after (.keySample true true false) s
    s.powered = true ∧ s.key.candCount ≤ 2 ∧ keyOf ⟨true, true, false⟩ ≠ s.key.state ∧
    (t.gauges[3]).state = .sweepUp ∧ (t.service.items[0]).stage = .due ∧ t.warnings.bulbCheck = some 3000 ∧
    t.display.blanked = false ∧ t.display.link = .waking ∧ (placedBy s t).head?.map Prod.snd = some [6, 0, 0, 0, 2] ∧
    (after (.keySample false false false) { s with
      key := { s.key with state := .run, debounced := ⟨true, true, false⟩, candidate := ⟨false, false, false⟩ } }).trip.saving = true ∧
    testGates s = (List.finRange 32).foldl (fun u w => testGate w u) s := by decide +kernel

theorem witness_EnableDisableAndMaskWarnings_selection :
    let idle : State := door (fun e => { e with enabled := false, state := .idle, holds := false, gate := false })
    let on (c : WarnCondition) : State := idle.setWarning 9 { idle.warnings.entries[9] with condition := some c }
    let silent' : WarnCondition := { doorCondition with kind := .stale, subject := 40 }
    let see (i : Instr) (s : State) : WarnState × Bool × List Nat :=
      let t := after i s
      ((t.warnings.entries[9]).state, (t.warnings.entries[9]).gate, (placedBy s t).flatMap (fun f => (f.2.drop 3).take 5))
    let seen := door (fun e => { e with state := .acknowledged })
    let waits := door (fun e => { e with state := .pending, masked := true })
    (on silent').takes h = true ∧ (on silent').keyGateMet .notOff = true ∧ (on silent').speedGateMet 0 = true ∧
    (on silent').takenUp silent' = true ∧ (on doorCondition).takenUp doorCondition = false ∧
    see (.enableWarning h 9) (on doorCondition) = (.idle, true, []) ∧
    see (.enableWarning h 9) (on silent') = (.presented, true, [9, 0, 1, 0, 0, 9, 1, 2, 0, 1]) ∧
    see (.disableWarning h 9) standing = (.idle, false, [9, 2, 0, 0, 9]) ∧
    see (.disableWarning h 9) seen = (.idle, false, [9, 3, 0, 0, 9]) ∧
    see (.maskWarning h 9) standing = (.pending, true, [9, 2, 1, 1, 8]) ∧
    see (.maskWarning h 9) seen = (.acknowledged, true, []) ∧
    see (.unmaskWarning h 9) waits = (.presented, true, [9, 1, 2, 0, 1]) ∧
    (after (.maskWarning h 9) standing).chime.queue.map ChimeRequest.released = [true] ∧
    (after (.maskWarning h 9) seen).chime.queue.map ChimeRequest.released = [false] := by decide +kernel

theorem witness_RepliesAndMissesOfTheRearPanel_call :
    let on (queue : List Packet) (want : Bool) : State :=
      { withDisplay { shown with tx := .listening, replyWindow := some 0, call := true, link := .active, queue := queue,
                                 answerWant := want, outstanding := { shown.outstanding with mcText := true } } bench with
        warnings := { bench.warnings with rearCall := true } }
    let go (b : Byte) (s : State) : Bool × Bool × Bool × List Packet :=
      let t := after (.statusReply (withCheck [0x81, b])) s
      (t.warnings.rearCall, t.display.call, t.display.answerWant, t.display.queue.take 3)
    [go 0 (on [.poll, .answered] false), go 0 (on [.answered] true), go 1 (on [.answered] true)] =
      [(false, false, false, [.poll, .item .mcText, .item .mcAttr]), (false, false, false, [.item .mcText, .item .mcAttr, .item .rp1Text]),
       (true, true, true, [.answered])] := by decide +kernel

theorem witness_ServiceResetOnlyStandingInRun_otherPages :
    let s := evaluateAll (oil 1336442 4250)
    let on (page : Nat) (st : PressState) (t5 : Timer) (t : State) : State :=
      { t with display := { t.display with page := page, press := some { page := page, state := st, timer2 := none, timer5 := t5 } } }
    let expired (t : State) : Prop := after .hold5sExpiry t =
      { t with display := { t.display with press := t.display.press.map (fun p => { p with timer5 := none }) } }
    s.mostUrgent = some 0 ∧ bench.mostUrgent = none ∧ s.powered = true ∧
    expired (on 5 .long (some 0) s) ∧ expired (on 6 .long (some 0) bench) ∧
    [on 6 .held (some 0) s, on 6 .cancelled (some 0) s, on 6 .long none s, s].all (fun t => decide (after .hold5sExpiry t = t)) = true ∧
    (after .hold5sExpiry (on 6 .long (some 0) s)).service.saving = true := by decide +kernel

theorem witness_ScanGivesOneCodePerSector_setting :
    let s := withStore { State.reset.store with mem := odometerSector 1 9 0xFFFF } State.reset
    let set (g : Option Setting) : Odometer := (recoverOdometer { s with odometer := { s.odometer with setting := g } }).odometer
    let g : Setting := { value := 77, phase := .obsolete }
    ((set none).valid, (set none).recovery) = (true, []) ∧
    ((set (some g)).valid, (set (some g)).fault, (set (some g)).recovery, (set (some g)).setting) = (false, true, [1], some g) := by
  decide +kernel

theorem witness_ReturnsAndMissesMoveTheLoopState_events :
    let a (n : Byte) : Awaiting := ⟨frame 0xE0 [n], 0⟩
    let on (st : LoopState) : State := withLoop { bench.loop with awaiting := [a 1, a 2, a 3, a 4], state := st } bench
    let see (n : Byte) (st : LoopState) : List (List Nat) × Nat :=
      let t := loopReturn (frame 0xE0 [n]) (on st)
      ((placedBy (on st) t).map (fun f => f.2.drop 3), t.loop.awaiting.length)
    [see 1 .intact, see 2 .intact, see 3 .intact, see 4 .broken, see 1 .broken] =
      [([], 3), ([[0, 1], [1, 0]], 2), ([[0, 1], [1, 2], [2, 0]], 1), ([[2, 0]], 0), ([[2, 0]], 3)] := by decide +kernel
/-! ### Witnesses: the clauses of the fifth review -/

theorem witness_RepliesAndMissesOfTheRearPanel_ask :
    let on (link : LinkState) (queue : List Packet) (call present : Bool) : Display :=
      { shown with link := link, queue := queue, call := call, present := present }
    let five : List Packet := [.poll, .item .mcText, .item .mcAttr, .item .rp1Text, .item .rp1Attr]
    let ask (d : Display) : List Packet × Bool × LinkState × Timer × Bool :=
      let e := d.askAnswer
      (e.queue.drop d.queue.length, e.answerWant, e.link, e.settleTimer, e.wakeAfter)
    (on .active [] false true).askAnswer = on .active [] false true ∧
    (on .active [.answered] true true).askAnswer = on .active [.answered] true true ∧
    Display.askAnswer { on .hibernating [] true true with answerWant := true } =
      { on .hibernating [] true true with answerWant := true } ∧
    [ask (on .active five true true), ask (on .active (five ++ [.item .rp2Text]) true true), ask (on .active [] true false),
     ask (on .waking [] true true), ask (on .hibernating [] true true), ask (on .shuttingDown [] true true)] =
      [([.answered], false, .active, none, false), ([], true, .active, none, false), ([], true, .active, none, false),
       ([], true, .waking, none, false), ([], true, .waking, some 2, false), ([], true, .shuttingDown, none, true)] := by
  decide +kernel

theorem witness_RepliesAndMissesOfTheRearPanel_absent :
    let marks : Outstanding := { mcText := false, mcAttr := true, rp1Text := false, rp1Attr := true, rp2Text := false,
                                 rp2Attr := false, rpClock := false }
    let d : Display := { shown with
      link := .active, tx := .listening, replyWindow := some 0, missed := 2, call := true, outstanding := marks,
      queue := [.item .rp1Text, .poll, .answered, .item .mcText, .item .rpClock] }
    let e := (after .replyWindowExpiry (withDisplay d bench)).display
    d.present = true ∧ e = { d with
      tx := .idle, replyWindow := none, missed := 3, present := false, answerWant := true,
      queue := [.poll, .item .mcText, .item .mcAttr],
      outstanding := { marks with mcAttr := false, rp1Text := true, rpClock := true } } := by decide +kernel

theorem witness_DriveUpdateMovesByItsState_target :
    let target (s : State) : GaugeState × Option Nat :=
      let g := (after (.driveUpdate 3) s).gauges[3]
      (g.state, g.target)
    let ends : State := withGauge (gauge .sweepDown 32 (some 5) true) car
    let wide (v : Int) : State := { withChannel 12 (fresh (setup .analogU8 0x20 (some 3)) v) ends with
      curves := car.curves.set 5 (curveOf [(0, -1), (800, 1024)]) }
    [target ends, target (wide 0), target (wide 800), target (silent ends), target (withKey .crank ends),
     target (withGauge (gauge .sweepDown 33 (some 5) true) car)] =
      [(.tracking, some 673), (.tracking, some 0), (.tracking, some 1023), (.holding, some 5), (.holding, some 5),
       (.sweepDown, some 5)] := by decide +kernel

theorem witness_GaugeKeyEventsByTheTable_target :
    let still := { fuelGauge with sweep := false }
    let go (old new : KeyState) (st : GaugeState) (f : GaugeSetup) (s : State) : GaugeState × Option Nat :=
      let g : Gauge := { gauge st 4 (some 5) false with setup := f }
      let x := (gaugeKey old new (withKey new (withGauge g s))).gauges[3]
      (x.state, x.target)
    [go .off .run .parked still car, go .acc .run .returning still car, go .crank .run .holding still car,
     go .crank .run .parked still car, go .crank .run .tracking still car, go .off .run .parked fuelGauge car,
     go .off .run .parked still (silent car), go .off .crank .parked still car, go .run .crank .tracking still car,
     go .run .off .tracking still car] =
      [(.tracking, some 673), (.tracking, some 673), (.tracking, some 673), (.tracking, some 673), (.tracking, some 5),
       (.sweepUp, some 5), (.holding, some 5), (.parked, some 5), (.holding, some 5), (.returning, some 5)] := by
  decide +kernel

theorem witness_VerdictsAreCountedAgainstTheCondition_qualify :
    let s := door (fun e => { e with state := .idle, masked := true, presentTimer := some 5, remindTimer := some 6 })
    let t := changeState 9 .pending .qualify s
    t.warnings.entries[9] = { s.warnings.entries[9] with state := .pending } ∧
    placedBy s t = [(0xE1, [1, 0, 0, 9, 0, 1, 1, 0])] ∧ t.chime = s.chime ∧ t.display = s.display := by decide +kernel

theorem witness_ProgramEndLeavesOldAndNew_store :
    let s := programming 0x00F0 0x0030
    let t := after (.programEnd true) s
    settleOnce { s with store := t.store } = none ∧ t.store.ctl = .ready ∧ t.store.running = none ∧
    (s.store.programEnd true).map (fun r => (r.2 = t.store : Bool)) = some true := by decide +kernel

theorem witness_ErasingGoesSectorBySector_controller :
    let x : Store := { bench.store with
      mem := [(32, 0x00FF)], flags := bench.store.flags.set 2 bad, eraseSet := 0x46, slotTrip := some (.program 65 1) }
    let run (ctl : CtlState) (current : Option (Fin 8)) : Store := { x with
      ctl := ctl, current := current, running := some { cls := .odometer, addr := 17, value := 1 } }
    let ended (y : Store) : Option Controller := (y.programEnd false).map (fun r => controller r.2)
    x.beginNext = { x with ctl := .erasing, current := some 6, outcomes := [(1, .skippedActive), (2, .skippedBad)] } ∧
    Store.beginNext { x with eraseSet := 0x02 } =
      { x with ctl := .ready, eraseSet := 0, current := none, outcomes := [(1, .skippedActive)] } ∧
    [ended (run .programming none), ended (run .suspendedProgramming (some 6)), ended (run .suspendedProgramming none),
     ended { run .suspendedProgramming none with eraseSet := 0x02 }] =
      [some ⟨.ready, 0x46, 0, none⟩, some ⟨.erasing, 0x46, 0, some 6⟩, some ⟨.erasing, 0x46, 0, some 6⟩,
       some ⟨.ready, 0, 0, none⟩] ∧
    (let e := (erasing .erasing).store
     (e.eraseEnd true []).map (fun r => (r.1, controller r.2)) = some (6, ⟨.ready, 0, 1, none⟩)) := by decide +kernel

/-- A part in RUN with a standing warning, a masked one, and one of the kind STALE that RESTART finds TRUE. -/
def restarting : State :=
  let s := (standing.setWarning 5
    { warning { doorCondition with kind := .stale, subject := 40 } doorAction .idle false with enabled := true }).setWarning 2
    { standing.warnings.entries[2] with masked := true, remindTimer := some 5 }
  { s with
    channels := s.channels.set 12 { s.channels[12] with limited := true, candCount := 2, raw := some 9 }
    service := { s.service with saving := true, saveAgain := true, saveFault := true, lastKm := some 7 }
    display := { s.display with
      link := .active, queue := [.answered, .poll], pollWant := true, answerWant := true, tx := .listening,
      replyWindow := some 3, page := 3, offTimer := some 5, headMark := true, blanked := false, naTimer := some 4,
      press := some { page := 3, state := .held, timer2 := some 1, timer5 := some 4 } }
    loop := { s.loop with tx := .inserted { frame := responseFrame h 0xA2 .ok [] bench, restart := true } } }

theorem witness_RestartWaitsForItsResponse_blocks :
    let s := restarting
    let t := after .restartEffect s
    let c := t.channels[12]
    (c.setup, c.enabled, c.state, c.value, c.limited) = ((s.channels[12]).setup, true, .never, none, false) ∧
    (c.candCount, c.raw, c.timer) = (0, none, none) ∧
    t.warnings.entries[9] = { warning doorCondition doorAction .idle false with gate := true } ∧
    t.warnings.entries[2] = warning oilCondition oilAction .idle false ∧
    ((t.warnings.entries[5]).state, (t.warnings.entries[5]).markFront, (t.warnings.entries[5]).markRear) = (.presented, true, true) ∧
    t.chime.queue.map (fun r => (r.origin, r.zone)) = [(.warning 5, .front), (.warning 5, .rear)] ∧
    (t.chime.front.current, t.chime.rear.current) = (.request (.warning 5), .request (.warning 5)) ∧
    t.service = s.service ∧ t.chime.patterns = s.chime.patterns := by decide +kernel

theorem witness_RestartWaitsForItsResponse_display :
    let d := (after .restartEffect restarting).display
    d.link = .active ∧ d.tx = .idle ∧ d.replyWindow = none ∧ d.page = 3 ∧ d.offTimer = some 5 ∧ d.headMark = true ∧
    d.press = none ∧ d.naTimer = none ∧ d.pollWant = false ∧ d.answerWant = false ∧
    d.mcWarning = some (20, false) ∧ d.rearWarning = some 20 ∧
    d.queue.length = 6 ∧ d.queue.contains .poll = false ∧ d.queue.contains .answered = false ∧
    (allItems.filter (fun i => d.outstanding.get i != d.queue.contains (.item i))).length = 7 := by decide +kernel

/-! Every paged read, its bytes counted out by hand from the order of its rule and R190. -/

theorem witness_PagedReadsAnswerInPartsAndChangeNothing_tables :
    let back := withGauge { gauge .tracking 0 none true with cosine := -255 } car
    data (.readChannelSetup h 12 none) car = [0, 1, 1, 32, 255, 0, 0, 3, 3, 100, 4, 3] ∧
    data (.readChannelSetup h 47 none) car = List.replicate 12 0 ∧
    data (.readGaugeSetup h 3 none) car = [1, 1, 1, 12, 5, 3, 8, 0, 0, 0, 1, 1] ∧
    data (.readGaugeSetup h 3 (some 1)) car = [17, 0, 90, 0, 0] ∧
    data (.readGauge h 3 none) car = [0, 3, 0, 0, 0, 2, 161, 1, 0, 0, 0, 255] ∧
    data (.readGauge h 3 none) back = [0, 3, 0, 0, 1, 0, 0, 1, 0, 0, 255, 1] ∧
    [none, some 1, some 2].map (fun p => data (.readTripSetup h p) car) =
      [[2, 1, 0, 1, 2, 12, 24, 106, 97, 168, 1, 144], [18, 0, 110, 0, 120, 16, 4, 46, 224, 0, 71, 44], [34, 1, 0, 0]] ∧
    data (.readTripSetup h (some 1)) bench = [18, 0, 0, 0, 0, 0, 0, 0, 0, 1, 0, 0] := by decide +kernel

theorem witness_PagedReadsAnswerInPartsAndChangeNothing_store :
    let on (f : Store → Store) : State := withStore (f bench.store) bench
    let due := evaluateAll (oil 1336442 4250)
    data (.readStore h 192 none) bench = [0, 0, 0, 255, 255, 0, 0, 0, 0] ∧
    data (.readStore h 192 none) (on (fun x => { x with ctl := .scanning })) = [0, 4, 1, 0, 0, 0, 0, 0, 7] ∧
    data (.readStore h 255 none) (on (fun x => { x with flags := x.flags.set 7 bad })) = [0, 8, 1, 0, 0, 1, 0, 0, 0] ∧
    data (.readOdometer h none) car = [1, 0, 0, 19, 19, 174, 19, 19, 174, 0, 0, 60] ∧
    data (.readOdometer h (some 1)) car = [17, 0, 0, 222, 0, 0, 0, 0, 0] ∧
    (data (.readOdometer h none) bench).take 6 = [1, 1, 1, 0, 0, 0] ∧
    [none, some 1, some 2].map (fun p => data (.readServiceItem h 0 p) { due with loop := bench.loop }) =
      [[2, 1, 1, 255, 58, 152, 1, 109, 5, 220, 0, 30], [18, 3, 232, 0, 30, 0, 18, 22, 157, 15, 190, 2],
       [34, 0, 255, 255, 155, 0, 0, 0, 145]] := by decide +kernel

theorem witness_PagedReadsAnswerInPartsAndChangeNothing_warnings :
    let reminded := standing.setWarning 2 { standing.warnings.entries[2] with remindTimer := some 60000 }
    [none, some 1, some 2].map (fun p => data (.readWarningSetup h 9 p) standing) =
      [[2, 1, 1, 1, 2, 21, 0, 0, 0, 0, 1, 1], [18, 1, 0, 0, 2, 0, 3, 0, 4, 20, 7, 2], [34, 0, 0]] ∧
    data (.readWarningSetup h 31 (some 1)) standing = [18, 0, 0, 0, 0, 0, 0, 0, 255, 255, 255, 0] ∧
    [none, some 1].map (fun p => data (.readWarning h 9 p) standing) = [[1, 2, 0, 0, 0, 0, 0, 3, 1, 0, 0, 1], [17, 0, 0]] ∧
    [none, some 1].map (fun p => data (.readWarning h 2 p) reminded) = [[1, 0, 0, 1, 0, 2, 0, 0, 1, 0, 0, 0], [17, 2, 88]] ∧
    [data (.readChimePattern h 4 1 none) standing, data (.readChimePattern h 4 2 none) standing,
     data (.readChimePattern h 1 1 none) standing] =
      [[0, 1, 1, 1, 0, 1, 244, 10, 10], [0, 1, 1, 1, 1, 0, 0, 0, 0], [0, 0, 1, 0, 0, 0, 125, 25, 25]] ∧
    data (.readChimes h none) standing = [2, 1, 9, 0, 4, 3, 9, 1, 0, 1, 1, 0] ∧
    (data (.readChimes h (some 1)) standing).take 7 = [18, 0, 1, 0, 1, 244, 0] := by decide +kernel

theorem witness_PagedReadsAnswerInPartsAndChangeNothing_heads :
    let set : DisplaySetup :=
      { button := some 21, temperature := none, offDelay := 30, idleTime := 600, mcBrightness := 2, rpBrightness := 1 }
    let d : Display := { shown with
      link := .active, tx := .listening, present := false, missed := 3, call := true, journey := true, page := 4,
      blanked := false, press := some { page := 5, state := .cancelled, timer2 := none, timer5 := none },
      queue := [.item .rpClock, .poll, .answered], outstanding := { Outstanding.all with mcText := false }, pollWant := true }
    let l : LoopPort := { bench.loop with
      state := .suspect, asserted := true, force := true, flow := .hold, holders := [⟨9, 1500⟩], forwardQ := [[1]],
      awaiting := [⟨[1], 100⟩] }
    let k : KeyClock := { bench.key with
      valid := true, seconds := 86399, day := 65535, state := .run, debounced := ⟨true, true, false⟩,
      settleTimer := some 3000, runStart := some ⟨4, 256⟩ }
    data (.readDisplaySetup h none) bench = [0, 0, 255, 255, 0, 0, 10, 3, 3] ∧
    data (.readDisplaySetup h none) (withDisplay { shown with setup := some set } bench) = [0, 1, 21, 255, 30, 2, 88, 2, 1] ∧
    [none, some 1, some 2, some 8].map (fun p => data (.readDisplay h p) (withDisplay d bench)) =
      [[8, 2, 2, 1, 3, 3, 4, 0, 1, 0, 0, 0], [24, 5, 2, 1, 0, 0, 1, 0, 0, 4, 6, 5],
       [40, 255, 6, 255, 0, 1, 1, 1, 1, 1, 1, 1], [136, 32, 32, 0, 3, 255, 255]] ∧
    [none, some 1].map (fun p => data (.readLoop h p) (withLoop l bench)) =
      [[1, 2, 1, 1, 1, 0, 1, 9, 0, 15, 1, 0], [17, 0, 0, 1, 0, 0, 100, 0]] ∧
    [none, some 1, some 2].map (fun p => data (.readClock h p) { bench with key := k }) =
      [[2, 0, 1, 81, 127, 255, 255, 2, 3, 0, 0, 0], [18, 30, 0, 0, 4, 0, 1, 0, 1, 0, 0, 0], [34, 0, 0]] := by decide +kernel

theorem witness_WrittenContentIsRebuiltIntoTheImages_order :
    let marks : Outstanding := { mcText := false, mcAttr := false, rp1Text := false, rp1Attr := false, rp2Text := false,
                                 rp2Attr := false, rpClock := false }
    let on (queue : List Packet) : State :=
      withDisplay { shown with link := .active, queue := queue, outstanding := marks } bench
    let go (s : State) : List Packet × Bool × Bool :=
      let d := (after (.writeDisplaySetup h 0xFF 0xFF 0 10 1 1) s).display
      (d.queue.drop s.display.queue.length, d.outstanding.rp1Attr, d.outstanding.rp2Attr)
    [go (on []), go (on [.poll, .item .mcText, .item .rp1Text, .item .rp2Text])] =
      [([.item .mcAttr, .item .rp1Attr, .item .rp2Attr], false, false), ([.item .mcAttr, .item .rp1Attr], false, true)] := by
  decide +kernel
/-! ### Witnesses: the clauses of the sixth review -/

/-- An external operation of the requester of `h` outstanding. -/
def asking (x : Handler) (op : ExternalOp) (code : Byte) (s : State) : State :=
  withHandler { x with ext := some op, extRequester := some { node := 5, code := code, seq := 7 } } s

theorem witness_StoreRequestsByTheirChecks_program_ends :
    let asks (s : State) : State := asking s.handler (.program 192) 0x41 s
    let ends (worn : Bool) (s : State) : List (Nat × List Nat) × Nat × Bool :=
      let t := after (.programEnd worn) s
      (placedBy s t, t.handler.held.length, t.handler.ext.isSome)
    let late : State := withLoop { bench.loop with overrun := true } (asks (programming 0x00F0 0x0130))
    let held : State := asking { bench.handler with held := [[]] } (.program 192) 0x41 (programming 0x00F0 0x0030)
    [ends false (asks (programming 0x00F0 0x0030)), ends false held, ends false (queued 8 (asks (programming 0x00F0 0x0030))),
     ends false (programming 0x00F0 0x0030)] =
      [([(0xF5, [0x41, 7, 0, 0, 0x30])], 0, false), ([], 2, false), ([], 1, false), ([], 0, false)] ∧
    placedBy late (after (.programEnd false) late) =
      [(0xE1, [4, 0, 0, 3, 192]), (0xF5, [0x41, 7, 0x88, 0, 0x30])] ∧
    (after (.programEnd false) late).loop.overrun = false := by decide +kernel

theorem witness_StoreRequestsByTheirChecks_erase_ends :
    let asks (named : BitVec 8) : State := asking bench.handler (.erase named) 0x42 bench
    let os : List (Fin 8 × EraseOutcome) := [(6, .erased), (7, .exceeded)]
    let ends (named b : BitVec 8) (os : List (Fin 8 × EraseOutcome)) : List (Nat × List Nat) :=
      placedBy (asks named) (classEraseEnd .external b os (asks named))
    ends 0x40 0x40 os = [(0xF5, [0x42, 7, 0, 0xFF, 0xFF, 0xFF, 0xFF, 0xFF, 0xFF, 0, 0xFF])] ∧
    ends 0xC1 0xC0 os = [(0xF5, [0x42, 7, 8, 3, 0xFF, 0xFF, 0xFF, 0xFF, 0xFF, 0, 1])] ∧
    ends 0xE0 0xC0 [(6, .skippedBad), (7, .erased)] = [(0xF5, [0x42, 7, 8, 0xFF, 0xFF, 0xFF, 0xFF, 0xFF, 3, 2, 0])] ∧
    (classEraseEnd .external 0x40 os (asks 0x40)).handler.ext = none ∧
    placedBy bench (classEraseEnd .external 0x40 os (withHandler { bench.handler with ext := some (.erase 0x40) } bench)) = []
    := by decide +kernel

theorem witness_StoreRequestsByTheirChecks_classes :
    let rep (c : StoreClass) : ProgramReport := { cls := c, addr := 97, word := 5, exceeded := false, cleared := 1 }
    let s := savingAt (.word 17) none
    let phase (t : State) : Option SavePhase := (t.tripPair.job).map SaveJob.phase
    phase (classProgramEnd (rep .trip) s) = some (.word 18) ∧ phase (classProgramEnd (rep .service) s) = some (.word 17) ∧
    phase (classEraseEnd .trip 0x08 [(3, .erased)] (savingAt .erase none)) = some (.word 1) ∧
    phase (classEraseEnd .trip 0x08 [(2, .erased)] (savingAt .erase none)) = none ∧
    (classEraseEnd .odometer 0x01 [] (withStore bench.store { bench with
      odometer := { bench.odometer with eraseOut := true } })).odometer.eraseOut = false := by decide +kernel

theorem witness_ServiceResetOnlyStandingInRun_save_end :
    let s (fault saving again : Bool) : State := { bench with
      servicePair := { Pair.initial with recovered := true }
      service := { bench.service with saving := saving, saveAgain := again, saveFault := fault } }
    let ends (ok fault again : Bool) : Bool × Bool × Bool × Bool × PairState :=
      let t := serviceSaveEnd ok (s fault true again)
      (t.service.saveFault, t.service.saving, t.service.saveAgain, t.warnings.storeFault, t.servicePair.state)
    [ends true false false, ends false false false, ends true true false, ends true false true, ends false true true] =
      [(false, false, false, false, .idle), (true, false, false, true, .idle), (false, false, false, false, .idle),
       (false, true, false, false, .saving), (true, true, false, true, .saving)] ∧
    (serviceSaveEnd true { s true true false with trip := { bench.trip with saveFault := true } }).warnings.storeFault = true :=
  by decide +kernel

theorem witness_ErasingGoesSectorBySector_settle :
    let ended (s : State) : State := s.setPair .trip { s.tripPair with ended := some true }
    let both (s : State) : State := ended { s with servicePair := { s.servicePair with ended := some false } }
    let done : State := withStore { bench.store with
      joined := [(.external, 0xC0), (.trip, 0x08), (.service, 0x20)], outcomes := [(3, .erased), (5, .erased), (6, .erased)] }
      (savingAt .erase none)
    let once (s : State) : State := (settleOnce s).getD bench
    let kept (s : State) : List (StoreClass × BitVec 8) := s.store.joined
    (once (both bench)).tripPair.ended = none ∧ (once (both bench)).servicePair.ended = some false ∧
    (once (once (both bench))).service.saveFault = true ∧ settleOnce (once (once (both bench))) = none ∧
    (settle (both bench)).servicePair.ended = none ∧
    kept (once done) = [(.external, 0xC0), (.service, 0x20)] ∧ (once done).store.outcomes = done.store.outcomes ∧
    ((once done).tripPair.job).map SaveJob.phase = some (.word 1) ∧
    (once (savingAt .erase none)).store.slotTrip = some (.erase 0x08) ∧
    (once (once (savingAt .erase none))).store.ctl = .eraseWindow ∧
    (settle (savingAt .erase none)).store.ctl = .eraseWindow ∧ (savingAt .erase none).windowFresh = true ∧
    (settleOnce (settle done)).isNone = true ∧ bench.windowFresh = true := by decide +kernel

theorem witness_EvaluationGivesTheStage_notices :
    let at6 (s : State) : State := withDisplay { s.display with page := 6, blanked := false } s
    let page (s : State) : Nat := s.display.page
    let due := (evaluateAll (oil 1335440 4240))
    let watch (c : WarnCondition) (s : State) : State := s.setWarning 3 (warning { c with
      kind := .service, subject := 0, minStage := 1, keyGate := .any } doorAction .idle false)
    [page (stageNotice (at6 bench)), page (stageNotice (at6 due)), page (stageNotice bench)] = [1, 6, 1] ∧
    due.mostUrgent = some 0 ∧ bench.mostUrgent = none ∧
    ((warnStage 0 (watch doorCondition due)).warnings.entries[3]).holds = true ∧
    ((warnStage 1 (watch doorCondition due)).warnings.entries[3]).holds = false ∧
    (stageNotice (at6 due)).display.images.mcText ≠ due.display.images.mcText := by decide +kernel

theorem witness_VerdictsAreCountedAgainstTheCondition_system :
    let called (subject : Nat) (s : State) : State := s.setWarning 3 (warning { doorCondition with
      kind := .system, subject := subject, keyGate := .any } doorAction .idle false)
    let holds (s : State) : Bool := (s.warnings.entries[3]).holds
    setSys .clockInvalid true bench = bench ∧ bench.warnings.clockInvalid = true ∧
    [holds (setSys .storeFault true (called 2 bench)), holds (setSys .storeFault true (called 1 bench)),
     holds (setSys .rearCall true (called 4 bench)), holds (setSys .loopBroken true (called 0 bench))] =
      [true, false, true, true] ∧
    (setSys .odometerFault true bench).warnings = { bench.warnings with odometerFault := true } := by decide +kernel

theorem witness_PressRecordsAndMcTimers_reset :
    let s : State := { car with trip := { car.trip with
      records := (car.trip.records.set 0 (record 5 6 7 8)).set 1 (record 1 2 3 4),
      snapshots := car.trip.snapshots.set 1 (some (record 9 9 9 9)) } }
    let t := resetTrip 1 .button s
    t.trip.records[1] = .zero ∧ t.trip.snapshots[1] = none ∧ t.trip.records[0] = record 5 6 7 8 ∧
    placedBy s t = [(0xE1, [5, 2, 0, 1, 1])] := by decide +kernel

theorem witness_TripFieldsSaturateOnce_events :
    let full : State := { car with
      trip := { car.trip with records := Vector.replicate 4 (record 1 1 359999 359999), rear := .running } }
    let going := withChannel 2 (fresh (setup .analogU16 0x32 none) 30) full
    let slow := withChannel 2 (fresh (setup .analogU16 0x32 none) 29) full
    let told (s : State) : List (List Nat) := (placedBy s (tripSeconds s)).map Prod.snd
    full.trip.setup.isSome = true ∧ full.store.ctl ≠ .scanning ∧
    (told slow).length = 4 ∧ told (withKey .off slow) = [[5, 1, 0, 3, 2]] ∧
    (tripSeconds going).handler.events.length + (told going).length = 8 ∧ (told (withKey .acc car)).length = 0 := by
  decide +kernel

theorem witness_PowerLossKeepsOnlyTheStore_blocks :
    let t := State.powerOn 9 [(17, 5)] [.scanComplete]
    t.store.ctl = .scanning ∧ t.store.mem = [(17, 5)] ∧ t.loop.node = 9 ∧ t.pending = [.scanComplete] ∧
    t.display.link = .hibernating ∧ t.loop.broadcast = some 500 := by decide +kernel

theorem witness_ProducersPlaceByTheirLimits_broadcast :
    let sent (s : State) : List (List Nat) := (placedBy s (after .broadcastTimerExpiry s)).map Prod.snd
    let bits (x : Channel) : List Nat := ((sent (withChannel 2 x car)).headD []).extract 1 4
    let top (s : State) : Nat := ((sent s).headD []).getD 9 0
    let two : State := standing.setWarning 4 (warning oilCondition { oilAction with priority := 2 } .acknowledged true)
    let speed := setup .analogU16 0x32 none
    [bits (fresh speed 1234), bits (fresh speed (-1)), bits { fresh speed 1234 with state := .stale },
     bits { fresh speed 1234 with value := none }] = [[0, 4, 0xD2], [0, 0xFF, 0xFF], [1, 0, 0], [1, 0, 0]] ∧
    ((sent bench).headD []).extract 1 4 = [1, 0, 0] ∧
    [top bench, top standing, top two, top (two.setWarning 4 { two.warnings.entries[4] with masked := true })] =
      [0xFF, 3, 2, 3] ∧
    standing.loop.insertQ.length < 6 := by decide +kernel

theorem witness_RequestFramesDecodeToTheirRequests_codes :
    encodeRequest (.writeChannel h 1 2 3 4 5 6 7 8 9 10) = some (5, [0x10, 7, 1, 2, 3, 4, 5, 6, 7, 8, 9, 10]) ∧
    encodeRequest (.readClock h none) = some (5, [0xB1, 7]) ∧ encodeRequest (.readClock h (some 1)) = some (5, [0xB1, 7, 1]) ∧
    encodeRequest (.restart h) = some (5, [0xA2, 7]) ∧ encodeRequest .scanComplete = none ∧
    decodeRequest 5 [0xA2, 7] = .restart h := by decide +kernel

theorem witness_SafeStatesStaySafe_window :
    let window : State := withStore { bench.store with ctl := .eraseWindow, outcomes := [(6, .erased)] } bench
    window.safe = false ∧ (after (.storeErase h 0x40) bench).windowFresh = true ∧
    (after (.storeErase h 0x40) bench).store.ctl = .eraseWindow := by decide +kernel
end Sys2Proof.Tests
end

section
/-! PROOF. The Channel Table's requests (R4, R5, R7, R8): what WRITE CHANNEL, ENABLE CHANNEL, CURVE POINT and COMMIT CURVE
answer in each of their cases, and the two statements that follow. -/

namespace Sys2Proof.Machine

/-! ### The arguments of the requests -/

theorem ChanKind.ofCode_eq_some {n : Nat} {k : ChanKind} : ChanKind.ofCode n = some k ↔ n = k.code := by
  constructor
  · intro h
    unfold ChanKind.ofCode at h
    split at h <;> cases h <;> rfl
  · rintro rfl
    cases k <;> rfl

theorem choice?_exists {n : Nat} {b : Byte} : (∃ o, choice? n b = some o) ↔ b = 0xFF ∨ b.toNat < n := by
  unfold choice? fin?
  split
  · exact iff_of_true ⟨_, rfl⟩ (.inl ‹_›)
  · split
    · exact iff_of_true ⟨_, rfl⟩ (.inr ‹_›)
    · exact iff_of_false nofun (not_or.mpr ⟨‹_›, ‹_›⟩)

/-- A choice that is in its range encodes to the byte that was sent (R190). -/
theorem encChoice_of_choice? {n : Nat} {b : Byte} {o : Option (Fin n)} (h : choice? n b = some o) :
    encChoice (o.map Fin.val) = [b] := by
  unfold choice? at h
  split at h
  · cases h
    simp [encChoice, *]
  · obtain ⟨i, hi, rfl⟩ := Option.map_eq_some_iff.mp h
    have hib : i.val = b.toNat := by
      unfold fin? at hi
      split at hi <;> cases hi
      rfl
    simp [encChoice, enc1, hib]

theorem choice?_isNone {n : Nat} {b : Byte} {o : Option (Fin n)} (h : choice? n b = some o) :
    o.isNone = true ↔ b = 0xFF := by
  unfold choice? at h
  split at h
  · cases h
    simp [*]
  · obtain ⟨i, _, rfl⟩ := Option.map_eq_some_iff.mp h
    exact iff_of_false Bool.false_ne_true ‹_›

/-- A node number below 16 is kept by its four bits (R165). -/
theorem node_of_fin16 (o : Option (Fin 16)) :
    (o.map (fun n => BitVec.ofNat 4 n.val)).map BitVec.toNat = o.map Fin.val := by
  cases o with
  | none => rfl
  | some n => simp

/-! ### WRITE CHANNEL (R4) -/

/-- The ranges of check 3 of R4, on the bytes sent. -/
def ChannelFieldsInRange (tag origin kind offset bit curve shift debounce : Byte) : Prop :=
  ∃ k : ChanKind, kind.toNat = k.code ∧ tag.toNat < 0xE0 ∧ (origin = 0xFF ∨ origin.toNat ≤ 15) ∧
    offset.toNat ≤ (if k = .analogU16 ∨ k = .analogS16 ∨ k = .rolling then 13 else 14) ∧
    (if k.isAnalog = true then (curve = 0xFF ∨ curve.toNat ≤ 15) ∧ shift.toNat ≤ 6 else curve = 0xFF) ∧
    (k = .discrete → bit.toNat ≤ 7 ∧ 1 ≤ debounce.toNat ∧ debounce.toNat ≤ 7)

theorem channelFields_isSome (tag origin kind offset bit curve timeout shift debounce : Byte) :
    (channelFields tag origin kind offset bit curve timeout shift debounce).isSome = true ↔
      ChannelFieldsInRange tag origin kind offset bit curve shift debounce := by
  have inChoice (b : Byte) : (∃ o, choice? 16 b = some o) ↔ b = 0xFF ∨ b.toNat ≤ 15 := by
    rw [choice?_exists, Nat.lt_succ_iff]
  constructor
  · intro h
    unfold channelFields at h
    split at h
    · rename_i k o c hk ho hc
      refine ⟨k, ChanKind.ofCode_eq_some.mp hk, ?_⟩
      have hor := (inChoice origin).mp ⟨o, ho⟩
      have hcr := (inChoice curve).mp ⟨c, hc⟩
      have hcn := choice?_isNone hc
      cases k <;> simp_all [ChanKind.isAnalog]
    · cases h
  · rintro ⟨k, hk, htag, hor, hoff, hcurve, hdisc⟩
    obtain ⟨o, ho⟩ := (inChoice origin).mpr hor
    have hcr : curve = 0xFF ∨ curve.toNat ≤ 15 := by
      split at hcurve
      · exact hcurve.1
      · exact .inl hcurve
    obtain ⟨c, hc⟩ := (inChoice curve).mpr hcr
    have hcn := choice?_isNone hc
    unfold channelFields
    rw [ChanKind.ofCode_eq_some.mpr hk, ho, hc]
    cases k <;> simp_all [ChanKind.isAnalog]

/-- The loaded fields are the ones sent: each encodes to its byte (R190). -/
theorem channelFields_encode {tag origin kind offset bit curve timeout shift debounce : Byte} {f : ChanSetup}
    (h : channelFields tag origin kind offset bit curve timeout shift debounce = some f) :
    f.kind.code = kind.toNat ∧ f.tag = tag ∧ encChoice (f.origin.map BitVec.toNat) = [origin] ∧
      f.offset = offset.toNat ∧ f.bit = bit.toNat ∧ encChoice (f.curve.map Fin.val) = [curve] ∧
      f.timeout = timeout.toNat ∧ f.shift = shift.toNat ∧ f.debounce = debounce.toNat := by
  unfold channelFields at h
  split at h
  · rename_i k o c hk ho hc
    have horigin := encChoice_of_choice? ho
    rw [← node_of_fin16] at horigin
    dsimp only at h
    obtain ⟨_, hf⟩ := Option.ite_none_right_eq_some.mp h
    cases hf
    exact ⟨(ChanKind.ofCode_eq_some.mp hk).symm, rfl, horigin, rfl, rfl, encChoice_of_choice? hc, rfl, rfl, rfl⟩
  · cases h

section WriteChannel
variable {ch tag origin kind offset bit curve timeout shift debounce : Byte} {s : State} {c : Fin 48}

theorem reqWriteChannel_outside (hch : 48 ≤ ch.toNat) :
    reqWriteChannel ch tag origin kind offset bit curve timeout shift debounce s = refuse .badArgument s := by
  simp [reqWriteChannel, fin?_none hch]

theorem reqWriteChannel_enabled (hc : ch.toNat = c.val) (he : (s.channels[c]).enabled = true) :
    reqWriteChannel ch tag origin kind offset bit curve timeout shift debounce s = refuse .inUse s := by
  simp only [reqWriteChannel, fin?_some c hc, if_pos he]

theorem reqWriteChannel_disabled (hc : ch.toNat = c.val) (he : (s.channels[c]).enabled = false) :
    reqWriteChannel ch tag origin kind offset bit curve timeout shift debounce s =
      ((channelFields tag origin kind offset bit curve timeout shift debounce).elim (refuse .badArgument s)
        (fun f => (s.setChannel c { s.channels[c] with setup := some f }, .done))) := by
  simp only [reqWriteChannel, fin?_some c hc, he]
  cases channelFields tag origin kind offset bit curve timeout shift debounce <;> rfl

end WriteChannel

/-! ### ENABLE CHANNEL (R5) -/

theorem State.curveMissing_iff (s : State) (f : ChanSetup) : s.curveMissing f = true ↔
    f.kind.isAnalog = true ∧ ∃ k, f.curve = some k ∧ (s.curves[k]).state ≠ .valid := by
  cases hf : f.curve <;> simp [State.curveMissing, hf]

section EnableChannel
variable {ch : Byte} {s : State} {c : Fin 48} {f : ChanSetup}

theorem reqEnableChannel_outside (hch : 48 ≤ ch.toNat) : reqEnableChannel ch s = refuse .badArgument s := by
  simp [reqEnableChannel, fin?_none hch]

theorem reqEnableChannel_unwritten (hc : ch.toNat = c.val) (hs : (s.channels[c]).setup = none) :
    reqEnableChannel ch s = refuse .invalidState s := by
  simp only [reqEnableChannel, fin?_some c hc, hs]

theorem reqEnableChannel_written (hc : ch.toNat = c.val) (hs : (s.channels[c]).setup = some f) :
    reqEnableChannel ch s =
      if s.curveMissing f then refuse .invalidState s
      else if (s.channels[c]).enabled then (s, .done)
      else (s.setChannel c { (s.channels[c]).never with enabled := true }, .done) := by
  simp only [reqEnableChannel, fin?_some c hc, hs]

end EnableChannel

/-! ### The curve in use (R7, R8) -/

theorem State.curveInUse_iff (s : State) (k : Fin 16) : s.curveInUse k = true ↔
    (∃ c : Fin 48, (s.channels[c]).enabled = true ∧ ∃ f, (s.channels[c]).setup = some f ∧ f.curve = some k) ∨
      (∃ g : Fin 6, (s.gauges[g]).enabled = true ∧ (s.gauges[g]).setup.curve = k) := by
  simp only [State.curveInUse, Bool.or_eq_true, List.any_eq_true, Vector.mem_toList_iff, Bool.and_eq_true, beq_iff_eq,
    Vector.mem_iff_getElem, Fin.exists_iff, Fin.getElem_fin]
  constructor
  · rintro (⟨_, ⟨i, hi, rfl⟩, he, hf⟩ | ⟨_, ⟨i, hi, rfl⟩, h⟩)
    · split at hf
      · exact .inl ⟨i, hi, he, _, ‹_›, beq_iff_eq.mp hf⟩
      · cases hf
    · exact .inr ⟨i, hi, h⟩
  · rintro (⟨i, hi, he, f, hs, hf⟩ | ⟨i, hi, h⟩)
    · exact .inl ⟨_, ⟨i, hi, rfl⟩, he, by simp [hs, hf]⟩
    · exact .inr ⟨_, ⟨i, hi, rfl⟩, h⟩

/-! ### CURVE POINT (R7) -/

section CurvePoint
variable {curve slot : Byte} {x : BitVec 24} {y : Word} {s : State} {k : Fin 16} {i : Fin 12}

theorem reqCurvePoint_outside
    (h : 16 ≤ curve.toNat ∨ slot = 0 ∨ 12 < slot.toNat ∨ x.toInt < -32768 ∨ 65535 < x.toInt) :
    reqCurvePoint curve slot x y s = refuse .badArgument s := by
  unfold reqCurvePoint
  split
  · rename_i k i hk hi
    have hk' : ¬ 16 ≤ curve.toNat := fun hle => by simp [fin?_none hle] at hk
    have hi' : ¬ 12 < slot.toNat := fun hlt => by simp [fin?_none (Nat.le_sub_one_of_lt hlt)] at hi
    exact if_pos (by tauto)
  · rfl

theorem reqCurvePoint_inside (hk : curve.toNat = k.val) (hi : slot.toNat = i.val + 1) (hlo : -32768 ≤ x.toInt)
    (hhi : x.toInt ≤ 65535) :
    reqCurvePoint curve slot x y s =
      if s.curveInUse k then refuse .inUse s
      else (s.setCurve k { slots := (s.curves[k]).slots.set i (some (x.toInt, y.toInt)), count := 0, state := .editing },
        .done) := by
  have hi' : slot.toNat - 1 = i.val := by omega
  have hslot : slot ≠ 0 := by rintro rfl; simp at hi
  have hin : ¬ (slot = 0 ∨ x.toInt < -32768 ∨ 65535 < x.toInt) := by
    rintro (h | h | h)
    · exact hslot h
    · omega
    · omega
  simp only [reqCurvePoint, fin?_some k hk, fin?_some i hi', if_neg hin]

end CurvePoint

/-! ### COMMIT CURVE (R8) -/

/-- The order that R8 asks of two neighbouring slots, where both are present. -/
def SlotsRise (a b : Option (Int × Int)) : Prop := ∀ p q, a = some p → b = some q → p.1 < q.1

theorem pointsGood_iff (l : List (Option (Int × Int))) :
    pointsGood l = true ↔ (∀ a ∈ l, a.isSome = true) ∧ l.IsChain SlotsRise := by
  induction l with
  | nil => simp [pointsGood]
  | cons a r ih =>
    cases a with
    | none => simp [pointsGood]
    | some p =>
      cases r with
      | nil => simp [pointsGood]
      | cons b r =>
        cases b with
        | none => simp [pointsGood]
        | some q =>
          have hr : SlotsRise (some p) (some q) ↔ p.1 < q.1 := by simp [SlotsRise]
          simp only [pointsGood, Bool.and_eq_true, decide_eq_true_eq, ih, List.isChain_cons_cons, hr,
            List.forall_mem_cons, Option.isSome_some, true_and]
          tauto

/-- The checks of COMMIT CURVE on the first `n` slots, slot by slot. -/
theorem pointsGood_take (v : Vector (Option (Int × Int)) 12) {n : Nat} (hn : n ≤ 12) :
    pointsGood (v.toList.take n) = true ↔
      (∀ i : Fin 12, i.val < n → (v[i]).isSome = true) ∧
      (∀ (i j : Fin 12) (p q : Int × Int), j.val = i.val + 1 → j.val < n → v[i] = some p → v[j] = some q → p.1 < q.1) := by
  have hlen : (v.toList.take n).length = n := by simp [hn]
  rw [pointsGood_iff, List.forall_mem_iff_getElem, List.isChain_iff_getElem]
  simp only [List.getElem_take, Vector.getElem_toList, hlen, SlotsRise]
  constructor
  · rintro ⟨hsome, hrise⟩
    refine ⟨fun i hi => hsome i hi, ?_⟩
    rintro ⟨i, _⟩ ⟨_, _⟩ p q rfl hj hp hq
    exact hrise i hj p q hp hq
  · rintro ⟨hsome, hrise⟩
    exact ⟨fun i hi => hsome ⟨i, by omega⟩ hi,
      fun i hi p q hp hq => hrise ⟨i, by omega⟩ ⟨i + 1, by omega⟩ p q rfl hi hp hq⟩

section CommitCurve
variable {curve count : Byte} {s : State} {k : Fin 16}

theorem reqCommitCurve_outside (hk : 16 ≤ curve.toNat) : reqCommitCurve curve count s = refuse .badArgument s := by
  simp [reqCommitCurve, fin?_none hk]

theorem reqCommitCurve_inside (hk : curve.toNat = k.val) :
    reqCommitCurve curve count s =
      if s.curveInUse k then refuse .inUse s
      else if 2 ≤ count.toNat ∧ count.toNat ≤ 12 ∧ pointsGood ((s.curves[k]).slots.toList.take count.toNat) then
        (s.setCurve k { s.curves[k] with count := count.toNat, state := .valid }, .done)
      else refuse .badArgument s := by
  simp only [reqCommitCurve, fin?_some k hk]

end CommitCurve

/-! ### The answers of a request that is taken -/

section Taken
variable {h : Head} {code : Byte} {i : Instr} {s t : State} {r : State × Answer}

/-- A request whose owner refuses it changes nothing but its response. -/
theorem taken_refused {st : Status} (hi : exec i s = .next (respond h code false r)) (hr : r = refuse st s) :
    exec i s = .next (answered h code st [] s) := by
  rw [hi, hr, respond_refuse]

/-- A request whose owner carries it out is answered OK without data. -/
theorem taken_done (hi : exec i s = .next (respond h code false r)) (hr : r = (t, .done)) :
    exec i s = .next (answered h code .ok [] t) := by
  rw [hi, hr, Answer.done, respond_now]

end Taken

/-! ### The statements about the requests -/

/-- Settles O1: the checks of both requests in their order, each with the answer of its case. -/
theorem writeAndEnableChannelByTheirChecks : Obligations.WriteAndEnableChannelByTheirChecks := by
  constructor
  · intro h ch tag origin kind offset bit curve timeout shift debounce s ht run inRange
    have hrun : run = .next (respond h 0x10 false
        (reqWriteChannel ch tag origin kind offset bit curve timeout shift debounce s)) := exec_taken nofun rfl ht
    have hrange : inRange ↔ (channelFields tag origin kind offset bit curve timeout shift debounce).isSome = true :=
      (channelFields_isSome ..).symm
    refine ⟨fun hch => taken_refused hrun (reqWriteChannel_outside hch), fun c hc => ⟨?_, ?_, ?_⟩⟩
    · exact fun he => taken_refused hrun (reqWriteChannel_enabled hc he)
    · intro he hout
      rw [hrange, Option.not_isSome_iff_eq_none] at hout
      exact taken_refused hrun (by rw [reqWriteChannel_disabled hc he, hout]; rfl)
    · intro he hin
      obtain ⟨f, hf⟩ := Option.isSome_iff_exists.mp (hrange.mp hin)
      obtain ⟨hkind, htag, horigin, hoffset, hbit, hcurve, htimeout, hshift, hdebounce⟩ := channelFields_encode hf
      exact ⟨f, hkind, htag, horigin, hoffset, hbit, hcurve, htimeout, hshift, hdebounce,
        taken_done hrun (by rw [reqWriteChannel_disabled hc he, hf]; rfl)⟩
  · intro h ch s ht run
    have hrun : run = .next (respond h 0x11 false (reqEnableChannel ch s)) := exec_taken nofun rfl ht
    refine ⟨fun hch => taken_refused hrun (reqEnableChannel_outside hch), fun c hc => ⟨?_, ?_⟩⟩
    · exact fun hs => taken_refused hrun (reqEnableChannel_unwritten hc hs)
    · intro f hs missing
      have hmiss : s.curveMissing f = true ↔ missing := s.curveMissing_iff f
      have hreq := reqEnableChannel_written hc hs
      refine ⟨fun hm => ?_, fun hm he => ?_, fun hm he => ⟨(s.channels[c]).candLevel, ?_⟩⟩
      · exact taken_refused hrun (by rw [hreq, if_pos (hmiss.mpr hm)])
      · exact taken_done hrun (by rw [hreq, if_neg (mt hmiss.mp hm), if_pos he])
      · refine taken_done hrun ?_
        rw [hreq, if_neg (mt hmiss.mp hm), if_neg (Bool.eq_false_iff.mp he), Channel.never, hs]

/-- Settles O4: the curve in use and the good points are the model's two tests, read slot by slot. -/
theorem curveRequestsByTheirChecks : Obligations.CurveRequestsByTheirChecks := by
  intro h curve s ht inUse
  have huse (k : Fin 16) : s.curveInUse k = true ↔ inUse k := s.curveInUse_iff k
  constructor
  · intro slot x y run
    have hrun : run = .next (respond h 0x13 false (reqCurvePoint curve slot x y s)) := exec_taken nofun rfl ht
    refine ⟨fun hout => taken_refused hrun (reqCurvePoint_outside hout), fun k i hk hi hlo hhi => ?_⟩
    have hreq := reqCurvePoint_inside (y := y) (s := s) hk hi hlo hhi
    refine ⟨fun hu => taken_refused hrun ?_, fun hu => taken_done hrun ?_⟩
    · rw [hreq, if_pos ((huse k).mpr hu)]
    · rw [hreq, if_neg (mt (huse k).mp hu)]
  · intro count run
    have hrun : run = .next (respond h 0x14 false (reqCommitCurve curve count s)) := exec_taken nofun rfl ht
    refine ⟨fun hk => taken_refused hrun (reqCommitCurve_outside hk), ?_⟩
    intro k hk good
    have hgood : (2 ≤ count.toNat ∧ count.toNat ≤ 12 ∧
        pointsGood ((s.curves[k]).slots.toList.take count.toNat) = true) ↔ good :=
      and_congr_right fun _ => and_congr_right fun hle => pointsGood_take _ hle
    have hreq := reqCommitCurve_inside (count := count) (s := s) hk
    refine ⟨fun hu => taken_refused hrun ?_, fun hu hg => taken_refused hrun ?_, fun hu hg => taken_done hrun ?_⟩
    · rw [hreq, if_pos ((huse k).mpr hu)]
    · rw [hreq, if_neg (mt (huse k).mp hu), if_neg (mt hgood.mp hg)]
    · rw [hreq, if_neg (mt (huse k).mp hu), if_pos (hgood.mpr hg)]

end Sys2Proof.Machine
end

section
/-! PROOF. The samples of the Channel Table: the conversion through a curve (R12 to R14), smoothing (R15) and debounce
(R17). -/

namespace Sys2Proof.Machine

/-! ### Rounding (R13) -/

/-- The magnitude of `roundAway`, pinned by its inequalities. -/
theorem roundAway_natAbs (n : Int) {d : Nat} (hd : 0 < d) :
    2 * ((roundAway n d).natAbs * d) ≤ 2 * n.natAbs + d ∧ 2 * n.natAbs < 2 * ((roundAway n d).natAbs * d) + d := by
  have habs : (roundAway n d).natAbs = (2 * n.natAbs + d) / (2 * d) := by
    unfold roundAway
    dsimp only
    split
    · rw [Int.natAbs_neg, Int.natAbs_natCast]
    · rw [Int.natAbs_natCast]
  have hmod := Nat.div_add_mod (2 * n.natAbs + d) (2 * d)
  have hlt := Nat.mod_lt (2 * n.natAbs + d) (Nat.mul_pos Nat.two_pos hd)
  rw [Nat.mul_assoc, Nat.mul_comm d, ← habs] at hmod
  omega

theorem roundAway_zero {d : Nat} (hd : 0 < d) : roundAway 0 d = 0 := by
  have : (2 * 0 + d) / (2 * d) = 0 := Nat.div_eq_of_lt (by omega)
  simp only [roundAway, Int.natAbs_zero, this, lt_irrefl, if_false, Nat.cast_zero]

theorem roundAway_nonneg {n : Int} (hn : 0 ≤ n) (d : Nat) : 0 ≤ roundAway n d := by
  rw [roundAway, if_neg (Int.not_lt.mpr hn)]
  exact Int.natCast_nonneg _

theorem roundAway_nonpos {n : Int} (hn : n ≤ 0) {d : Nat} (hd : 0 < d) : roundAway n d ≤ 0 := by
  rcases hn.lt_or_eq with hlt | rfl
  · rw [roundAway, if_pos hlt]
    exact Int.neg_nonpos_of_nonneg (Int.natCast_nonneg _)
  · exact (roundAway_zero hd).le

/-- The nearest integer, halves away from zero, said by the remainder (R13). -/
theorem roundAway_nearest (n : Int) {d : Nat} (hd : 0 < d) :
    (0 ≤ n → 2 * n - 2 * roundAway n d * d < d ∧ 2 * roundAway n d * d - 2 * n ≤ d) ∧
    (n < 0 → 2 * roundAway n d * d - 2 * n < d ∧ 2 * n - 2 * roundAway n d * d ≤ d) := by
  obtain ⟨hle, hlt⟩ := roundAway_natAbs n hd
  zify at hle hlt
  constructor <;> intro hn
  · rw [abs_of_nonneg hn, abs_of_nonneg (roundAway_nonneg hn d)] at hle hlt
    constructor <;> linarith
  · rw [abs_of_neg hn, abs_of_nonpos (roundAway_nonpos hn.le hd)] at hle hlt
    constructor <;> linarith

/-- A multiple of `m` by less than the divisor rounds to at most `m` in magnitude. -/
theorem roundAway_natAbs_le {k m : Int} {d : Nat} (hk : k.natAbs < d) : (roundAway (k * m) d).natAbs ≤ m.natAbs := by
  obtain ⟨hle, -⟩ := roundAway_natAbs (k * m) (Nat.zero_lt_of_lt hk)
  have hmul : (k * m).natAbs ≤ d * m.natAbs := by
    rw [Int.natAbs_mul]
    exact Nat.mul_le_mul_right _ hk.le
  by_contra hgt
  have hstep : (m.natAbs + 1) * d ≤ (roundAway (k * m) d).natAbs * d := Nat.mul_le_mul_right _ (Nat.lt_of_not_le hgt)
  rw [Nat.succ_mul, Nat.mul_comm] at hstep
  omega

/-- The interpolated value lies between both ends of its segment. -/
theorem add_roundAway_between (y z : Int) {k : Int} {d : Nat} (hk : 0 ≤ k) (hkd : k < d) :
    min y z ≤ y + roundAway (k * (z - y)) d ∧ y + roundAway (k * (z - y)) d ≤ max y z := by
  have hle : (roundAway (k * (z - y)) d).natAbs ≤ (z - y).natAbs := roundAway_natAbs_le (by omega)
  rcases le_total y z with h | h
  · have := roundAway_nonneg (Int.mul_nonneg hk (Int.sub_nonneg.mpr h)) d
    omega
  · have := roundAway_nonpos (Int.mul_nonpos_of_nonneg_of_nonpos hk (sub_nonpos.mpr h)) (d := d) (by omega)
    omega

/-! ### Conversion through a curve (R12, R13) -/

/-- One point lies left of another. -/
def LeftOf (p q : Int × Int) : Prop := p.1 < q.1

/-- The X of a curve's points increase strictly (R8). -/
def XRises (points : List (Int × Int)) : Prop := points.Pairwise LeftOf

/-- It is enough that they do so from each point to the next. -/
theorem xRises_of_adjacent {points : List (Int × Int)}
    (h : ∀ i (hi : i + 1 < points.length), (points[i]).1 < (points[i + 1]).1) : XRises points := by
  have : Trans LeftOf LeftOf LeftOf := ⟨lt_trans⟩
  exact List.isChain_iff_pairwise.mp (List.isChain_iff_getElem.mpr h)

theorem XRises.lt {points : List (Int × Int)} (h : XRises points) {i j : Nat} (hij : i < j) (hj : j < points.length) :
    (points[i]).1 < (points[j]).1 := List.pairwise_iff_getElem.mp h i j (hij.trans hj) hj hij

theorem XRises.le {points : List (Int × Int)} (h : XRises points) {i j : Nat} (hij : i ≤ j) (hj : j < points.length) :
    (points[i]).1 ≤ (points[j]).1 := by
  rcases hij.lt_or_eq with hlt | rfl
  · exact (h.lt hlt hj).le
  · exact le_rfl

/-- The three cases of R12 and R13 over the first and the last point. -/
theorem convertCurve_cases {points : List (Int × Int)} {p q : Int × Int} (hp : points.head? = some p)
    (hq : points.getLast? = some q) (x : Int) :
    convertCurve points x =
      if x ≤ p.1 then (p.2, decide (x < p.1))
      else if q.1 ≤ x then (q.2, decide (q.1 < x))
      else (interpolate points x, false) := by
  cases points with
  | nil => cases hp
  | cons a r =>
    cases hp
    simp only [convertCurve, hq]

/-- R13 on its segment: the segments before it are passed over. -/
theorem interpolate_segment {points : List (Int × Int)} {x : Int} (h : XRises points) {i : Nat}
    (hi : i + 1 < points.length) (hlo : (points[i]).1 ≤ x) (hhi : x < (points[i + 1]).1) :
    interpolate points x = (points[i]).2 +
      roundAway ((x - (points[i]).1) * ((points[i + 1]).2 - (points[i]).2)) ((points[i + 1]).1 - (points[i]).1).natAbs := by
  induction points generalizing i with
  | nil => cases hi
  | cons a r ih =>
    cases r with
    | nil => simp at hi
    | cons b r =>
      cases i with
      | zero => exact if_pos hhi
      | succ i =>
        have htail : XRises (b :: r) := List.Pairwise.of_cons h
        have hb : b.1 ≤ x := (htail.le (Nat.zero_le i) (by simp at hi ⊢; omega)).trans hlo
        calc interpolate (a :: b :: r) x
            = interpolate (b :: r) x := if_neg (Int.not_lt.mpr hb)
          _ = _ := ih htail (Nat.lt_of_succ_lt_succ hi) hlo hhi

/-- Where x lies on a segment the conversion interpolates and is not limited, at its left end too. -/
theorem convertCurve_segment {points : List (Int × Int)} {x : Int} (h : XRises points) {i : Nat}
    (hi : i + 1 < points.length) (hlo : (points[i]).1 ≤ x) (hhi : x < (points[i + 1]).1) :
    convertCurve points x = (interpolate points x, false) := by
  have hlen : 0 < points.length := Nat.zero_lt_of_lt hi
  have hfirst : points.head? = some points[0] := by rw [List.head?_eq_getElem?, List.getElem?_eq_getElem hlen]
  have hlast : points.getLast? = some (points[points.length - 1]'(Nat.sub_one_lt_of_lt hlen)) := by
    rw [List.getLast?_eq_getElem?, List.getElem?_eq_getElem]
  have hend := h.le (Nat.le_sub_one_of_lt hi) (Nat.sub_one_lt_of_lt hlen)
  rw [convertCurve_cases hfirst hlast]
  split
  · have hx : x = (points[0]).1 := le_antisymm ‹_› ((h.le (Nat.zero_le i) (by omega)).trans hlo)
    have hnext : x < (points[0 + 1]).1 := hx ▸ h.lt Nat.zero_lt_one (by omega)
    have hd : 0 < ((points[0 + 1]).1 - (points[0]).1).natAbs := by omega
    rw [interpolate_segment h (by omega) hx.ge hnext, hx, sub_self, Int.zero_mul, roundAway_zero hd]
    simp
  · rw [if_neg (by omega)]

/-- Without a curve: saturated to 16 bits signed (R14). -/
theorem convertPlain_eq (x : Int) : convertPlain x = (max (-32768) (min 32767 x), decide (x < -32768 ∨ 32767 < x)) := by
  unfold convertPlain
  split
  · rw [show max (-32768) (min 32767 x) = 32767 by omega, decide_eq_true (.inr ‹_›)]
  · split
    · rw [show max (-32768) (min 32767 x) = -32768 by omega, decide_eq_true (.inl ‹_›)]
    · rw [show max (-32768) (min 32767 x) = x by omega, decide_eq_false (by omega)]

theorem State.convert_curve {f : ChanSetup} {k : Fin 16} (hf : f.curve = some k) (s : State) (x : Int) :
    s.convert f x = convertCurve (s.curves[k]).points x := by
  simp only [State.convert, hf]

theorem State.convert_none {f : ChanSetup} (hf : f.curve = none) (s : State) (x : Int) :
    s.convert f x = convertPlain x := by
  simp only [State.convert, hf]

/-- Settles O5: the clamps by the first and the last point, the segment by interpolation and `roundAway`. -/
theorem conversionStaysWithinTheCurve : Obligations.ConversionStaysWithinTheCurve := by
  constructor
  · exact fun s f x =>
      ⟨fun k hk => s.convert_curve hk x, fun hf => (s.convert_none hf x).trans (convertPlain_eq x)⟩
  · intro points x hlen hadj
    have hrise := xRises_of_adjacent hadj
    constructor
    · intro p q hp hq
      have hpq : p.1 < q.1 := by
        rw [List.head?_eq_getElem?, List.getElem?_eq_some_iff] at hp
        rw [List.getLast?_eq_getElem?, List.getElem?_eq_some_iff] at hq
        obtain ⟨_, rfl⟩ := hp
        obtain ⟨_, rfl⟩ := hq
        exact hrise.lt (by omega) _
      rw [convertCurve_cases hp hq]
      exact ⟨fun hx => if_pos hx, fun hx => by rw [if_neg (by omega), if_pos hx]⟩
    · intro i hi hlo hhi d n
      have hd : ((d.natAbs : Nat) : Int) = d := Int.natAbs_of_nonneg (by omega)
      have hnear := roundAway_nearest n (d := d.natAbs) (by omega)
      have hbetween := add_roundAway_between (points[i]).2 (points[i + 1]).2 (k := x - (points[i]).1) (d := d.natAbs)
        (by omega) (by omega)
      rw [hd] at hnear
      refine ⟨roundAway n d.natAbs, ?_, hnear.1, hnear.2, hbetween.1, hbetween.2⟩
      rw [convertCurve_segment hrise hi hlo hhi, interpolate_segment hrise hi hlo hhi]

/-! ### Smoothing (R15) -/

/-- The step of smoothing: the ceiling of m / 2^k. -/
def smoothStep (k m : Nat) : Nat := (m + 2 ^ k - 1) / 2 ^ k

theorem smoothStep_ceil (k m : Nat) : m ≤ smoothStep k m * 2 ^ k ∧ smoothStep k m * 2 ^ k < m + 2 ^ k := by
  have hpos := Nat.two_pow_pos k
  have hmod := Nat.div_add_mod (m + 2 ^ k - 1) (2 ^ k)
  have hlt := Nat.mod_lt (m + 2 ^ k - 1) hpos
  rw [Nat.mul_comm] at hmod
  unfold smoothStep
  omega

/-- Never past the goal. -/
theorem smoothStep_le (k m : Nat) : smoothStep k m ≤ m := by
  by_contra hgt
  have hstep : (m + 1) * 2 ^ k ≤ smoothStep k m * 2 ^ k := Nat.mul_le_mul_right _ (Nat.lt_of_not_le hgt)
  have hm : m ≤ m * 2 ^ k := Nat.le_mul_of_pos_right m (Nat.two_pow_pos k)
  have := (smoothStep_ceil k m).2
  rw [Nat.succ_mul] at hstep
  omega

/-- At least one unit toward it. -/
theorem smoothStep_pos (k : Nat) {m : Nat} (hm : 0 < m) : 0 < smoothStep k m :=
  Nat.pos_of_mul_pos_right (hm.trans_le (smoothStep_ceil k m).1)

/-- The model's step, with the sign of y − v in one factor. -/
theorem smooth_eq (k : Nat) (v y : Int) : smooth k v y = v + (y - v).sign * smoothStep k (y - v).natAbs := by
  have hstep : smooth k v y =
      if y - v < 0 then v - smoothStep k (y - v).natAbs else v + smoothStep k (y - v).natAbs := rfl
  rw [hstep]
  rcases lt_trichotomy (y - v) 0 with h | h | h
  · rw [if_pos h, Int.sign_eq_neg_one_of_neg h]
    omega
  · have hzero : smoothStep k 0 = 0 := Nat.le_zero.mp (smoothStep_le k 0)
    simp [h, hzero]
  · rw [if_neg (by omega), Int.sign_eq_one_of_pos h, Int.one_mul]

/-- A step from v toward y stays between them, and comes nearer. -/
theorem smooth_between (k : Nat) (v y : Int) :
    min v y ≤ smooth k v y ∧ smooth k v y ≤ max v y ∧ (y ≠ v → (y - smooth k v y).natAbs < (y - v).natAbs) := by
  have hle := smoothStep_le k (y - v).natAbs
  have hpos (hy : y ≠ v) := smoothStep_pos k (m := (y - v).natAbs) (by omega)
  rw [smooth_eq]
  rcases lt_trichotomy (y - v) 0 with h | h | h
  · rw [Int.sign_eq_neg_one_of_neg h]
    have := hpos (by omega)
    omega
  · rw [h, Int.sign_zero]
    omega
  · rw [Int.sign_eq_one_of_pos h]
    have := hpos (by omega)
    omega

/-! ### An analog sample (R15) -/

theorem sampleAnalog_seeds {f : ChanSetup} {ch : Channel} (h : ch.state ≠ .fresh ∨ f.shift = 0) (y : Int)
    (limited : Bool) : (sampleAnalog f y limited ch).1.value = some y := by
  unfold sampleAnalog
  dsimp only
  split
  · rw [if_pos (h.resolve_left (not_not_intro ‹_›))]
  · rfl

theorem sampleAnalog_smooths {f : ChanSetup} {ch : Channel} {v : Int} (hs : ch.state = .fresh) (hv : ch.value = some v)
    (hf : f.shift ≠ 0) (y : Int) (limited : Bool) :
    (sampleAnalog f y limited ch).1.value = some (smooth f.shift v y) := by
  simp only [sampleAnalog, hs, hv, if_neg hf]

/-! ### A discrete sample (R17) -/

section Discrete
variable {f : ChanSetup} {b v : Bool} {ch : Channel}

/-- A level as the channel's value (R2). -/
def levelValue (b : Bool) : Int := if b then 1 else 0

theorem levelValue_inj : levelValue b = levelValue v ↔ b = v := by cases b <;> cases v <;> decide

/-- The entry that every discrete sample leaves, but for its value and its count (R16, R17). -/
def Channel.sampled (ch : Channel) (f : ChanSetup) (b : Bool) : Channel :=
  { ch with state := .fresh, candLevel := b, timer := freshTimer f }

theorem sampleDiscrete_seeds (h : ch.state ≠ .fresh ∨ ch.value = none) : sampleDiscrete f b ch =
    ({ ch.sampled f b with value := some (levelValue b), candCount := 0 }, .discrete b none) := by
  unfold sampleDiscrete
  dsimp only
  split
  · rename_i hs hv
    exact absurd (hv.symm.trans (h.resolve_left (not_not_intro hs))) nofun
  · rfl

theorem sampleDiscrete_fresh {x : Int} (hs : ch.state = .fresh) (hv : ch.value = some x) : sampleDiscrete f b ch =
    if x = levelValue b then ({ ch.sampled f b with candCount := 0 }, .discrete b none)
    else if ch.candCount + 1 = f.debounce then
      ({ ch.sampled f b with value := some (levelValue b), candCount := 0 }, .discrete b (some b))
    else ({ ch.sampled f b with candCount := ch.candCount + 1 }, .discrete (!b) none) := by
  simp only [sampleDiscrete, hs, hv, Channel.sampled, levelValue]

theorem sampleDiscrete_equal (hs : ch.state = .fresh) (hv : ch.value = some (levelValue b)) : sampleDiscrete f b ch =
    ({ ch.sampled f b with candCount := 0 }, .discrete b none) := by
  rw [sampleDiscrete_fresh hs hv, if_pos rfl]

theorem sampleDiscrete_differs (hs : ch.state = .fresh) (hv : ch.value = some (levelValue v)) (hb : b ≠ v) :
    sampleDiscrete f b ch =
      if ch.candCount + 1 = f.debounce then
        ({ ch.sampled f b with value := some (levelValue b), candCount := 0 }, .discrete b (some b))
      else ({ ch.sampled f b with candCount := ch.candCount + 1 }, .discrete v none) := by
  rw [sampleDiscrete_fresh hs hv, if_neg fun h => hb (levelValue_inj.mp h).symm, Bool.not_eq.mpr hb]

/-- Every discrete sample leaves the channel FRESH with its bit as the candidate level. -/
theorem sampleDiscrete_candidate (f : ChanSetup) (b : Bool) (ch : Channel) :
    (sampleDiscrete f b ch).1.state = .fresh ∧ (sampleDiscrete f b ch).1.candLevel = b := by
  by_cases hs : ch.state = .fresh
  · cases hv : ch.value with
    | none =>
      rw [sampleDiscrete_seeds (.inr hv)]
      exact ⟨rfl, rfl⟩
    | some x =>
      rw [sampleDiscrete_fresh hs hv]
      split_ifs <;> exact ⟨rfl, rfl⟩
  · rw [sampleDiscrete_seeds (.inl hs)]
    exact ⟨rfl, rfl⟩

end Discrete

/-- Settles O6: smoothing by its step, debounce by the four cases of a discrete sample. -/
theorem analogSamplesSmoothAndDiscreteSamplesDebounce :
    Obligations.AnalogSamplesSmoothAndDiscreteSamplesDebounce := by
  constructor
  · intro f y limited ch next
    refine ⟨rfl, rfl, fun hs => sampleAnalog_seeds (.inl hs) y limited, fun hf => sampleAnalog_seeds (.inr hf) y limited, ?_⟩
    intro v hs hv hf
    obtain ⟨hceil, hceil'⟩ := smoothStep_ceil f.shift (y - v).natAbs
    obtain ⟨hlo, hhi, hnear⟩ := smooth_between f.shift v y
    exact ⟨smooth f.shift v y, smoothStep f.shift (y - v).natAbs, sampleAnalog_smooths hs hv (by omega) y limited,
      hceil, hceil', smooth_eq f.shift v y, hlo, hhi, hnear⟩
  · intro f b ch r num
    obtain ⟨hfresh, hcand⟩ := sampleDiscrete_candidate f b ch
    refine ⟨hfresh, hcand, fun hs => ?_, fun v hs hv => ⟨?_, fun hb hc => ?_, fun hb hc => ?_⟩⟩
    · have hr : r = _ := sampleDiscrete_seeds (.inl hs)
      rw [hr]
      exact ⟨rfl, rfl, rfl⟩
    · rintro rfl
      have hr : r = _ := sampleDiscrete_equal hs hv
      rw [hr]
      exact ⟨hv, rfl, rfl⟩
    · have hr : r = _ := (sampleDiscrete_differs hs hv hb).trans (if_pos hc)
      rw [hr]
      exact ⟨rfl, rfl, rfl⟩
    · have hr : r = _ := (sampleDiscrete_differs hs hv hb).trans (if_neg hc)
      rw [hr]
      exact ⟨hv, rfl, rfl⟩

end Sys2Proof.Machine
end

section
/-! PROOF. The Gauge Drive (chapter 2): the source of a gauge and its target (R29), the drive update state by state
(R30 to R32), the notices (R34) and the requests (R25 to R27), each with the statement that follows from it. -/

namespace Sys2Proof.Machine

/-! ### The source and its target (R29) -/

theorem State.sourceLive_iff (s : State) (c : Fin 48) : s.sourceLive c = true ↔
    (s.channels[c]).state = .fresh ∧ ∃ f, (s.channels[c]).setup = some f ∧ f.kind ≠ .rolling := by
  simp only [State.sourceLive, Bool.and_eq_true, decide_eq_true_eq]
  refine and_congr_right fun _ => ?_
  cases (s.channels[c]).setup with
  | none => simp only [reduceCtorEq, false_and, exists_false, Bool.false_eq_true]
  | some f => simp only [bne_iff_ne, Option.some.injEq, exists_eq_left']

theorem State.sourceTarget_live {s : State} {f : GaugeSetup} {v : Int} (hl : s.sourceLive f.source = true)
    (hv : (s.channels[f.source]).value = some v) : s.sourceTarget f = some (s.mapTarget f v) := by
  have hfresh := ((s.sourceLive_iff f.source).mp hl).1
  rw [State.sourceTarget, if_pos hl, State.freshValue, if_pos hfresh, hv, Option.map_some]

theorem State.sourceTarget_not_live {s : State} {f : GaugeSetup} (hl : s.sourceLive f.source ≠ true) :
    s.sourceTarget f = none := if_neg hl

/-- Into TRACKING: the target of the source, or else the one the gauge had. -/
theorem State.track_eq (s : State) (g : Gauge) :
    s.track g = { g.running .tracking with target := (s.sourceTarget g.setup).or g.target } := by
  unfold State.track
  cases s.sourceTarget g.setup <;> rfl

/-! ### The coils (R38) -/

@[simp] theorem Gauge.driven_written (g : Gauge) : g.driven.written = g.written := rfl
@[simp] theorem Gauge.driven_enabled (g : Gauge) : g.driven.enabled = g.enabled := rfl
@[simp] theorem Gauge.driven_setup (g : Gauge) : g.driven.setup = g.setup := rfl
@[simp] theorem Gauge.driven_state (g : Gauge) : g.driven.state = g.state := rfl
@[simp] theorem Gauge.driven_position (g : Gauge) : g.driven.position = g.position := rfl
@[simp] theorem Gauge.driven_target (g : Gauge) : g.driven.target = g.target := rfl
@[simp] theorem Gauge.driven_pending (g : Gauge) : g.driven.pending = g.pending := rfl
@[simp] theorem Gauge.driven_timer (g : Gauge) : g.driven.timer = g.timer := rfl
theorem Gauge.driven_coils (g : Gauge) :
    (g.driven.sine, g.driven.cosine) = coilLevels g.written g.setup g.position := rfl

/-! ### The step of a pointer -/

theorem toward_eq (a b n : Nat) :
    (toward a b n : Int) = a + ((b : Int) - a).sign * min ((b : Int) - a).natAbs n := by
  unfold toward
  rcases lt_trichotomy a b with h | rfl | h
  · rw [if_pos h.le, Int.sign_eq_one_of_pos (by omega)]
    omega
  · simp
  · rw [if_neg h.not_ge, Int.sign_eq_neg_one_of_neg (by omega)]
    omega

/-- Never past the goal, and never by more than the step. -/
theorem toward_between (a b n : Nat) :
    min a b ≤ toward a b n ∧ toward a b n ≤ max a b ∧ ((toward a b n : Int) - a).natAbs ≤ n := by
  unfold toward
  split <;> omega

/-- The damping shift of a TRACKING update (R30). -/
def Gauge.trackShift (g : Gauge) : Nat := if g.pending = true then 0 else g.setup.damping

/-- The slew limit of a TRACKING update (R30). -/
def Gauge.trackLimit (g : Gauge) : Nat := if g.pending = true then 255 else g.setup.slew

/-- The step of R30 is the ceiling of smoothing (R15) under the slew limit. -/
theorem trackStep_eq (g : Gauge) (t : Nat) :
    trackStep g t = min (smoothStep g.trackShift ((t : Int) - g.position).natAbs) g.trackLimit := by
  unfold trackStep Gauge.trackShift Gauge.trackLimit smoothStep
  dsimp only
  split <;> simp

/-- The movement of R30: sign(d) · min(ceil(|d| / 2^s), L), the ceiling pinned by its inequalities; never
past the target. -/
theorem trackStep_moves (g : Gauge) (t : Nat) :
    (∃ c : Nat, ((t : Int) - g.position).natAbs ≤ c * 2 ^ g.trackShift ∧
      c * 2 ^ g.trackShift < ((t : Int) - g.position).natAbs + 2 ^ g.trackShift ∧
      (toward g.position t (trackStep g t) : Int) =
        g.position + ((t : Int) - g.position).sign * (min c g.trackLimit : Nat)) ∧
    min g.position t ≤ toward g.position t (trackStep g t) ∧
    toward g.position t (trackStep g t) ≤ max g.position t ∧
    ((toward g.position t (trackStep g t) : Int) - g.position).natAbs ≤ g.trackLimit := by
  obtain ⟨hceil, hceil'⟩ := smoothStep_ceil g.trackShift ((t : Int) - g.position).natAbs
  have hle := smoothStep_le g.trackShift ((t : Int) - g.position).natAbs
  have hlimit : trackStep g t ≤ g.trackLimit := (trackStep_eq g t).trans_le (min_le_right _ _)
  obtain ⟨hlo, hhi, hstep⟩ := toward_between g.position t (trackStep g t)
  refine ⟨⟨_, hceil, hceil', ?_⟩, hlo, hhi, hstep.trans hlimit⟩
  rw [toward_eq, trackStep_eq, ← min_assoc, min_eq_right hle]

/-! ### The drive update (R30 to R32) -/

/-- The record that a drive update leaves, before its coil levels. -/
def State.gaugeUpdate (s : State) (x : Gauge) : Gauge :=
  match x.state with
  | .parked => x
  | .tracking => ({ x with timer := some 20 }).trackUpdate
  | .returning => ({ x with timer := some 20 }).returnUpdate
  | .sweepUp => ({ x with timer := some 20 }).sweepUpUpdate
  | .sweepDown => s.sweepDownUpdate { x with timer := some 20 }
  | .holding => { x with timer := some 20 }

theorem exec_driveUpdate {g : Fin 6} {s : State} (hp : s.powered = true) (ht : (s.gauges[g]).timer.isSome = true) :
    exec (.driveUpdate g) s = .next (s.setGauge g (s.gaugeUpdate s.gauges[g]).driven) := by
  have hexec : exec (.driveUpdate g) s = live (driveUpdate g) s := rfl
  obtain ⟨n, hn⟩ := Option.isSome_iff_exists.mp ht
  rw [hexec, live_powered _ _ hp]
  simp only [driveUpdate, hn]
  rfl

section Update
variable {s : State} {x : Gauge}

theorem gaugeUpdate_parked (hx : x.state = .parked) : s.gaugeUpdate x = x := by
  simp only [State.gaugeUpdate, hx]

theorem gaugeUpdate_holding (hx : x.state = .holding) : s.gaugeUpdate x = { x with timer := some 20 } := by
  simp only [State.gaugeUpdate, hx]

theorem gaugeUpdate_tracking_none (hx : x.state = .tracking) (ht : x.target = none) :
    s.gaugeUpdate x = { x with timer := some 20 } := by
  simp only [State.gaugeUpdate, hx, Gauge.trackUpdate, ht]

theorem gaugeUpdate_tracking_some {t : Nat} (hx : x.state = .tracking) (ht : x.target = some t) :
    s.gaugeUpdate x =
      { x with timer := some 20, position := toward x.position t (trackStep x t),
               pending := x.pending && decide (toward x.position t (trackStep x t) ≠ t) } := by
  simp only [State.gaugeUpdate, hx, Gauge.trackUpdate, ht]
  rfl

theorem gaugeUpdate_returning (hx : x.state = .returning) :
    s.gaugeUpdate x =
      if toward x.position x.setup.park x.setup.slew = x.setup.park then
        { x with position := toward x.position x.setup.park x.setup.slew, state := .parked, timer := none }
      else { x with position := toward x.position x.setup.park x.setup.slew, timer := some 20 } := by
  simp only [State.gaugeUpdate, hx, Gauge.returnUpdate]

theorem gaugeUpdate_sweepUp (hx : x.state = .sweepUp) :
    s.gaugeUpdate x =
      { x with timer := some 20, position := toward x.position 1023 32,
               state := if toward x.position 1023 32 = 1023 then .sweepDown else .sweepUp } := by
  simp only [State.gaugeUpdate, hx, Gauge.sweepUpUpdate]

/-- The three outcomes of R32 on the way down: the sweep goes on, or ends in TRACKING or in HOLDING. -/
theorem gaugeUpdate_sweepDown (hx : x.state = .sweepDown) :
    s.gaugeUpdate x =
      if toward x.position x.setup.park 32 = x.setup.park then
        if s.key.state = .run ∧ s.sourceLive x.setup.source = true then
          { x with timer := some 20, position := toward x.position x.setup.park 32, state := .tracking,
                   target := (s.sourceTarget x.setup).or x.target }
        else { x with timer := some 20, position := toward x.position x.setup.park 32, state := .holding }
      else { x with timer := some 20, position := toward x.position x.setup.park 32 } := by
  simp only [State.gaugeUpdate, hx, State.sweepDownUpdate, State.track_eq, Gauge.running, Option.getD_some,
    Bool.and_eq_true, decide_eq_true_eq]

/-- No update writes the loaded fields or the two marks of the record. -/
theorem gaugeUpdate_frame (s : State) (x : Gauge) : (s.gaugeUpdate x).written = x.written ∧
    (s.gaugeUpdate x).enabled = x.enabled ∧ (s.gaugeUpdate x).setup = x.setup := by
  cases hx : x.state with
  | parked => simp [gaugeUpdate_parked hx]
  | holding => simp [gaugeUpdate_holding hx]
  | tracking =>
    cases ht : x.target with
    | none => simp [gaugeUpdate_tracking_none hx ht]
    | some t => simp [gaugeUpdate_tracking_some hx ht]
  | returning =>
    rw [gaugeUpdate_returning hx]
    split <;> simp
  | sweepUp => simp [gaugeUpdate_sweepUp hx]
  | sweepDown =>
    rw [gaugeUpdate_sweepDown hx]
    split_ifs <;> simp

end Update

/-- Settles O10: the equation of the update in each state, with the step of R30 as the ceiling under its limit. -/
theorem driveUpdateMovesByItsState : Obligations.DriveUpdateMovesByItsState := by
  intro g s hp ht
  refine ⟨(s.gaugeUpdate s.gauges[g]).driven, exec_driveUpdate hp ht, ?_⟩
  intro x live step
  obtain ⟨hwritten, henabled, hsetup⟩ := gaugeUpdate_frame s x
  have hlive : s.sourceLive x.setup.source = true ↔ live := s.sourceLive_iff x.setup.source
  have hstep (goal n : Nat) : step goal n (toward x.position goal n) := toward_eq x.position goal n
  refine ⟨hwritten, henabled, hsetup, ?_, ?_, ?_, ?_, ?_, ?_, ?_⟩
  · rw [Gauge.driven_coils, hwritten, hsetup]
    rfl
  · intro hx
    rw [gaugeUpdate_parked hx]
    exact ⟨hx, rfl, rfl, rfl, rfl⟩
  · intro hx
    rw [gaugeUpdate_holding hx]
    exact ⟨hx, rfl, rfl, rfl, rfl⟩
  · intro hx
    cases htarget : x.target with
    | none =>
      rw [gaugeUpdate_tracking_none hx htarget]
      exact ⟨hx, rfl, htarget, fun _ => ⟨rfl, rfl⟩, nofun⟩
    | some t =>
      rw [gaugeUpdate_tracking_some hx htarget]
      refine ⟨hx, rfl, htarget, nofun, ?_⟩
      rintro _ ⟨⟩
      intro d shift limit
      obtain ⟨hmoves, hlo, hhi, hlimit⟩ := trackStep_moves x t
      exact ⟨hmoves, hlo, hhi, hlimit, rfl⟩
  · intro hx
    rw [gaugeUpdate_returning hx]
    by_cases hpark : toward x.position x.setup.park x.setup.slew = x.setup.park
    · rw [if_pos hpark]
      exact ⟨hstep _ _, rfl, rfl, (if_pos hpark).mpr ⟨rfl, rfl⟩⟩
    · rw [if_neg hpark]
      exact ⟨hstep _ _, rfl, rfl, (if_neg hpark).mpr ⟨hx, rfl⟩⟩
  · intro hx hdial
    rw [gaugeUpdate_sweepUp hx]
    exact ⟨if_pos hdial, rfl, rfl, rfl, rfl⟩
  · intro hx
    rw [gaugeUpdate_sweepDown hx]
    by_cases hpark : toward x.position x.setup.park 32 = x.setup.park
    · by_cases hends : s.key.state = .run ∧ s.sourceLive x.setup.source = true
      · rw [if_pos hpark, if_pos hends]
        refine ⟨hstep _ _, rfl, rfl, fun hoff => absurd hpark hoff, fun _ _ _ => ⟨rfl, fun v hv => ?_⟩, fun _ hn => ?_⟩
        · simp only [Gauge.driven_target, State.sourceTarget_live hends.2 hv, Option.some_or]
          rfl
        · exact absurd ⟨hends.1, hlive.mp hends.2⟩ hn
      · rw [if_pos hpark, if_neg hends]
        exact ⟨hstep _ _, rfl, rfl, fun hoff => absurd hpark hoff, fun _ hk hl => absurd ⟨hk, hlive.mpr hl⟩ hends,
          fun _ _ => ⟨rfl, rfl⟩⟩
    · rw [if_neg hpark]
      exact ⟨hstep _ _, rfl, rfl, fun _ => ⟨hx, rfl⟩, fun hat => absurd hat hpark, fun hat => absurd hat hpark⟩

/-! ### Notices (R34) -/

/-- A value sets the target; the states at rest become TRACKING with the key in RUN. -/
theorem gaugeValue_eq (s : State) (g : Gauge) (v : Int) :
    gaugeValue s g v =
      if s.key.state = .run ∧ (g.state = .holding ∨ g.state = .returning ∨ g.state = .parked) then
        ({ g with target := some (s.mapTarget g.setup v) }).running .tracking
      else { g with target := some (s.mapTarget g.setup v) } := by
  cases hx : g.state <;> simp [gaugeValue, hx]

theorem Gauge.stale_eq (g : Gauge) :
    g.stale =
      if g.state = .tracking then ({ g with target := none }).unlive
      else if g.state = .holding ∧ g.setup.stalePark = true then ({ g with target := none }).toPark
      else { g with target := none } := by
  cases hx : g.state <;> simp [Gauge.stale, hx]

/-- Settles O11: the two equations of the notices, row by row of R34. -/
theorem gaugeNoticesByTheStateTable : Obligations.GaugeNoticesByTheStateTable := by
  intro s g rest runs
  refine ⟨?_, fun _ _ => rfl, g.stale_eq⟩
  intro v limited seeded level edge sampled after
  exact ⟨gaugeValue_eq s g v, gaugeValue_eq s g (if level = true then 1 else 0)⟩

/-! ### WRITE GAUGE (R25) -/

/-- The ranges of check 3 of R25, on the bytes sent. -/
def GaugeFieldsInRange (source curve damping slew : Byte) (park : Word) (flags : Byte) (dial : Word) : Prop :=
  source.toNat ≤ 47 ∧ curve.toNat ≤ 15 ∧ damping.toNat ≤ 5 ∧ slew ≠ 0 ∧ park.toNat ≤ 1023 ∧
    90 ≤ dial.toNat ∧ dial.toNat ≤ 330 ∧ flags.toNat < 32

section WriteGauge
variable {gb source curve damping slew flags : Byte} {park dial : Word} {s : State} {g : Fin 6}

theorem gaugeFields_outside (hout : ¬ GaugeFieldsInRange source curve damping slew park flags dial) :
    gaugeFields source curve damping slew park flags dial = none := by
  unfold gaugeFields
  split
  · rename_i c k hc hk
    have hsource : source.toNat ≤ 47 := by
      by_contra hlt
      cases (fin?_none (Nat.lt_of_not_le hlt)).symm.trans hc
    have hcurve : curve.toNat ≤ 15 := by
      by_contra hlt
      cases (fin?_none (Nat.lt_of_not_le hlt)).symm.trans hk
    exact if_neg fun hrest => hout ⟨hsource, hcurve, hrest⟩
  · rfl

/-- The loaded fields are the ones sent (R191). -/
theorem gaugeFields_inside (hin : GaugeFieldsInRange source curve damping slew park flags dial) :
    ∃ f, gaugeFields source curve damping slew park flags dial = some f ∧
      f.source.val = source.toNat ∧ f.curve.val = curve.toNat ∧ f.damping = damping.toNat ∧
      f.slew = slew.toNat ∧ f.park = park.toNat ∧ f.stalePark = flags.getLsbD 0 ∧ f.sweep = flags.getLsbD 1 ∧
      f.fastSettle = flags.getLsbD 2 ∧ f.dial = dial.toNat ∧ f.sineInverted = flags.getLsbD 3 ∧
      f.cosineInverted = flags.getLsbD 4 := by
  obtain ⟨hsource, hcurve, hrest⟩ := hin
  unfold gaugeFields
  rw [fin?_some ⟨source.toNat, Nat.lt_succ_of_le hsource⟩ rfl, fin?_some ⟨curve.toNat, Nat.lt_succ_of_le hcurve⟩ rfl]
  exact ⟨_, if_pos hrest, rfl, rfl, rfl, rfl, rfl, rfl, rfl, rfl, rfl, rfl, rfl⟩

theorem reqWriteGauge_outside (hg : 6 ≤ gb.toNat) :
    reqWriteGauge gb source curve damping slew park flags dial s = refuse .badArgument s := by
  simp only [reqWriteGauge, fin?_none hg]

theorem reqWriteGauge_enabled (hg : gb.toNat = g.val) (he : (s.gauges[g]).enabled = true) :
    reqWriteGauge gb source curve damping slew park flags dial s = refuse .inUse s := by
  simp only [reqWriteGauge, fin?_some g hg, if_pos he]

theorem reqWriteGauge_disabled (hg : gb.toNat = g.val) (he : (s.gauges[g]).enabled = false) :
    reqWriteGauge gb source curve damping slew park flags dial s =
      ((gaugeFields source curve damping slew park flags dial).elim (refuse .badArgument s)
        (fun f => (s.setGauge g ((s.gauges[g]).write f), .done))) := by
  simp only [reqWriteGauge, fin?_some g hg, he]
  cases gaugeFields source curve damping slew park flags dial <;> rfl

end WriteGauge

theorem Gauge.write_eq (x : Gauge) (f : GaugeSetup) :
    x.write f =
      if x.state = .parked ∧ x.position ≠ f.park ∧ x.setup.park ≠ f.park then
        (({ x with written := true, setup := f } : Gauge).running .returning).driven
      else ({ x with written := true, setup := f } : Gauge).driven := by
  unfold Gauge.write
  split <;> rfl

/-- Settles O8: the checks of R25 in their order, and the record that an accepted write leaves. -/
theorem writeGaugeByItsChecks : Obligations.WriteGaugeByItsChecks := by
  intro h gb source curve damping slew park flags dial s ht run inRange
  have hrun : run = .next (respond h 0x20 false
      (reqWriteGauge gb source curve damping slew park flags dial s)) := exec_taken nofun rfl ht
  refine ⟨fun hg => taken_refused hrun (reqWriteGauge_outside hg), fun g hg => ⟨?_, ?_, ?_⟩⟩
  · exact fun he => taken_refused hrun (reqWriteGauge_enabled hg he)
  · exact fun he hout => taken_refused hrun (by rw [reqWriteGauge_disabled hg he, gaugeFields_outside hout]; rfl)
  · intro he hin
    obtain ⟨f, hf, hsource, hcurve, hdamping, hslew, hpark, hstale, hsweep, hsettle, hdial, hsine, hcosine⟩ :=
      gaugeFields_inside hin
    have hwrite : run = .next (answered h 0x20 .ok [] (s.setGauge g ((s.gauges[g]).write f))) :=
      taken_done hrun (by rw [reqWriteGauge_disabled hg he, hf]; rfl)
    refine ⟨f, hsource, hcurve, hdamping, hslew, hpark, hstale, hsweep, hsettle, hdial, hsine, hcosine, ?_⟩
    intro x leaves
    by_cases hl : leaves
    · rw [hwrite, Gauge.write_eq, if_pos hl, if_pos hl, if_pos hl, ← he]
      rfl
    · rw [hwrite, Gauge.write_eq, if_neg hl, if_neg hl, if_neg hl, ← he]
      rfl

/-! ### ENABLE GAUGE and DISABLE GAUGE (R26, R27) -/

section EnableGauge
variable {gb : Byte} {s : State} {g : Fin 6}

theorem reqEnableGauge_outside (hg : 6 ≤ gb.toNat) : reqEnableGauge gb s = refuse .badArgument s := by
  simp only [reqEnableGauge, fin?_none hg]

theorem reqEnableGauge_inside (hg : gb.toNat = g.val) :
    reqEnableGauge gb s =
      if (s.gauges[g]).written = false ∨ (s.curves[(s.gauges[g]).setup.curve]).state ≠ .valid then
        refuse .invalidState s
      else if (s.gauges[g]).enabled then (s, .done)
      else (s.setGauge g (s.enabledGauge s.gauges[g]), .done) := by
  simp only [reqEnableGauge, fin?_some g hg, ite_or]

theorem reqDisableGauge_outside (hg : 6 ≤ gb.toNat) : reqDisableGauge gb s = refuse .badArgument s := by
  simp only [reqDisableGauge, fin?_none hg]

theorem reqDisableGauge_inside (hg : gb.toNat = g.val) :
    reqDisableGauge gb s =
      if (s.gauges[g]).enabled then (s.setGauge g (s.gauges[g]).disable, .done) else (s, .done) := by
  simp only [reqDisableGauge, fin?_some g hg]

end EnableGauge

section EnabledGauge
variable {s : State} {x : Gauge}

/-- The record of a gauge that ENABLE GAUGE has enabled, before its state is chosen. -/
def State.withEnabled (s : State) (x : Gauge) : Gauge :=
  { x with enabled := true, target := s.sourceTarget x.setup, pending := x.setup.fastSettle }

theorem enabledGauge_run_live (hk : s.key.state = .run) (hl : s.sourceLive x.setup.source = true) :
    s.enabledGauge x = (s.withEnabled x).running .tracking := by
  simp only [State.enabledGauge, hk, if_pos hl]
  rfl

theorem enabledGauge_run_not_live (hk : s.key.state = .run) (hl : s.sourceLive x.setup.source ≠ true) :
    s.enabledGauge x = if x.setup.stalePark then (s.withEnabled x).toPark else (s.withEnabled x).running .holding := by
  simp only [State.enabledGauge, hk, if_neg hl]
  rfl

theorem enabledGauge_crank (hk : s.key.state = .crank) :
    s.enabledGauge x = (s.withEnabled x).running .holding := by
  simp only [State.enabledGauge, hk]
  rfl

theorem enabledGauge_down (hk : s.key.state = .off ∨ s.key.state = .acc) :
    s.enabledGauge x = (s.withEnabled x).toPark := by
  rcases hk with hk | hk <;> simp only [State.enabledGauge, hk] <;> rfl

end EnabledGauge

/-- Settles O9: the checks of R26 and R27 in their order, the state by the table of key, source and stale behaviour. -/
theorem enableAndDisableGaugeByTheirTables : Obligations.EnableAndDisableGaugeByTheirTables := by
  intro h gb s ht
  have henable : exec (.enableGauge h gb) s = .next (respond h 0x21 false (reqEnableGauge gb s)) :=
    exec_taken nofun rfl ht
  have hdisable : exec (.disableGauge h gb) s = .next (respond h 0x22 false (reqDisableGauge gb s)) :=
    exec_taken nofun rfl ht
  refine ⟨fun hg => ⟨taken_refused henable (reqEnableGauge_outside hg),
    taken_refused hdisable (reqDisableGauge_outside hg)⟩, ?_⟩
  intro g hg x live rest runs
  have hlive : s.sourceLive x.setup.source = true ↔ live := s.sourceLive_iff x.setup.source
  have hon := reqEnableGauge_inside (s := s) hg
  have hpass (hw : x.written = true) (hc : (s.curves[x.setup.curve]).state = .valid) :
      ¬ (x.written = false ∨ (s.curves[x.setup.curve]).state ≠ .valid) :=
    not_or.mpr ⟨ne_false_of_eq_true hw, not_not_intro hc⟩
  have hoff := reqDisableGauge_inside (s := s) hg
  refine ⟨fun hw => ?_, fun _ hc => ?_, fun hw hc he => ?_, fun hw hc he => ?_, fun he => ?_, fun he => ?_⟩
  · exact taken_refused henable (hon.trans (if_pos (.inl hw)))
  · exact taken_refused henable (hon.trans (if_pos (.inr hc)))
  · refine taken_done henable ?_
    rw [hon, if_neg (hpass hw hc), if_pos he]
  · have hchosen (y : Gauge) (hy : s.enabledGauge x = y) :
        exec (.enableGauge h gb) s = .next (answered h 0x21 .ok [] (s.setGauge g y)) := by
      refine taken_done henable ?_
      rw [hon, if_neg (hpass hw hc), if_neg (Bool.eq_false_iff.mp he), hy]
    refine ⟨s.sourceTarget x.setup, fun hl => State.sourceTarget_not_live (mt hlive.mp hl),
      fun hl v hv => State.sourceTarget_live (hlive.mpr hl) hv, ?_, ?_, ?_, ?_, ?_⟩
    · exact fun hk hl => hchosen _ (enabledGauge_run_live hk (hlive.mpr hl))
    · intro hk hl hp
      exact hchosen _ ((enabledGauge_run_not_live hk (mt hlive.mp hl)).trans (if_neg (Bool.eq_false_iff.mp hp)))
    · intro hk hl hp
      exact hchosen _ ((enabledGauge_run_not_live hk (mt hlive.mp hl)).trans (if_pos hp))
    · exact fun hk => hchosen _ (enabledGauge_crank hk)
    · exact fun hk => hchosen _ (enabledGauge_down hk)
  · exact taken_done hdisable (hoff.trans (if_neg (Bool.eq_false_iff.mp he)))
  · exact taken_done hdisable (hoff.trans (if_pos he))

end Sys2Proof.Machine
end

section
/-! PROOF. The Trip Computer's setup and figures (R41, R54 to R56): what WRITE TRIP SETUP and READ TRIP FIGURES answer in
each of their cases, the figures by their rounding, and the two statements that follow. -/

namespace Sys2Proof.Machine

/-! ### WRITE TRIP SETUP (R41) -/

/-- Every index that `fin?` finds is one of the table. -/
theorem lt_of_fin?_eq_some {n i : Nat} {k : Fin n} (h : fin? n i = some k) : i < n := by
  by_contra hlt
  cases (fin?_none (Nat.le_of_not_lt hlt)).symm.trans h

/-- The ranges of check 2 of R41, on the bytes sent. -/
def TripFieldsInRange (distance fuel speed level : Byte) (pulses units maxDelta : Word) (gapDefault : BitVec 24) : Prop :=
  distance.toNat ≤ 47 ∧ fuel.toNat ≤ 47 ∧ speed.toNat ≤ 47 ∧ level.toNat ≤ 47 ∧
    1000 ≤ pulses.toNat ∧ pulses.toNat ≤ 20000 ∧ 1000 ≤ units.toNat ∧ 1 ≤ maxDelta.toNat ∧
    30 ≤ low12 gapDefault ∧ low12 gapDefault ≤ 300 ∧ high12 gapDefault ≤ 1440

section WriteTripSetup
variable {distance fuel speed level : Byte} {pulses units maxDelta : Word} {gapDefault : BitVec 24} {s : State}

theorem tripFields_outside (hout : ¬ TripFieldsInRange distance fuel speed level pulses units maxDelta gapDefault) :
    tripFields distance fuel speed level pulses units maxDelta gapDefault = none := by
  unfold tripFields
  split
  · rename_i hd hf hv hl
    exact if_neg fun hrest => hout ⟨Nat.le_of_lt_succ (lt_of_fin?_eq_some hd), Nat.le_of_lt_succ (lt_of_fin?_eq_some hf),
      Nat.le_of_lt_succ (lt_of_fin?_eq_some hv), Nat.le_of_lt_succ (lt_of_fin?_eq_some hl), hrest⟩
  · rfl

/-- The loaded fields are the ones sent (R191). -/
theorem tripFields_inside (hin : TripFieldsInRange distance fuel speed level pulses units maxDelta gapDefault) :
    ∃ t, tripFields distance fuel speed level pulses units maxDelta gapDefault = some t ∧
      t.distance.val = distance.toNat ∧ t.fuel.val = fuel.toNat ∧ t.speed.val = speed.toNat ∧
      t.level.val = level.toNat ∧ t.pulsesPerKm = pulses.toNat ∧ t.unitsPerLitre = units.toNat ∧
      t.maxDelta = maxDelta.toNat ∧ t.defaultConsumption = low12 gapDefault ∧ t.journeyGap = high12 gapDefault := by
  obtain ⟨hd, hf, hv, hl, hrest⟩ := hin
  unfold tripFields
  rw [fin?_some ⟨distance.toNat, Nat.lt_succ_of_le hd⟩ rfl, fin?_some ⟨fuel.toNat, Nat.lt_succ_of_le hf⟩ rfl,
    fin?_some ⟨speed.toNat, Nat.lt_succ_of_le hv⟩ rfl, fin?_some ⟨level.toNat, Nat.lt_succ_of_le hl⟩ rfl]
  exact ⟨_, if_pos hrest, rfl, rfl, rfl, rfl, rfl, rfl, rfl, rfl, rfl⟩

theorem reqWriteTripSetup_run (hk : s.key.state = .run) :
    reqWriteTripSetup distance fuel speed level pulses units maxDelta gapDefault s = refuse .invalidState s := if_pos hk

theorem reqWriteTripSetup_outside (hk : s.key.state ≠ .run)
    (hout : ¬ TripFieldsInRange distance fuel speed level pulses units maxDelta gapDefault) :
    reqWriteTripSetup distance fuel speed level pulses units maxDelta gapDefault s = refuse .badArgument s := by
  simp only [reqWriteTripSetup, if_neg hk, tripFields_outside hout]

theorem reqWriteTripSetup_inside {t : TripSetup} (hk : s.key.state ≠ .run)
    (ht : tripFields distance fuel speed level pulses units maxDelta gapDefault = some t) :
    reqWriteTripSetup distance fuel speed level pulses units maxDelta gapDefault s =
      ({ s with trip := { s.trip with setup := some t, residueE := 0, residueF := 0, distanceBase := none,
                                      fuelBase := none } }, .done) := by
  simp only [reqWriteTripSetup, if_neg hk, ht]

end WriteTripSetup

/-- Settles O13: the checks of R41 in their order, and the setup that an accepted write leaves. -/
theorem writeTripSetupByItsChecks : Obligations.WriteTripSetupByItsChecks := by
  intro h distance fuel speed level pulses units maxDelta gapDefault s ht run gap default inRange
  have hrun : run = .next (respond h 0x30 false
      (reqWriteTripSetup distance fuel speed level pulses units maxDelta gapDefault s)) := exec_taken nofun rfl ht
  refine ⟨fun hk => ?_, fun hk hout => ?_, fun hk hin => ?_⟩
  · exact taken_refused hrun (reqWriteTripSetup_run hk)
  · exact taken_refused hrun (reqWriteTripSetup_outside hk hout)
  · obtain ⟨t, hfields, hd, hf, hv, hl, hpulses, hunits, hdelta, hdefault, hgap⟩ := tripFields_inside hin
    exact ⟨t, hd, hf, hv, hl, hpulses, hunits, hdelta, hdefault, hgap,
      taken_done hrun (reqWriteTripSetup_inside hk hfields)⟩

/-! ### Rounding half up (section 3.5) -/

/-- The quotient `q` is `n / d` rounded half up. -/
def HalfUp (n d q : Nat) : Prop := 2 * q * d ≤ 2 * n + d ∧ 2 * n + d < 2 * q * d + 2 * d

theorem roundHalfUp_halfUp (n : Nat) {d : Nat} (hd : 0 < d) : HalfUp n d (roundHalfUp n d) := by
  have hmod := Nat.div_add_mod (2 * n + d) (2 * d)
  have hlt := Nat.mod_lt (2 * n + d) (Nat.mul_pos Nat.two_pos hd)
  have hq : 2 * roundHalfUp n d * d = 2 * d * ((2 * n + d) / (2 * d)) := Nat.mul_right_comm ..
  unfold HalfUp
  omega

/-! ### Average speed and average consumption (R54) -/

section Averages
variable {x : TripRecord}

theorem averageSpeed_none (hx : x.moving.value < 10) : averageSpeed x = none := if_pos hx

theorem averageSpeed_some (hx : 10 ≤ x.moving.value) :
    averageSpeed x = some (roundHalfUp (x.distance.value * 36) x.moving.value) := if_neg (Nat.not_lt.mpr hx)

theorem averageConsumption_none (hx : x.distance.value < 1000) : averageConsumption x = none := if_pos hx

theorem averageConsumption_some (hx : 1000 ≤ x.distance.value) :
    averageConsumption x = some (min 999 (roundHalfUp (x.fuel.value * 1000) x.distance.value)) :=
  if_neg (Nat.not_lt.mpr hx)

end Averages

/-! ### Range (R55) -/

section Range
variable {s : State} {t : TripSetup} {c : Fin 48}

theorem State.freshValue_none (h : (s.channels[c]).state ≠ .fresh ∨ (s.channels[c]).value = none) :
    s.freshValue c = none := by
  unfold State.freshValue
  split
  · exact h.resolve_left (not_not_intro ‹_›)
  · rfl

theorem State.freshValue_some {v : Int} (hs : (s.channels[c]).state = .fresh) (hv : (s.channels[c]).value = some v) :
    s.freshValue c = some v := (if_pos hs).trans hv

theorem State.range_unset (hs : s.trip.setup = none) : s.range = none := by
  simp only [State.range, hs]

theorem State.range_set (hs : s.trip.setup = some t) : s.range =
    (s.freshValue t.level).map fun level => rangeFor level (rangeConsumption t s.trip.records[2]) := by
  simp only [State.range, hs]

/-- JOURNEY's own consumption from 10,000 m on, and the default below. -/
theorem rangeConsumption_cases (t : TripSetup) (x : TripRecord) :
    if 10000 ≤ x.distance.value then averageConsumption x = some (rangeConsumption t x)
    else rangeConsumption t x = t.defaultConsumption := by
  unfold rangeConsumption
  split
  · rw [averageConsumption_some (by omega), Option.getD_some]
  · rfl

theorem rangeFor_empty {level : Int} (hl : level ≤ 0) (c : Nat) : rangeFor level c = 0 := if_pos hl

theorem rangeFor_free {level : Int} (hl : 0 < level) : rangeFor level 0 = 1999 := if_neg (Int.not_le.mpr hl)

theorem rangeFor_some {level : Int} (hl : 0 < level) {c : Nat} (hc : 0 < c) :
    rangeFor level c = min 1999 (roundHalfUp (level.toNat * 100) c) := by
  rw [rangeFor, if_neg (Int.not_le.mpr hl), if_neg hc.ne']

end Range

/-! ### READ TRIP FIGURES (R56) -/

theorem encMarked_length {α : Type} {width : Nat} {enc : α → List Byte} (henc : ∀ a, (enc a).length = width)
    (o : Option α) : (encMarked width enc o).length = width + 1 := by
  cases o <;> simp [encMarked, henc]

/-- The figures take two parts of a paged read: 15 bytes. -/
theorem figuresContent_length (s : State) (r : Fin 4) : (s.figuresContent r).length = 15 := by
  have h4 (n : Nat) : (enc4 n).length = 4 := rfl
  have h2 (n : Nat) : (enc2 n).length = 2 := rfl
  simp only [State.figuresContent, List.length_append, encMarked_length h4, encMarked_length h2, encBool,
    List.length_singleton]

section ReadFigures
variable {rb : Byte} {part : Option Byte} {s : State} {r : Fin 4}

theorem reqReadTripFigures_outside (hr : 4 ≤ rb.toNat) : reqReadTripFigures rb part s = refuse .badArgument s := by
  rw [reqReadTripFigures, fin?_none hr]
  rfl

theorem reqReadTripFigures_above (hr : rb.toNat = r.val) (hp : 1 < (part.getD 0).toNat) :
    reqReadTripFigures rb part s = refuse .badArgument s := by
  rw [reqReadTripFigures, fin?_some r hr, pagedAt_some, pageOf_above (by rw [figuresContent_length]; exact hp)]
  rfl

theorem reqReadTripFigures_within (hr : rb.toNat = r.val) (hp : (part.getD 0).toNat ≤ 1) :
    reqReadTripFigures rb part s = (s, .now .ok (BitVec.ofNat 8 (16 * (part.getD 0).toNat + 1) ::
      ((s.figuresContent r).drop (11 * (part.getD 0).toNat)).take 11)) := by
  rw [reqReadTripFigures, fin?_some r hr, pagedAt_some, pageOf_within (by rw [figuresContent_length]; exact hp),
    figuresContent_length]

end ReadFigures

/-- Settles O17: each figure by its case and its rounded quotient, and the answer part by part. -/
theorem derivedFiguresRoundHalfUp : Obligations.DerivedFiguresRoundHalfUp := by
  refine ⟨fun x => ⟨averageSpeed_none, fun hx => ?_, averageConsumption_none, fun hx => ?_⟩,
    fun s => ⟨State.range_unset, fun t ht => ⟨fun hl => ?_, fun level hs hv => ?_⟩⟩,
    fun h rb part s ht => ?_⟩
  · exact ⟨_, averageSpeed_some hx, roundHalfUp_halfUp _ (by omega)⟩
  · exact ⟨_, averageConsumption_some hx, roundHalfUp_halfUp _ (by omega)⟩
  · rw [State.range_set ht, State.freshValue_none hl, Option.map_none]
  · have hrange : s.range = some (rangeFor level (rangeConsumption t s.trip.records[2])) := by
      rw [State.range_set ht, State.freshValue_some hs hv, Option.map_some]
    refine ⟨rangeConsumption t s.trip.records[2], rangeConsumption_cases t _, fun hl => ?_, fun hl hc => ?_,
      fun hl hc => ?_⟩
    · rw [hrange, rangeFor_empty hl]
    · rw [hrange, hc, rangeFor_free hl]
    · exact ⟨_, hrange.trans (congrArg some (rangeFor_some hl hc)), roundHalfUp_halfUp _ hc⟩
  · have hrun : exec (.readTripFigures h rb part) s = .next (respond h 0x32 false (reqReadTripFigures rb part s)) :=
      exec_taken nofun rfl ht
    refine ⟨fun hr => taken_refused hrun (reqReadTripFigures_outside hr),
      fun r hr => ⟨fun hp => taken_refused hrun (reqReadTripFigures_above hr hp), fun hp => ?_⟩⟩
    rw [hrun, reqReadTripFigures_within hr hp, respond_now]
    rfl

end Sys2Proof.Machine
end

section
/-! PROOF. Additions to the trip records (R49 to R51): the saturation rule, what an addition changes, a list of additions
field by field, and the seconds event. -/

namespace Sys2Proof.Machine

/-! ### The saturation rule (R49) -/

section Saturation
variable {limit n : Nat} {c : Counter}

theorem Counter.add_full (hc : c.overflow = true) : c.add limit n = (c, false) := if_pos hc

theorem Counter.add_within (hc : c.overflow = false) (hn : c.value + n ≤ limit) :
    c.add limit n = ({ value := c.value + n, overflow := false }, false) := by
  simp only [Counter.add, hc, if_pos hn, Bool.false_eq_true, if_false]

theorem Counter.add_past (hc : c.overflow = false) (hn : limit < c.value + n) :
    c.add limit n = ({ value := limit, overflow := true }, true) := by
  simp only [Counter.add, hc, if_neg (Nat.not_le.mpr hn), Bool.false_eq_true, if_false]

theorem Counter.add_eq (limit : Nat) (c : Counter) (n : Nat) : (c.add limit n).1 =
    if c.overflow = true then c else if c.value + n ≤ limit then { c with value := c.value + n }
    else { value := limit, overflow := true } := by
  unfold Counter.add
  split_ifs <;> rfl

theorem Counter.add_le_limit (hc : c.value ≤ limit) : (c.add limit n).1.value ≤ limit := by
  rw [Counter.add_eq]
  split_ifs
  · exact hc
  · assumption
  · exact le_rfl

end Saturation

/-! ### The fields of a record -/

theorem TripRecord.put_get (x : TripRecord) (f : TripField) : x.put f (x.get f) = x := by cases f <;> rfl

theorem TripRecord.get_put (x : TripRecord) (f g : TripField) (c : Counter) :
    (x.put f c).get g = if f = g then c else x.get g := by cases f <;> cases g <;> rfl

theorem TripRecord.ext_get {x y : TripRecord} (h : ∀ f, x.get f = y.get f) : x = y := by
  obtain ⟨_, _, _, _⟩ := x
  obtain ⟨_, _, _, _⟩ := y
  cases h .distance
  cases h .fuel
  cases h .elapsed
  cases h .moving
  rfl

theorem State.setRecord_self (s : State) (r : Fin 4) : s.setRecord r s.trip.records[r] = s := by
  simp only [State.setRecord, Fin.getElem_fin, Vector.set_getElem_self]

/-! ### One addition (R49) -/

/-- What additions to the trip records leave as it was: all but the records and, by OVERFLOW events, the event list and
the insert queue. -/
def RecordFrame (s t : State) : Prop :=
  t = { s with trip := { s.trip with records := t.trip.records }, handler := t.handler, loop := t.loop }

theorem RecordFrame.refl (s : State) : RecordFrame s s := rfl

theorem RecordFrame.trans {s t u : State} (h : RecordFrame s t) (k : RecordFrame t u) : RecordFrame s u := by
  unfold RecordFrame at *
  refine k.trans ?_
  rw [h]

theorem addField_unreported {r : Fin 4} {f : TripField} {n : Nat} {s : State} {c : Counter}
    (h : ((s.trip.records[r]).get f).add f.limit n = (c, false)) :
    addField r f n s = s.setRecord r ((s.trip.records[r]).put f c) := by
  simp only [addField, h, Bool.false_eq_true, if_false]

theorem addField_reported {r : Fin 4} {f : TripField} {n : Nat} {s : State} {c : Counter}
    (h : ((s.trip.records[r]).get f).add f.limit n = (c, true)) :
    addField r f n s = report (.overflow r f) (s.setRecord r ((s.trip.records[r]).put f c)) := by
  simp only [addField, h, if_true]

theorem addField_recordFrame (r : Fin 4) (f : TripField) (n : Nat) (s : State) : RecordFrame s (addField r f n s) := by
  rcases h : ((s.trip.records[r]).get f).add f.limit n with ⟨c, _ | _⟩
  · rw [addField_unreported h]
    rfl
  · rw [addField_reported h, RecordFrame, report_eq]
    rfl

theorem addField_trip (r : Fin 4) (f : TripField) (n : Nat) (s : State) : (addField r f n s).trip =
    (s.setRecord r ((s.trip.records[r]).put f (((s.trip.records[r]).get f).add f.limit n).1)).trip := by
  rcases h : ((s.trip.records[r]).get f).add f.limit n with ⟨c, _ | _⟩
  · rw [addField_unreported h]
  · rw [addField_reported h, report_trip]

/-- The field added to takes the sum by the saturation rule, and every other keeps its value. -/
theorem addField_get (r q : Fin 4) (f g : TripField) (n : Nat) (s : State) :
    ((addField r f n s).trip.records[q]).get g =
      if (q, g) = (r, f) then (((s.trip.records[q]).get g).add g.limit n).1 else (s.trip.records[q]).get g := by
  rw [addField_trip, State.setRecord_get]
  by_cases hr : r = q
  · subst hr
    rw [if_pos rfl, TripRecord.get_put]
    by_cases hf : f = g
    · subst hf
      rw [if_pos rfl, if_pos rfl]
    · rw [if_neg hf, if_neg fun h => hf (Prod.ext_iff.mp h).2.symm]
  · rw [if_neg hr, if_neg fun h => hr (Prod.ext_iff.mp h).1.symm]

/-! ### Several additions in one event -/

/-- `n` is added to each field of a list, one addition after another. -/
def addEach (n : Nat) (gains : List (Fin 4 × TripField)) (s : State) : State :=
  gains.foldl (fun v g => addField g.1 g.2 n v) s

theorem addEach_recordFrame (n : Nat) (gains : List (Fin 4 × TripField)) (s : State) :
    RecordFrame s (addEach n gains s) := by
  induction gains generalizing s with
  | nil => exact .refl s
  | cons g gains ih => exact (addField_recordFrame g.1 g.2 n s).trans (ih _)

/-- Each field that is listed takes its sum once, and every other keeps its value: the order does not matter. -/
theorem addEach_get {n : Nat} {gains : List (Fin 4 × TripField)} (h : gains.Nodup) (s : State) (r : Fin 4)
    (f : TripField) : ((addEach n gains s).trip.records[r]).get f =
      if (r, f) ∈ gains then (((s.trip.records[r]).get f).add f.limit n).1 else (s.trip.records[r]).get f := by
  induction gains generalizing s with
  | nil => rfl
  | cons g gains ih =>
    obtain ⟨hg, hgains⟩ := List.nodup_cons.mp h
    have htail : addEach n (g :: gains) s = addEach n gains (addField g.1 g.2 n s) := rfl
    rw [htail, ih hgains, addField_get]
    by_cases hrf : (r, f) = g
    · subst hrf
      simp [hg]
    · simp [hrf]

/-! ### The seconds event (R51) -/

/-- The times of a seconds event, records in increasing number, elapsed before moving. -/
def timeFields : List (Fin 4 × TripField) := (List.finRange 4).product [.elapsed, .moving]

theorem timeFields_nodup : timeFields.Nodup := by decide

theorem mem_timeFields (r : Fin 4) (f : TripField) : (r, f) ∈ timeFields ↔ f = .elapsed ∨ f = .moving := by
  simp [timeFields, List.pair_mem_product]

/-- The time `g` gains at a seconds event. -/
def State.gainsTime (s : State) (g : Fin 4 × TripField) : Bool :=
  if g.2 = .elapsed then s.gainsElapsed g.1 else s.gainsMoving g.1

/-- The times that gain at a seconds event, in the order of the model's additions (log entry 10). -/
def State.timeGains (s : State) : List (Fin 4 × TripField) := timeFields.filter s.gainsTime

theorem State.timeGains_nodup (s : State) : s.timeGains.Nodup := timeFields_nodup.filter _

theorem State.mem_timeGains (s : State) (r : Fin 4) (f : TripField) : (r, f) ∈ s.timeGains ↔
    (f = .elapsed ∧ s.gainsElapsed r = true) ∨ (f = .moving ∧ s.gainsMoving r = true) := by
  rw [State.timeGains, List.mem_filter, mem_timeFields]
  cases f <;> simp [State.gainsTime]

theorem tripSeconds_unset {s : State} (hs : s.trip.setup = none) : tripSeconds s = s := by
  simp only [tripSeconds, hs]

theorem tripSeconds_set {s : State} {t : TripSetup} (hs : s.trip.setup = some t) :
    tripSeconds s = addEach 1 s.timeGains s := by
  simp only [tripSeconds, hs, addEach, State.timeGains, List.foldl_filter, timeFields, List.product, List.foldl_flatMap,
    List.foldl_map, List.foldl_cons, List.foldl_nil, State.gainsTime]
  rfl

section Gains
variable {s : State} {t : TripSetup} {r : Fin 4}

theorem State.freshValue_eq_some {c : Fin 48} {v : Int} : s.freshValue c = some v ↔
    (s.channels[c]).state = .fresh ∧ (s.channels[c]).value = some v := Option.ite_none_right_eq_some

theorem State.driving_iff (s : State) : s.driving = true ↔ s.key.state = .run ∨ s.key.state = .crank := by
  simp [State.driving]

theorem State.awaitsRecovery_recovered (hc : s.store.ctl ≠ .scanning) (r : Fin 4) : s.awaitsRecovery r = false := by
  simp [State.awaitsRecovery, hc]

theorem State.moving_iff (hs : s.trip.setup = some t) : s.moving = true ↔
    (s.channels[t.speed]).state = .fresh ∧ ∃ v, (s.channels[t.speed]).value = some v ∧ 30 ≤ v := by
  have hmoving : s.moving = true ↔ ∃ v, s.freshValue t.speed = some v ∧ 30 ≤ v := by
    simp only [State.moving, State.roadSpeed, hs]
    cases s.freshValue t.speed <;> simp
  simp only [hmoving, State.freshValue_eq_some, and_assoc, exists_and_left]

theorem State.gainsElapsed_iff (hc : s.store.ctl ≠ .scanning) : s.gainsElapsed r = true ↔
    (r ≠ 3 ∧ (s.key.state = .run ∨ s.key.state = .crank)) ∨ (r = 3 ∧ s.trip.rear = .running) := by
  rw [← s.driving_iff]
  by_cases hr : r = 3 <;> simp [State.gainsElapsed, awaitsRecovery_recovered hc, hr]

theorem State.gainsMoving_iff (hc : s.store.ctl ≠ .scanning) : s.gainsMoving r = true ↔
    s.moving = true ∧ ((r ≠ 3 ∧ (s.key.state = .run ∨ s.key.state = .crank)) ∨
      (r = 3 ∧ s.trip.rear = .running ∧ s.key.state = .run)) := by
  rw [← s.driving_iff]
  by_cases hr : r = 3 <;> simp [State.gainsMoving, awaitsRecovery_recovered hc, hr]

end Gains

/-- Settles O16: the three cases of an addition, and the seconds event as one addition to each time that gains. -/
theorem tripFieldsSaturateOnce : Obligations.TripFieldsSaturateOnce := by
  refine ⟨fun r f n s => ?_, fun s hs => tripSeconds_unset hs, fun s t hs hc => ?_⟩
  · intro limit x c put
    have hlimit : limit = f.limit := by cases f <;> rfl
    rw [hlimit]
    refine ⟨fun hfull => ?_, fun hclear hn => ?_, fun hclear hn => ?_, fun hle => ?_⟩
    · rw [addField_unreported (Counter.add_full hfull), TripRecord.put_get, State.setRecord_self]
    · exact addField_unreported (Counter.add_within hclear hn)
    · exact addField_reported (Counter.add_past hclear hn)
    · rw [addField_get, if_pos rfl]
      exact Counter.add_le_limit hle
  · intro u driving moving elapses moves
    have hu : u = addEach 1 s.timeGains s := tripSeconds_set hs
    have helapses (r : Fin 4) : s.gainsElapsed r = true ↔ elapses r := State.gainsElapsed_iff hc
    have hmoves (r : Fin 4) : s.gainsMoving r = true ↔ moves r :=
      (State.gainsMoving_iff hc).trans (and_congr_left' (State.moving_iff hs))
    have hmem (r : Fin 4) (f : TripField) : (r, f) ∈ s.timeGains ↔
        (f = .elapsed ∧ elapses r) ∨ (f = .moving ∧ moves r) := by
      rw [s.mem_timeGains, helapses, hmoves]
    refine ⟨⟨s.timeGains, s.timeGains_nodup, hmem, hu⟩, ?_, fun r => ?_⟩
    · rw [hu]
      exact addEach_recordFrame 1 s.timeGains s
    · intro x y bump
      have hbump (c : Counter) : (c.add 359999 1).1 = bump c := Counter.add_eq 359999 c 1
      have hget (f : TripField) : y.get f = if (r, f) ∈ s.timeGains then ((x.get f).add f.limit 1).1 else x.get f := by
        rw [← addEach_get s.timeGains_nodup, ← hu]
      have hgains {f : TripField} (h : (r, f) ∈ s.timeGains) : y.get f = ((x.get f).add f.limit 1).1 :=
        (hget f).trans (if_pos h)
      have hstays {f : TripField} (h : (r, f) ∉ s.timeGains) : y.get f = x.get f := (hget f).trans (if_neg h)
      refine ⟨hstays (f := .distance) ?_, hstays (f := .fuel) ?_, fun h => ?_, fun h => hstays (f := .elapsed) ?_,
        fun h => ?_, fun h => hstays (f := .moving) ?_⟩
      · simp [hmem]
      · simp [hmem]
      · exact (hgains ((hmem r .elapsed).mpr (.inl ⟨rfl, h⟩))).trans (hbump x.elapsed)
      · simp [hmem, h]
      · exact (hgains ((hmem r .moving).mpr (.inr ⟨rfl, h⟩))).trans (hbump x.moving)
      · simp [hmem, h]

end Sys2Proof.Machine
end

section
/-! PROOF. The rolling counters (R43 to R48): a count against its base, whole units for the records and the Odometer, and
the notice of the shown value (R79, R99). -/

namespace Sys2Proof.Machine

/-! ### What an evaluation reads (R96 to R99) -/

/-- Two states of the part in which the Odometer and the Service Reminder stand alike and see the same store, key and
clock. -/
structure SameReading (s t : State) : Prop where
  odometer : t.odometer = s.odometer
  service : t.service = s.service
  store : t.store = s.store
  key : t.key = s.key

theorem SameReading.refl (s : State) : SameReading s s := ⟨rfl, rfl, rfl, rfl⟩

theorem SameReading.symm {s t : State} (h : SameReading s t) : SameReading t s :=
  ⟨h.odometer.symm, h.service.symm, h.store.symm, h.key.symm⟩

theorem SameReading.trans {s t u : State} (h : SameReading s t) (k : SameReading t u) : SameReading s u :=
  ⟨k.odometer.trans h.odometer, k.service.trans h.service, k.store.trans h.store, k.key.trans h.key⟩

/-- Operations that change no reading can be put behind each of two states that read alike. -/
theorem SameReading.map {s t s' t' : State} (h : SameReading s t) (hs : SameReading s s') (ht : SameReading t t') :
    SameReading s' t' := (hs.symm.trans h).trans ht

/-- A choice by conditions that agree. -/
theorem SameReading.ite {P Q : Prop} [Decidable P] [Decidable Q] {s t s' t' : State} (hPQ : P ↔ Q)
    (hpos : SameReading s t) (hneg : SameReading s' t') : SameReading (if P then s else s') (if Q then t else t') := by
  by_cases hP : P
  · rwa [if_pos hP, if_pos (hPQ.mp hP)]
  · rwa [if_neg hP, if_neg (mt hPQ.mpr hP)]

section Updates
variable {s t : State} (h : SameReading s t)
include h

theorem SameReading.withOdometer (o : Odometer) : SameReading { s with odometer := o } { t with odometer := o } :=
  ⟨rfl, h.service, h.store, h.key⟩

theorem SameReading.withService (x : Service) : SameReading { s with service := x } { t with service := x } :=
  ⟨h.odometer, rfl, h.store, h.key⟩

theorem SameReading.shown : t.shown = s.shown := by
  simp only [State.shown, h.odometer]

theorem SameReading.sector (k : Fin 8) : t.sector k = s.sector k := by
  simp only [State.sector, h.store]

end Updates

theorem sameReading_trip (x : Trip) (s : State) : SameReading s { s with trip := x } := ⟨rfl, rfl, rfl, rfl⟩

theorem sameReading_display (d : Display) (s : State) : SameReading s { s with display := d } := ⟨rfl, rfl, rfl, rfl⟩

theorem sameReading_warnings (x : Warnings) (s : State) : SameReading s { s with warnings := x } := ⟨rfl, rfl, rfl, rfl⟩

theorem RecordFrame.sameReading {s t : State} (h : RecordFrame s t) : SameReading s t := by
  unfold RecordFrame at h
  rw [h]
  exact ⟨rfl, rfl, rfl, rfl⟩

theorem WarnFrame.sameReading {s t : State} (h : WarnFrame s t) : SameReading s t := by
  rw [h.rest]
  exact ⟨rfl, rfl, rfl, rfl⟩

theorem WarnFrame.trip {s t : State} (h : WarnFrame s t) : t.trip = s.trip := by rw [h.rest]

/-! ### The notices of a stage and of the fault (R82, R99) -/

theorem stageNotice_sameReading (s : State) : SameReading s (stageNotice s) :=
  (sameReading_display _ s).trans (rebuild_frame _).sameReading

theorem stageNotice_trip (s : State) : (stageNotice s).trip = s.trip := rfl

theorem noteStage_sameReading (i : Fin 8) (old new : Stage) (s : State) : SameReading s (noteStage i old new s) := by
  unfold noteStage
  split
  · exact .refl s
  · exact ((report_frame _ s).trans (warnStage_frame i _)).sameReading.trans (stageNotice_sameReading _)

theorem noteStage_trip (i : Fin 8) (old new : Stage) (s : State) : (noteStage i old new s).trip = s.trip := by
  unfold noteStage
  split
  · rfl
  · rw [stageNotice_trip, (warnStage_frame i _).trip, report_trip]

theorem setOdoFault_sameReading (b : Bool) (s : State) :
    SameReading { s with odometer := { s.odometer with fault := b } } (setOdoFault b s) := by
  unfold setOdoFault
  split
  · rename_i h
    subst h
    exact .refl s
  · exact (report_frame _ _).sameReading.trans
      ((sameReading_warnings _ _).trans (setSys_frame .odometerFault b _).sameReading)

theorem setOdoFault_trip (b : Bool) (s : State) : (setOdoFault b s).trip = s.trip := by
  unfold setOdoFault
  split
  · rfl
  · rw [(setSys_frame .odometerFault b _).trip, report_trip]

/-! ### Evaluation (R99) -/

section Evaluation
variable {s t : State}

theorem SameReading.evaluateItem (h : SameReading s t) (i : Fin 8) :
    SameReading (evaluateItem i s) (evaluateItem i t) := by
  simp only [Machine.evaluateItem, State.setItem, h.service, h.shown, h.key]
  refine SameReading.ite Iff.rfl (SameReading.map ?_ (noteStage_sameReading i _ _ _) (noteStage_sameReading i _ _ _)) h
  exact ⟨h.odometer, rfl, h.store, rfl⟩

theorem SameReading.evaluateAll (h : SameReading s t) : SameReading (evaluateAll s) (evaluateAll t) := by
  unfold Machine.evaluateAll
  generalize List.finRange 8 = items
  induction items generalizing s t with
  | nil => exact h
  | cons i items ih => exact ih (h.evaluateItem i)

theorem SameReading.shownNotice (h : SameReading s t) : SameReading (shownNotice s) (shownNotice t) := by
  simp only [Machine.shownNotice, h.service, h.shown]
  exact SameReading.ite Iff.rfl h (h.withService _).evaluateAll

end Evaluation

theorem evaluateItem_trip (i : Fin 8) (s : State) : (evaluateItem i s).trip = s.trip := by
  unfold evaluateItem
  simp only
  split
  · rw [noteStage_trip, State.setItem_trip]
  · rfl

theorem evaluateAll_trip (s : State) : (evaluateAll s).trip = s.trip := by
  unfold evaluateAll
  generalize List.finRange 8 = items
  induction items generalizing s with
  | nil => rfl
  | cons i items ih => exact (ih _).trans (evaluateItem_trip i s)

theorem shownNotice_trip (s : State) : (shownNotice s).trip = s.trip := by
  unfold shownNotice
  simp only
  split
  · rfl
  · rw [evaluateAll_trip]

/-! ### Metres at the Odometer (R79, R82) -/

theorem SameReading.checkOdoFault {s t : State} (h : SameReading s t) :
    SameReading (checkOdoFault s) (checkOdoFault t) := by
  simp only [Machine.checkOdoFault, State.fieldDone, State.spareReady, State.spare, State.usable, h.sector, h.odometer]
  refine SameReading.ite Iff.rfl (SameReading.map ?_ (setOdoFault_sameReading true s) (setOdoFault_sameReading true t)) h
  rw [h.odometer]
  exact h.withOdometer _

/-- What metres do to the Odometer and the Service Reminder depends on these, the store, the key and the clock only. -/
theorem SameReading.addMetres {s t : State} (h : SameReading s t) (metres : Nat) :
    SameReading (addMetres metres s) (addMetres metres t) := by
  simp only [Machine.addMetres, h.shown, h.odometer]
  split
  · exact h
  · exact SameReading.ite Iff.rfl (h.withOdometer _).shownNotice.checkOdoFault h

theorem checkOdoFault_trip (s : State) : (checkOdoFault s).trip = s.trip := by
  unfold checkOdoFault
  split
  · exact setOdoFault_trip true s
  · rfl

theorem addMetres_trip (metres : Nat) (s : State) : (addMetres metres s).trip = s.trip := by
  unfold addMetres
  split
  · rfl
  · split
    · rw [checkOdoFault_trip, shownNotice_trip]
    · rfl

/-! ### Whole units at the records (R48, R50) -/

/-- The records that accumulate, each with the field that a quantity is added to. -/
def State.quantityGains (s : State) (f : TripField) : List (Fin 4 × TripField) :=
  ((List.finRange 4).filter s.accumulates).map (·, f)

theorem State.quantityGains_nodup (s : State) (f : TripField) : (s.quantityGains f).Nodup :=
  ((List.nodup_finRange 4).filter _).map fun _ _ h => (Prod.ext_iff.mp h).1

theorem State.mem_quantityGains (s : State) (f g : TripField) (r : Fin 4) :
    (r, g) ∈ s.quantityGains f ↔ s.accumulates r = true ∧ f = g := by
  simp [State.quantityGains]

theorem addToRecords_eq (f : TripField) (n : Nat) (s : State) :
    addToRecords f n s = addEach n (s.quantityGains f) s := by
  simp only [addToRecords, addEach, State.quantityGains, List.foldl_map, List.foldl_filter]

theorem addToRecords_recordFrame (f : TripField) (n : Nat) (s : State) : RecordFrame s (addToRecords f n s) := by
  rw [addToRecords_eq]
  exact addEach_recordFrame ..

/-- Each record that accumulates takes the quantity by the saturation rule. -/
theorem addToRecords_get (f : TripField) (n : Nat) (s : State) (r : Fin 4) :
    (addToRecords f n s).trip.records[r] =
      if s.accumulates r = true then
        (s.trip.records[r]).put f (((s.trip.records[r]).get f).add f.limit n).1
      else s.trip.records[r] := by
  refine TripRecord.ext_get fun g => ?_
  simp only [addToRecords_eq, addEach_get (s.quantityGains_nodup f), s.mem_quantityGains]
  by_cases hr : s.accumulates r = true
  · by_cases hf : f = g
    · subst hf
      simp [hr, TripRecord.get_put]
    · simp [hr, hf, TripRecord.get_put]
  · simp [hr]

theorem State.accumulates_iff {s : State} (hc : s.store.ctl ≠ .scanning)
    (hd : s.driving = true) (r : Fin 4) : s.accumulates r = true ↔
    r.val < 3 ∨ (s.trip.rear = .running ∧ s.key.state = .run) := by
  have hr : r = 3 ∨ r ≠ 3 ∧ r.val < 3 := by omega
  rcases hr with rfl | ⟨hr, hlt⟩
  · simp [State.accumulates, awaitsRecovery_recovered hc]
  · simp [State.accumulates, awaitsRecovery_recovered hc, hr, hd, hlt]

/-- Whole units go to the records, and nothing when there are none (R46 to R48). -/
def addUnits (f : TripField) (n : Nat) (s : State) : State := if n = 0 then s else addToRecords f n s

theorem addUnits_recordFrame (f : TripField) (n : Nat) (s : State) : RecordFrame s (addUnits f n s) := by
  unfold addUnits
  split
  · exact .refl s
  · exact addToRecords_recordFrame f n s

theorem addUnits_zero (f : TripField) (s : State) : addUnits f 0 s = s := if_pos rfl

theorem addUnits_pos (f : TripField) {n : Nat} (hn : 0 < n) (s : State) : addUnits f n s = addToRecords f n s :=
  if_neg hn.ne'

/-- Whole metres go to the Odometer too (R46, R48). -/
theorem applyDistance_eq (k delta : Nat) (s : State) : applyDistance k delta s =
    let metres := (s.trip.residueE + delta * 1000) / k
    let t := addUnits .distance metres { s with trip := { s.trip with residueE := (s.trip.residueE + delta * 1000) % k } }
    if metres = 0 then t else addMetres metres t := by
  by_cases hnone : (s.trip.residueE + delta * 1000) / k = 0
  · simp only [applyDistance, divideResidue, addUnits, hnone, if_true]
  · simp only [applyDistance, divideResidue, addUnits, hnone, if_false]

/-! ### Counts (R43 to R47) -/

/-- The residue that belongs to a rolling channel: E or F (R46, R47). -/
def Trip.residue (x : Trip) (fuel : Bool) : Nat := if fuel = true then x.residueF else x.residueE

/-- The divisor that belongs to a rolling channel: K or U (R46, R47). -/
def TripSetup.per (t : TripSetup) (fuel : Bool) : Nat := if fuel = true then t.unitsPerLitre else t.pulsesPerKm

/-- The field of a record that a rolling channel adds to (R48). -/
def quantityField (fuel : Bool) : TripField := if fuel = true then .fuel else .distance

/-- The Trip Computer with a count as the base and a residue left by its division. -/
def Trip.counted (x : Trip) (fuel : Bool) (count rest : Nat) : Trip :=
  { x with residueE := if fuel = true then x.residueE else rest,
           residueF := if fuel = true then rest else x.residueF,
           distanceBase := (x.setBase fuel (some count)).distanceBase,
           fuelBase := (x.setBase fuel (some count)).fuelBase }

/-- What an applied delta leaves: the whole units at the records, and where they are metres at the Odometer too. -/
def State.applied (s : State) (fuel : Bool) (count rest units : Nat) : State :=
  let w := addUnits (quantityField fuel) units { s with trip := s.trip.counted fuel count rest }
  if fuel = true ∨ units = 0 then w else addMetres units w

section Applied
variable (s : State) (fuel : Bool) (count rest units : Nat)

/-- Of the Trip Computer the base, the residue and the records change (R48). -/
theorem State.applied_trip : (s.applied fuel count rest units).trip =
    { s.trip.counted fuel count rest with records :=
        (addUnits (quantityField fuel) units { s with trip := s.trip.counted fuel count rest }).trip.records } := by
  have hframe := addUnits_recordFrame (quantityField fuel) units { s with trip := s.trip.counted fuel count rest }
  have hunits : (s.applied fuel count rest units).trip =
      (addUnits (quantityField fuel) units { s with trip := s.trip.counted fuel count rest }).trip := by
    unfold State.applied
    split
    · rfl
    · rw [addMetres_trip]
  exact hunits.trans (congrArg State.trip hframe)

theorem addUnits_counted_sameReading :
    SameReading s (addUnits (quantityField fuel) units { s with trip := s.trip.counted fuel count rest }) :=
  (sameReading_trip _ s).trans (addUnits_recordFrame ..).sameReading

variable {s fuel count rest units}

theorem State.applied_records_none (hzero : units = 0) :
    (s.applied fuel count rest units).trip.records = s.trip.records := by
  rw [State.applied_trip, hzero, addUnits_zero]
  rfl

theorem State.applied_records (hpos : 0 < units) (r : Fin 4) : (s.applied fuel count rest units).trip.records[r] =
    if s.accumulates r = true then (s.trip.records[r]).put (quantityField fuel)
      (((s.trip.records[r]).get (quantityField fuel)).add (quantityField fuel).limit units).1
    else s.trip.records[r] := by
  rw [State.applied_trip, addUnits_pos _ hpos]
  exact addToRecords_get ..

theorem State.applied_keeps_reading (h : fuel = true ∨ units = 0) : SameReading s (s.applied fuel count rest units) := by
  rw [State.applied, if_pos h]
  exact addUnits_counted_sameReading ..

theorem State.applied_metres (hfuel : fuel = false) (hpos : 0 < units) :
    SameReading (addMetres units s) (s.applied fuel count rest units) := by
  rw [State.applied, if_neg (not_or.mpr ⟨ne_true_of_eq_false hfuel, hpos.ne'⟩)]
  exact (addUnits_counted_sameReading ..).addMetres units

end Applied

/-- The delta is the one step modulo 65,536 from the base to the count (R43). -/
theorem rollingDelta_eq {count b delta : Nat} (hb : b < 65536) (hd : delta < 65536)
    (hcount : (b + delta) % 65536 = count) : rollingDelta count b = delta := by
  unfold rollingDelta
  omega

section Counts
variable {t : TripSetup} {fuel : Bool} {count : Nat} {s : State}

theorem rollingCount_seeded :
    rollingCount t fuel count true s = { s with trip := s.trip.setBase fuel (some count) } := by
  unfold rollingCount
  cases s.trip.base fuel <;> rfl

theorem rollingCount_no_base (hbase : s.trip.base fuel = none) (seeded : Bool) :
    rollingCount t fuel count seeded s = { s with trip := s.trip.setBase fuel (some count) } := by
  simp only [rollingCount, hbase]

variable {b delta : Nat} (hbase : s.trip.base fuel = some b) (hdelta : rollingDelta count b = delta)
include hbase hdelta

theorem rollingCount_discontinuity (hmax : t.maxDelta < delta) : rollingCount t fuel count false s =
    report (.discontinuity fuel delta) { s with trip := s.trip.setBase fuel (some count) } := by
  simp only [rollingCount, hbase, hdelta, if_pos hmax]

theorem rollingCount_parked (hmax : delta ≤ t.maxDelta) (hd : s.driving ≠ true) :
    rollingCount t fuel count false s = { s with trip := s.trip.setBase fuel (some count) } := by
  simp only [rollingCount, hbase, hdelta, if_neg (Nat.not_lt.mpr hmax), if_neg hd]

/-- A delta that is applied: the division leaves its residue, the records take the whole units, and so does the Odometer
where they are metres. -/
theorem rollingCount_applied (hmax : delta ≤ t.maxDelta) (hd : s.driving = true) {units rest : Nat}
    (hunits : (s.trip.residue fuel + delta * 1000) / t.per fuel = units)
    (hrest : (s.trip.residue fuel + delta * 1000) % t.per fuel = rest) :
    rollingCount t fuel count false s = s.applied fuel count rest units := by
  subst hunits hrest
  simp only [rollingCount, hbase, hdelta, if_neg (Nat.not_lt.mpr hmax), if_pos hd]
  cases fuel with
  | true =>
    rw [State.applied, if_pos (Or.inl rfl)]
    rfl
  | false => exact (applyDistance_eq ..).trans (if_congr (or_iff_right Bool.false_ne_true).symm rfl rfl)

end Counts

/-- Settles O15: the notice of the shown value by its whole kilometres, and a count by its cases against the base. -/
theorem rollingCountsBecomeWholeUnits : Obligations.RollingCountsBecomeWholeUnits := by
  constructor
  · intro s km
    have hkm : s.shown.map (· / 10) = km := Option.map_if
    rw [← hkm]
    exact ⟨fun h => if_pos h, fun h => if_neg h⟩
  · intro t fuel s _ hpulses hlitre hc base residue per withBase driving
    have hper : 0 < per := by
      unfold per
      split <;> assumption
    have hdriving : s.driving = true ↔ driving := s.driving_iff
    refine ⟨fun _ _ _ => rfl, fun _ _ _ => rfl, rfl, fun count _ => ⟨rollingCount_seeded,
      fun seeded hb => rollingCount_no_base hb seeded, fun b delta hbase hb hd hcount => ?_⟩⟩
    have hdelta : rollingDelta count b = delta := rollingDelta_eq hb hd hcount
    refine ⟨rollingCount_discontinuity hbase hdelta,
      fun hmax hparked => rollingCount_parked hbase hdelta hmax (mt hdriving.mp hparked), fun hmax hdrives => ?_⟩
    obtain ⟨units, hunits⟩ : ∃ units, (residue + delta * 1000) / per = units := ⟨_, rfl⟩
    obtain ⟨rest, hrest⟩ : ∃ rest, (residue + delta * 1000) % per = rest := ⟨_, rfl⟩
    have hdivision : residue + delta * 1000 = units * per + rest := by
      rw [← hunits, ← hrest, Nat.div_add_mod']
    have hnotice : rollingNotice t fuel (.sample (.rolling count) false) s = s.applied fuel count rest units :=
      rollingCount_applied hbase hdelta hmax (hdriving.mpr hdrives) hunits hrest
    rw [hnotice]
    refine ⟨units, rest, hdivision, hrest ▸ Nat.mod_lt _ hper, ?_⟩
    intro u
    have hu {α : Type} (field : Trip → α) : field u = field _ := congrArg field (s.applied_trip fuel count rest units)
    refine ⟨hu Trip.residueE, hu Trip.residueF, hu Trip.distanceBase, hu Trip.fuelBase,
      hu Trip.setup, hu Trip.snapshots, hu Trip.rear, hu Trip.saving,
      hu Trip.pendingCapture, hu Trip.savedCopy, ⟨fun h => ?_, fun hfuel hpos => ?_⟩,
      State.applied_records_none, fun hpos r => ?_⟩
    · exact ⟨(State.applied_keeps_reading h).odometer, (State.applied_keeps_reading h).service⟩
    · exact ⟨(State.applied_metres hfuel hpos).odometer, (State.applied_metres hfuel hpos).service⟩
    · intro takes x
      have htakes : s.accumulates r = true ↔ takes := State.accumulates_iff hc (hdriving.mpr hdrives) r
      refine (State.applied_records hpos r).trans (if_congr htakes ?_ rfl)
      cases fuel <;> rfl

end Sys2Proof.Machine
end

section
/-! PROOF. What stands apart from the Store Controller and the Odometer: the operations of the other blocks leave the
store and the Odometer as they were. -/

namespace Sys2Proof.Machine

/-- The store and the Odometer stand as they did. -/
structure Apart (s t : State) : Prop where
  store : t.store = s.store
  odometer : t.odometer = s.odometer

theorem Apart.refl (s : State) : Apart s s := ⟨rfl, rfl⟩

theorem Apart.trans {s t u : State} (h : Apart s t) (k : Apart t u) : Apart s u :=
  ⟨k.store.trans h.store, k.odometer.trans h.odometer⟩

theorem Apart.ite {p : Prop} [Decidable p] {s t u : State} (ht : Apart s t) (hu : Apart s u) :
    Apart s (if p then t else u) := by
  split
  · exact ht
  · exact hu

theorem Apart.foldl {α : Type} {f : State → α → State} (h : ∀ s a, Apart s (f s a)) (l : List α) (s : State) :
    Apart s (l.foldl f s) := by
  induction l generalizing s with
  | nil => exact .refl s
  | cons a l ih => exact (h s a).trans (ih _)

/-! ### Updates of one block and frames -/

/-- A change within the Trip Computer. -/
theorem Apart.withTrip {s t : State} (h : Apart s t) (x : Trip) : Apart s { t with trip := x } :=
  ⟨h.store, h.odometer⟩

/-- A change within the Service Reminder. -/
theorem Apart.withService {s t : State} (h : Apart s t) (x : Service) : Apart s { t with service := x } :=
  ⟨h.store, h.odometer⟩

/-- A change within the Display Link Controller. -/
theorem Apart.withDisplay {s t : State} (h : Apart s t) (x : Display) : Apart s { t with display := x } :=
  ⟨h.store, h.odometer⟩

/-- A change within the Loop Port. -/
theorem Apart.withLoop {s t : State} (h : Apart s t) (l : LoopPort) : Apart s { t with loop := l } :=
  ⟨h.store, h.odometer⟩

/-- A change within the Key Monitor and Clock. -/
theorem Apart.withKey {s t : State} (h : Apart s t) (k : KeyClock) : Apart s { t with key := k } :=
  ⟨h.store, h.odometer⟩

/-- A change within the Warning Controller. -/
theorem Apart.withWarnings {s t : State} (h : Apart s t) (x : Warnings) : Apart s { t with warnings := x } :=
  ⟨h.store, h.odometer⟩

theorem WarnFrame.apart {s t : State} (h : WarnFrame s t) : Apart s t :=
  ⟨h.sameReading.store, h.sameReading.odometer⟩

theorem RecordFrame.apart {s t : State} (h : RecordFrame s t) : Apart s t :=
  ⟨h.sameReading.store, h.sameReading.odometer⟩

/-! ### Frames and reports (R171, R185, R186, R188) -/

theorem report_apart (e : Event) (s : State) : Apart s (report e s) := (report_frame e s).apart

theorem buildEvent_apart (s : State) : Apart s (buildEvent s) := by
  unfold buildEvent
  split
  · exact .ite ⟨rfl, rfl⟩ (.refl s)
  · exact .refl s

theorem buildStartUp_apart (s : State) : Apart s (buildStartUp s) := by
  unfold buildStartUp
  split
  · exact .ite ⟨rfl, rfl⟩ (.refl s)
  · exact .refl s

theorem buildDump_apart (s : State) : Apart s (buildDump s) := by
  unfold buildDump
  split
  · exact .ite ⟨rfl, rfl⟩ (.refl s)
  · exact .refl s

theorem dumpFor_apart (n : Nat) (s : State) : Apart s (dumpFor n s) := by
  induction n generalizing s with
  | zero => exact .refl s
  | succ n ih => exact (buildDump_apart s).trans (ih _)

theorem placeResponse_apart (f : Frame) (restart : Bool) (s : State) : Apart s (placeResponse f restart s) :=
  .ite ⟨rfl, rfl⟩ ⟨rfl, rfl⟩

theorem holdResponse_apart (f : Frame) (s : State) : Apart s (holdResponse f s) :=
  .ite (placeResponse_apart f false s) ⟨rfl, rfl⟩

/-! ### The Warning Controller (R107, R110 to R112, R119 to R128) -/

theorem setWarning_apart (w : Fin 32) (x : Warning) (s : State) : Apart s (s.setWarning w x) := ⟨rfl, rfl⟩

theorem setSys_apart (k : SysCond) (b : Bool) (s : State) : Apart s (setSys k b s) := by
  have h := (setSys_frame k b s).apart
  exact ⟨h.store, h.odometer⟩

theorem selectAfter_apart {s t : State} (h : Apart s t) : Apart s (select t) := h.trans (select_frame t).apart

theorem notifyAfter_apart {s t : State} (h : Apart s t) : Apart s (notifyDisplay false t) :=
  h.trans (notifyDisplay_frame false t).apart

theorem changeState_stopTimers_apart (w : Fin 32) (new : WarnState) (cause : WarnCause) (s : State) :
    Apart s (stopTimers w (changeState w new cause s)) :=
  ((changeState_frame w new cause s).trans (stopTimers_frame w _)).apart

theorem toAcknowledged_apart (w : Fin 32) (cause : WarnCause) (s : State) : Apart s (toAcknowledged w cause s) :=
  ((changeState_stopTimers_apart w .acknowledged cause s).trans (setWarning_apart w _ _)).trans
    (releaseChimes_frame w _).apart

/-- A warning leaves its state with its timers stopped and its chimes released. -/
theorem released_apart (w : Fin 32) (new : WarnState) (cause : WarnCause) (s : State) :
    Apart s (releaseChimes w (stopTimers w (changeState w new cause s))) :=
  (changeState_stopTimers_apart w new cause s).trans (releaseChimes_frame w _).apart

theorem presentExpiry_apart (w : Fin 32) (s : State) : Apart s (presentExpiry w s) := by
  unfold presentExpiry
  dsimp only
  split
  · refine .ite (selectAfter_apart ?_) (.ite (selectAfter_apart ?_) (selectAfter_apart ?_))
    · exact .ite (released_apart w _ _ s) ((changeState_stopTimers_apart w _ _ s).trans (setWarning_apart w _ _))
    · exact toAcknowledged_apart w _ s
    · exact released_apart w _ _ s
  · exact .refl s

theorem remindExpiry_apart (w : Fin 32) (s : State) : Apart s (remindExpiry w s) := by
  unfold remindExpiry
  dsimp only
  split
  · exact selectAfter_apart (changeState_stopTimers_apart w _ _ s)
  · exact .refl s

theorem acknowledge_apart (w : Fin 32) (s : State) : Apart s (acknowledge w s) := by
  refine selectAfter_apart ?_
  have h := Apart.ite (p := (s.warnings.entries[w]).holds = true) (toAcknowledged_apart w .acknowledge s)
    (released_apart w .idle .acknowledge s)
  exact .ite ⟨h.store, h.odometer⟩ h

theorem enableWarning_apart (w : Fin 32) (s : State) : Apart s (enableWarning w s) :=
  (setWarning_apart w _ s).trans (testGate_frame w _).apart

theorem disableWarning_apart (w : Fin 32) (s : State) : Apart s (disableWarning w s) := by
  have hidle := setWarning_apart w { s.warnings.entries[w] with masked := false } s
  have hleft := Apart.ite (p := (s.warnings.entries[w]).state = .idle) hidle
    (hidle.trans (changeState_frame w .idle .disable _).apart)
  have hcleared := fun x => (hleft.trans (releaseChimes_frame w _).apart).trans (setWarning_apart w x _)
  exact .ite (selectAfter_apart (hcleared _)) (notifyAfter_apart (hcleared _))

theorem maskWarning_apart (w : Fin 32) (s : State) : Apart s (maskWarning w s) := by
  have h := setWarning_apart w { s.warnings.entries[w] with masked := true } s
  unfold maskWarning
  dsimp only
  split
  · exact selectAfter_apart (h.trans (released_apart w _ _ _))
  · exact notifyAfter_apart (h.trans (releaseChimes_frame w _).apart)
  · exact notifyAfter_apart h
  · exact notifyAfter_apart h

theorem unmaskWarning_apart (w : Fin 32) (s : State) : Apart s (unmaskWarning w s) :=
  selectAfter_apart (setWarning_apart w _ s)

theorem warningKey_apart (old new : KeyState) (s : State) : Apart s (warningKey old new s) :=
  ((Apart.refl s).withWarnings _).trans (testGates_frame _).apart

/-! ### The Service Reminder (R93, R99 to R101) -/

theorem noteStage_apart (i : Fin 8) (old new : Stage) (s : State) : Apart s (noteStage i old new s) :=
  ⟨(noteStage_sameReading i old new s).store, (noteStage_sameReading i old new s).odometer⟩

theorem setItem_apart (i : Fin 8) (x : ServiceItem) (s : State) : Apart s (s.setItem i x) := ⟨rfl, rfl⟩

theorem evaluateItem_apart (i : Fin 8) (s : State) : Apart s (evaluateItem i s) :=
  .ite ((setItem_apart i _ s).trans (noteStage_apart i _ _ _)) (.refl s)

theorem evaluateAll_apart (s : State) : Apart s (evaluateAll s) :=
  .foldl (fun t i => evaluateItem_apart i t) _ s

theorem shownNotice_apart (s : State) : Apart s (shownNotice s) := by
  have h := evaluateAll_apart { s with service := { s.service with lastKm := s.shown.map (· / 10) } }
  exact .ite (.refl s) ⟨h.store, h.odometer⟩

/-! ### The save pairs and their owners (R60, R61, R85, R88, R101) -/

theorem setPair_apart (p : PairId) (x : Pair) (s : State) : Apart s (s.setPair p x) :=
  ⟨State.setPair_store s p x, State.setPair_odometer s p x⟩

theorem failSave_apart (p : PairId) (s : State) : Apart s (failSave p s) :=
  (setPair_apart p _ s).trans (report_apart _ _)

theorem beginSave_apart (p : PairId) (data : List Word) (s : State) : Apart s (beginSave p data s) := by
  unfold beginSave
  dsimp only
  split
  · exact failSave_apart p s
  · exact setPair_apart p _ s

theorem requestSave_apart (p : PairId) (data : List Word) (s : State) : Apart s (requestSave p data s) :=
  .ite (beginSave_apart p data s) (setPair_apart p _ s)

theorem beginHeld_apart (p : PairId) (s : State) : Apart s (beginHeld p s) := by
  unfold beginHeld
  dsimp only
  split
  · exact (setPair_apart p _ s).trans (beginSave_apart p _ _)
  · exact .refl s

theorem finishSave_apart (p : PairId) (j : SaveJob) (s : State) : Apart s (finishSave p j s) :=
  .ite (setPair_apart p _ s) ((setPair_apart p _ s).trans (report_apart _ _))

theorem pairProgramEnd_apart (p : PairId) (exceeded : Bool) (s : State) : Apart s (pairProgramEnd p exceeded s) := by
  have hset := fun x => setPair_apart p x s
  unfold pairProgramEnd
  dsimp only
  split
  · exact .ite ((hset _).trans (beginHeld_apart p _)) (hset _)
  · split
    · exact hset _
    · split
      · exact hset _
      · exact .ite ((hset _).trans (failSave_apart p _)) (hset _)
      · exact .ite (hset _) ((hset _).trans (finishSave_apart p _ _))
      · exact (hset _).trans (finishSave_apart p _ _)

theorem pairEraseEnd_apart (p : PairId) (o : Option EraseOutcome) (s : State) : Apart s (pairEraseEnd p o s) := by
  have hset := fun x => setPair_apart p x s
  unfold pairEraseEnd
  dsimp only
  split
  · exact .ite (hset _) ((hset _).trans (failSave_apart p _))
  · exact (hset _).trans (beginHeld_apart p _)

theorem recoverPair_apart (p : PairId) (s : State) : Apart s (recoverPair p s) :=
  .ite ((setPair_apart p _ s).trans (beginHeld_apart p _)) (setPair_apart p _ s)

theorem refreshStoreFault_apart (s : State) : Apart s (refreshStoreFault s) := setSys_apart _ _ s

theorem tripSaveEnd_apart (ok : Bool) (s : State) : Apart s (tripSaveEnd ok s) := by
  have hfault := fun x => ((Apart.refl s).withTrip x).trans (refreshStoreFault_apart _)
  unfold tripSaveEnd
  dsimp only
  split
  · exact (hfault _).withTrip _
  · exact .ite ((hfault _).withTrip _) (((hfault _).withTrip _).trans (requestSave_apart .trip _ _))

theorem serviceSaveEnd_apart (ok : Bool) (s : State) : Apart s (serviceSaveEnd ok s) := by
  have hfault := ((Apart.refl s).withService { s.service with saveFault := !ok }).trans (refreshStoreFault_apart _)
  exact .ite ((hfault.withService _).trans (requestSave_apart .service _ _)) (hfault.withService _)

theorem tripCapture_apart (s : State) : Apart s (tripCapture s) :=
  .ite (.refl s) (.ite ⟨rfl, rfl⟩ (.ite (.refl s) (((Apart.refl s).withTrip _).trans (requestSave_apart .trip _ _))))

theorem recoverTrips_apart (s : State) : Apart s (recoverTrips s) := by
  unfold recoverTrips
  split <;> exact ⟨rfl, rfl⟩

theorem recoverRecords_apart (s : State) : Apart s (recoverRecords s) := by
  unfold recoverRecords
  split <;> exact ⟨rfl, rfl⟩

theorem askServiceSave_apart (s : State) : Apart s (askServiceSave s) :=
  .ite ⟨rfl, rfl⟩ (((Apart.refl s).withService _).trans (requestSave_apart .service _ _))

theorem takeServiceReset_apart (i : Fin 8) (src : ResetSource) (s : State) : Apart s (takeServiceReset i src s) :=
  (((setItem_apart i _ s).trans (evaluateAll_apart _)).trans (report_apart _ _)).trans (askServiceSave_apart _)

theorem answerExternal_apart (st : Status) (data : List Byte) (s : State) : Apart s (answerExternal st data s) := by
  unfold answerExternal
  dsimp only
  split
  · exact ⟨rfl, rfl⟩
  · rename_i r _
    have h := fun f => holdResponse_apart f (buildResponse r st data { s with
      handler := { s.handler with ext := none, extRequester := none } }).2
    exact ⟨(h _).store, (h _).odometer⟩

theorem externalEraseEnd_apart (b : BitVec 8) (os : List (Fin 8 × EraseOutcome)) (s : State) :
    Apart s (externalEraseEnd b os s) := by
  unfold externalEraseEnd
  split
  · exact answerExternal_apart _ _ s
  · exact .refl s

theorem reportSave_apart {p : PairId} {s t : State} (h : reportSave p s = some t) : Apart s t := by
  unfold reportSave at h
  split at h
  · cases h
  · cases h
    cases p with
    | trip => exact (setPair_apart .trip _ s).trans (tripSaveEnd_apart _ _)
    | service => exact (setPair_apart .service _ s).trans (serviceSaveEnd_apart _ _)

/-! ### The Trip Computer (R49 to R53, R59) -/

theorem zeroRecord_apart (r : Fin 4) (s : State) : Apart s (zeroRecord r s) := ⟨rfl, rfl⟩

theorem resetTrip_apart (r : Fin 4) (cause : TripCause) (s : State) : Apart s (resetTrip r cause s) :=
  (zeroRecord_apart r s).trans (report_apart _ _)

theorem applyFuel_apart (u delta : Nat) (s : State) : Apart s (applyFuel u delta s) :=
  .ite ⟨rfl, rfl⟩ (((Apart.refl s).withTrip _).trans (addToRecords_recordFrame _ _ _).apart)

theorem tripSeconds_apart (s : State) : Apart s (tripSeconds s) := by
  cases hs : s.trip.setup with
  | none => rw [tripSeconds_unset hs]; exact .refl s
  | some t => rw [tripSeconds_set hs]; exact (addEach_recordFrame _ _ s).apart

theorem journeyTest_apart (s : State) : Apart s (journeyTest s) := by
  unfold journeyTest
  split
  · exact .ite (resetTrip_apart _ _ s) (.refl s)
  · exact .refl s

theorem tripKey_apart (old new : KeyState) (s : State) : Apart s (tripKey old new s) :=
  .ite (journeyTest_apart s) (.ite (tripCapture_apart s) (.refl s))

theorem journeyEnter_apart (s : State) : Apart s (journeyEnter s) :=
  ((zeroRecord_apart 3 s).withTrip _).trans (report_apart _ _)

theorem journeyLeave_apart (s : State) : Apart s (journeyLeave s) :=
  .ite (((Apart.refl s).withTrip _).trans (report_apart _ _)) (.refl s)

/-! ### The Display Link Controller (R146 to R161) -/

theorem rebuild_apart (s : State) : Apart s (rebuild s) := ⟨rfl, rfl⟩

theorem checkShutdown_apart (s : State) : Apart s (checkShutdown s) := (checkShutdown_frame s).apart

/-- A change of the display's records that may complete the shutdown conditions. -/
theorem checkShutdown_withDisplay_apart {s t : State} (h : Apart s t) (d : Display) :
    Apart s (checkShutdown { t with display := d }) := (h.withDisplay d).trans (checkShutdown_apart _)

theorem displayKey_apart (new : KeyState) (s : State) : Apart s (displayKey new s) :=
  checkShutdown_withDisplay_apart (.refl s) _

theorem packetDone_apart (s : State) : Apart s (packetDone s) := by
  unfold packetDone
  dsimp only
  split
  · exact .ite (checkShutdown_withDisplay_apart (.refl s) _) (.refl s)
  · exact .refl s

theorem packetSent_apart (s : State) : Apart s (packetSent s) := by
  unfold packetSent
  dsimp only
  split <;> exact ⟨rfl, rfl⟩

theorem pollExpiry_apart (s : State) : Apart s (pollExpiry s) := .ite ⟨rfl, rfl⟩ (.refl s)

theorem settleExpiry_apart (s : State) : Apart s (settleExpiry s) := .ite ⟨rfl, rfl⟩ (.refl s)

theorem linkStartSent_apart (s : State) : Apart s (linkStartSent s) := by
  unfold linkStartSent
  dsimp only
  split
  · exact checkShutdown_withDisplay_apart (.refl s) _
  · exact .refl s

theorem linkShutdownSend_apart (s : State) : Apart s (linkShutdownSend s) := .ite ⟨rfl, rfl⟩ (.refl s)

theorem linkShutdownSent_apart (s : State) : Apart s (linkShutdownSent s) := by
  unfold linkShutdownSent
  dsimp only
  split <;> exact ⟨rfl, rfl⟩

theorem quietExpiry_apart (s : State) : Apart s (quietExpiry s) := .ite ⟨rfl, rfl⟩ (.refl s)

theorem rpIdleExpiry_apart (s : State) : Apart s (rpIdleExpiry s) :=
  .ite (checkShutdown_withDisplay_apart (.refl s) _) (.refl s)

theorem mcOffExpiry_apart (s : State) : Apart s (mcOffExpiry s) :=
  .ite (checkShutdown_withDisplay_apart (.refl s) _) (.refl s)

theorem notAvailableExpiry_apart (s : State) : Apart s (notAvailableExpiry s) := .ite ⟨rfl, rfl⟩ (.refl s)

theorem replyWindowExpiry_apart (s : State) : Apart s (replyWindowExpiry s) := by
  unfold replyWindowExpiry
  split <;> exact ⟨rfl, rfl⟩

/-! ### The trip button and the rear panel (R152 to R158) -/

theorem pressEdge_apart (s : State) : Apart s (pressEdge s) := by
  unfold pressEdge
  split
  · exact acknowledge_apart _ s
  · exact .ite ⟨rfl, rfl⟩ ⟨rfl, rfl⟩

theorem releaseEdge_apart (s : State) : Apart s (releaseEdge s) := by
  unfold releaseEdge
  dsimp only
  split
  · exact .refl s
  · exact .ite ⟨rfl, rfl⟩ ⟨rfl, rfl⟩

theorem hold2s_apart (s : State) : Apart s (hold2s s) := by
  have hreset : ∀ p : Nat, Apart s (match buttonTrip p with | some r => resetTrip r .button s | none => s) := by
    intro p
    split
    · exact resetTrip_apart _ _ s
    · exact .refl s
  unfold hold2s
  split
  · exact .refl s
  · exact .ite (((hreset _).withDisplay _).trans (rebuild_apart _)) (.refl s)

theorem buttonNotice_apart (n : Notice) (s : State) : Apart s (buttonNotice n s) := by
  unfold buttonNotice
  split
  · exact pressEdge_apart s
  · exact releaseEdge_apart s
  · exact .refl s
  · exact .refl s
  · exact .refl s
  · exact ⟨rfl, rfl⟩

theorem displayNotice_apart (c : Fin 48) (n : Notice) (s : State) : Apart s (displayNotice c n s) := by
  have hbutton := fun p [Decidable p] => Apart.ite (p := p) (buttonNotice_apart n s) (.refl s)
  unfold displayNotice
  split
  · exact .refl s
  · exact .ite ((hbutton _).trans (rebuild_apart _)) (hbutton _)

theorem callChange_apart (b : Bool) (s : State) : Apart s (callChange b s) :=
  .ite (setSys_apart _ _ s) ((setSys_apart .rearCall false s).withDisplay _)

theorem journeyChange_apart (b : Bool) (s : State) : Apart s (journeyChange b s) :=
  .ite ((journeyEnter_apart s).trans (rebuild_apart _))
    (.ite ((journeyLeave_apart s).trans (rebuild_apart _)) (.refl s))

theorem takeRequestSet_apart (call journey : Bool) (s : State) : Apart s (takeRequestSet call journey s) := by
  have hidle := (Apart.refl s).withDisplay { s.display with idleTimer := some s.idleMs }
  have hcall := Apart.ite (p := s.display.call = call) hidle (hidle.trans (callChange_apart call _))
  have hjourney := Apart.ite (p := s.display.journey = journey) hcall (hcall.trans (journeyChange_apart journey _))
  exact .ite (.refl s) (checkShutdown_withDisplay_apart hjourney _)

theorem replyTaken_apart (bytes : List Byte) (s : State) : Apart s (replyTaken bytes s) := by
  unfold replyTaken
  split
  · exact .ite (((Apart.refl s).withDisplay _).trans (takeRequestSet_apart _ _ _)) ⟨rfl, rfl⟩
  · exact .refl s

/-! ### The Loop Port (R166, R172 to R177) -/

theorem holderExpiry_apart (n : Node) (s : State) : Apart s (holderExpiry n s) :=
  .ite (((Apart.refl s).withLoop _).trans (report_apart _ _)) (.refl s)

theorem setLoopState_apart (new : LoopState) (s : State) : Apart s (setLoopState new s) :=
  .ite (.refl s) ((((Apart.refl s).withLoop _).trans (report_apart _ _)).trans (setSys_apart _ _ _))

theorem loopMiss_apart (s : State) : Apart s (loopMiss s) := setLoopState_apart _ s

theorem loopReturn_apart (f : Frame) (s : State) : Apart s (loopReturn f s) := by
  unfold loopReturn
  dsimp only
  split
  · exact loopMiss_apart s
  · exact (((Apart.refl s).withLoop _).trans (.foldl (fun t _ => loopMiss_apart t) _ _)).trans
      (setLoopState_apart _ _)

theorem returnExpiry_apart (s : State) : Apart s (returnExpiry s) := by
  unfold returnExpiry
  split
  · exact .refl s
  · exact ((Apart.refl s).withLoop _).trans (loopMiss_apart _)

theorem treatFrame_apart (f : Frame) (s : State) : Apart s (treatFrame f s) :=
  .ite (.ite (.refl s) (loopReturn_apart f s)) (.ite ⟨rfl, rfl⟩ (.ite ⟨rfl, rfl⟩ (.ite ⟨rfl, rfl⟩ ⟨rfl, rfl⟩)))

theorem broadcastExpiry_apart (s : State) : Apart s (broadcastExpiry s) := .ite ⟨rfl, rfl⟩ ⟨rfl, rfl⟩

/-! ### The Channel Table, the gauges, the chimes and the clock -/

theorem setChannel_apart (c : Fin 48) (x : Channel) (s : State) : Apart s (s.setChannel c x) := ⟨rfl, rfl⟩

theorem gaugeNotice_apart (c : Fin 48) (n : Notice) (s : State) : Apart s (gaugeNotice c n s) := ⟨rfl, rfl⟩

theorem gaugeKey_apart (old new : KeyState) (s : State) : Apart s (gaugeKey old new s) := ⟨rfl, rfl⟩

theorem driveUpdate_apart (g : Fin 6) (s : State) : Apart s (driveUpdate g s) := by
  unfold driveUpdate
  dsimp only
  split
  · exact .refl s
  · exact ⟨rfl, rfl⟩

theorem chimeNotice_apart (c : Fin 48) (n : Notice) (s : State) : Apart s (chimeNotice c n s) := by
  unfold chimeNotice
  split
  · split <;> exact ⟨rfl, rfl⟩
  · exact .refl s

theorem serviceKey_apart (new : KeyState) (s : State) : Apart s (serviceKey new s) :=
  .ite (evaluateAll_apart s) (.refl s)

theorem settleTimerExpiry_apart (s : State) : Apart s (settleTimerExpiry s) := by
  unfold settleTimerExpiry
  split
  · exact ((Apart.refl s).withKey _).trans (testGates_frame _).apart
  · exact .refl s

theorem secondsEvent_apart (s : State) : Apart s (secondsEvent s) := by
  have hclock := (Apart.refl s).withKey { s.key.advance.1 with secondsTimer := some 1000 }
  have hday := Apart.ite (p := s.key.advance.2 = true) (hclock.trans (evaluateAll_apart _)) hclock
  exact ((hday.trans (tripSeconds_apart _)).trans (testGates_frame _).apart).trans (rebuild_apart _)

theorem setClock_apart (seconds day : Nat) (s : State) : Apart s (setClock seconds day s) :=
  ((((Apart.refl s).withKey _).trans (setSys_apart _ _ _)).trans (evaluateAll_apart _)).trans (rebuild_apart _)

end Sys2Proof.Machine
end

section
/-! PROOF. The Odometer's shown value (R79): what no operation of the powered part takes back. A state is orderly when a
SET ODOMETER is in progress, and the scan runs, only with the odometer INVALID; each operation of the Odometer and of
the Store Controller, and the settling that follows, keeps that and does not lower the shown value. -/

namespace Sys2Proof.Machine

/-! ### Orderly states and steady operations -/

/-- A SET ODOMETER is in progress, and the scan runs, only with the odometer INVALID. -/
def State.Orderly (s : State) : Prop :=
  (s.odometer.setting.isSome = true → s.odometer.valid = false) ∧ (s.store.ctl = .scanning → s.odometer.valid = false)

/-- From an orderly state the operation leads to one, and a shown value stays present and does not fall (R79). -/
structure Rises (s t : State) : Prop where
  orderly : s.Orderly → t.Orderly
  shown : s.Orderly → ∀ v, s.shown = some v → ∃ w, t.shown = some w ∧ v ≤ w

/-- The operation rises, and changes no word of the store. -/
structure Steady (s t : State) : Prop extends Rises s t where
  mem : t.store.mem = s.store.mem

theorem State.shown_of_valid {s : State} (h : s.odometer.valid = true) :
    s.shown = some (min odometerLimit (s.odometer.stored + s.odometer.pending)) := if_pos h

theorem State.shown_of_invalid {s : State} (h : s.odometer.valid = false) : s.shown = none := by
  simp only [State.shown, h, Bool.false_eq_true, if_false]

theorem Rises.trans {s t u : State} (h : Rises s t) (k : Rises t u) : Rises s u where
  orderly := k.orderly ∘ h.orderly
  shown hs v hv := by
    obtain ⟨w, hw, hvw⟩ := h.shown hs v hv
    obtain ⟨x, hx, hwx⟩ := k.shown (h.orderly hs) w hw
    exact ⟨x, hx, hvw.trans hwx⟩

/-- An operation that begins no setting and no scan, leaves the odometer as VALID as it was, and takes nothing off what
is stored and pending. -/
theorem Rises.of_sum {s t : State} (hsetting : t.odometer.setting.isSome = true → s.odometer.setting.isSome = true)
    (hscan : t.store.ctl = .scanning → s.store.ctl = .scanning) (hvalid : t.odometer.valid = s.odometer.valid)
    (hsum : min odometerLimit (s.odometer.stored + s.odometer.pending) ≤
      min odometerLimit (t.odometer.stored + t.odometer.pending)) : Rises s t where
  orderly hs := ⟨fun h => hvalid.trans (hs.1 (hsetting h)), fun h => hvalid.trans (hs.2 (hscan h))⟩
  shown _ v hv := by
    have hs : s.odometer.valid = true := by
      by_contra hinvalid
      rw [State.shown_of_invalid (Bool.eq_false_iff.mpr hinvalid)] at hv
      cases hv
    rw [State.shown_of_valid hs] at hv
    cases hv
    exact ⟨_, State.shown_of_valid (hvalid.trans hs), hsum⟩

/-- An INVALID odometer has no shown value that could fall. -/
theorem Rises.of_invalid {s t : State} (hs : s.Orderly → s.odometer.valid = false) (ht : s.Orderly → t.Orderly) :
    Rises s t where
  orderly := ht
  shown h v hv := by
    rw [State.shown_of_invalid (hs h)] at hv
    cases hv

theorem Apart.rises {s t : State} (h : Apart s t) : Rises s t := by
  refine .of_sum ?_ ?_ ?_ ?_
  · rw [h.odometer]; exact id
  · rw [h.store]; exact id
  · rw [h.odometer]
  · rw [h.odometer]

theorem Apart.steady {s t : State} (h : Apart s t) : Steady s t := ⟨h.rises, by rw [h.store]⟩

theorem Steady.refl (s : State) : Steady s s := (Apart.refl s).steady

theorem Steady.trans {s t u : State} (h : Steady s t) (k : Steady t u) : Steady s u :=
  ⟨h.toRises.trans k.toRises, k.mem.trans h.mem⟩

theorem Steady.ite {p : Prop} [Decidable p] {s t u : State} (ht : Steady s t) (hu : Steady s u) :
    Steady s (if p then t else u) := by
  split
  · exact ht
  · exact hu

theorem Steady.foldl {α : Type} {f : State → α → State} (h : ∀ s a, Steady s (f s a)) (l : List α) (s : State) :
    Steady s (l.foldl f s) := by
  induction l generalizing s with
  | nil => exact .refl s
  | cons a l ih => exact (h s a).trans (ih _)

/-- A change of the store that begins no scan. -/
theorem rises_withStore {s : State} {x : Store} (h : x.ctl = .scanning → s.store.ctl = .scanning) :
    Rises s { s with store := x } := .of_sum id h rfl le_rfl

/-- A change of the Odometer that begins no setting and leaves what is stored and pending. -/
theorem steady_withOdometer {s : State} {o : Odometer}
    (hsetting : o.setting.isSome = true → s.odometer.setting.isSome = true) (hvalid : o.valid = s.odometer.valid)
    (hstored : o.stored = s.odometer.stored) (hpending : o.pending = s.odometer.pending) :
    Steady s { s with odometer := o } :=
  ⟨.of_sum hsetting id hvalid (by simp only [hstored, hpending, le_refl]), rfl⟩

/-! ### No operation of the Store Controller begins a scan (R67 to R71) -/

theorem Store.ite_ctl {p : Prop} [Decidable p] {x y : Store} (hx : x.ctl ≠ .scanning) (hy : y.ctl ≠ .scanning) :
    (if p then x else y).ctl ≠ .scanning := by
  split
  · exact hx
  · exact hy

theorem Store.closeWindow_ctl (x : Store) : x.closeWindow.ctl ≠ .scanning := by
  rcases x.closeWindow_count.2 with h | h <;> rw [h] <;> decide

theorem Store.beginNext_ctl (x : Store) : x.beginNext.ctl ≠ .scanning := by
  rcases (Store.beginFrom_count x.todo x).2 with h | h <;> rw [Store.beginNext, h] <;> decide

theorem Store.takeSuspending_ctl (x : Store) : x.takeSuspending.ctl ≠ .scanning := by
  unfold Store.takeSuspending
  split <;> exact CtlState.noConfusion

theorem Store.place_ctl {x : Store} {c : StoreClass} {st : StoreStep} (h : (x.place c st).ctl = .scanning) :
    x.ctl = .scanning := by
  cases st with
  | erase b => exact (x.placeErase_count c b).1 ▸ h
  | program a v =>
    by_contra hx
    have hset : (x.setSlot c (some (.program a v))).ctl ≠ .scanning := by rwa [(x.setSlot_ctl c _).1]
    exact Store.ite_ctl CtlState.noConfusion (Store.ite_ctl (Store.closeWindow_ctl _) hset) h

theorem Store.gather_foldl_ctl (l : List StoreClass) (x : Store) : (l.foldl Store.gather x).ctl = x.ctl := by
  induction l generalizing x with
  | nil => rfl
  | cons c l ih => exact (ih _).trans (x.gather_count c).1

theorem Store.take_ctl {x y : Store} (h : x.take = some y) : y.ctl ≠ .scanning := by
  unfold Store.take at h
  split at h
  · split at h
    · cases h
    · split at h
      · cases h
        exact CtlState.noConfusion
      · cases h
        rw [Store.gather_foldl_ctl]
        exact CtlState.noConfusion
      · cases h
  · cases h

theorem Store.windowExpiry_ctl {x : Store} (h : x.windowExpiry.ctl = .scanning) : x.ctl = .scanning := by
  unfold Store.windowExpiry at h
  split at h
  · exact absurd h (Store.closeWindow_ctl x)
  · exact h

theorem Store.suspensionReached_ctl {x : Store} (h : x.suspensionReached.ctl = .scanning) : x.ctl = .scanning := by
  unfold Store.suspensionReached at h
  split at h
  · exact absurd h (Store.takeSuspending_ctl x)
  · exact h

theorem Store.programEnd_ctl {x y : Store} {worn : Bool} {r : ProgramReport} (h : x.programEnd worn = some (r, y)) :
    y.ctl ≠ .scanning := by
  unfold Store.programEnd at h
  split at h
  · cases h
  · simp only [Option.some.injEq, Prod.mk.injEq] at h
    rw [← h.2]
    refine Store.ite_ctl ?_ CtlState.noConfusion
    split
    · exact CtlState.noConfusion
    · exact Store.beginNext_ctl _

theorem Store.eraseEnd_ctl {x y : Store} {failed : Bool} {raised : List Word} {k : Fin 8}
    (h : x.eraseEnd failed raised = some (k, y)) : y.ctl ≠ .scanning := by
  unfold Store.eraseEnd at h
  split at h
  · cases h
  · split at h
    · simp only [Option.some.injEq, Prod.mk.injEq] at h
      rw [← h.2]
      exact Store.ite_ctl (Store.beginNext_ctl _)
        (Store.ite_ctl CtlState.noConfusion (Store.takeSuspending_ctl _))
    · cases h

/-- A step that is placed. -/
theorem steady_place (s : State) (c : StoreClass) (st : StoreStep) : Steady s { s with store := s.store.place c st } :=
  ⟨rises_withStore Store.place_ctl, Store.place_mem _ _ _⟩

/-! ### The Odometer (R79 to R82, R89) -/

theorem setOdoFault_apart (b : Bool) (s : State) :
    Apart { s with odometer := { s.odometer with fault := b } } (setOdoFault b s) :=
  ⟨(setOdoFault_sameReading b s).store, (setOdoFault_sameReading b s).odometer⟩

theorem setOdoFault_steady (b : Bool) (s : State) : Steady s (setOdoFault b s) := by
  have hmark : Steady s { s with odometer := { s.odometer with fault := b } } := steady_withOdometer id rfl rfl rfl
  exact hmark.trans (setOdoFault_apart b s).steady

theorem checkOdoFault_steady (s : State) : Steady s (checkOdoFault s) := .ite (setOdoFault_steady true s) (.refl s)

/-- Metres add to what is pending. -/
theorem addMetres_steady (metres : Nat) (s : State) : Steady s (addMetres metres s) := by
  have hadd : Steady s { s with odometer := s.odometer.addMetres metres } := by
    refine ⟨.of_sum id id rfl ?_, rfl⟩
    simp only [Odometer.addMetres]
    omega
  unfold addMetres
  split
  · exact .refl s
  · exact .ite ((hadd.trans (shownNotice_apart _).steady).trans (checkOdoFault_steady _)) (.refl s)

theorem placeOdometer_steady {step : StoreStep} {o : Odometer} {s : State}
    (hsetting : o.setting.isSome = true → s.odometer.setting.isSome = true) (hvalid : o.valid = s.odometer.valid)
    (hstored : o.stored = s.odometer.stored) (hpending : o.pending = s.odometer.pending) :
    Steady s (placeOdometer step o s) :=
  (steady_withOdometer hsetting hvalid hstored hpending).trans (steady_place _ _ _)

theorem incrementStep_steady {s t : State}
    (h : s.incrementStep.map (fun st => placeOdometer st { s.odometer with work := some .increment } s) = some t) :
    Steady s t := by
  obtain ⟨_, _, rfl⟩ := Option.map_eq_some_iff.mp h
  exact placeOdometer_steady id rfl rfl rfl

/-- Placing the next ODOMETER step: a SET ODOMETER that goes on was in progress before. -/
theorem odometerPump_steady {s t : State} (h : odometerPump s = some t) : Steady s t := by
  unfold odometerPump at h
  dsimp only at h
  split at h
  · cases h
  · split at h
    · split at h
      · cases h
      · exact incrementStep_steady h
    · split at h
      · cases h
        exact placeOdometer_steady id rfl rfl rfl
      · split at h
        · rename_i g hg
          have hsome : s.odometer.setting.isSome = true := Option.isSome_of_eq_some hg
          split at h <;> cases h <;> exact placeOdometer_steady (fun _ => hsome) rfl rfl rfl
        · split at h
          · cases h
            exact placeOdometer_steady id rfl rfl rfl
          · split at h
            · cases h
              exact placeOdometer_steady id rfl rfl rfl
            · exact incrementStep_steady h

/-- The answer to a SET ODOMETER ends it. -/
theorem answerSetting_apart (st : Status) (s : State) :
    Apart { s with odometer := { s.odometer with setting := none } } (answerSetting st s) :=
  ⟨(answerSetting_same st s).1, (answerSetting_same st s).2.2.2.2.2⟩

theorem answerSetting_steady (st : Status) (s : State) : Steady s (answerSetting st s) := by
  have hend : Steady s { s with odometer := { s.odometer with setting := none } } :=
    steady_withOdometer nofun rfl rfl rfl
  exact hend.trans (answerSetting_apart st s).steady

/-- A SET ODOMETER that succeeds ends itself, and found no shown value. -/
theorem finishSetting_steady {t : Fin 8} {value : Nat} {s : State} (hsetting : s.odometer.setting.isSome = true)
    (hctl : s.store.ctl ≠ .scanning) : Steady s (finishSetting t value s) := by
  have hanswer := answerSetting_apart .ok (shownNotice (setOdoFault false { s with odometer :=
    { s.odometer with valid := true, active := t, stored := value, cleared := 0, residue := 0, pending := 0 } }))
  have hstore : (finishSetting t value s).store = s.store :=
    hanswer.store.trans ((shownNotice_apart _).store.trans (setOdoFault_apart _ _).store)
  have hended : (finishSetting t value s).odometer.setting = none := congrArg Odometer.setting hanswer.odometer
  refine ⟨.of_invalid (fun hs => hs.1 hsetting) fun _ => ⟨fun h => ?_, fun h => ?_⟩, congrArg Store.mem hstore⟩
  · rw [hended] at h
    cases h
  · rw [hstore] at h
    exact absurd h hctl

/-- What an increment program clears goes from pending to stored, and more than was pending only adds. -/
theorem incrementEnd_steady (r : ProgramReport) (s : State) : Steady s (incrementEnd r s) := by
  have hmoved : Steady s { s with odometer :=
      { s.odometer with pending := s.odometer.pending - r.cleared, cleared := s.odometer.cleared + r.cleared,
                        stored := min odometerLimit (s.odometer.stored + r.cleared) } } := by
    refine ⟨.of_sum id id rfl ?_, rfl⟩
    dsimp only
    omega
  exact .ite hmoved (hmoved.trans (setOdoFault_steady false _))

theorem rotationEnd_steady (rot : Rotation) (exceeded : Bool) (s : State) : Steady s (rotationEnd rot exceeded s) := by
  have hleft : Steady s { s with odometer := { s.odometer with rotation := none } } :=
    steady_withOdometer id rfl rfl rfl
  exact .ite (hleft.trans (setOdoFault_steady true _))
    (.ite (steady_withOdometer id rfl rfl rfl) (steady_withOdometer id rfl rfl rfl))

theorem settingEnd_steady {g : Setting} {s : State} (exceeded : Bool) (hsetting : s.odometer.setting.isSome = true)
    (hctl : s.store.ctl ≠ .scanning) : Steady s (settingEnd g exceeded s) := by
  unfold settingEnd
  split
  · exact .refl s
  · exact .refl s
  · exact .ite (answerSetting_steady .failed s) (steady_withOdometer (fun _ => hsetting) rfl rfl rfl)
  · exact finishSetting_steady hsetting hctl

theorem odometerProgramEnd_steady (r : ProgramReport) {s : State} (hctl : s.store.ctl ≠ .scanning) :
    Steady s (odometerProgramEnd r s) := by
  have hidle : Steady s { s with odometer := { s.odometer with work := none } } := steady_withOdometer id rfl rfl rfl
  have hchecked : ∀ {t}, Steady { s with odometer := { s.odometer with work := none } } t → Steady s (checkOdoFault t) :=
    fun h => (hidle.trans h).trans (checkOdoFault_steady _)
  unfold odometerProgramEnd
  dsimp only
  split
  · exact hidle
  · exact hchecked (steady_withOdometer id rfl rfl rfl)
  · exact hchecked (incrementEnd_steady r _)
  · split
    · exact hchecked (rotationEnd_steady _ _ _)
    · exact hidle
  · split
    · rename_i g hg
      exact hchecked (settingEnd_steady _ (Option.isSome_of_eq_some hg) hctl)
    · exact hidle

theorem odometerEraseEnd_steady (os : List (Fin 8 × EraseOutcome)) (s : State) : Steady s (odometerEraseEnd os s) := by
  have hended : Steady s { s with odometer := { s.odometer with eraseOut := false } } :=
    steady_withOdometer id rfl rfl rfl
  unfold odometerEraseEnd
  dsimp only
  split
  · exact hended.trans (checkOdoFault_steady _)
  · rename_i g hg
    split
    · exact steady_withOdometer (fun _ => Option.isSome_of_eq_some hg) rfl rfl rfl
    · exact hended.trans (answerSetting_steady _ _)

/-! ### Settling (R67) -/

theorem classProgramEnd_steady (r : ProgramReport) {s : State} (hctl : s.store.ctl ≠ .scanning) :
    Steady s (classProgramEnd r s) := by
  unfold classProgramEnd
  split
  · exact odometerProgramEnd_steady r hctl
  · exact (pairProgramEnd_apart .trip _ s).steady
  · exact (pairProgramEnd_apart .service _ s).steady
  · exact (answerExternal_apart _ _ s).steady

theorem classEraseEnd_steady (c : StoreClass) (b : BitVec 8) (os : List (Fin 8 × EraseOutcome)) (s : State) :
    Steady s (classEraseEnd c b os s) := by
  unfold classEraseEnd
  dsimp only
  split
  · exact odometerEraseEnd_steady os s
  · exact (pairEraseEnd_apart .trip _ s).steady
  · exact (pairEraseEnd_apart .service _ s).steady
  · exact (externalEraseEnd_apart b os s).steady

theorem reportErase_steady {s t : State} (h : reportErase s = some t) : Steady s t := by
  unfold reportErase at h
  split at h
  · cases h
  · rename_i j _
    cases h
    have hdrop : Steady s { s with store := s.store.dropStep j } := ⟨rises_withStore id, rfl⟩
    exact hdrop.trans (classEraseEnd_steady _ _ _ _)

theorem pairPump_steady {p : PairId} {s t : State} (h : pairPump p s = some t) : Steady s t := by
  unfold pairPump at h
  split at h
  · cases h
  · rename_i step job _
    cases h
    have hpair := setPair_apart p { s.pair p with out := true, job := job } s
    have hplaced := steady_place (s.setPair p { s.pair p with out := true, job := job }) p.cls step
    rw [hpair.store] at hplaced
    exact hpair.steady.trans hplaced

theorem takeNext_steady {s t : State} (h : takeNext s = some t) : Steady s t := by
  obtain ⟨x, hx, rfl⟩ := Option.map_eq_some_iff.mp h
  exact ⟨rises_withStore fun hscan => absurd hscan (Store.take_ctl hx), Store.take_mem _ _ hx⟩

theorem settleOnce_steady {s t : State} (h : settleOnce s = some t) : Steady s t := by
  unfold settleOnce at h
  rcases orElse_some h with h | h
  · exact (reportSave_apart h).steady
  rcases orElse_some h with h | h
  · exact (reportSave_apart h).steady
  rcases orElse_some h with h | h
  · exact reportErase_steady h
  rcases orElse_some h with h | h
  · exact odometerPump_steady h
  rcases orElse_some h with h | h
  · exact pairPump_steady h
  rcases orElse_some h with h | h
  · exact pairPump_steady h
  · exact takeNext_steady h

theorem settleFor_steady (n : Nat) (s : State) : Steady s (settleFor n s) := by
  induction n generalizing s with
  | zero => exact .refl s
  | succ n ih =>
    unfold settleFor
    split
    · rename_i t h
      exact (settleOnce_steady h).trans (ih t)
    · exact .refl s

theorem settle_steady (s : State) : Steady s (settle s) := settleFor_steady s.settleBound s

/-- What settles behind a steady operation. -/
theorem Steady.settled {s t : State} (h : Steady s t) : Steady s (settle t) := h.trans (settle_steady t)

/-! ### Completions and the scan (R65, R66, R69, R71, R86 to R88) -/

/-- The end of a program, where one runs: the store's part, an event if it was EXCEEDED, and the class's part (R65). -/
theorem storeProgramEnd_cases (worn : Bool) (s : State) : storeProgramEnd worn s = s ∨
    ∃ r x u, s.store.programEnd worn = some (r, x) ∧ Apart { s with store := x } u ∧
      storeProgramEnd worn s = settle (classProgramEnd r u) := by
  unfold storeProgramEnd
  split
  · exact .inl rfl
  · rename_i r x hx
    exact .inr ⟨r, x, _, hx, .ite (report_apart _ _) (.refl _), rfl⟩

/-- The end of a sector's erase, where one runs: the store's part, and an event if it failed (R66, R70). -/
theorem sectorEraseEnd_cases (failed : Bool) (raised : List Word) (s : State) : sectorEraseEnd failed raised s = s ∨
    ∃ k x u, s.store.eraseEnd failed raised = some (k, x) ∧ Apart { s with store := x } u ∧
      sectorEraseEnd failed raised s = settle u := by
  unfold sectorEraseEnd
  split
  · exact .inl rfl
  · rename_i k x hx
    exact .inr ⟨k, x, _, hx, .ite (report_apart _ _) (.refl _), rfl⟩

theorem storeProgramEnd_rises (worn : Bool) (s : State) : Rises s (storeProgramEnd worn s) := by
  rcases storeProgramEnd_cases worn s with h | ⟨r, x, u, hx, hu, h⟩ <;> rw [h]
  · exact (Steady.refl s).toRises
  · have hctl := Store.programEnd_ctl hx
    have hended : Rises s { s with store := x } := rises_withStore fun hscan => absurd hscan hctl
    exact hended.trans (hu.steady.trans (classProgramEnd_steady r (hu.store.symm ▸ hctl)).settled).toRises

theorem sectorEraseEnd_rises (failed : Bool) (raised : List Word) (s : State) :
    Rises s (sectorEraseEnd failed raised s) := by
  rcases sectorEraseEnd_cases failed raised s with h | ⟨k, x, u, hx, hu, h⟩ <;> rw [h]
  · exact (Steady.refl s).toRises
  · have hended : Rises s { s with store := x } := rises_withStore fun hscan => absurd hscan (Store.eraseEnd_ctl hx)
    exact hended.trans hu.steady.settled.toRises

theorem eraseWindowExpiry_steady (s : State) : Steady s (eraseWindowExpiry s) :=
  Steady.settled ⟨rises_withStore Store.windowExpiry_ctl, Store.windowExpiry_mem _⟩

theorem suspensionReached_steady (s : State) : Steady s (suspensionReached s) :=
  Steady.settled ⟨rises_withStore Store.suspensionReached_ctl, Store.suspensionReached_mem _⟩

/-- The Odometer's recovery leaves the store, and a SET ODOMETER in progress with the odometer INVALID (R87, log entry
21). -/
theorem recoverOdometer_reads (s : State) : (recoverOdometer s).store = s.store ∧
    ((recoverOdometer s).odometer.setting.isSome = true → (recoverOdometer s).odometer.valid = false) := by
  unfold recoverOdometer
  dsimp only
  split
  · rename_i k hk
    refine ⟨(shownNotice_apart _).store, fun h => ?_⟩
    rw [(shownNotice_apart _).odometer] at h
    have hsetting : s.odometer.setting.isSome = true := h
    rw [if_pos hsetting] at hk
    cases hk
  · refine ⟨(setOdoFault_apart _ _).store.trans (shownNotice_apart _).store, fun _ => ?_⟩
    rw [(setOdoFault_apart _ _).odometer]
    exact congrArg Odometer.valid (shownNotice_apart _).odometer

/-- The scan begins with the odometer INVALID, so that its end has no shown value to lower. -/
theorem scanComplete_steady (s : State) : Steady s (scanComplete s) := by
  unfold scanComplete
  split
  · rename_i hscan
    dsimp only
    have hstart := buildStartUp_apart { s with
      store := { s.store with ctl := .ready, flags := scanFlags s.store.mem s.store.flags },
      handler := { s.handler with startUp := some (scanCodes s.store.mem) } }
    generalize buildStartUp _ = u at hstart ⊢
    obtain ⟨hstore, hset⟩ := recoverOdometer_reads u
    have hodometer : Steady s (recoverOdometer u) := by
      rw [hstart.store] at hstore
      refine ⟨.of_invalid (fun h => h.2 hscan) fun _ => ⟨hset, fun h => ?_⟩, by rw [hstore]⟩
      rw [hstore] at h
      cases h
    have hpairs := ((recoverPair_apart .trip (recoverOdometer u)).trans (recoverTrips_apart _)).trans
      ((recoverPair_apart .service _).trans (recoverRecords_apart _))
    exact (hodometer.trans hpairs.steady).settled
  · exact .refl s

end Sys2Proof.Machine
end

section
/-! PROOF. The commands: what every event and every request but the ends of store operations, a loss of power and a
power-on reset leaves of the store's words, of the order of the state and of the odometer's shown value. -/

namespace Sys2Proof.Machine

/-! ### Notices and the key (R10, R19, R20, R43, R193) -/

theorem applyDistance_steady (k delta : Nat) (s : State) : Steady s (applyDistance k delta s) := by
  have hrest := (Apart.refl s).withTrip { s.trip with residueE := (divideResidue s.trip.residueE delta k).2 }
  exact .ite hrest.steady
    ((hrest.trans (addToRecords_recordFrame _ _ _).apart).steady.trans (addMetres_steady _ _))

theorem rollingCount_steady (t : TripSetup) (fuel : Bool) (count : Nat) (seeded : Bool) (s : State) :
    Steady s (rollingCount t fuel count seeded s) := by
  have hbase := (Apart.refl s).withTrip (s.trip.setBase fuel (some count))
  unfold rollingCount
  dsimp only
  split
  · exact .ite (hbase.trans (report_apart _ _)).steady
      (.ite (.ite (hbase.trans (applyFuel_apart _ _ _)).steady (hbase.steady.trans (applyDistance_steady _ _ _)))
        hbase.steady)
  · exact hbase.steady

theorem rollingNotice_steady (t : TripSetup) (fuel : Bool) (n : Notice) (s : State) :
    Steady s (rollingNotice t fuel n s) := by
  unfold rollingNotice
  split
  · exact rollingCount_steady t fuel _ _ s
  · exact .refl s
  · exact .refl s
  · exact ((Apart.refl s).withTrip _).steady

theorem tripNotice_steady (c : Fin 48) (n : Notice) (s : State) : Steady s (tripNotice c n s) := by
  unfold tripNotice
  split
  · exact .refl s
  · rename_i t _
    have hdistance := Steady.ite (p := t.distance = c) (rollingNotice_steady t false n s) (.refl s)
    exact .ite (hdistance.trans (rollingNotice_steady t true n _)) hdistance

theorem deliver_steady (c : Fin 48) (n : Notice) (s : State) : Steady s (deliver c n s) := by
  have hblocks := (gaugeNotice_apart c n s).trans (warnChannel_frame c n _).apart
  have htrip := (hblocks.steady.trans (tripNotice_steady c n _)).settled
  exact htrip.trans ((displayNotice_apart c n _).trans (chimeNotice_apart c n _)).steady

theorem channelTake_steady (s : State) : Steady s (channelTake s) := by
  unfold channelTake
  split
  · exact .refl s
  · rename_i fr rest _
    have hupdate : Apart s (updateStage fr { s with loop := ({ s.loop with tapQ := rest }).holdTake }) := ⟨rfl, rfl⟩
    exact hupdate.steady.trans
      (.foldl (fun (t : State) (n : Fin 48 × Notice) => deliver_steady n.1 n.2 t) _ _)

theorem freshnessExpiry_steady (c : Fin 48) (s : State) : Steady s (freshnessExpiry c s) := by
  unfold freshnessExpiry
  dsimp only
  split
  · exact .refl s
  · exact (setChannel_apart c _ s).steady.trans (deliver_steady c .stale _)

theorem disableChannel_steady (c : Fin 48) (s : State) : Steady s (disableChannel c s) :=
  (setChannel_apart c _ s).steady.trans (deliver_steady c .stale _)

theorem keyEvent_steady (new : KeyState) (s : State) : Steady s (keyEvent new s) := by
  have hrecorded := ((Apart.refl s).withKey (s.key.record new)).trans (report_apart (.keyChange s.key.state new) _)
  have htrip := (hrecorded.trans (gaugeKey_apart s.key.state new _)).trans (tripKey_apart s.key.state new _)
  have hrest := fun t => ((serviceKey_apart new t).trans (warningKey_apart s.key.state new _)).trans
    (displayKey_apart new _)
  exact htrip.steady.settled.trans (hrest _).steady

theorem keySample_steady (found : Lines) (s : State) : Steady s (keySample found s) :=
  .ite (((Apart.refl s).withKey _).steady.trans (keyEvent_steady _ _)) ((Apart.refl s).withKey _).steady

theorem buttonServiceReset_steady (i : Fin 8) (s : State) : Steady s (buttonServiceReset i s) :=
  .ite (takeServiceReset_apart i .button s).steady.settled
    (((Apart.refl s).withDisplay _).trans (rebuild_apart _)).steady

theorem hold5s_steady (s : State) : Steady s (hold5s s) := by
  unfold hold5s
  split
  · exact .refl s
  · rename_i p _
    have hpress := ((Apart.refl s).withDisplay { s.display with press := some { p with timer5 := none } }).steady
    refine .ite ?_ (.refl s)
    dsimp only
    split
    · exact .ite (hpress.trans (buttonServiceReset_steady _ _)) hpress
    · exact hpress

theorem idleMillisecond_steady (s : State) : Steady s (idleMillisecond s) :=
  .ite ⟨.of_sum id id rfl le_rfl, rfl⟩ (.refl s)

/-! ### Requests (R180, R181) -/

theorem respond_apart (h : Head) (code : Byte) (restart : Bool) (r : State × Answer) :
    Apart r.1 (respond h code restart r) := by
  unfold respond
  split
  · exact .refl _
  · have hplaced := fun f t => placeResponse_apart f restart t
    exact ⟨(hplaced _ _).store, (hplaced _ _).odometer⟩

/-- The response to a request with a steady effect. -/
theorem Steady.respond {s : State} {r : State × Answer} (k : Steady s r.1) (h : Head) (code : Byte) (restart : Bool) :
    Steady s (Machine.respond h code restart r) := k.trans (respond_apart h code restart r).steady

theorem Apart.respond {s : State} {r : State × Answer} (k : Apart s r.1) (h : Head) (code : Byte) (restart : Bool) :
    Steady s (Machine.respond h code restart r) := k.steady.respond h code restart

theorem pagedAt_apart {n : Nat} (part : Option Byte) (i : Option (Fin n)) (content : Fin n → List Byte) (s : State) :
    Apart s (pagedAt part i content s).1 := by
  unfold pagedAt
  split <;> exact .refl s

/-- One of two answers. -/
theorem Apart.iteAnswer {p : Prop} [Decidable p] {s : State} {q r : State × Answer} (hq : Apart s q.1)
    (hr : Apart s r.1) : Apart s (if p then q else r).1 := by
  split
  · exact hq
  · exact hr

theorem Steady.iteAnswer {p : Prop} [Decidable p] {s : State} {q r : State × Answer} (hq : Steady s q.1)
    (hr : Steady s r.1) : Steady s (if p then q else r).1 := by
  split
  · exact hq
  · exact hr

theorem Steady.answer {s t : State} (h : Steady s t) (a : Answer) : Steady s (t, a).1 := h

section Requests
variable (s : State)

theorem refuse_apart (st : Status) : Apart s (refuse st s).1 := .refl s

theorem reqWriteChannel_apart (ch tag origin kind offset bit curve timeout shift debounce : Byte) :
    Apart s (reqWriteChannel ch tag origin kind offset bit curve timeout shift debounce s).1 := by
  unfold reqWriteChannel
  split
  · exact refuse_apart s _
  · refine .iteAnswer (refuse_apart s _) ?_
    split
    · exact refuse_apart s _
    · exact setChannel_apart _ _ s

theorem reqEnableChannel_apart (ch : Byte) : Apart s (reqEnableChannel ch s).1 := by
  unfold reqEnableChannel
  split
  · exact refuse_apart s _
  · split
    · exact refuse_apart s _
    · exact .iteAnswer (refuse_apart s _) (.iteAnswer (.refl s) (setChannel_apart _ _ s))

theorem reqDisableChannel_steady (ch : Byte) : Steady s (reqDisableChannel ch s).1 := by
  unfold reqDisableChannel
  split
  · exact (refuse_apart s _).steady
  · rename_i c _
    exact .iteAnswer ((disableChannel_steady c s).answer _) (.refl s)

theorem reqCurvePoint_apart (curve slot : Byte) (x : BitVec 24) (y : Word) :
    Apart s (reqCurvePoint curve slot x y s).1 := by
  unfold reqCurvePoint
  split
  · exact .iteAnswer (refuse_apart s _) (.iteAnswer (refuse_apart s _) ⟨rfl, rfl⟩)
  · exact refuse_apart s _

theorem reqCommitCurve_apart (curve count : Byte) : Apart s (reqCommitCurve curve count s).1 := by
  unfold reqCommitCurve
  split
  · exact refuse_apart s _
  · exact .iteAnswer (refuse_apart s _) (.iteAnswer ⟨rfl, rfl⟩ (refuse_apart s _))

theorem reqReadCurve_apart (curve slot : Byte) (part : Option Byte) : Apart s (reqReadCurve curve slot part s).1 := by
  unfold reqReadCurve
  split
  · exact .iteAnswer (refuse_apart s _) (pagedAt_apart _ _ _ s)
  · exact refuse_apart s _

theorem reqWriteGauge_apart (g source curve damping slew : Byte) (park : Word) (flags : Byte) (dial : Word) :
    Apart s (reqWriteGauge g source curve damping slew park flags dial s).1 := by
  unfold reqWriteGauge
  split
  · exact refuse_apart s _
  · refine .iteAnswer (refuse_apart s _) ?_
    split
    · exact refuse_apart s _
    · exact ⟨rfl, rfl⟩

theorem reqEnableGauge_apart (g : Byte) : Apart s (reqEnableGauge g s).1 := by
  unfold reqEnableGauge
  split
  · exact refuse_apart s _
  · exact .iteAnswer (refuse_apart s _) (.iteAnswer (refuse_apart s _) (.iteAnswer (.refl s) ⟨rfl, rfl⟩))

theorem reqDisableGauge_apart (g : Byte) : Apart s (reqDisableGauge g s).1 := by
  unfold reqDisableGauge
  split
  · exact refuse_apart s _
  · exact .iteAnswer ⟨rfl, rfl⟩ (.refl s)

theorem reqWriteTripSetup_apart (distance fuel speed level : Byte) (pulses units maxDelta : Word)
    (gapDefault : BitVec 24) :
    Apart s (reqWriteTripSetup distance fuel speed level pulses units maxDelta gapDefault s).1 := by
  refine .iteAnswer (refuse_apart s _) ?_
  split
  · exact refuse_apart s _
  · exact (Apart.refl s).withTrip _

theorem reqSnapshotTrip_apart (r : Byte) : Apart s (reqSnapshotTrip r s).1 := by
  unfold reqSnapshotTrip
  split
  · exact refuse_apart s _
  · split
    · exact .refl s
    · exact (Apart.refl s).withTrip _

theorem reqReadTrip_apart (r : Byte) : Apart s (reqReadTrip r s).1 := by
  unfold reqReadTrip
  split
  · exact refuse_apart s _
  · dsimp only
    split
    · exact (Apart.refl s).withTrip _
    · exact .refl s

theorem reqResetTrip_apart (r : Byte) : Apart s (reqResetTrip r s).1 := by
  unfold reqResetTrip
  split
  · exact refuse_apart s _
  · exact resetTrip_apart _ _ s

theorem reqStoreProgram_steady (h : Head) (addr : Byte) (value : Word) : Steady s (reqStoreProgram h addr value s).1 :=
  have hplaced : Steady s { s with
      handler := { s.handler with ext := some (.program (addrOf addr)), extRequester := some (requesterOf h 0x41) },
      store := s.store.place .external (.program (addrOf addr) value) } :=
    (steady_place s .external (.program (addrOf addr) value)).trans (Apart.steady ⟨rfl, rfl⟩)
  .iteAnswer (refuse_apart s _).steady (.iteAnswer (refuse_apart s _).steady
    (.iteAnswer (refuse_apart s _).steady hplaced.settled))

theorem reqStoreErase_steady (h : Head) (sectors : Byte) : Steady s (reqStoreErase h sectors s).1 :=
  have hplaced : Steady s { s with
      handler := { s.handler with ext := some (.erase sectors), extRequester := some (requesterOf h 0x42) },
      store := s.store.place .external (.erase (sectors &&& 0xC0)) } :=
    (steady_place s .external (.erase (sectors &&& 0xC0))).trans (Apart.steady ⟨rfl, rfl⟩)
  .iteAnswer (refuse_apart s _).steady (.iteAnswer (refuse_apart s _).steady
    (.iteAnswer (refuse_apart s _).steady (.iteAnswer (.refl s) hplaced.settled)))

/-- A SET ODOMETER is accepted only with the odometer INVALID (R89). -/
theorem reqSetOdometer_steady (h : Head) (value : BitVec 24) : Steady s (reqSetOdometer h value s).1 := by
  refine .iteAnswer (refuse_apart s _).steady ?_
  by_cases hvalid : s.odometer.valid = true
  · rw [if_pos hvalid]
    exact (refuse_apart s _).steady
  · rw [if_neg hvalid]
    have hinvalid : s.odometer.valid = false := Bool.eq_false_iff.mpr hvalid
    exact .iteAnswer (refuse_apart s _).steady (.iteAnswer (refuse_apart s _).steady
      (Steady.settled ⟨.of_invalid (fun _ => hinvalid) fun _ => ⟨fun _ => hinvalid, fun _ => hinvalid⟩, rfl⟩))

theorem reqWriteServiceItem_apart (item message : Byte) (intervalKm intervalDays advanceKm overdueKm : Word)
    (advOverDays : BitVec 24) : Apart s
      (reqWriteServiceItem item message intervalKm intervalDays advanceKm overdueKm advOverDays s).1 := by
  unfold reqWriteServiceItem
  split
  · exact refuse_apart s _
  · split
    · exact refuse_apart s _
    · exact (setItem_apart _ _ s).trans (evaluateItem_apart _ _)

theorem reqEnableServiceItem_apart (item : Byte) : Apart s (reqEnableServiceItem item s).1 := by
  unfold reqEnableServiceItem
  split
  · exact refuse_apart s _
  · exact .iteAnswer (refuse_apart s _)
      (.iteAnswer (.refl s) ((setItem_apart _ _ s).trans (evaluateItem_apart _ _)))

theorem reqDisableServiceItem_apart (item : Byte) : Apart s (reqDisableServiceItem item s).1 := by
  unfold reqDisableServiceItem
  split
  · exact refuse_apart s _
  · exact .iteAnswer ((setItem_apart _ _ s).trans (noteStage_apart _ _ _ _)) (.refl s)

theorem reqServiceReset_steady (item : Byte) : Steady s (reqServiceReset item s).1 := by
  unfold reqServiceReset
  split
  · exact (refuse_apart s _).steady
  · exact .iteAnswer (takeServiceReset_apart _ _ s).steady.settled (refuse_apart s _).steady

theorem reqWriteWarningCondition_apart (w kind subject : Byte) (threshold hysteresis : Word) (counts keyGate : Byte)
    (speedGate : Word) (staleAction minStage : Byte) : Apart s
      (reqWriteWarningCondition w kind subject threshold hysteresis counts keyGate speedGate staleAction minStage s).1 := by
  unfold reqWriteWarningCondition
  split
  · exact refuse_apart s _
  · refine .iteAnswer (refuse_apart s _) ?_
    split
    · exact refuse_apart s _
    · exact setWarning_apart _ _ s

theorem reqWriteWarningAction_apart (w priority latch chime message lamp routing present remind : Byte) :
    Apart s (reqWriteWarningAction w priority latch chime message lamp routing present remind s).1 := by
  unfold reqWriteWarningAction
  split
  · exact refuse_apart s _
  · refine .iteAnswer (refuse_apart s _) ?_
    split
    · exact refuse_apart s _
    · exact setWarning_apart _ _ s

theorem reqEnableWarning_apart (w : Byte) : Apart s (reqEnableWarning w s).1 := by
  unfold reqEnableWarning
  split
  · exact refuse_apart s _
  · exact .iteAnswer (refuse_apart s _) (.iteAnswer (.refl s) (enableWarning_apart _ s))

theorem reqDisableWarning_apart (w : Byte) : Apart s (reqDisableWarning w s).1 := by
  unfold reqDisableWarning
  split
  · exact refuse_apart s _
  · exact .iteAnswer (disableWarning_apart _ s) (.refl s)

theorem reqMaskWarning_apart (w : Byte) : Apart s (reqMaskWarning w s).1 := by
  unfold reqMaskWarning
  split
  · exact refuse_apart s _
  · exact .iteAnswer (.refl s) (maskWarning_apart _ s)

theorem reqUnmaskWarning_apart (w : Byte) : Apart s (reqUnmaskWarning w s).1 := by
  unfold reqUnmaskWarning
  split
  · exact refuse_apart s _
  · exact .iteAnswer (unmaskWarning_apart _ s) (.refl s)

theorem reqWriteChimeSegment_apart (p slot : Byte) (divisor : Word) (on off : Byte) :
    Apart s (reqWriteChimeSegment p slot divisor on off s).1 := by
  unfold reqWriteChimeSegment
  split
  · exact .iteAnswer (refuse_apart s _) (.iteAnswer (refuse_apart s _) ⟨rfl, rfl⟩)
  · exact refuse_apart s _

theorem reqWriteChimePattern_apart (p repeats segments : Byte) :
    Apart s (reqWriteChimePattern p repeats segments s).1 := by
  unfold reqWriteChimePattern
  split
  · exact refuse_apart s _
  · exact .iteAnswer (refuse_apart s _)
      (.iteAnswer (refuse_apart s _) (.iteAnswer (refuse_apart s _) ⟨rfl, rfl⟩))

theorem reqWriteChimeSetup_apart (tickChannel tickPattern answerPattern : Byte) :
    Apart s (reqWriteChimeSetup tickChannel tickPattern answerPattern s).1 := by
  unfold reqWriteChimeSetup
  split
  · exact ⟨rfl, rfl⟩
  · exact refuse_apart s _

theorem reqReadChimePattern_apart (p slot : Byte) (part : Option Byte) :
    Apart s (reqReadChimePattern p slot part s).1 := by
  unfold reqReadChimePattern
  split
  · exact .iteAnswer (refuse_apart s _) (pagedAt_apart _ _ _ s)
  · exact refuse_apart s _

theorem reqWriteMessage_apart (message chunk : Byte) (chars : Vector Byte 10) :
    Apart s (reqWriteMessage message chunk chars s).1 := by
  unfold reqWriteMessage
  split
  · exact refuse_apart s _
  · exact .iteAnswer (refuse_apart s _) (((Apart.refl s).withDisplay _).trans (rebuild_apart _))

theorem reqWriteDisplaySetup_apart (button temperature offDelay : Byte) (idleTime : Word)
    (mcBrightness rpBrightness : Byte) :
    Apart s (reqWriteDisplaySetup button temperature offDelay idleTime mcBrightness rpBrightness s).1 := by
  unfold reqWriteDisplaySetup
  split
  · exact .iteAnswer (((Apart.refl s).withDisplay _).trans (rebuild_apart _)) (refuse_apart s _)
  · exact refuse_apart s _

theorem reqEvents_apart (set : Byte) : Apart s (reqEvents set s).1 := .iteAnswer (refuse_apart s _) ⟨rfl, rfl⟩

theorem reqStoreDump_apart (h : Head) (start : Byte) (count : Word) : Apart s (reqStoreDump h start count s).1 := by
  refine .iteAnswer (refuse_apart s _) ?_
  split
  · exact refuse_apart s _
  · exact ⟨rfl, rfl⟩

theorem reqDumpAbort_apart : Apart s (reqDumpAbort s).1 := by
  unfold reqDumpAbort
  split
  · exact refuse_apart s _
  · exact ⟨rfl, rfl⟩
  · exact .refl s

theorem reqDumpResume_apart (h : Head) : Apart s (reqDumpResume h s).1 := by
  unfold reqDumpResume
  split
  · exact ⟨rfl, rfl⟩
  · exact refuse_apart s _

theorem reqSetClock_apart (seconds : BitVec 24) (day : Word) : Apart s (reqSetClock seconds day s).1 :=
  .iteAnswer (refuse_apart s _) (setClock_apart _ _ s)

end Requests

/-- The dump frames that follow a response (R188). -/
theorem Apart.respondFill {s : State} {r : State × Answer} (k : Apart s r.1) (h : Head) (code : Byte)
    (restart : Bool) : Steady s (dumpFill (Machine.respond h code restart r)) :=
  (k.respond h code restart).trans (dumpFor_apart 6 _).steady

/-- Every request that is carried out is steady; a row that is no request does nothing here. -/
theorem serve_steady (i : Instr) (s : State) : Steady s (serve i s) := by
  cases i with
  | unknownRequest => exact (refuse_apart s _).respond _ _ _
  | writeChannel => exact (reqWriteChannel_apart s ..).respond _ _ _
  | enableChannel => exact (reqEnableChannel_apart s _).respond _ _ _
  | disableChannel => exact (reqDisableChannel_steady s _).respond _ _ _
  | curvePoint => exact (reqCurvePoint_apart s ..).respond _ _ _
  | commitCurve => exact (reqCommitCurve_apart s ..).respond _ _ _
  | readChannelSetup => exact (pagedAt_apart _ _ _ s).respond _ _ _
  | readChannel => exact (pagedAt_apart _ _ _ s).respond _ _ _
  | readCurve => exact (reqReadCurve_apart s ..).respond _ _ _
  | writeGauge => exact (reqWriteGauge_apart s ..).respond _ _ _
  | enableGauge => exact (reqEnableGauge_apart s _).respond _ _ _
  | disableGauge => exact (reqDisableGauge_apart s _).respond _ _ _
  | readGaugeSetup => exact (pagedAt_apart _ _ _ s).respond _ _ _
  | readGauge => exact (pagedAt_apart _ _ _ s).respond _ _ _
  | writeTripSetup => exact (reqWriteTripSetup_apart s ..).respond _ _ _
  | readTripFigures => exact (pagedAt_apart _ _ _ s).respond _ _ _
  | snapshotTrip => exact (reqSnapshotTrip_apart s _).respond _ _ _
  | readTrip => exact (reqReadTrip_apart s _).respond _ _ _
  | resetTrip => exact (reqResetTrip_apart s _).respond _ _ _
  | storeProgram => exact (reqStoreProgram_steady s ..).respond _ _ _
  | storeErase => exact (reqStoreErase_steady s ..).respond _ _ _
  | setOdometer => exact (reqSetOdometer_steady s ..).respond _ _ _
  | writeServiceItem => exact (reqWriteServiceItem_apart s ..).respond _ _ _
  | enableServiceItem => exact (reqEnableServiceItem_apart s _).respond _ _ _
  | disableServiceItem => exact (reqDisableServiceItem_apart s _).respond _ _ _
  | readServiceItem => exact (pagedAt_apart _ _ _ s).respond _ _ _
  | serviceReset => exact (reqServiceReset_steady s _).respond _ _ _
  | writeWarningCondition => exact (reqWriteWarningCondition_apart s ..).respond _ _ _
  | writeWarningAction => exact (reqWriteWarningAction_apart s ..).respond _ _ _
  | enableWarning => exact (reqEnableWarning_apart s _).respond _ _ _
  | disableWarning => exact (reqDisableWarning_apart s _).respond _ _ _
  | maskWarning => exact (reqMaskWarning_apart s _).respond _ _ _
  | unmaskWarning => exact (reqUnmaskWarning_apart s _).respond _ _ _
  | readWarningSetup => exact (pagedAt_apart _ _ _ s).respond _ _ _
  | readWarning => exact (pagedAt_apart _ _ _ s).respond _ _ _
  | writeChimeSegment => exact (reqWriteChimeSegment_apart s ..).respond _ _ _
  | writeChimePattern => exact (reqWriteChimePattern_apart s ..).respond _ _ _
  | writeChimeSetup => exact (reqWriteChimeSetup_apart s ..).respond _ _ _
  | readChimePattern => exact (reqReadChimePattern_apart s ..).respond _ _ _
  | writeMessage => exact (reqWriteMessage_apart s ..).respond _ _ _
  | readMessage => exact (pagedAt_apart _ _ _ s).respond _ _ _
  | writeDisplaySetup => exact (reqWriteDisplaySetup_apart s ..).respond _ _ _
  | assertHold => exact ((Apart.refl s).withLoop _).respond (r := reqAssertHold s) _ _ _
  | clearHold => exact ((Apart.refl s).withLoop _).respond (r := reqClearHold s) _ _ _
  | events => exact (reqEvents_apart s _).respond _ _ _
  | restart => exact Apart.respond (s := s) (r := reqRestart s) ⟨rfl, rfl⟩ _ _ _
  | storeDump => exact (reqStoreDump_apart s ..).respondFill _ _ _
  | dumpAbort => exact (reqDumpAbort_apart s).respond _ _ _
  | dumpResume => exact (reqDumpResume_apart s _).respondFill _ _ _
  | setClock => exact (reqSetClock_apart s ..).respond _ _ _
  | readTripSetup | readStore | readOdometer | readLamps | readChimeSetup | readChimes | readDisplaySetup | readDisplay
  | readLoop | readStatus | readClock => exact Apart.respond (r := paged _ _ s) (.refl s) _ _ _
  | _ => exact .refl s

/-! ### The request handler and RESTART (R166, R170, R171, R180, R182, R184) -/

theorem pumpFor_steady (n : Nat) (s : State) : Steady s (pumpFor n s) := by
  induction n generalizing s with
  | zero => exact .refl s
  | succ n ih =>
    unfold pumpFor
    split
    · exact .refl s
    · exact .ite ((((Apart.refl s).withLoop _).steady.trans (serve_steady _ _)).trans (ih _)) (.refl s)

theorem pump_steady (s : State) : Steady s (pump s) := pumpFor_steady _ s

theorem frameReceived_steady (bytes : Frame) (longGap stopMissing : Bool) (s : State) :
    Steady s (frameReceived bytes longGap stopMissing s) :=
  .ite ((treatFrame_apart bytes s).steady.trans (pump_steady _)) (.refl s)

theorem arrive_steady (i : Instr) (s : State) : Steady s (arrive i s) := by
  unfold arrive
  split
  · exact .refl s
  · exact .ite (serve_steady i s) (frameReceived_steady _ _ _ s)

theorem placeHeld_steady (s : State) : Steady s (placeHeld s) := by
  unfold placeHeld
  split
  · rename_i f rest _
    have hplaced : Apart s (insertFrame f false { s with handler := { s.handler with held := rest } }) := ⟨rfl, rfl⟩
    exact .ite (hplaced.steady.trans (pump_steady _)) (.refl s)
  · exact .refl s

theorem takeFor_steady (n : Nat) (s : State) : Steady s (takeFor n s) := by
  induction n generalizing s with
  | zero => exact .refl s
  | succ n ih =>
    unfold takeFor
    split
    · exact .refl s
    · have hserved := fun l i => ((Apart.refl s).withLoop l).steady.trans (serve_steady i _)
      exact .ite (.ite (hserved _ _) ((hserved _ _).trans (ih _))) (.refl s)

theorem handlerTurn_steady (s : State) : Steady s (handlerTurn s) := by
  unfold handlerTurn
  split
  · exact .ite (Apart.steady ⟨rfl, rfl⟩) (.refl s)
  · exact takeFor_steady _ s

theorem offerRound_steady (s : State) : Steady s (offerRound s) :=
  (handlerTurn_steady s).trans
    (((buildStartUp_apart _).trans (buildEvent_apart _)).trans (buildDump_apart _)).steady

theorem offerFor_steady (n : Nat) (s : State) : Steady s (offerFor n s) := by
  induction n generalizing s with
  | zero => exact .refl s
  | succ n ih => exact .ite ((offerRound_steady s).trans (ih _)) (.refl s)

theorem restartNow_apart (s : State) : Apart s (restartNow s) := by
  have hblocks : Apart s (restartBlocks s) := ⟨rfl, rfl⟩
  have htaken := ((hblocks.trans (buildStartUp_apart _)).trans (evaluateAll_apart _)).trans
    (testGates_frame _).apart
  exact checkShutdown_withDisplay_apart ((notifyAfter_apart htaken).trans (rebuild_apart _)) _

theorem transmitStart_steady (s : State) : Steady s (transmitStart s) :=
  .ite (((Apart.refl s).withLoop _).steady.trans (offerFor_steady _ _)) ((Apart.refl s).withLoop _).steady

theorem frameSent_apart (s : State) : Apart s (frameSent s) :=
  .ite (((Apart.refl s).withLoop _).trans (restartNow_apart _)) ((Apart.refl s).withLoop _)

/-! ### Every command (R66, R79) -/

/-- A command with the supply standing does what its meaning does, and nothing without it. -/
theorem next_of_live {f : State → State} {s t : State} (h : live f s = .next t) : t = f s ∨ t = s := by
  unfold live at h
  cases h
  split
  · exact .inl rfl
  · exact .inr rfl

theorem Steady.ofLive {f : State → State} {s t : State} (k : Steady s (f s)) (h : live f s = .next t) : Steady s t := by
  rcases next_of_live h with rfl | rfl
  · exact k
  · exact .refl _

theorem Rises.ofLive {f : State → State} {s t : State} (k : Rises s (f s)) (h : live f s = .next t) : Rises s t := by
  rcases next_of_live h with rfl | rfl
  · exact k
  · exact (Steady.refl _).toRises

/-- The commands that write the store's words: the ends of a program and of a sector's erase, a loss of power and a
power-on reset (R64 to R66). -/
def Instr.WritesWords (i : Instr) : Prop :=
  (∃ worn, i = .programEnd worn) ∨ (∃ failed raised, i = .sectorEraseEnd failed raised) ∨
    (∃ held raised, i = .powerLoss held raised) ∨ (∃ straps held raised, i = .powerOnReset straps held raised)

theorem exec_steady {i : Instr} {s t : State} (hi : ¬ Instr.WritesWords i) (h : exec i s = .next t) : Steady s t := by
  unfold Instr.WritesWords at hi
  push Not at hi
  obtain ⟨hprogram, herase, hloss, hreset⟩ := hi
  cases i with
  | programEnd worn => exact absurd rfl (hprogram worn)
  | sectorEraseEnd failed raised => exact absurd rfl (herase failed raised)
  | powerLoss held raised => exact absurd rfl (hloss held raised)
  | powerOnReset straps held raised => exact absurd rfl (hreset straps held raised)
  | loopFrameReceived => exact (frameReceived_steady _ _ _ s).ofLive h
  | loopTransmitStart => exact (transmitStart_steady s).ofLive h
  | loopFrameSent => exact (frameSent_apart s).steady.ofLive h
  | returnTimerExpiry => exact (returnExpiry_apart s).steady.ofLive h
  | holdListTimerExpiry => exact (holderExpiry_apart _ s).steady.ofLive h
  | refreshTimerExpiry =>
    exact Steady.ofLive (f := fun t => { t with loop := t.loop.refreshExpiry }) (Apart.steady ⟨rfl, rfl⟩) h
  | broadcastTimerExpiry => exact (broadcastExpiry_apart s).steady.ofLive h
  | channelTake => exact (channelTake_steady s).ofLive h
  | freshnessExpiry => exact (freshnessExpiry_steady _ s).ofLive h
  | driveUpdate => exact (driveUpdate_apart _ s).steady.ofLive h
  | keySample => exact (keySample_steady _ s).ofLive h
  | settleTimerExpiry => exact (settleTimerExpiry_apart s).steady.ofLive h
  | secondsEvent => exact (secondsEvent_apart s).steady.ofLive h
  | bulbCheckExpiry => exact ((Apart.refl s).withWarnings _).steady.ofLive h
  | presentTimerExpiry => exact (presentExpiry_apart _ s).steady.ofLive h
  | remindTimerExpiry => exact (remindExpiry_apart _ s).steady.ofLive h
  | toneEnd z => exact Steady.ofLive (f := fun t => { t with chime := t.chime.toneEnd z }) (Apart.steady ⟨rfl, rfl⟩) h
  | gapEnd z => exact Steady.ofLive (f := fun t => { t with chime := t.chime.gapEnd z }) (Apart.steady ⟨rfl, rfl⟩) h
  | eraseWindowExpiry => exact (eraseWindowExpiry_steady s).ofLive h
  | suspensionReached => exact (suspensionReached_steady s).ofLive h
  | scanComplete => exact (scanComplete_steady s).ofLive h
  | hold2sExpiry => exact (hold2s_apart s).steady.ofLive h
  | hold5sExpiry => exact (hold5s_steady s).ofLive h
  | notAvailableExpiry => exact (notAvailableExpiry_apart s).steady.ofLive h
  | mcOffTimerExpiry => exact (mcOffExpiry_apart s).steady.ofLive h
  | dlWakeAsserted => exact ((Apart.refl s).withDisplay _).steady.ofLive h
  | linkSettleExpiry => exact (settleExpiry_apart s).steady.ofLive h
  | linkStartSent => exact (linkStartSent_apart s).steady.ofLive h
  | packetDone => exact (packetDone_apart s).steady.ofLive h
  | packetSent => exact (packetSent_apart s).steady.ofLive h
  | pollTimerExpiry => exact (pollExpiry_apart s).steady.ofLive h
  | statusReply => exact (replyTaken_apart _ s).steady.ofLive h
  | replyWindowExpiry => exact (replyWindowExpiry_apart s).steady.ofLive h
  | rpIdleTimerExpiry => exact (rpIdleExpiry_apart s).steady.ofLive h
  | linkShutdownSend => exact (linkShutdownSend_apart s).steady.ofLive h
  | linkShutdownSent => exact (linkShutdownSent_apart s).steady.ofLive h
  | quietTimerExpiry => exact (quietExpiry_apart s).steady.ofLive h
  | heldResponsePlaced => exact (placeHeld_steady s).ofLive h
  | eventFrameBuild => exact (buildEvent_apart s).steady.ofLive h
  | startUpReport => exact (buildStartUp_apart s).steady.ofLive h
  | dumpFrameBuild => exact (buildDump_apart s).steady.ofLive h
  | restartEffect => exact Steady.ofLive (.ite (frameSent_apart s).steady (.refl s)) h
  | _ => exact (arrive_steady _ s).ofLive h

end Sys2Proof.Machine
end

section
/-! PROOF. The statements about every command: no step of the powered part lowers the odometer's shown value (R79), and
no command raises a bit of the store but where an erase of its sector ends or is cut off (R64, R66). -/

namespace Sys2Proof.Machine

/-! ### The shown value (R79) -/

/-- A command that does not take the supply away rises. -/
theorem exec_rises {i : Instr} {s t : State} (hloss : ∀ held raised, i ≠ .powerLoss held raised)
    (hreset : ∀ straps held raised, i ≠ .powerOnReset straps held raised) (h : exec i s = .next t) : Rises s t := by
  by_cases hi : Instr.WritesWords i
  · rcases hi with ⟨worn, rfl⟩ | ⟨failed, raised, rfl⟩ | ⟨held, raised, rfl⟩ | ⟨straps, held, raised, rfl⟩
    · exact (storeProgramEnd_rises worn s).ofLive h
    · exact (sectorEraseEnd_rises failed raised s).ofLive h
    · exact absurd rfl (hloss held raised)
    · exact absurd rfl (hreset straps held raised)
  · exact (exec_steady hi h).toRises

/-- So does a step: the command at the front of the queue, or a millisecond that passes. -/
theorem step_rises {s t : State} (hloss : ∀ held raised, s.pending.head? ≠ some (.powerLoss held raised))
    (hreset : ∀ straps held raised, s.pending.head? ≠ some (.powerOnReset straps held raised)) (h : step s = .next t) :
    Rises s t := by
  unfold step at h
  split at h
  · cases h
    exact (idleMillisecond_steady s).toRises
  · rename_i i rest hpending
    have hfront : s.pending.head? = some i := by rw [hpending]; rfl
    have htaken : Rises s { s with pending := rest } := Apart.rises ⟨rfl, rfl⟩
    refine htaken.trans (exec_rises (fun held raised hi => ?_) (fun straps held raised hi => ?_) h)
    · exact hloss held raised (hfront.trans (congrArg some hi))
    · exact hreset straps held raised (hfront.trans (congrArg some hi))

/-- Settles O26: the state after reset is orderly, and every step of the powered part rises. -/
theorem odometerNeverDecreases : Obligations.OdometerNeverDecreases := by
  refine ⟨⟨fun _ => rfl, fun _ => rfl⟩, fun s t hloss hreset horderly h => ?_⟩
  have hrises := step_rises hloss hreset h
  exact ⟨hrises.orderly horderly, hrises.shown horderly⟩

/-! ### The bits of the store (R64 to R66) -/

/-- A word written as what it holds AND something gains no bit, and no other word does. -/
theorem Memory.read_write_and {m : List (Nat × Word)} {c a b : Nat} {v : Word} (hm : Memory.wf m = true)
    (h : (Memory.read (Memory.write m c (Memory.read m c &&& v)) a).getLsbD b = true) :
    (Memory.read m a).getLsbD b = true := by
  by_cases ha : a = c
  · subst ha
    rw [Memory.read_write_same m 0 a _ hm, BitVec.getLsbD_and, Bool.and_eq_true] at h
    exact h.1
  · rwa [Memory.read_write_other m 0 c a _ hm ha] at h

/-- Rewriting another sector leaves a word of the store. -/
theorem Memory.read_mapSector_outside {m : List (Nat × Word)} {k : Fin 8} {a : Fin 256} (f : Nat → Word → Word)
    (hm : Memory.wf m = true) (hk : sectorOf a ≠ k) :
    Memory.read (Memory.mapSector m k f) a.val = Memory.read m a.val :=
  Memory.read_mapSector_other m k f a.val hm fun h => hk (Fin.ext h)

/-- The store's words after a loss of power but for an erase: a program in progress may have cleared its bits (R64). -/
def Store.cutProgram (x : Store) (held : Word) : List (Nat × Word) :=
  match x.running with
  | some r => Memory.write x.mem r.addr.val (Memory.read x.mem r.addr.val &&& (r.value ||| held))
  | none => x.mem

theorem Store.afterLoss_idle {x : Store} {held : Word} {raised : List Word} (h : x.current = none) :
    x.afterLoss held raised = x.cutProgram held := by
  simp only [Store.afterLoss, h]
  rfl

theorem Store.afterLoss_erasing {x : Store} {held : Word} {raised : List Word} {k : Fin 8} (h : x.current = some k) :
    x.afterLoss held raised =
      Memory.mapSector (x.cutProgram held) k (fun w old => old ||| raised.getD w 0) := by
  simp only [Store.afterLoss, h]
  rfl

theorem Store.wf_cutProgram {x : Store} (held : Word) (hx : Memory.wf x.mem = true) :
    Memory.wf (x.cutProgram held) = true := by
  unfold Store.cutProgram
  split
  · exact Memory.wf_write _ _ _ hx (Fin.isLt _)
  · exact hx

theorem Store.cutProgram_raises_none {x : Store} {held : Word} {a b : Nat} (hx : Memory.wf x.mem = true)
    (h : (Memory.read (x.cutProgram held) a).getLsbD b = true) : (Memory.read x.mem a).getLsbD b = true := by
  unfold Store.cutProgram at h
  split at h
  · exact Memory.read_write_and hx h
  · exact h

/-- A loss of power raises bits in the sector that is being erased only (R64). -/
theorem Store.afterLoss_raises {x : Store} {held : Word} {raised : List Word} {a : Fin 256} {b : Nat}
    (hx : Memory.wf x.mem = true) (hbefore : (Memory.read x.mem a.val).getLsbD b = false)
    (hafter : (Memory.read (x.afterLoss held raised) a.val).getLsbD b = true) : x.current = some (sectorOf a) := by
  have hcut : (Memory.read (x.cutProgram held) a.val).getLsbD b ≠ true := fun h => by
    rw [Store.cutProgram_raises_none hx h] at hbefore
    cases hbefore
  cases hcurrent : x.current with
  | none =>
    rw [Store.afterLoss_idle hcurrent] at hafter
    exact absurd hafter hcut
  | some k =>
    by_cases hsector : sectorOf a = k
    · rw [hsector]
    · rw [Store.afterLoss_erasing hcurrent,
        Memory.read_mapSector_outside _ (Store.wf_cutProgram held hx) hsector] at hafter
      exact absurd hafter hcut

/-- The end of a program writes one word, AND what it held (R65). -/
theorem storeProgramEnd_mem (worn : Bool) (s : State) : storeProgramEnd worn s = s ∨ ∃ (c : Fin 256) (v : Word),
    (storeProgramEnd worn s).store.mem = Memory.write s.store.mem c.val (Memory.read s.store.mem c.val &&& v) := by
  rcases storeProgramEnd_cases worn s with h | ⟨r, x, u, hx, hu, h⟩
  · exact .inl h
  · obtain ⟨run, _, _, hword, hmem⟩ := Store.programEnd_mem _ _ _ _ hx
    refine .inr ⟨run.addr, run.value, ?_⟩
    rw [h, ← hword, ← hmem]
    exact (settle_steady _).mem.trans ((classProgramEnd_kept r u).mem.trans (congrArg Store.mem hu.store))

/-- The end of a sector's erase rewrites the sector that is being erased (R66). -/
theorem sectorEraseEnd_mem (failed : Bool) (raised : List Word) (s : State) : sectorEraseEnd failed raised s = s ∨
    ∃ k, s.store.current = some k ∧
      (sectorEraseEnd failed raised s).store.mem = eraseSector s.store.mem k failed raised := by
  rcases sectorEraseEnd_cases failed raised s with h | ⟨k, x, u, hx, hu, h⟩
  · exact .inl h
  · obtain ⟨hcurrent, hmem⟩ := Store.eraseEnd_mem _ _ _ _ _ hx
    refine .inr ⟨k, hcurrent, ?_⟩
    rw [h, ← hmem]
    exact (settle_steady u).mem.trans (congrArg Store.mem hu.store)

section Bits
variable {s t : State} {a : Fin 256} {b : Nat} (hwf : s.storeWords = true)
  (hbefore : (Memory.read s.store.mem a.val).getLsbD b = false)
  (hafter : (Memory.read t.store.mem a.val).getLsbD b = true)
include hbefore hafter

/-- Words that stay raise no bit. -/
theorem no_bit_raised (h : t.store.mem = s.store.mem) : False := by
  rw [h, hbefore] at hafter
  cases hafter

include hwf

theorem programEnd_raises_none {worn : Bool} (h : exec (.programEnd worn) s = .next t) : False := by
  rcases next_of_live h with rfl | rfl
  · rcases storeProgramEnd_mem worn s with hsame | ⟨c, v, hmem⟩
    · exact no_bit_raised hbefore hafter (by rw [hsame])
    · rw [hmem] at hafter
      rw [Memory.read_write_and hwf hafter] at hbefore
      cases hbefore
  · exact no_bit_raised hbefore hafter rfl

theorem sectorEraseEnd_raises {failed : Bool} {raised : List Word}
    (h : exec (.sectorEraseEnd failed raised) s = .next t) : s.store.current = some (sectorOf a) := by
  rcases next_of_live h with rfl | rfl
  · rcases sectorEraseEnd_mem failed raised s with hsame | ⟨k, hcurrent, hmem⟩
    · exact (no_bit_raised hbefore hafter (by rw [hsame])).elim
    · by_contra hother
      have hsector : sectorOf a ≠ k := fun he => hother (he ▸ hcurrent)
      rw [hmem, eraseSector, Memory.read_mapSector_outside _ hwf hsector, hbefore] at hafter
      cases hafter
  · exact (no_bit_raised hbefore hafter rfl).elim

theorem powerLoss_raises {held : Word} {raised : List Word} (h : exec (.powerLoss held raised) s = .next t) :
    s.store.current = some (sectorOf a) := by
  have ht : t = losePower held raised s := by cases h; rfl
  subst ht
  unfold losePower at hafter
  split at hafter
  · exact Store.afterLoss_raises hwf hbefore hafter
  · exact (no_bit_raised hbefore hafter rfl).elim

theorem powerOnReset_raises {straps : Node} {held : Word} {raised : List Word}
    (h : exec (.powerOnReset straps held raised) s = .next t) : s.store.current = some (sectorOf a) := by
  have ht : t.store.mem = if s.powered then s.store.afterLoss held raised else s.store.mem := by cases h; rfl
  rw [ht] at hafter
  split at hafter
  · exact Store.afterLoss_raises hwf hbefore hafter
  · exact (no_bit_raised hbefore hafter rfl).elim

end Bits

/-- Settles O22: of the four commands that write the store's words the end of a program only clears bits, and the other
three raise bits of the sector that is being erased only. -/
theorem onlyAnEraseRaisesABit : Obligations.OnlyAnEraseRaisesABit := by
  intro i s t a b hwf h hbefore hafter
  by_cases hi : Instr.WritesWords i
  · rcases hi with ⟨worn, rfl⟩ | ⟨failed, raised, rfl⟩ | ⟨held, raised, rfl⟩ | ⟨straps, held, raised, rfl⟩
    · exact (programEnd_raises_none hwf hbefore hafter h).elim
    · exact ⟨sectorEraseEnd_raises hwf hbefore hafter h, .inl ⟨failed, raised, rfl⟩⟩
    · exact ⟨powerLoss_raises hwf hbefore hafter h, .inr (.inl ⟨held, raised, rfl⟩)⟩
    · exact ⟨powerOnReset_raises hwf hbefore hafter h, .inr (.inr ⟨straps, held, raised, rfl⟩)⟩
  · exact (no_bit_raised hbefore hafter (exec_steady hi h).mem).elim

end Sys2Proof.Machine
end

section
/-! PROOF. Selection (R120): the highest ranked warning of a kind, tables that differ in nothing that selection reads,
and what each operation of the Warning Controller does to a table in which the selection is settled. -/

namespace Sys2Proof.Machine

/-! ### The highest ranked warning (section 4.5) -/

section Top
variable (s : State) (p : Warning → Bool)

/-- One warning's turn in the search for the highest ranked. -/
def State.topStep (best : Option (Fin 32)) (w : Fin 32) : Option (Fin 32) :=
  if p s.warnings.entries[w] = true then
    match best with
    | none => some w
    | some b => if rankOf w s.warnings.entries[w] < rankOf b s.warnings.entries[b] then some w else some b
  else best

/-- `best` is the highest ranked of the warnings in `l` that satisfy `p`, if any does. -/
def State.TopOf (l : List (Fin 32)) : Option (Fin 32) → Prop
  | none => ∀ w ∈ l, p s.warnings.entries[w] = false
  | some b => p s.warnings.entries[b] = true ∧
      ∀ w ∈ l, p s.warnings.entries[w] = true → rankOf b s.warnings.entries[b] ≤ rankOf w s.warnings.entries[w]

variable {s p}

theorem State.topStep_topOf {l : List (Fin 32)} {best : Option (Fin 32)} (h : s.TopOf p l best) (w : Fin 32) :
    s.TopOf p (l ++ [w]) (s.topStep p best w) := by
  by_cases hw : p s.warnings.entries[w] = true
  · cases best with
    | none =>
      simp only [State.topStep, if_pos hw]
      refine ⟨hw, fun v hv hpv => ?_⟩
      rcases List.mem_append.mp hv with hv | hv
      · rw [h v hv] at hpv
        cases hpv
      · rw [List.mem_singleton.mp hv]
    | some b =>
      obtain ⟨hb, hmin⟩ := h
      simp only [State.topStep, if_pos hw]
      split
      · rename_i hlt
        refine ⟨hw, fun v hv hpv => ?_⟩
        rcases List.mem_append.mp hv with hv | hv
        · exact hlt.le.trans (hmin v hv hpv)
        · rw [List.mem_singleton.mp hv]
      · rename_i hge
        refine ⟨hb, fun v hv hpv => ?_⟩
        rcases List.mem_append.mp hv with hv | hv
        · exact hmin v hv hpv
        · rw [List.mem_singleton.mp hv]
          exact Nat.le_of_not_lt hge
  · have hskip : s.topStep p best w = best := if_neg hw
    rw [hskip]
    cases best with
    | none =>
      intro v hv
      rcases List.mem_append.mp hv with hv | hv
      · exact h v hv
      · rw [List.mem_singleton.mp hv]
        exact Bool.eq_false_iff.mpr hw
    | some b =>
      refine ⟨h.1, fun v hv hpv => ?_⟩
      rcases List.mem_append.mp hv with hv | hv
      · exact h.2 v hv hpv
      · rw [List.mem_singleton.mp hv] at hpv
        exact absurd hpv hw

theorem State.foldl_topStep_topOf (l done : List (Fin 32)) {best : Option (Fin 32)} (h : s.TopOf p done best) :
    s.TopOf p (done ++ l) (l.foldl (s.topStep p) best) := by
  induction l generalizing done best with
  | nil => rwa [List.append_nil]
  | cons w l ih =>
    have hnext := ih (done ++ [w]) (topStep_topOf h w)
    rwa [List.append_assoc] at hnext

variable (s p)

theorem State.topWarning_topOf : s.TopOf p (List.finRange 32) (s.topWarning p) :=
  State.foldl_topStep_topOf (p := p) (s := s) (List.finRange 32) [] (best := none) fun _ h => absurd h List.not_mem_nil

variable {s p}

theorem State.topWarning_none (h : s.topWarning p = none) (w : Fin 32) : p s.warnings.entries[w] = false := by
  have htop := s.topWarning_topOf p
  rw [h] at htop
  exact htop w (List.mem_finRange w)

theorem State.topWarning_holds {b : Fin 32} (h : s.topWarning p = some b) : p s.warnings.entries[b] = true := by
  have htop := s.topWarning_topOf p
  rw [h] at htop
  exact htop.1

theorem State.topWarning_least {b w : Fin 32} (h : s.topWarning p = some b) (hw : p s.warnings.entries[w] = true) :
    rankOf b s.warnings.entries[b] ≤ rankOf w s.warnings.entries[w] := by
  have htop := s.topWarning_topOf p
  rw [h] at htop
  exact htop.2 w (List.mem_finRange w) hw

end Top

/-- What a warning has to be to be presented next. -/
def Warning.selectable (e : Warning) : Bool := e.enabled && !e.masked && e.state = .pending

theorem Warning.selectable_iff (e : Warning) :
    e.selectable = true ↔ e.enabled = true ∧ e.masked = false ∧ e.state = .pending := by
  simp [Warning.selectable, and_assoc]

/-- What a warning is when it counts as presented. -/
def Warning.isPresented (e : Warning) : Bool := e.enabled && e.state = .presented

theorem Warning.isPresented_iff (e : Warning) : e.isPresented = true ↔ e.enabled = true ∧ e.state = .presented := by
  simp [Warning.isPresented]

theorem State.presented_some {s : State} {w : Fin 32} (h : s.presented = some w) :
    (s.warnings.entries[w]).enabled = true ∧ (s.warnings.entries[w]).state = .presented := by
  exact (Warning.isPresented_iff _).mp (State.topWarning_holds h)

/-! ### Tables that selection reads alike -/

/-- The two entries do not differ in what selection reads. -/
structure Warning.Alike (e d : Warning) : Prop where
  action : d.action = e.action
  enabled : d.enabled = e.enabled
  masked : d.masked = e.masked
  state : d.state = e.state

theorem Warning.Alike.rank {e d : Warning} (h : e.Alike d) (w : Fin 32) : rankOf w d = rankOf w e := by
  simp only [rankOf, h.action]

/-- No entry of the table differs in what selection reads. -/
def SameTable (s t : State) : Prop := ∀ w : Fin 32, (s.warnings.entries[w]).Alike t.warnings.entries[w]

theorem SameTable.refl (s : State) : SameTable s s := fun _ => ⟨rfl, rfl, rfl, rfl⟩

theorem SameTable.of_entries {s t : State} (h : t.warnings.entries = s.warnings.entries) : SameTable s t := by
  intro w
  rw [h]
  exact SameTable.refl s w

theorem SameTable.trans {s t u : State} (h : SameTable s t) (k : SameTable t u) : SameTable s u := fun w =>
  ⟨(k w).action.trans (h w).action, (k w).enabled.trans (h w).enabled, (k w).masked.trans (h w).masked,
    (k w).state.trans (h w).state⟩

section SetWarning
variable (s : State) (w : Fin 32) (x : Warning)

theorem State.setWarning_self_get : (s.setWarning w x).warnings.entries[w] = x := by
  rw [State.setWarning_get, if_pos rfl]

variable {w}

theorem State.setWarning_other_get {v : Fin 32} (h : w ≠ v) :
    (s.setWarning w x).warnings.entries[v] = s.warnings.entries[v] := by
  rw [State.setWarning_get, if_neg h]

variable {x}

/-- An entry put in the place of one that selection reads alike. -/
theorem setWarning_sameTable (h : (s.warnings.entries[w]).Alike x) : SameTable s (s.setWarning w x) := by
  intro v
  rw [State.setWarning_get]
  split
  · rename_i hv
    subst hv
    exact h
  · exact SameTable.refl s v

end SetWarning

/-- The same of any state in whose table that is the only difference. -/
theorem SameTable.of_set {s t : State} {w : Fin 32} {x : Warning}
    (ht : t.warnings.entries = s.warnings.entries.set w x) (h : (s.warnings.entries[w]).Alike x) : SameTable s t :=
  (setWarning_sameTable s h).trans (.of_entries ht)

theorem SameTable.putAlike {s t : State} (h : SameTable s t) {w : Fin 32} {x : Warning}
    (hx : (t.warnings.entries[w]).Alike x) : SameTable s (t.setWarning w x) := h.trans (setWarning_sameTable t hx)

theorem SameTable.setWarning {s t : State} (h : SameTable s t) (w : Fin 32) {x y : Warning} (hxy : x.Alike y) :
    SameTable (s.setWarning w x) (t.setWarning w y) := by
  intro v
  rw [State.setWarning_get, State.setWarning_get]
  split
  · exact hxy
  · exact h v

/-- What is put in a place overrides what was put there before. -/
theorem SameTable.putAgain {s t : State} {w : Fin 32} {x y z : Warning} (h : SameTable (s.setWarning w x) t)
    (hyz : y.Alike z) : SameTable (s.setWarning w y) (t.setWarning w z) := by
  intro v
  rw [State.setWarning_get, State.setWarning_get]
  split
  · exact hyz
  · rename_i hv
    have := h v
    rwa [s.setWarning_other_get x hv] at this

theorem checkShutdown_warnings (s : State) : (checkShutdown s).warnings = s.warnings := by
  unfold checkShutdown
  split <;> rfl

theorem contentNotice_warnings (mc : Option (Fin 64 × Bool)) (rear : Option (Fin 64)) (entered : Bool) (s : State) :
    (contentNotice mc rear entered s).warnings = s.warnings := by
  unfold contentNotice
  dsimp only
  by_cases hnew : (decide (s.display.mcWarning ≠ mc) || decide (s.display.rearWarning ≠ rear) || entered) = true
  · rw [if_pos hnew, checkShutdown_warnings]
    rfl
  · rw [if_neg hnew]

theorem notifyDisplay_sameTable (entered : Bool) (s : State) : SameTable s (notifyDisplay entered s) :=
  .of_entries (congrArg Warnings.entries (contentNotice_warnings _ _ _ s))

theorem stopTimers_sameTable (w : Fin 32) (s : State) : SameTable s (stopTimers w s) :=
  setWarning_sameTable s ⟨rfl, rfl, rfl, rfl⟩

theorem setCounters_sameTable (w : Fin 32) (q c : Nat) (s : State) : SameTable s (setCounters w q c s) :=
  setWarning_sameTable s ⟨rfl, rfl, rfl, rfl⟩

theorem releaseChimes_sameTable (w : Fin 32) (s : State) : SameTable s (releaseChimes w s) :=
  .of_set (w := w) rfl ⟨rfl, rfl, rfl, rfl⟩

theorem requestChimes_sameTable (w : Fin 32) (s : State) : SameTable s (requestChimes w s) := by
  unfold requestChimes
  dsimp only
  split
  · exact .refl s
  · split
    · exact .refl s
    · exact .of_set (w := w) rfl ⟨rfl, rfl, rfl, rfl⟩

/-- The state with one warning's state changed and nothing else. -/
def State.withState (s : State) (w : Fin 32) (new : WarnState) : State :=
  s.setWarning w { s.warnings.entries[w] with state := new }

theorem setWarning_withState_sameTable (s : State) (w : Fin 32) (x : Warning) (new : WarnState) :
    SameTable (s.setWarning w { x with state := new }) ((s.setWarning w x).withState w new) := by
  refine SameTable.putAgain (x := x) (.refl _) ?_
  rw [State.setWarning_self_get]
  exact ⟨rfl, rfl, rfl, rfl⟩

theorem changeState_sameTable (w : Fin 32) (new : WarnState) (cause : WarnCause) (s : State) :
    SameTable (s.withState w new) (changeState w new cause s) :=
  .of_entries (congrArg Warnings.entries (report_warnings _ _))

/-- A warning that leaves PRESENTED with its timers stopped and its chimes released. -/
theorem released_sameTable (w : Fin 32) (new : WarnState) (cause : WarnCause) (s : State) :
    SameTable (s.withState w new) (releaseChimes w (stopTimers w (changeState w new cause s))) :=
  ((changeState_sameTable w new cause s).trans (stopTimers_sameTable w _)).trans (releaseChimes_sameTable w _)

theorem displaceWarning_sameTable (w : Fin 32) (s : State) :
    SameTable (s.withState w .pending) (displaceWarning w s) :=
  (changeState_sameTable w .pending .displaced s).trans (stopTimers_sameTable w _)

theorem presentWarning_sameTable (w : Fin 32) (s : State) :
    SameTable (s.withState w .presented) (presentWarning w s) := by
  have hchanged := changeState_sameTable w .presented .present s
  unfold presentWarning
  generalize changeState w .presented .present s = u at hchanged ⊢
  dsimp only
  refine ((hchanged.putAlike ?_).trans (requestChimes_sameTable w _)).trans (notifyDisplay_sameTable true _)
  exact ⟨rfl, rfl, rfl, rfl⟩

theorem toAcknowledged_sameTable (w : Fin 32) (cause : WarnCause) (s : State) :
    SameTable (s.withState w .acknowledged) (toAcknowledged w cause s) := by
  have hstopped := (changeState_sameTable w .acknowledged cause s).trans (stopTimers_sameTable w _)
  unfold toAcknowledged
  generalize stopTimers w (changeState w .acknowledged cause s) = u at hstopped ⊢
  dsimp only
  refine (hstopped.putAlike ?_).trans (releaseChimes_sameTable w _)
  exact ⟨rfl, rfl, rfl, rfl⟩

/-! ### Tables that are ready for selection, and tables in which it is settled (R120) -/

/-- A disabled warning is IDLE, and at most one warning is PRESENTED, which is unmasked. -/
structure State.Ready (s : State) : Prop where
  idle : ∀ w : Fin 32, (s.warnings.entries[w]).enabled = false → (s.warnings.entries[w]).state = .idle
  unmasked : ∀ w : Fin 32, (s.warnings.entries[w]).state = .presented → (s.warnings.entries[w]).masked = false
  single : ∀ v w : Fin 32, (s.warnings.entries[v]).state = .presented →
    (s.warnings.entries[w]).state = .presented → v = w

/-- And no warning that could be presented outranks the one that is. -/
structure State.Selected (s : State) : Prop extends State.Ready s where
  outranked : ∀ q : Fin 32, (s.warnings.entries[q]).enabled = true → (s.warnings.entries[q]).masked = false →
    (s.warnings.entries[q]).state = .pending →
    ∃ p : Fin 32, (s.warnings.entries[p]).state = .presented ∧
      rankOf p s.warnings.entries[p] ≤ rankOf q s.warnings.entries[q]

theorem State.Ready.enabled {s : State} (h : s.Ready) {w : Fin 32} (hw : (s.warnings.entries[w]).state ≠ .idle) :
    (s.warnings.entries[w]).enabled = true := by
  by_contra hoff
  exact hw (h.idle w (Bool.eq_false_iff.mpr hoff))

theorem SameTable.ready {s t : State} (h : SameTable s t) (k : s.Ready) : t.Ready where
  idle w := by
    rw [(h w).enabled, (h w).state]
    exact k.idle w
  unmasked w := by
    rw [(h w).masked, (h w).state]
    exact k.unmasked w
  single v w := by
    rw [(h v).state, (h w).state]
    exact k.single v w

theorem SameTable.selected {s t : State} (h : SameTable s t) (k : s.Selected) : t.Selected where
  toReady := h.ready k.toReady
  outranked q := by
    rw [(h q).enabled, (h q).masked, (h q).state, (h q).rank q]
    intro hon hunmasked hpending
    obtain ⟨p, hp, hrank⟩ := k.outranked q hon hunmasked hpending
    exact ⟨p, (h p).state.trans hp, ((h p).rank p).trans_le hrank⟩

/-- A table whose every warning is IDLE. -/
theorem State.Selected.of_idle {s : State} (h : ∀ w : Fin 32, (s.warnings.entries[w]).state = .idle) :
    s.Selected where
  idle w _ := h w
  unmasked w hw := nomatch (h w).symm.trans hw
  single v _ hv := nomatch (h v).symm.trans hv
  outranked q _ _ hq := nomatch (h q).symm.trans hq

theorem State.Ready.ite {p : Prop} [Decidable p] {t u : State} (ht : t.Ready) (hu : u.Ready) :
    (if p then t else u).Ready := by
  split
  · exact ht
  · exact hu

/-- An entry that keeps the table ready for selection. -/
theorem State.Ready.setWarning {s : State} (h : s.Ready) {w : Fin 32} {x : Warning}
    (hidle : x.enabled = false → x.state = .idle) (hunmasked : x.state = .presented → x.masked = false)
    (hsingle : x.state = .presented → ∀ v : Fin 32, (s.warnings.entries[v]).state = .presented → v = w) :
    (s.setWarning w x).Ready where
  idle v := by
    rw [State.setWarning_get]
    split
    · exact hidle
    · exact h.idle v
  unmasked v := by
    rw [State.setWarning_get]
    split
    · exact hunmasked
    · exact h.unmasked v
  single u v := by
    rw [State.setWarning_get, State.setWarning_get]
    split <;> rename_i hu <;> split <;> rename_i hv <;> intro pu pv
    · exact hu.symm.trans hv
    · exact hu.symm.trans (hsingle pu v pv).symm
    · exact (hsingle pv u pu).trans hv
    · exact h.single u v pu pv

/-- A warning that is not PRESENTED may take any entry that is neither PRESENTED nor waits to be. -/
theorem State.Selected.setWarning {s : State} (h : s.Selected) {w : Fin 32} {x : Warning}
    (hw : (s.warnings.entries[w]).state ≠ .presented) (hidle : x.enabled = false → x.state = .idle)
    (hx : x.state ≠ .presented) (hwaits : x.state = .pending → x.masked = true) : (s.setWarning w x).Selected where
  toReady := h.toReady.setWarning hidle (fun k => absurd k hx) (fun k => absurd k hx)
  outranked q := by
    rw [State.setWarning_get]
    split
    · intro _ hmasked hpending
      rw [hwaits hpending] at hmasked
      cases hmasked
    · intro hon hunmasked hpending
      obtain ⟨p, hp, hrank⟩ := h.outranked q hon hunmasked hpending
      have hpw : w ≠ p := by
        rintro rfl
        exact hw hp
      refine ⟨p, ?_, ?_⟩ <;> rwa [s.setWarning_other_get x hpw]

/-- An enabled warning leaves its state for one that is not PRESENTED. -/
theorem State.Ready.withState {s : State} (h : s.Ready) {w : Fin 32} {new : WarnState} (hnew : new ≠ .presented)
    (hw : (s.warnings.entries[w]).enabled = true ∨ new = .idle) : (s.withState w new).Ready := by
  refine h.setWarning (fun hoff => ?_) (fun k => absurd k hnew) (fun k => absurd k hnew)
  rcases hw with hon | hidle
  · rw [hon] at hoff
    cases hoff
  · exact hidle

/-! ### Selection settles -/

/-- The highest ranked warning that could be presented is presented, in a table with no PRESENTED warning. -/
theorem State.Ready.present {s : State} (h : s.Ready) {q : Fin 32} (hq : (s.warnings.entries[q]).enabled = true)
    (hunmasked : (s.warnings.entries[q]).masked = false)
    (hnone : ∀ v : Fin 32, (s.warnings.entries[v]).state ≠ .presented)
    (hleast : ∀ v : Fin 32, (s.warnings.entries[v]).enabled = true → (s.warnings.entries[v]).masked = false →
      (s.warnings.entries[v]).state = .pending → rankOf q s.warnings.entries[q] ≤ rankOf v s.warnings.entries[v]) :
    (presentWarning q s).Selected := by
  refine (presentWarning_sameTable q s).selected
    { toReady := h.setWarning (fun hoff => ?_) (fun _ => hunmasked) (fun _ v hv => absurd hv (hnone v)),
      outranked := fun v hon hm hp => ⟨q, ?_, ?_⟩ }
  · rw [show _ = true from hq] at hoff
    cases hoff
  · exact congrArg Warning.state (s.setWarning_self_get q _)
  · have hv : q ≠ v := by
      rintro rfl
      rw [State.withState, s.setWarning_self_get] at hp
      cases hp
    rw [State.withState, s.setWarning_other_get _ hv] at hon hm hp
    rw [State.withState, s.setWarning_self_get, s.setWarning_other_get _ hv]
    exact hleast v hon hm hp

/-- Selection settles every table that is ready for it (R120). -/
theorem select_selected {s : State} (h : s.Ready) : (select s).Selected := by
  unfold select
  split
  · rename_i hnone
    refine (notifyDisplay_sameTable false s).selected ⟨h, fun q hon hm hp => ?_⟩
    exact absurd ((Warning.selectable_iff _).mpr ⟨hon, hm, hp⟩)
      (ne_true_of_eq_false (State.topWarning_none hnone q))
  · rename_i q hq
    obtain ⟨hon, hunmasked, hpending⟩ := (Warning.selectable_iff _).mp (State.topWarning_holds hq)
    have hleast (v : Fin 32) (hon : (s.warnings.entries[v]).enabled = true)
        (hm : (s.warnings.entries[v]).masked = false) (hp : (s.warnings.entries[v]).state = .pending) :
        rankOf q s.warnings.entries[q] ≤ rankOf v s.warnings.entries[v] :=
      State.topWarning_least hq ((Warning.selectable_iff _).mpr ⟨hon, hm, hp⟩)
    split
    · rename_i hnone
      refine h.present hon hunmasked (fun v hv => ?_) hleast
      have hvon := h.enabled (w := v) (by rw [hv]; decide)
      exact absurd ((Warning.isPresented_iff _).mpr ⟨hvon, hv⟩)
        (ne_true_of_eq_false (State.topWarning_none hnone v))
    · rename_i p hp
      obtain ⟨hpon, hpresented⟩ := State.presented_some hp
      split
      · rename_i hrank
        have hqp : p ≠ q := by
          rintro rfl
          exact absurd hrank (lt_irrefl _)
        have hsame := displaceWarning_sameTable p s
        have hready := hsame.ready (h.withState (w := p) (new := .pending) (by decide) (.inl hpon))
        have hother {v : Fin 32} (hv : p ≠ v) :
            (s.warnings.entries[v]).Alike ((displaceWarning p s).warnings.entries[v]) := by
          have := hsame v
          rwa [State.withState, s.setWarning_other_get _ hv] at this
        have hown := hsame p
        rw [State.withState, s.setWarning_self_get] at hown
        refine hready.present ((hother hqp).enabled.trans hon) ((hother hqp).masked.trans hunmasked)
          (fun v hv => ?_) (fun v hvon hvm hvp => ?_)
        · by_cases hvp : p = v
          · subst hvp
            rw [hown.state] at hv
            cases hv
          · rw [(hother hvp).state] at hv
            exact hvp (h.single p v hpresented hv)
        · rw [(hother hqp).rank]
          by_cases hpv : p = v
          · subst hpv
            rw [hown.rank]
            exact hrank.le
          · rw [(hother hpv).rank]
            rw [(hother hpv).enabled] at hvon
            rw [(hother hpv).masked] at hvm
            rw [(hother hpv).state] at hvp
            exact hleast v hvon hvm hvp
      · rename_i hrank
        refine (notifyDisplay_sameTable false s).selected ⟨h, fun v hvon hvm hvp => ⟨p, hpresented, ?_⟩⟩
        exact (Nat.le_of_not_lt hrank).trans (hleast v hvon hvm hvp)

end Sys2Proof.Machine
end

section
/-! PROOF. What the operations of the Warning Controller make of a table in which the selection is settled (R120): each
of them settles it again. -/

namespace Sys2Proof.Machine

/-! ### Operations that keep the selection settled -/

/-- If the selection is settled before, so it is after. -/
structure SelectionKept (s t : State) : Prop where
  selected : s.Selected → t.Selected

theorem SelectionKept.refl (s : State) : SelectionKept s s := ⟨id⟩

theorem SelectionKept.trans {s t u : State} (h : SelectionKept s t) (k : SelectionKept t u) : SelectionKept s u :=
  ⟨k.selected ∘ h.selected⟩

theorem SameTable.kept {s t : State} (h : SameTable s t) : SelectionKept s t := ⟨h.selected⟩

/-- An operation that leaves the warning table. -/
theorem SelectionKept.of_entries {s t : State} (h : t.warnings.entries = s.warnings.entries) : SelectionKept s t :=
  (SameTable.of_entries h).kept

theorem State.Selected.elsewhere {s t : State} (k : s.Selected) (h : t.warnings.entries = s.warnings.entries) :
    t.Selected := (SameTable.of_entries h).selected k

theorem SelectionKept.ite {p : Prop} [Decidable p] {s t u : State} (ht : SelectionKept s t) (hu : SelectionKept s u) :
    SelectionKept s (if p then t else u) := by
  split
  · exact ht
  · exact hu

theorem SelectionKept.foldl {α : Type} {f : State → α → State} (h : ∀ s a, SelectionKept s (f s a)) (l : List α)
    (s : State) : SelectionKept s (l.foldl f s) := by
  induction l generalizing s with
  | nil => exact .refl s
  | cons a l ih => exact (h s a).trans (ih _)

theorem forWarnings_selection {f : Fin 32 → State → State} (h : ∀ w s, SelectionKept s (f w s)) (s : State) :
    SelectionKept s (forWarnings f s) := .foldl (fun t w => h w t) _ s

/-- Selection behind an operation that leaves the table ready for it. -/
theorem selectAfter_selection {s t : State} (h : s.Selected → t.Ready) : SelectionKept s (select t) :=
  ⟨fun k => select_selected (h k)⟩

theorem notifyDisplay_selection (entered : Bool) (s : State) : SelectionKept s (notifyDisplay entered s) :=
  (notifyDisplay_sameTable entered s).kept

theorem report_selection (e : Event) (s : State) : SelectionKept s (report e s) :=
  .of_entries (congrArg Warnings.entries (report_warnings s e))

/-! ### Conditions (R114 to R119) -/

theorem endWarning_selection (w : Fin 32) (cause : WarnCause) (s : State) :
    SelectionKept s (endWarning w cause s) := by
  refine ⟨fun h => ?_⟩
  have hended := released_sameTable w .idle cause s
  unfold endWarning
  dsimp only
  split
  · exact select_selected (hended.ready (h.withState (by decide) (.inr rfl)))
  · rename_i hleft
    refine (notifyDisplay_selection false _).selected (hended.selected ?_)
    exact h.setWarning hleft (fun _ => rfl) (by simp) (by simp)

section Enabled
variable {w : Fin 32} {s : State} (hon : (s.warnings.entries[w]).enabled = true)
include hon

theorem changeState_ready {new : WarnState} (hnew : new ≠ .presented) (cause : WarnCause) (h : s.Ready) :
    (changeState w new cause s).Ready := (changeState_sameTable w new cause s).ready (h.withState hnew (.inl hon))

theorem becameTrue_selection : SelectionKept s (becameTrue w s) :=
  .ite (selectAfter_selection fun h => changeState_ready hon (by decide) .qualify h.toReady) (.refl s)

end Enabled

theorem becameFalse_selection (w : Fin 32) (s : State) : SelectionKept s (becameFalse w s) := by
  unfold becameFalse
  dsimp only
  split
  · exact .refl s
  · exact .refl s
  · exact endWarning_selection w .clear s
  · exact endWarning_selection w .clear s
  · exact .refl s
  · exact endWarning_selection w .clear s

theorem setCondition_selection {w : Fin 32} {s : State} (hon : (s.warnings.entries[w]).enabled = true) (b : Bool) :
    SelectionKept s (setCondition w b s) := by
  have hset : SameTable s (s.setWarning w { s.warnings.entries[w] with holds := b }) :=
    setWarning_sameTable s ⟨rfl, rfl, rfl, rfl⟩
  exact .ite (.refl s) (hset.kept.trans
    (.ite (becameTrue_selection ((hset w).enabled.trans hon)) (becameFalse_selection w _)))

theorem countVerdict_selection {w : Fin 32} {s : State} (hon : (s.warnings.entries[w]).enabled = true)
    (c : WarnCondition) (v : Bool) : SelectionKept s (countVerdict w c v s) := by
  have hcounted (q k : Nat) : SameTable s (setCounters w q k s) := setCounters_sameTable w q k s
  have hchanged (b : Bool) : SelectionKept s (setCondition w b (setCounters w 0 0 s)) :=
    (hcounted 0 0).kept.trans (setCondition_selection ((hcounted 0 0 w).enabled.trans hon) b)
  exact .ite (hcounted 0 0).kept (.ite (.ite (hchanged true) (hcounted _ 0).kept)
    (.ite (hchanged false) (hcounted 0 _).kept))

/-! ### Gates and notices (R114 to R118) -/

theorem testGate_selection (w : Fin 32) (s : State) : SelectionKept s (testGate w s) := by
  unfold testGate
  dsimp only
  split
  · rename_i c hon _
    refine .ite (.refl s) (.ite ?_ ?_)
    · have hmet : SameTable s (s.setWarning w
          { s.warnings.entries[w] with gate := true, qualifyCount := 0, clearCount := 0 }) :=
        setWarning_sameTable s ⟨rfl, rfl, rfl, rfl⟩
      exact hmet.kept.trans (setCondition_selection ((hmet w).enabled.trans hon) _)
    · have hshut : SameTable s (s.setWarning w
          { s.warnings.entries[w] with gate := false, qualifyCount := 0, clearCount := 0, holds := false }) :=
        setWarning_sameTable s ⟨rfl, rfl, rfl, rfl⟩
      have hended := hshut.kept.trans (endWarning_selection w .gate _)
      split
      · exact hshut.kept
      · exact .ite hshut.kept hended
      · exact .ite hshut.kept hended
      · exact hended
  · exact .refl s

theorem testGates_selection (s : State) : SelectionKept s (testGates s) := forWarnings_selection testGate_selection s

theorem testGate_enabled {w : Fin 32} {s : State} (hon : (s.warnings.entries[w]).enabled = true) :
    ((testGate w s).warnings.entries[w]).enabled = true :=
  ((testGate_frame w s).loaded w).2.2.1.trans hon

theorem warnNotice_selection {w : Fin 32} {s : State} (hon : (s.warnings.entries[w]).enabled = true) (n : Notice) :
    SelectionKept s (warnNotice n w s) := by
  have htested := testGate_selection w s
  have hon' := testGate_enabled hon
  unfold warnNotice
  generalize testGate w s = u at htested hon' ⊢
  dsimp only
  split
  · split
    · split
      · exact htested.trans (countVerdict_selection hon' _ _)
      · exact htested
    · exact htested.trans (setCondition_selection hon' _)
    · have hcleared := setCounters_sameTable w 0 0 u
      exact (htested.trans hcleared.kept).trans (setCondition_selection ((hcleared w).enabled.trans hon') _)
    · exact htested.trans (setCondition_selection hon' _)
  · exact htested

theorem warnChannel_selection (c : Fin 48) (n : Notice) (s : State) : SelectionKept s (warnChannel c n s) := by
  refine forWarnings_selection (fun w t => ?_) s
  dsimp only
  split
  · rename_i hon _
    exact .ite (warnNotice_selection hon n) (.refl t)
  · exact .refl t

theorem warnSubject_selection (kind : WarnKind) (subject : Nat) (w : Fin 32) (s : State) :
    SelectionKept s (warnSubject kind subject w s) := by
  unfold warnSubject
  dsimp only
  split
  · rename_i hon _
    have htested := testGate_selection w s
    exact .ite (.ite (htested.trans (setCondition_selection (testGate_enabled hon) _)) htested) (.refl s)
  · exact .refl s

theorem warnStage_selection (i : Fin 8) (s : State) : SelectionKept s (warnStage i s) :=
  forWarnings_selection (warnSubject_selection .service i.val) s

/-- A system condition's own value is no part of the table. -/
theorem setSys_selection (k : SysCond) (b : Bool) (s : State) : SelectionKept s (setSys k b s) := by
  refine .ite (.refl s) (SelectionKept.trans ?_ (forWarnings_selection (warnSubject_selection .system k.code) _))
  cases k <;> exact .of_entries rfl

/-! ### Timers and acknowledge (R121 to R123) -/

section Leaves
variable {w : Fin 32} {s : State} (hw : (s.warnings.entries[w]).state ≠ .idle)
include hw

/-- A warning that stands and leaves its state, its timers stopped. -/
theorem stopped_ready {new : WarnState} (hnew : new ≠ .presented) (cause : WarnCause) (h : s.Selected) :
    (stopTimers w (changeState w new cause s)).Ready :=
  (stopTimers_sameTable w _).ready (changeState_ready (h.enabled hw) hnew cause h.toReady)

theorem toAcknowledged_ready (cause : WarnCause) (h : s.Selected) : (toAcknowledged w cause s).Ready :=
  (toAcknowledged_sameTable w cause s).ready (h.withState (by decide) (.inl (h.enabled hw)))

theorem released_ready {new : WarnState} (hnew : new ≠ .presented) (cause : WarnCause) (h : s.Selected) :
    (releaseChimes w (stopTimers w (changeState w new cause s))).Ready :=
  (releaseChimes_sameTable w _).ready (stopped_ready hw hnew cause h)

end Leaves

theorem presentExpiry_selection (w : Fin 32) (s : State) : SelectionKept s (presentExpiry w s) := by
  unfold presentExpiry
  dsimp only
  split
  · rename_i hpresented _
    have hw : (s.warnings.entries[w]).state ≠ .idle := by
      rw [hpresented]
      decide
    refine .ite (selectAfter_selection fun h => ?_)
      (.ite (selectAfter_selection fun h => ?_) (selectAfter_selection fun h => ?_))
    · generalize hu : stopTimers w (changeState w .idle .timeout s) = u
      have hready : u.Ready := hu ▸ stopped_ready hw (by decide) .timeout h
      refine .ite ((releaseChimes_sameTable w u).ready hready) ((setWarning_sameTable u ?_).ready hready)
      exact ⟨rfl, rfl, rfl, rfl⟩
    · exact toAcknowledged_ready hw .timeout h
    · exact released_ready hw (by decide) .timeout h
  · exact .refl s

theorem remindExpiry_selection (w : Fin 32) (s : State) : SelectionKept s (remindExpiry w s) := by
  unfold remindExpiry
  dsimp only
  split
  · rename_i hacknowledged
    have hw : (s.warnings.entries[w]).state ≠ .idle := by
      rw [hacknowledged]
      decide
    exact selectAfter_selection (stopped_ready hw (by decide) .remind)
  · exact .refl s

theorem acknowledge_selection {w : Fin 32} {s : State} (hw : s.presented = some w) :
    SelectionKept s (acknowledge w s) := by
  have hstands : (s.warnings.entries[w]).state ≠ .idle := by
    rw [(State.presented_some hw).2]
    decide
  refine selectAfter_selection fun h => ?_
  have hleft : (if (s.warnings.entries[w]).holds = true then toAcknowledged w .acknowledge s
      else releaseChimes w (stopTimers w (changeState w .idle .acknowledge s))).Ready := by
    split
    · exact toAcknowledged_ready hstands .acknowledge h
    · exact released_ready hstands (by decide) .acknowledge h
  generalize (if (s.warnings.entries[w]).holds = true then _ else _) = u at hleft ⊢
  refine .ite (SameTable.ready (s := u) (.of_entries ?_) hleft) hleft
  rfl

/-! ### Enable, disable, mask (R110 to R112) -/

theorem enableWarning_selection {w : Fin 32} {s : State} (hoff : (s.warnings.entries[w]).enabled = false) :
    SelectionKept s (enableWarning w s) := by
  refine ⟨fun h => ?_⟩
  refine (testGate_selection w _).selected (h.setWarning ?_ (fun _ => rfl) (by simp) (by simp))
  rw [h.idle w hoff]
  decide

/-- A warning switched off (R111), as far as selection reads it. -/
def Warning.switchedOff (e : Warning) : Warning := { e with enabled := false, masked := false, state := .idle }

theorem disableWarning_selection (w : Fin 32) (s : State) : SelectionKept s (disableWarning w s) := by
  refine ⟨fun h => ?_⟩
  let e := s.warnings.entries[w]
  let s1 := s.setWarning w { e with masked := false }
  have hleft : SameTable (s.setWarning w { e with masked := false, state := .idle })
      (if e.state = .idle then s1 else changeState w .idle .disable s1) := by
    split
    · rename_i hidle
      exact (SameTable.refl s).setWarning w ⟨rfl, rfl, rfl, hidle⟩
    · exact (setWarning_withState_sameTable s w { e with masked := false } .idle).trans
        (changeState_sameTable w .idle .disable s1)
  have hreleased := hleft.trans (releaseChimes_sameTable w _)
  have hown := hreleased w
  rw [State.setWarning_self_get] at hown
  have hoff := hreleased.putAgain (y := e.switchedOff) (z := { (releaseChimes w _).warnings.entries[w] with
    enabled := false, holds := false, gate := false, qualifyCount := 0, clearCount := 0, presentTimer := none,
    remindTimer := none }) ⟨hown.action, rfl, hown.masked, hown.state⟩
  unfold disableWarning
  dsimp only
  split
  · refine select_selected (hoff.ready (h.toReady.setWarning (fun _ => rfl) (fun _ => rfl) nofun))
  · rename_i hrest
    exact (notifyDisplay_selection false _).selected
      (hoff.selected (h.setWarning (fun hp => hrest (.inl hp)) (fun _ => rfl) nofun nofun))

theorem maskWarning_selection (w : Fin 32) (s : State) : SelectionKept s (maskWarning w s) := by
  refine ⟨fun h => ?_⟩
  unfold maskWarning
  dsimp only
  split
  · rename_i hpresented
    have hon := h.enabled (w := w) (by rw [hpresented]; decide)
    have hhidden := (setWarning_withState_sameTable s w { s.warnings.entries[w] with masked := true } .pending).trans
      (released_sameTable w .pending .mask _)
    refine select_selected (hhidden.ready (h.toReady.setWarning (fun hoff => ?_) nofun nofun))
    exact absurd hon (ne_true_of_eq_false hoff)
  · rename_i hpending
    exact (notifyDisplay_selection false _).selected ((releaseChimes_sameTable w _).selected
      (h.setWarning (hpending.trans_ne nofun) (h.idle w) (hpending.trans_ne nofun) fun _ => rfl))
  · rename_i hidle
    exact (notifyDisplay_selection false _).selected
      (h.setWarning (hidle.trans_ne nofun) (h.idle w) (hidle.trans_ne nofun) fun _ => rfl)
  · rename_i hacknowledged
    exact (notifyDisplay_selection false _).selected
      (h.setWarning (hacknowledged.trans_ne nofun) (h.idle w) (hacknowledged.trans_ne nofun) fun _ => rfl)

theorem unmaskWarning_selection (w : Fin 32) (s : State) : SelectionKept s (unmaskWarning w s) := by
  refine ⟨fun h => ?_⟩
  refine select_selected (h.toReady.setWarning (h.idle w) (fun _ => rfl) fun hw v hv => ?_)
  exact h.single v w hv hw

/-! ### Key events and RESTART (R118, R126, R128) -/

theorem warningKey_selection (old new : KeyState) (s : State) : SelectionKept s (warningKey old new s) := by
  unfold warningKey
  refine SelectionKept.trans ?_ (testGates_selection _)
  exact .of_entries rfl

/-- RESTART leaves every warning IDLE. -/
theorem warningsRestart_selected (s : State) : (warningsRestart s).Selected := by
  refine .of_idle fun w => ?_
  simp only [warningsRestart, Fin.getElem_fin, Vector.getElem_map]
  rfl

/-- So does power-on reset. -/
theorem powerOn_selected (straps : Node) (mem : List (Nat × Word)) (queue : List Instr) :
    (State.powerOn straps mem queue).Selected := by
  refine .of_idle fun w => ?_
  simp only [State.powerOn, Warnings.initial, Fin.getElem_fin, Vector.getElem_replicate]
  rfl

end Sys2Proof.Machine
end

section
/-! PROOF. The blocks that reach the Warning Controller by their notices: the Service Reminder, the Odometer, the save
pairs, the Trip Computer, the displays and the Loop Port keep the selection settled (R120). -/

namespace Sys2Proof.Machine

/-- An operation behind a change that leaves the warning table. -/
theorem SelectionKept.behind {s t u : State} (k : SelectionKept t u) (h : t.warnings.entries = s.warnings.entries) :
    SelectionKept s u := (SelectionKept.of_entries h).trans k

/-- A change that leaves the warning table behind an operation. -/
theorem SelectionKept.then {s t u : State} (k : SelectionKept s t) (h : u.warnings.entries = t.warnings.entries) :
    SelectionKept s u := k.trans (.of_entries h)

theorem RecordFrame.selection {s t : State} (h : RecordFrame s t) : SelectionKept s t := by
  unfold RecordFrame at h
  rw [h]
  exact .of_entries rfl

/-! ### Frames (R171, R182, R186, R188) -/

theorem buildEvent_selection (s : State) : SelectionKept s (buildEvent s) := by
  unfold buildEvent
  split
  · exact .ite (.of_entries rfl) (.refl s)
  · exact .refl s

theorem buildStartUp_selection (s : State) : SelectionKept s (buildStartUp s) := by
  unfold buildStartUp
  split
  · exact .ite (.of_entries rfl) (.refl s)
  · exact .refl s

theorem buildDump_selection (s : State) : SelectionKept s (buildDump s) := by
  unfold buildDump
  split
  · exact .ite (.of_entries rfl) (.refl s)
  · exact .refl s

theorem dumpFor_selection (n : Nat) (s : State) : SelectionKept s (dumpFor n s) := by
  induction n generalizing s with
  | zero => exact .refl s
  | succ n ih => exact (buildDump_selection s).trans (ih _)

theorem placeResponse_selection (f : Frame) (restart : Bool) (s : State) :
    SelectionKept s (placeResponse f restart s) := .ite (.of_entries rfl) (.of_entries rfl)

theorem holdResponse_selection (f : Frame) (s : State) : SelectionKept s (holdResponse f s) :=
  .ite (placeResponse_selection f false s) (.of_entries rfl)

/-! ### The displays (R146 to R161) -/

theorem rebuild_selection (s : State) : SelectionKept s (rebuild s) := .of_entries rfl

theorem checkShutdown_selection (s : State) : SelectionKept s (checkShutdown s) :=
  .of_entries (congrArg Warnings.entries (checkShutdown_warnings s))

/-- A change of the display's records that may complete the shutdown conditions. -/
theorem checkShutdown_withDisplay_selection {s t : State} (h : SelectionKept s t) (d : Display) :
    SelectionKept s (checkShutdown { t with display := d }) :=
  h.trans ((checkShutdown_selection { t with display := d }).behind rfl)

theorem displayKey_selection (new : KeyState) (s : State) : SelectionKept s (displayKey new s) :=
  checkShutdown_withDisplay_selection (.refl s) _

theorem packetDone_selection (s : State) : SelectionKept s (packetDone s) := by
  unfold packetDone
  dsimp only
  split
  · exact .ite (checkShutdown_withDisplay_selection (.refl s) _) (.refl s)
  · exact .refl s

theorem packetSent_selection (s : State) : SelectionKept s (packetSent s) := by
  unfold packetSent
  dsimp only
  split <;> exact .of_entries rfl

theorem linkStartSent_selection (s : State) : SelectionKept s (linkStartSent s) := by
  unfold linkStartSent
  dsimp only
  split
  · exact checkShutdown_withDisplay_selection (.refl s) _
  · exact .refl s

theorem linkShutdownSent_selection (s : State) : SelectionKept s (linkShutdownSent s) := by
  unfold linkShutdownSent
  dsimp only
  split <;> exact .of_entries rfl

theorem rpIdleExpiry_selection (s : State) : SelectionKept s (rpIdleExpiry s) :=
  .ite (checkShutdown_withDisplay_selection (.refl s) _) (.refl s)

theorem mcOffExpiry_selection (s : State) : SelectionKept s (mcOffExpiry s) :=
  .ite (checkShutdown_withDisplay_selection (.refl s) _) (.refl s)

theorem replyWindowExpiry_selection (s : State) : SelectionKept s (replyWindowExpiry s) := by
  unfold replyWindowExpiry
  split <;> exact .of_entries rfl

/-! ### The Service Reminder (R99) -/

theorem stageNotice_selection (s : State) : SelectionKept s (stageNotice s) := .of_entries rfl

theorem noteStage_selection (i : Fin 8) (old new : Stage) (s : State) : SelectionKept s (noteStage i old new s) :=
  .ite (.refl s) (((report_selection _ s).trans (warnStage_selection i _)).trans (stageNotice_selection _))

theorem evaluateItem_selection (i : Fin 8) (s : State) : SelectionKept s (evaluateItem i s) :=
  .ite ((noteStage_selection i _ _ _).behind rfl) (.refl s)

theorem evaluateAll_selection (s : State) : SelectionKept s (evaluateAll s) :=
  .foldl (fun t i => evaluateItem_selection i t) _ s

theorem shownNotice_selection (s : State) : SelectionKept s (shownNotice s) :=
  .ite (.refl s) ((evaluateAll_selection _).behind rfl)

/-! ### The save pairs and their owners (R60, R61, R85, R88, R101) -/

theorem setPair_selection (p : PairId) (x : Pair) (s : State) : SelectionKept s (s.setPair p x) :=
  .of_entries (congrArg Warnings.entries (State.setPair_warnings s p x))

theorem failSave_selection (p : PairId) (s : State) : SelectionKept s (failSave p s) :=
  (setPair_selection p _ s).trans (report_selection _ _)

theorem beginSave_selection (p : PairId) (data : List Word) (s : State) : SelectionKept s (beginSave p data s) := by
  unfold beginSave
  dsimp only
  split
  · exact failSave_selection p s
  · exact setPair_selection p _ s

theorem requestSave_selection (p : PairId) (data : List Word) (s : State) :
    SelectionKept s (requestSave p data s) := .ite (beginSave_selection p data s) (setPair_selection p _ s)

theorem beginHeld_selection (p : PairId) (s : State) : SelectionKept s (beginHeld p s) := by
  unfold beginHeld
  dsimp only
  split
  · exact (setPair_selection p _ s).trans (beginSave_selection p _ _)
  · exact .refl s

theorem finishSave_selection (p : PairId) (j : SaveJob) (s : State) : SelectionKept s (finishSave p j s) :=
  .ite (setPair_selection p _ s) ((setPair_selection p _ s).trans (report_selection _ _))

theorem pairProgramEnd_selection (p : PairId) (exceeded : Bool) (s : State) :
    SelectionKept s (pairProgramEnd p exceeded s) := by
  have hset := fun x => setPair_selection p x s
  unfold pairProgramEnd
  dsimp only
  split
  · exact .ite ((hset _).trans (beginHeld_selection p _)) (hset _)
  · split
    · exact hset _
    · split
      · exact hset _
      · exact .ite ((hset _).trans (failSave_selection p _)) (hset _)
      · exact .ite (hset _) ((hset _).trans (finishSave_selection p _ _))
      · exact (hset _).trans (finishSave_selection p _ _)

theorem pairEraseEnd_selection (p : PairId) (o : Option EraseOutcome) (s : State) :
    SelectionKept s (pairEraseEnd p o s) := by
  have hset := fun x => setPair_selection p x s
  unfold pairEraseEnd
  dsimp only
  split
  · exact .ite (hset _) ((hset _).trans (failSave_selection p _))
  · exact (hset _).trans (beginHeld_selection p _)

theorem recoverPair_selection (p : PairId) (s : State) : SelectionKept s (recoverPair p s) :=
  .ite ((setPair_selection p _ s).trans (beginHeld_selection p _)) (setPair_selection p _ s)

theorem refreshStoreFault_selection (s : State) : SelectionKept s (refreshStoreFault s) := setSys_selection _ _ s

theorem tripSaveEnd_selection (ok : Bool) (s : State) : SelectionKept s (tripSaveEnd ok s) := by
  have hfault := fun x => (refreshStoreFault_selection { s with trip := x }).behind (s := s) rfl
  unfold tripSaveEnd
  dsimp only
  split
  · exact (hfault _).then rfl
  · exact .ite ((hfault _).then rfl) ((hfault _).trans ((requestSave_selection .trip _ _).behind rfl))

theorem serviceSaveEnd_selection (ok : Bool) (s : State) : SelectionKept s (serviceSaveEnd ok s) := by
  have hfault := (refreshStoreFault_selection { s with service := { s.service with saveFault := !ok } }).behind
    (s := s) rfl
  exact .ite (hfault.trans ((requestSave_selection .service _ _).behind rfl)) (hfault.then rfl)

theorem tripCapture_selection (s : State) : SelectionKept s (tripCapture s) :=
  .ite (.refl s) (.ite (.of_entries rfl) (.ite (.refl s) ((requestSave_selection .trip _ _).behind rfl)))

theorem recoverTrips_selection (s : State) : SelectionKept s (recoverTrips s) := by
  unfold recoverTrips
  split <;> exact .of_entries rfl

theorem recoverRecords_selection (s : State) : SelectionKept s (recoverRecords s) := by
  unfold recoverRecords
  split <;> exact .of_entries rfl

theorem takeServiceReset_selection (i : Fin 8) (src : ResetSource) (s : State) :
    SelectionKept s (takeServiceReset i src s) := by
  have hreset := (evaluateAll_selection (s.setItem i { s.service.items[i] with
    record := some (s.shown.getD 0, s.resetDay i) })).behind (s := s) rfl
  exact (hreset.trans (report_selection _ _)).trans
    (.ite (.of_entries rfl) ((requestSave_selection .service _ _).behind rfl))

/-! ### The Odometer (R79 to R82, R87, R89) -/

theorem setOdoFault_selection (b : Bool) (s : State) : SelectionKept s (setOdoFault b s) :=
  .ite (.refl s) (((report_selection _ _).trans (setSys_selection _ _ _)).behind rfl)

theorem checkOdoFault_selection (s : State) : SelectionKept s (checkOdoFault s) :=
  .ite (setOdoFault_selection true s) (.refl s)

theorem addMetres_selection (metres : Nat) (s : State) : SelectionKept s (addMetres metres s) := by
  unfold addMetres
  split
  · exact .refl s
  · exact .ite (((shownNotice_selection _).trans (checkOdoFault_selection _)).behind rfl) (.refl s)

/-- The step that is placed leaves the warning table. -/
theorem odometerPump_selection {s t : State} (h : odometerPump s = some t) : SelectionKept s t := by
  have hincrement {o : Odometer} (h : s.incrementStep.map (fun st => placeOdometer st o s) = some t) :
      SelectionKept s t := by
    obtain ⟨_, _, rfl⟩ := Option.map_eq_some_iff.mp h
    exact .of_entries rfl
  unfold odometerPump at h
  dsimp only at h
  split at h
  · cases h
  · split at h
    · split at h
      · cases h
      · exact hincrement h
    · split at h
      · cases h
        exact .of_entries rfl
      · split at h
        · split at h <;> cases h <;> exact .of_entries rfl
        · split at h
          · cases h
            exact .of_entries rfl
          · split at h
            · cases h
              exact .of_entries rfl
            · exact hincrement h

theorem answerSetting_selection (st : Status) (s : State) : SelectionKept s (answerSetting st s) := by
  unfold answerSetting
  dsimp only
  split
  · exact .of_entries rfl
  · exact (holdResponse_selection _ _).behind rfl

theorem finishSetting_selection (t : Fin 8) (value : Nat) (s : State) : SelectionKept s (finishSetting t value s) :=
  (((setOdoFault_selection false _).trans (shownNotice_selection _)).trans (answerSetting_selection .ok _)).behind rfl

theorem incrementEnd_selection (r : ProgramReport) (s : State) : SelectionKept s (incrementEnd r s) :=
  .ite (.of_entries rfl) ((setOdoFault_selection false _).behind rfl)

theorem rotationEnd_selection (rot : Rotation) (exceeded : Bool) (s : State) :
    SelectionKept s (rotationEnd rot exceeded s) :=
  .ite ((setOdoFault_selection true _).behind rfl) (.ite (.of_entries rfl) (.of_entries rfl))

theorem settingEnd_selection (g : Setting) (exceeded : Bool) (s : State) :
    SelectionKept s (settingEnd g exceeded s) := by
  unfold settingEnd
  split
  · exact .refl s
  · exact .refl s
  · exact .ite (answerSetting_selection .failed s) (.of_entries rfl)
  · exact finishSetting_selection _ _ s

theorem odometerProgramEnd_selection (r : ProgramReport) (s : State) : SelectionKept s (odometerProgramEnd r s) := by
  unfold odometerProgramEnd
  dsimp only
  split
  · exact .of_entries rfl
  · exact (checkOdoFault_selection _).behind rfl
  · exact ((incrementEnd_selection r _).trans (checkOdoFault_selection _)).behind rfl
  · split
    · exact ((rotationEnd_selection _ _ _).trans (checkOdoFault_selection _)).behind rfl
    · exact .of_entries rfl
  · split
    · exact ((settingEnd_selection _ _ _).trans (checkOdoFault_selection _)).behind rfl
    · exact .of_entries rfl

theorem odometerEraseEnd_selection (os : List (Fin 8 × EraseOutcome)) (s : State) :
    SelectionKept s (odometerEraseEnd os s) := by
  unfold odometerEraseEnd
  dsimp only
  split
  · exact (checkOdoFault_selection _).behind rfl
  · split
    · exact .of_entries rfl
    · exact (answerSetting_selection _ _).behind rfl

theorem recoverOdometer_selection (s : State) : SelectionKept s (recoverOdometer s) := by
  unfold recoverOdometer
  dsimp only
  split
  · exact (shownNotice_selection _).behind rfl
  · exact ((shownNotice_selection _).trans (setOdoFault_selection true _)).behind rfl

/-! ### Settling and completions (R65 to R71, R75, R76, R86) -/

theorem answerExternal_selection (st : Status) (data : List Byte) (s : State) :
    SelectionKept s (answerExternal st data s) := by
  unfold answerExternal
  dsimp only
  split
  · exact .of_entries rfl
  · exact (holdResponse_selection _ _).behind rfl

theorem classProgramEnd_selection (r : ProgramReport) (s : State) : SelectionKept s (classProgramEnd r s) := by
  unfold classProgramEnd
  split
  · exact odometerProgramEnd_selection r s
  · exact pairProgramEnd_selection .trip _ s
  · exact pairProgramEnd_selection .service _ s
  · exact answerExternal_selection _ _ s

theorem externalEraseEnd_selection (b : BitVec 8) (os : List (Fin 8 × EraseOutcome)) (s : State) :
    SelectionKept s (externalEraseEnd b os s) := by
  unfold externalEraseEnd
  split
  · exact answerExternal_selection _ _ s
  · exact .refl s

theorem classEraseEnd_selection (c : StoreClass) (b : BitVec 8) (os : List (Fin 8 × EraseOutcome)) (s : State) :
    SelectionKept s (classEraseEnd c b os s) := by
  unfold classEraseEnd
  dsimp only
  split
  · exact odometerEraseEnd_selection os s
  · exact pairEraseEnd_selection .trip _ s
  · exact pairEraseEnd_selection .service _ s
  · exact externalEraseEnd_selection b os s

theorem reportSave_selection {p : PairId} {s t : State} (h : reportSave p s = some t) : SelectionKept s t := by
  unfold reportSave at h
  split at h
  · cases h
  · cases h
    cases p with
    | trip => exact (setPair_selection .trip _ s).trans (tripSaveEnd_selection _ _)
    | service => exact (setPair_selection .service _ s).trans (serviceSaveEnd_selection _ _)

theorem reportErase_selection {s t : State} (h : reportErase s = some t) : SelectionKept s t := by
  unfold reportErase at h
  split at h
  · cases h
  · cases h
    exact (classEraseEnd_selection _ _ _ _).behind rfl

theorem pairPump_selection {p : PairId} {s t : State} (h : pairPump p s = some t) : SelectionKept s t := by
  unfold pairPump at h
  split at h
  · cases h
  · cases h
    exact (setPair_selection p _ s).then rfl

theorem takeNext_selection {s t : State} (h : takeNext s = some t) : SelectionKept s t := by
  obtain ⟨x, _, rfl⟩ := Option.map_eq_some_iff.mp h
  exact .of_entries rfl

theorem settleOnce_selection {s t : State} (h : settleOnce s = some t) : SelectionKept s t := by
  unfold settleOnce at h
  rcases orElse_some h with h | h
  · exact reportSave_selection h
  rcases orElse_some h with h | h
  · exact reportSave_selection h
  rcases orElse_some h with h | h
  · exact reportErase_selection h
  rcases orElse_some h with h | h
  · exact odometerPump_selection h
  rcases orElse_some h with h | h
  · exact pairPump_selection h
  rcases orElse_some h with h | h
  · exact pairPump_selection h
  · exact takeNext_selection h

theorem settleFor_selection (n : Nat) (s : State) : SelectionKept s (settleFor n s) := by
  induction n generalizing s with
  | zero => exact .refl s
  | succ n ih =>
    unfold settleFor
    split
    · rename_i t h
      exact (settleOnce_selection h).trans (ih t)
    · exact .refl s

theorem settle_selection (s : State) : SelectionKept s (settle s) := settleFor_selection s.settleBound s

theorem storeProgramEnd_selection (worn : Bool) (s : State) : SelectionKept s (storeProgramEnd worn s) := by
  unfold storeProgramEnd
  split
  · exact .refl s
  · rename_i r x _
    have hended : SelectionKept s (if r.exceeded = true then report (.programFailed r.cls r.addr) { s with store := x }
        else { s with store := x }) := .ite ((report_selection _ _).behind rfl) (.of_entries rfl)
    exact (hended.trans (classProgramEnd_selection r _)).trans (settle_selection _)

theorem sectorEraseEnd_selection (failed : Bool) (raised : List Word) (s : State) :
    SelectionKept s (sectorEraseEnd failed raised s) := by
  unfold sectorEraseEnd
  split
  · exact .refl s
  · rename_i k x _
    have hended : SelectionKept s (if failed = true then report (.sectorBad k) { s with store := x }
        else { s with store := x }) := .ite ((report_selection _ _).behind rfl) (.of_entries rfl)
    exact hended.trans (settle_selection _)

theorem scanComplete_selection (s : State) : SelectionKept s (scanComplete s) := by
  have hready (x : Store) (h : Handler) : SelectionKept s (buildStartUp { s with store := x, handler := h }) :=
    (buildStartUp_selection _).behind rfl
  have hpairs (t : State) := ((recoverPair_selection .trip t).trans (recoverTrips_selection _)).trans
    ((recoverPair_selection .service _).trans (recoverRecords_selection _))
  unfold scanComplete
  split
  · exact (((hready _ _).trans (recoverOdometer_selection _)).trans (hpairs _)).trans (settle_selection _)
  · exact .refl s

/-! ### The Trip Computer (R43 to R53, R59) -/

theorem resetTrip_selection (r : Fin 4) (cause : TripCause) (s : State) : SelectionKept s (resetTrip r cause s) :=
  (report_selection _ _).behind rfl

theorem addToRecords_selection (f : TripField) (n : Nat) (s : State) : SelectionKept s (addToRecords f n s) :=
  (addToRecords_recordFrame f n s).selection

theorem applyDistance_selection (k delta : Nat) (s : State) : SelectionKept s (applyDistance k delta s) :=
  .ite (.of_entries rfl) (((addToRecords_selection _ _ _).trans (addMetres_selection _ _)).behind rfl)

theorem applyFuel_selection (u delta : Nat) (s : State) : SelectionKept s (applyFuel u delta s) :=
  .ite (.of_entries rfl) ((addToRecords_selection _ _ _).behind rfl)

theorem rollingCount_selection (t : TripSetup) (fuel : Bool) (count : Nat) (seeded : Bool) (s : State) :
    SelectionKept s (rollingCount t fuel count seeded s) := by
  unfold rollingCount
  dsimp only
  split
  · exact .ite ((report_selection _ _).behind rfl)
      (.ite (.ite ((applyFuel_selection _ _ _).behind rfl) ((applyDistance_selection _ _ _).behind rfl))
        (.of_entries rfl))
  · exact .of_entries rfl

theorem rollingNotice_selection (t : TripSetup) (fuel : Bool) (n : Notice) (s : State) :
    SelectionKept s (rollingNotice t fuel n s) := by
  unfold rollingNotice
  split
  · exact rollingCount_selection t fuel _ _ s
  · exact .refl s
  · exact .refl s
  · exact .of_entries rfl

theorem tripNotice_selection (c : Fin 48) (n : Notice) (s : State) : SelectionKept s (tripNotice c n s) := by
  unfold tripNotice
  split
  · exact .refl s
  · rename_i t _
    have hdistance := SelectionKept.ite (p := t.distance = c) (rollingNotice_selection t false n s) (.refl s)
    exact .ite (hdistance.trans (rollingNotice_selection t true n _)) hdistance

theorem tripSeconds_selection (s : State) : SelectionKept s (tripSeconds s) := by
  cases hs : s.trip.setup with
  | none => rw [tripSeconds_unset hs]; exact .refl s
  | some t => rw [tripSeconds_set hs]; exact (addEach_recordFrame _ _ s).selection

theorem tripKey_selection (old new : KeyState) (s : State) : SelectionKept s (tripKey old new s) := by
  refine .ite ?_ (.ite (tripCapture_selection s) (.refl s))
  unfold journeyTest
  split
  · exact .ite (resetTrip_selection _ _ s) (.refl s)
  · exact .refl s

theorem journeyLeave_selection (s : State) : SelectionKept s (journeyLeave s) :=
  .ite ((report_selection _ _).behind rfl) (.refl s)

/-! ### The trip button and the rear panel (R152 to R158) -/

theorem pressEdge_selection (s : State) : SelectionKept s (pressEdge s) := by
  unfold pressEdge
  split
  · rename_i w hw
    exact acknowledge_selection hw
  · exact .ite (.of_entries rfl) (.of_entries rfl)

theorem releaseEdge_selection (s : State) : SelectionKept s (releaseEdge s) := by
  unfold releaseEdge
  dsimp only
  split
  · exact .refl s
  · exact .ite (.of_entries rfl) (.of_entries rfl)

theorem hold2s_selection (s : State) : SelectionKept s (hold2s s) := by
  have hreset : ∀ p : Nat, SelectionKept s (match buttonTrip p with | some r => resetTrip r .button s | none => s) := by
    intro p
    split
    · exact resetTrip_selection _ _ s
    · exact .refl s
  unfold hold2s
  split
  · exact .refl s
  · exact .ite ((hreset _).then rfl) (.refl s)

theorem buttonServiceReset_selection (i : Fin 8) (s : State) : SelectionKept s (buttonServiceReset i s) :=
  .ite ((takeServiceReset_selection i .button s).trans (settle_selection _)) (.of_entries rfl)

theorem hold5s_selection (s : State) : SelectionKept s (hold5s s) := by
  unfold hold5s
  split
  · exact .refl s
  · refine .ite ?_ (.refl s)
    dsimp only
    split
    · exact .ite ((buttonServiceReset_selection _ _).behind rfl) (.of_entries rfl)
    · exact .of_entries rfl

theorem buttonNotice_selection (n : Notice) (s : State) : SelectionKept s (buttonNotice n s) := by
  unfold buttonNotice
  split
  · exact pressEdge_selection s
  · exact releaseEdge_selection s
  · exact .refl s
  · exact .refl s
  · exact .refl s
  · exact .of_entries rfl

theorem displayNotice_selection (c : Fin 48) (n : Notice) (s : State) : SelectionKept s (displayNotice c n s) := by
  have hbutton := fun p [Decidable p] => SelectionKept.ite (p := p) (buttonNotice_selection n s) (.refl s)
  unfold displayNotice
  split
  · exact .refl s
  · exact .ite ((hbutton _).trans (rebuild_selection _)) (hbutton _)

theorem callChange_selection (b : Bool) (s : State) : SelectionKept s (callChange b s) :=
  .ite (setSys_selection _ _ s) ((setSys_selection .rearCall false s).then rfl)

theorem journeyChange_selection (b : Bool) (s : State) : SelectionKept s (journeyChange b s) := by
  have hentered : SelectionKept s (journeyEnter s) := (report_selection _ _).behind rfl
  exact .ite (hentered.then rfl) (.ite ((journeyLeave_selection s).then rfl) (.refl s))

theorem takeRequestSet_selection (call journey : Bool) (s : State) :
    SelectionKept s (takeRequestSet call journey s) := by
  have hidle : SelectionKept s { s with display := { s.display with idleTimer := some s.idleMs } } := .of_entries rfl
  have hcall := SelectionKept.ite (p := s.display.call = call) hidle (hidle.trans (callChange_selection call _))
  have hjourney := SelectionKept.ite (p := s.display.journey = journey) hcall
    (hcall.trans (journeyChange_selection journey _))
  exact .ite (.refl s) (checkShutdown_withDisplay_selection hjourney _)

theorem replyTaken_selection (bytes : List Byte) (s : State) : SelectionKept s (replyTaken bytes s) := by
  unfold replyTaken
  split
  · exact .ite ((takeRequestSet_selection _ _ _).behind rfl) (.of_entries rfl)
  · exact .refl s

/-! ### The Loop Port (R166, R172 to R177) -/

theorem holderExpiry_selection (n : Node) (s : State) : SelectionKept s (holderExpiry n s) :=
  .ite ((report_selection _ _).behind rfl) (.refl s)

theorem setLoopState_selection (new : LoopState) (s : State) : SelectionKept s (setLoopState new s) :=
  .ite (.refl s) (((report_selection _ _).trans (setSys_selection _ _ _)).behind rfl)

theorem loopMiss_selection (s : State) : SelectionKept s (loopMiss s) := setLoopState_selection _ s

theorem loopReturn_selection (f : Frame) (s : State) : SelectionKept s (loopReturn f s) := by
  unfold loopReturn
  dsimp only
  split
  · exact loopMiss_selection s
  · exact ((SelectionKept.foldl (fun t _ => loopMiss_selection t) _ _).trans (setLoopState_selection _ _)).behind rfl

theorem returnExpiry_selection (s : State) : SelectionKept s (returnExpiry s) := by
  unfold returnExpiry
  split
  · exact .refl s
  · exact (loopMiss_selection _).behind rfl

theorem treatFrame_selection (f : Frame) (s : State) : SelectionKept s (treatFrame f s) :=
  .ite (.ite (.refl s) (loopReturn_selection f s))
    (.ite (.of_entries rfl) (.ite (.of_entries rfl) (.ite (.of_entries rfl) (.of_entries rfl))))

/-! ### The gauges, the chimes and the clock -/

theorem driveUpdate_selection (g : Fin 6) (s : State) : SelectionKept s (driveUpdate g s) := by
  unfold driveUpdate
  dsimp only
  split
  · exact .refl s
  · exact .of_entries rfl

theorem chimeNotice_selection (c : Fin 48) (n : Notice) (s : State) : SelectionKept s (chimeNotice c n s) := by
  unfold chimeNotice
  split
  · split <;> exact .of_entries rfl
  · exact .refl s

theorem settleTimerExpiry_selection (s : State) : SelectionKept s (settleTimerExpiry s) := by
  unfold settleTimerExpiry
  split
  · exact (testGates_selection _).behind rfl
  · exact .refl s

theorem secondsEvent_selection (s : State) : SelectionKept s (secondsEvent s) := by
  have hclock : SelectionKept s { s with key := { s.key.advance.1 with secondsTimer := some 1000 } } := .of_entries rfl
  have hday := SelectionKept.ite (p := s.key.advance.2 = true) (hclock.trans (evaluateAll_selection _)) hclock
  exact ((hday.trans (tripSeconds_selection _)).trans (testGates_selection _)).trans (rebuild_selection _)

theorem setClock_selection (seconds day : Nat) (s : State) : SelectionKept s (setClock seconds day s) :=
  (((setSys_selection .clockInvalid false _).trans (evaluateAll_selection _)).trans (rebuild_selection _)).behind rfl

end Sys2Proof.Machine
end

section
/-! PROOF. Every command keeps the selection settled (R120): the notices of the Channel Table, the requests, the handler
and RESTART, and with the millisecond of an empty queue every step. -/

namespace Sys2Proof.Machine

/-! ### Notices and the key (R10, R19, R20, R193) -/

theorem deliver_selection (c : Fin 48) (n : Notice) (s : State) : SelectionKept s (deliver c n s) := by
  have hwarned : SelectionKept s (warnChannel c n (gaugeNotice c n s)) := (warnChannel_selection c n _).behind rfl
  have htrip := (hwarned.trans (tripNotice_selection c n _)).trans (settle_selection _)
  exact (htrip.trans (displayNotice_selection c n _)).trans (chimeNotice_selection c n _)

theorem channelTake_selection (s : State) : SelectionKept s (channelTake s) := by
  unfold channelTake
  split
  · exact .refl s
  · exact (SelectionKept.foldl (fun (t : State) (n : Fin 48 × Notice) => deliver_selection n.1 n.2 t) _ _).behind rfl

theorem freshnessExpiry_selection (c : Fin 48) (s : State) : SelectionKept s (freshnessExpiry c s) := by
  unfold freshnessExpiry
  dsimp only
  split
  · exact .refl s
  · exact (deliver_selection c .stale _).behind rfl

theorem disableChannel_selection (c : Fin 48) (s : State) : SelectionKept s (disableChannel c s) :=
  (deliver_selection c .stale _).behind rfl

theorem gaugeKey_selection (old new : KeyState) (s : State) : SelectionKept s (gaugeKey old new s) := .of_entries rfl

theorem keyEvent_selection (new : KeyState) (s : State) : SelectionKept s (keyEvent new s) := by
  have hreported : SelectionKept s (report (.keyChange s.key.state new) { s with key := s.key.record new }) :=
    (report_selection _ _).behind rfl
  have hkeyed := hreported.trans (gaugeKey_selection s.key.state new _)
  have hsettled := (hkeyed.trans (tripKey_selection s.key.state new _)).trans (settle_selection _)
  have hserviced := hsettled.trans
    (.ite (p := new = .run) (evaluateAll_selection _) (.refl _) : SelectionKept _ (serviceKey new _))
  exact (hserviced.trans (warningKey_selection s.key.state new _)).trans (displayKey_selection new _)

theorem keySample_selection (found : Lines) (s : State) : SelectionKept s (keySample found s) :=
  .ite ((keyEvent_selection _ _).behind rfl) (.of_entries rfl)

/-- A millisecond changes timers only. -/
theorem idleMillisecond_selection (s : State) : SelectionKept s (idleMillisecond s) := by
  refine .ite (SameTable.kept fun w => ?_) (.refl s)
  have hidle : (s.warnings.entries.map Warning.idle)[w] = (s.warnings.entries[w]).idle := Vector.getElem_map _ w.isLt
  exact hidle ▸ ⟨rfl, rfl, rfl, rfl⟩

/-! ### Requests (R180, R181) -/

theorem SelectionKept.respond {s : State} {r : State × Answer} (k : SelectionKept s r.1) (h : Head) (code : Byte)
    (restart : Bool) : SelectionKept s (Machine.respond h code restart r) := by
  unfold Machine.respond
  split
  · exact k
  · exact k.trans ((placeResponse_selection _ restart _).behind rfl)

/-- The dump frames that follow a response (R188). -/
theorem SelectionKept.respondFill {s : State} {r : State × Answer} (k : SelectionKept s r.1) (h : Head) (code : Byte)
    (restart : Bool) : SelectionKept s (dumpFill (Machine.respond h code restart r)) :=
  (k.respond h code restart).trans (dumpFor_selection 6 _)

/-- One of two answers. -/
theorem SelectionKept.iteAnswer {p : Prop} [Decidable p] {s : State} {q r : State × Answer}
    (hq : SelectionKept s q.1) (hr : SelectionKept s r.1) : SelectionKept s (if p then q else r).1 := by
  split
  · exact hq
  · exact hr

theorem SelectionKept.answer {s t : State} (h : SelectionKept s t) (a : Answer) : SelectionKept s (t, a).1 := h

section Requests
variable (s : State)

theorem refuse_selection (st : Status) : SelectionKept s (refuse st s).1 := .refl s

theorem pagedAt_selection {n : Nat} (part : Option Byte) (i : Option (Fin n)) (content : Fin n → List Byte) :
    SelectionKept s (pagedAt part i content s).1 := by
  unfold pagedAt
  split <;> exact .refl s

theorem reqWriteChannel_selection (ch tag origin kind offset bit curve timeout shift debounce : Byte) :
    SelectionKept s (reqWriteChannel ch tag origin kind offset bit curve timeout shift debounce s).1 := by
  unfold reqWriteChannel
  split
  · exact refuse_selection s _
  · refine .iteAnswer (refuse_selection s _) ?_
    split
    · exact refuse_selection s _
    · exact .of_entries rfl

theorem reqEnableChannel_selection (ch : Byte) : SelectionKept s (reqEnableChannel ch s).1 := by
  unfold reqEnableChannel
  split
  · exact refuse_selection s _
  · split
    · exact refuse_selection s _
    · exact .iteAnswer (refuse_selection s _) (.iteAnswer (.refl s) (.of_entries rfl))

theorem reqDisableChannel_selection (ch : Byte) : SelectionKept s (reqDisableChannel ch s).1 := by
  unfold reqDisableChannel
  split
  · exact refuse_selection s _
  · rename_i c _
    exact .iteAnswer ((disableChannel_selection c s).answer _) (.refl s)

theorem reqCurvePoint_selection (curve slot : Byte) (x : BitVec 24) (y : Word) :
    SelectionKept s (reqCurvePoint curve slot x y s).1 := by
  unfold reqCurvePoint
  split
  · exact .iteAnswer (refuse_selection s _) (.iteAnswer (refuse_selection s _) (.of_entries rfl))
  · exact refuse_selection s _

theorem reqCommitCurve_selection (curve count : Byte) : SelectionKept s (reqCommitCurve curve count s).1 := by
  unfold reqCommitCurve
  split
  · exact refuse_selection s _
  · exact .iteAnswer (refuse_selection s _) (.iteAnswer (.of_entries rfl) (refuse_selection s _))

theorem reqReadCurve_selection (curve slot : Byte) (part : Option Byte) :
    SelectionKept s (reqReadCurve curve slot part s).1 := by
  unfold reqReadCurve
  split
  · exact .iteAnswer (refuse_selection s _) (pagedAt_selection s _ _ _)
  · exact refuse_selection s _

theorem reqWriteGauge_selection (g source curve damping slew : Byte) (park : Word) (flags : Byte) (dial : Word) :
    SelectionKept s (reqWriteGauge g source curve damping slew park flags dial s).1 := by
  unfold reqWriteGauge
  split
  · exact refuse_selection s _
  · refine .iteAnswer (refuse_selection s _) ?_
    split
    · exact refuse_selection s _
    · exact .of_entries rfl

theorem reqEnableGauge_selection (g : Byte) : SelectionKept s (reqEnableGauge g s).1 := by
  unfold reqEnableGauge
  split
  · exact refuse_selection s _
  · exact .iteAnswer (refuse_selection s _)
      (.iteAnswer (refuse_selection s _) (.iteAnswer (.refl s) (.of_entries rfl)))

theorem reqDisableGauge_selection (g : Byte) : SelectionKept s (reqDisableGauge g s).1 := by
  unfold reqDisableGauge
  split
  · exact refuse_selection s _
  · exact .iteAnswer (.of_entries rfl) (.refl s)

theorem reqWriteTripSetup_selection (distance fuel speed level : Byte) (pulses units maxDelta : Word)
    (gapDefault : BitVec 24) :
    SelectionKept s (reqWriteTripSetup distance fuel speed level pulses units maxDelta gapDefault s).1 := by
  refine .iteAnswer (refuse_selection s _) ?_
  split
  · exact refuse_selection s _
  · exact .of_entries rfl

theorem reqSnapshotTrip_selection (r : Byte) : SelectionKept s (reqSnapshotTrip r s).1 := by
  unfold reqSnapshotTrip
  split
  · exact refuse_selection s _
  · split <;> exact .of_entries rfl

theorem reqReadTrip_selection (r : Byte) : SelectionKept s (reqReadTrip r s).1 := by
  unfold reqReadTrip
  split
  · exact refuse_selection s _
  · dsimp only
    split <;> exact .of_entries rfl

theorem reqResetTrip_selection (r : Byte) : SelectionKept s (reqResetTrip r s).1 := by
  unfold reqResetTrip
  split
  · exact refuse_selection s _
  · exact resetTrip_selection _ _ s

theorem reqStoreProgram_selection (h : Head) (addr : Byte) (value : Word) :
    SelectionKept s (reqStoreProgram h addr value s).1 :=
  .iteAnswer (refuse_selection s _) (.iteAnswer (refuse_selection s _)
    (.iteAnswer (refuse_selection s _) ((settle_selection _).behind rfl)))

theorem reqStoreErase_selection (h : Head) (sectors : Byte) : SelectionKept s (reqStoreErase h sectors s).1 :=
  .iteAnswer (refuse_selection s _) (.iteAnswer (refuse_selection s _)
    (.iteAnswer (refuse_selection s _) (.iteAnswer (.refl s) ((settle_selection _).behind rfl))))

theorem reqSetOdometer_selection (h : Head) (value : BitVec 24) : SelectionKept s (reqSetOdometer h value s).1 :=
  .iteAnswer (refuse_selection s _) (.iteAnswer (refuse_selection s _) (.iteAnswer (refuse_selection s _)
    (.iteAnswer (refuse_selection s _) ((settle_selection _).behind rfl))))

theorem reqWriteServiceItem_selection (item message : Byte) (intervalKm intervalDays advanceKm overdueKm : Word)
    (advOverDays : BitVec 24) : SelectionKept s
      (reqWriteServiceItem item message intervalKm intervalDays advanceKm overdueKm advOverDays s).1 := by
  unfold reqWriteServiceItem
  split
  · exact refuse_selection s _
  · split
    · exact refuse_selection s _
    · exact (evaluateItem_selection _ _).behind rfl

theorem reqEnableServiceItem_selection (item : Byte) : SelectionKept s (reqEnableServiceItem item s).1 := by
  unfold reqEnableServiceItem
  split
  · exact refuse_selection s _
  · exact .iteAnswer (refuse_selection s _) (.iteAnswer (.refl s) ((evaluateItem_selection _ _).behind rfl))

theorem reqDisableServiceItem_selection (item : Byte) : SelectionKept s (reqDisableServiceItem item s).1 := by
  unfold reqDisableServiceItem
  split
  · exact refuse_selection s _
  · exact .iteAnswer ((noteStage_selection _ _ _ _).behind rfl) (.refl s)

theorem reqServiceReset_selection (item : Byte) : SelectionKept s (reqServiceReset item s).1 := by
  unfold reqServiceReset
  split
  · exact refuse_selection s _
  · exact .iteAnswer ((takeServiceReset_selection _ _ s).trans (settle_selection _)) (refuse_selection s _)

/-- What is loaded of a disabled warning may change: it is IDLE. -/
theorem setDisabled_selection {w : Fin 32} {x : Warning} (hoff : (s.warnings.entries[w]).enabled = false)
    (hx : x.state = (s.warnings.entries[w]).state) : SelectionKept s (s.setWarning w x) := by
  refine ⟨fun h => ?_⟩
  have hidle := h.idle w hoff
  rw [hidle] at hx
  exact h.setWarning (hidle.trans_ne nofun) (fun _ => hx) (hx.trans_ne nofun) fun hp => nomatch hx.symm.trans hp

theorem reqWriteWarningCondition_selection (w kind subject : Byte) (threshold hysteresis : Word)
    (counts keyGate : Byte) (speedGate : Word) (staleAction minStage : Byte) : SelectionKept s
      (reqWriteWarningCondition w kind subject threshold hysteresis counts keyGate speedGate staleAction minStage
        s).1 := by
  unfold reqWriteWarningCondition
  split
  · exact refuse_selection s _
  · split
    · exact refuse_selection s _
    · rename_i hon
      split
      · exact refuse_selection s _
      · exact setDisabled_selection s (Bool.eq_false_iff.mpr hon) rfl

theorem reqWriteWarningAction_selection (w priority latch chime message lamp routing present remind : Byte) :
    SelectionKept s (reqWriteWarningAction w priority latch chime message lamp routing present remind s).1 := by
  unfold reqWriteWarningAction
  split
  · exact refuse_selection s _
  · split
    · exact refuse_selection s _
    · rename_i hon
      split
      · exact refuse_selection s _
      · exact setDisabled_selection s (Bool.eq_false_iff.mpr hon) rfl

theorem reqEnableWarning_selection (w : Byte) : SelectionKept s (reqEnableWarning w s).1 := by
  unfold reqEnableWarning
  split
  · exact refuse_selection s _
  · dsimp only
    refine .iteAnswer (refuse_selection s _) ?_
    split
    · exact .refl s
    · rename_i hon
      exact enableWarning_selection (Bool.eq_false_iff.mpr hon)

theorem reqDisableWarning_selection (w : Byte) : SelectionKept s (reqDisableWarning w s).1 := by
  unfold reqDisableWarning
  split
  · exact refuse_selection s _
  · exact .iteAnswer (disableWarning_selection _ s) (.refl s)

theorem reqMaskWarning_selection (w : Byte) : SelectionKept s (reqMaskWarning w s).1 := by
  unfold reqMaskWarning
  split
  · exact refuse_selection s _
  · exact .iteAnswer (.refl s) (maskWarning_selection _ s)

theorem reqUnmaskWarning_selection (w : Byte) : SelectionKept s (reqUnmaskWarning w s).1 := by
  unfold reqUnmaskWarning
  split
  · exact refuse_selection s _
  · exact .iteAnswer (unmaskWarning_selection _ s) (.refl s)

theorem reqWriteChimeSegment_selection (p slot : Byte) (divisor : Word) (on off : Byte) :
    SelectionKept s (reqWriteChimeSegment p slot divisor on off s).1 := by
  unfold reqWriteChimeSegment
  split
  · exact .iteAnswer (refuse_selection s _) (.iteAnswer (refuse_selection s _) (.of_entries rfl))
  · exact refuse_selection s _

theorem reqWriteChimePattern_selection (p repeats segments : Byte) :
    SelectionKept s (reqWriteChimePattern p repeats segments s).1 := by
  unfold reqWriteChimePattern
  split
  · exact refuse_selection s _
  · exact .iteAnswer (refuse_selection s _)
      (.iteAnswer (refuse_selection s _) (.iteAnswer (refuse_selection s _) (.of_entries rfl)))

theorem reqWriteChimeSetup_selection (tickChannel tickPattern answerPattern : Byte) :
    SelectionKept s (reqWriteChimeSetup tickChannel tickPattern answerPattern s).1 := by
  unfold reqWriteChimeSetup
  split <;> exact .of_entries rfl

theorem reqReadChimePattern_selection (p slot : Byte) (part : Option Byte) :
    SelectionKept s (reqReadChimePattern p slot part s).1 := by
  unfold reqReadChimePattern
  split
  · exact .iteAnswer (refuse_selection s _) (pagedAt_selection s _ _ _)
  · exact refuse_selection s _

theorem reqWriteMessage_selection (message chunk : Byte) (chars : Vector Byte 10) :
    SelectionKept s (reqWriteMessage message chunk chars s).1 := by
  unfold reqWriteMessage
  split
  · exact refuse_selection s _
  · exact .iteAnswer (refuse_selection s _) (.of_entries rfl)

theorem reqWriteDisplaySetup_selection (button temperature offDelay : Byte) (idleTime : Word)
    (mcBrightness rpBrightness : Byte) :
    SelectionKept s (reqWriteDisplaySetup button temperature offDelay idleTime mcBrightness rpBrightness s).1 := by
  unfold reqWriteDisplaySetup
  split
  · exact .iteAnswer (.of_entries rfl) (refuse_selection s _)
  · exact refuse_selection s _

theorem reqStoreDump_selection (h : Head) (start : Byte) (count : Word) :
    SelectionKept s (reqStoreDump h start count s).1 := by
  refine .iteAnswer (refuse_selection s _) ?_
  split <;> exact .of_entries rfl

theorem reqDumpAbort_selection : SelectionKept s (reqDumpAbort s).1 := by
  unfold reqDumpAbort
  split <;> exact .of_entries rfl

theorem reqDumpResume_selection (h : Head) : SelectionKept s (reqDumpResume h s).1 := by
  unfold reqDumpResume
  split <;> exact .of_entries rfl

theorem reqSetClock_selection (seconds : BitVec 24) (day : Word) : SelectionKept s (reqSetClock seconds day s).1 :=
  .iteAnswer (refuse_selection s _) (setClock_selection _ _ s)

end Requests

/-- Every request that is carried out; a row that is no request does nothing here. -/
theorem serve_selection (i : Instr) (s : State) : SelectionKept s (serve i s) := by
  cases i with
  | unknownRequest => exact (refuse_selection s _).respond _ _ _
  | writeChannel => exact (reqWriteChannel_selection s ..).respond _ _ _
  | enableChannel => exact (reqEnableChannel_selection s _).respond _ _ _
  | disableChannel => exact (reqDisableChannel_selection s _).respond _ _ _
  | curvePoint => exact (reqCurvePoint_selection s ..).respond _ _ _
  | commitCurve => exact (reqCommitCurve_selection s ..).respond _ _ _
  | readChannelSetup => exact (pagedAt_selection s _ _ _).respond _ _ _
  | readChannel => exact (pagedAt_selection s _ _ _).respond _ _ _
  | readCurve => exact (reqReadCurve_selection s ..).respond _ _ _
  | writeGauge => exact (reqWriteGauge_selection s ..).respond _ _ _
  | enableGauge => exact (reqEnableGauge_selection s _).respond _ _ _
  | disableGauge => exact (reqDisableGauge_selection s _).respond _ _ _
  | readGaugeSetup => exact (pagedAt_selection s _ _ _).respond _ _ _
  | readGauge => exact (pagedAt_selection s _ _ _).respond _ _ _
  | writeTripSetup => exact (reqWriteTripSetup_selection s ..).respond _ _ _
  | readTripFigures => exact (pagedAt_selection s _ _ _).respond _ _ _
  | snapshotTrip => exact (reqSnapshotTrip_selection s _).respond _ _ _
  | readTrip => exact (reqReadTrip_selection s _).respond _ _ _
  | resetTrip => exact (reqResetTrip_selection s _).respond _ _ _
  | storeProgram => exact (reqStoreProgram_selection s ..).respond _ _ _
  | storeErase => exact (reqStoreErase_selection s ..).respond _ _ _
  | setOdometer => exact (reqSetOdometer_selection s ..).respond _ _ _
  | writeServiceItem => exact (reqWriteServiceItem_selection s ..).respond _ _ _
  | enableServiceItem => exact (reqEnableServiceItem_selection s _).respond _ _ _
  | disableServiceItem => exact (reqDisableServiceItem_selection s _).respond _ _ _
  | readServiceItem => exact (pagedAt_selection s _ _ _).respond _ _ _
  | serviceReset => exact (reqServiceReset_selection s _).respond _ _ _
  | writeWarningCondition => exact (reqWriteWarningCondition_selection s ..).respond _ _ _
  | writeWarningAction => exact (reqWriteWarningAction_selection s ..).respond _ _ _
  | enableWarning => exact (reqEnableWarning_selection s _).respond _ _ _
  | disableWarning => exact (reqDisableWarning_selection s _).respond _ _ _
  | maskWarning => exact (reqMaskWarning_selection s _).respond _ _ _
  | unmaskWarning => exact (reqUnmaskWarning_selection s _).respond _ _ _
  | readWarningSetup => exact (pagedAt_selection s _ _ _).respond _ _ _
  | readWarning => exact (pagedAt_selection s _ _ _).respond _ _ _
  | writeChimeSegment => exact (reqWriteChimeSegment_selection s ..).respond _ _ _
  | writeChimePattern => exact (reqWriteChimePattern_selection s ..).respond _ _ _
  | writeChimeSetup => exact (reqWriteChimeSetup_selection s ..).respond _ _ _
  | readChimePattern => exact (reqReadChimePattern_selection s ..).respond _ _ _
  | writeMessage => exact (reqWriteMessage_selection s ..).respond _ _ _
  | readMessage => exact (pagedAt_selection s _ _ _).respond _ _ _
  | writeDisplaySetup => exact (reqWriteDisplaySetup_selection s ..).respond _ _ _
  | assertHold => exact SelectionKept.respond (s := s) (r := reqAssertHold s) (.of_entries rfl) _ _ _
  | clearHold => exact SelectionKept.respond (s := s) (r := reqClearHold s) (.of_entries rfl) _ _ _
  | events _ set =>
    exact SelectionKept.respond (s := s) (r := reqEvents set s)
      (.iteAnswer (refuse_selection s _) (.of_entries rfl)) _ _ _
  | restart => exact SelectionKept.respond (s := s) (r := reqRestart s) (.of_entries rfl) _ _ _
  | storeDump => exact (reqStoreDump_selection s ..).respondFill _ _ _
  | dumpAbort => exact (reqDumpAbort_selection s).respond _ _ _
  | dumpResume => exact (reqDumpResume_selection s _).respondFill _ _ _
  | setClock => exact (reqSetClock_selection s ..).respond _ _ _
  | readTripSetup | readStore | readOdometer | readLamps | readChimeSetup | readChimes | readDisplaySetup | readDisplay
  | readLoop | readStatus | readClock => exact SelectionKept.respond (r := paged _ _ s) (.refl s) _ _ _
  | _ => exact .refl s

/-! ### The request handler and RESTART (R166, R170, R171, R180, R182, R184) -/

theorem pumpFor_selection (n : Nat) (s : State) : SelectionKept s (pumpFor n s) := by
  induction n generalizing s with
  | zero => exact .refl s
  | succ n ih =>
    unfold pumpFor
    split
    · exact .refl s
    · exact .ite (((serve_selection _ _).trans (ih _)).behind rfl) (.refl s)

theorem pump_selection (s : State) : SelectionKept s (pump s) := pumpFor_selection _ s

theorem frameReceived_selection (bytes : Frame) (longGap stopMissing : Bool) (s : State) :
    SelectionKept s (frameReceived bytes longGap stopMissing s) :=
  .ite ((treatFrame_selection bytes s).trans (pump_selection _)) (.refl s)

theorem arrive_selection (i : Instr) (s : State) : SelectionKept s (arrive i s) := by
  unfold arrive
  split
  · exact .refl s
  · exact .ite (serve_selection i s) (frameReceived_selection _ _ _ s)

theorem placeHeld_selection (s : State) : SelectionKept s (placeHeld s) := by
  unfold placeHeld
  split
  · exact .ite ((pump_selection _).behind rfl) (.refl s)
  · exact .refl s

theorem takeFor_selection (n : Nat) (s : State) : SelectionKept s (takeFor n s) := by
  induction n generalizing s with
  | zero => exact .refl s
  | succ n ih =>
    unfold takeFor
    split
    · exact .refl s
    · exact .ite (.ite ((serve_selection _ _).behind rfl) (((serve_selection _ _).trans (ih _)).behind rfl)) (.refl s)

theorem handlerTurn_selection (s : State) : SelectionKept s (handlerTurn s) := by
  unfold handlerTurn
  split
  · exact .ite (.of_entries rfl) (.refl s)
  · exact takeFor_selection _ s

theorem offerRound_selection (s : State) : SelectionKept s (offerRound s) :=
  (((handlerTurn_selection s).trans (buildStartUp_selection _)).trans (buildEvent_selection _)).trans
    (buildDump_selection _)

theorem offerFor_selection (n : Nat) (s : State) : SelectionKept s (offerFor n s) := by
  induction n generalizing s with
  | zero => exact .refl s
  | succ n ih => exact .ite ((offerRound_selection s).trans (ih _)) (.refl s)

/-- RESTART makes every warning IDLE, and its take-up settles the selection again. -/
theorem restartNow_selection (s : State) : SelectionKept s (restartNow s) := by
  have hblocks : SelectionKept s (restartBlocks s) := ⟨fun _ =>
    (warningsRestart_selected (tripRestart (gaugeRestart (channelRestart s)))).elsewhere rfl⟩
  have htaken := ((hblocks.trans (buildStartUp_selection _)).trans (evaluateAll_selection _)).trans
    (testGates_selection _)
  exact checkShutdown_withDisplay_selection
    ((htaken.trans (notifyDisplay_selection false _)).trans (rebuild_selection _)) _

theorem transmitStart_selection (s : State) : SelectionKept s (transmitStart s) :=
  .ite ((offerFor_selection _ _).behind rfl) (.of_entries rfl)

theorem frameSent_selection (s : State) : SelectionKept s (frameSent s) :=
  .ite ((restartNow_selection _).behind rfl) (.of_entries rfl)

/-! ### Every command -/

theorem SelectionKept.ofLive {f : State → State} {s t : State} (k : SelectionKept s (f s)) (h : live f s = .next t) :
    SelectionKept s t := by
  rcases next_of_live h with rfl | rfl
  · exact k
  · exact .refl _

theorem exec_selection {i : Instr} {s t : State} (h : exec i s = .next t) : SelectionKept s t := by
  cases i with
  | powerOnReset straps held raised =>
    cases h
    exact ⟨fun _ => powerOn_selected ..⟩
  | powerLoss held raised =>
    cases h
    refine .ite ⟨fun _ => ?_⟩ (.refl s)
    exact (powerOn_selected s.loop.node (s.store.afterLoss held raised) s.pending).elsewhere rfl
  | loopFrameReceived => exact (frameReceived_selection _ _ _ s).ofLive h
  | loopTransmitStart => exact (transmitStart_selection s).ofLive h
  | loopFrameSent => exact (frameSent_selection s).ofLive h
  | returnTimerExpiry => exact (returnExpiry_selection s).ofLive h
  | holdListTimerExpiry => exact (holderExpiry_selection _ s).ofLive h
  | refreshTimerExpiry =>
    exact SelectionKept.ofLive (f := fun t => { t with loop := t.loop.refreshExpiry }) (.of_entries rfl) h
  | broadcastTimerExpiry =>
    exact SelectionKept.ofLive (f := broadcastExpiry) (.ite (.of_entries rfl) (.of_entries rfl)) h
  | channelTake => exact (channelTake_selection s).ofLive h
  | freshnessExpiry => exact (freshnessExpiry_selection _ s).ofLive h
  | driveUpdate => exact (driveUpdate_selection _ s).ofLive h
  | keySample => exact (keySample_selection _ s).ofLive h
  | settleTimerExpiry => exact (settleTimerExpiry_selection s).ofLive h
  | secondsEvent => exact (secondsEvent_selection s).ofLive h
  | bulbCheckExpiry => exact SelectionKept.ofLive (f := bulbExpiry) (.of_entries rfl) h
  | presentTimerExpiry => exact (presentExpiry_selection _ s).ofLive h
  | remindTimerExpiry => exact (remindExpiry_selection _ s).ofLive h
  | toneEnd z => exact SelectionKept.ofLive (f := fun t => { t with chime := t.chime.toneEnd z }) (.of_entries rfl) h
  | gapEnd z => exact SelectionKept.ofLive (f := fun t => { t with chime := t.chime.gapEnd z }) (.of_entries rfl) h
  | eraseWindowExpiry => exact SelectionKept.ofLive (f := eraseWindowExpiry) ((settle_selection _).behind rfl) h
  | programEnd worn => exact (storeProgramEnd_selection worn s).ofLive h
  | sectorEraseEnd failed raised => exact (sectorEraseEnd_selection failed raised s).ofLive h
  | suspensionReached => exact SelectionKept.ofLive (f := suspensionReached) ((settle_selection _).behind rfl) h
  | scanComplete => exact (scanComplete_selection s).ofLive h
  | hold2sExpiry => exact (hold2s_selection s).ofLive h
  | hold5sExpiry => exact (hold5s_selection s).ofLive h
  | notAvailableExpiry => exact SelectionKept.ofLive (f := notAvailableExpiry) (.ite (.of_entries rfl) (.refl s)) h
  | mcOffTimerExpiry => exact (mcOffExpiry_selection s).ofLive h
  | dlWakeAsserted => exact SelectionKept.ofLive (f := wakeAsserted) (.of_entries rfl) h
  | linkSettleExpiry => exact SelectionKept.ofLive (f := settleExpiry) (.ite (.of_entries rfl) (.refl s)) h
  | linkStartSent => exact (linkStartSent_selection s).ofLive h
  | packetDone => exact (packetDone_selection s).ofLive h
  | packetSent => exact (packetSent_selection s).ofLive h
  | pollTimerExpiry => exact SelectionKept.ofLive (f := pollExpiry) (.ite (.of_entries rfl) (.refl s)) h
  | statusReply => exact (replyTaken_selection _ s).ofLive h
  | replyWindowExpiry => exact (replyWindowExpiry_selection s).ofLive h
  | rpIdleTimerExpiry => exact (rpIdleExpiry_selection s).ofLive h
  | linkShutdownSend => exact SelectionKept.ofLive (f := linkShutdownSend) (.ite (.of_entries rfl) (.refl s)) h
  | linkShutdownSent => exact (linkShutdownSent_selection s).ofLive h
  | quietTimerExpiry => exact SelectionKept.ofLive (f := quietExpiry) (.ite (.of_entries rfl) (.refl s)) h
  | heldResponsePlaced => exact (placeHeld_selection s).ofLive h
  | eventFrameBuild => exact (buildEvent_selection s).ofLive h
  | startUpReport => exact (buildStartUp_selection s).ofLive h
  | dumpFrameBuild => exact (buildDump_selection s).ofLive h
  | restartEffect => exact SelectionKept.ofLive (.ite (frameSent_selection s) (.refl s)) h
  | _ => exact (arrive_selection _ s).ofLive h

theorem step_selection {s t : State} (h : step s = .next t) : SelectionKept s t := by
  unfold step at h
  split at h
  · cases h
    exact idleMillisecond_selection s
  · exact (exec_selection h).behind rfl

/-- The statement's own wording of a settled selection. -/
theorem State.selected_iff (s : State) : s.Selected ↔
    (∀ w : Fin 32, (s.warnings.entries[w]).enabled = false → (s.warnings.entries[w]).state = .idle) ∧
    (∀ w : Fin 32, (s.warnings.entries[w]).state = .presented → (s.warnings.entries[w]).masked = false) ∧
    (∀ v w : Fin 32, (s.warnings.entries[v]).state = .presented →
      (s.warnings.entries[w]).state = .presented → v = w) ∧
    (∀ q : Fin 32, (s.warnings.entries[q]).enabled = true → (s.warnings.entries[q]).masked = false →
      (s.warnings.entries[q]).state = .pending →
      ∃ p : Fin 32, (s.warnings.entries[p]).state = .presented ∧
        rankOf p s.warnings.entries[p] ≤ rankOf q s.warnings.entries[q]) :=
  ⟨fun h => ⟨h.idle, h.unmasked, h.single, h.outranked⟩,
    fun ⟨hidle, hunmasked, hsingle, houtranked⟩ => ⟨⟨hidle, hunmasked, hsingle⟩, houtranked⟩⟩

/-- Settles O34: after reset every warning is IDLE, and every step keeps the selection settled. -/
theorem selectionIsAlwaysSettled : Obligations.SelectionIsAlwaysSettled :=
  ⟨(State.selected_iff _).mp (powerOn_selected ..), fun s t hs h =>
    (State.selected_iff t).mp ((step_selection h).selected ((State.selected_iff s).mpr hs))⟩

end Sys2Proof.Machine
end

section
/-! PROOF. The conditions of the warnings (R107, R114 to R119): verdicts and their counts, gates, notices, and what a
change of a condition and the end of a warning do, said once for each operation. -/

namespace Sys2Proof.Machine

/-! ### Verdicts (R114) -/

section Verdicts
variable {c : WarnCondition} (holds : Bool) (v : Int) (limited level : Bool) (edge : Option Bool)

theorem verdict_rolling (c : WarnCondition) (count : Nat) : verdict c holds (.rolling count) = none := rfl

/-- A kind that compares takes the value of an analog sample, and a level as 0 or 1. -/
theorem verdict_compares (h : c.kind = .high ∨ c.kind = .low) :
    verdict c holds (.analog v limited) = verdict.onValue c holds v ∧
      verdict c holds (.discrete level edge) = verdict.onValue c holds (if level = true then 1 else 0) := by
  rcases h with h | h <;> simp only [verdict, h, and_self]

theorem onValue_high (h : c.kind = .high) : verdict.onValue c holds v =
    some (if c.threshold ≤ v then true else if v < c.threshold - c.hysteresis then false else holds) := by
  simp only [verdict.onValue, h]

theorem onValue_low (h : c.kind = .low) : verdict.onValue c holds v =
    some (if v ≤ c.threshold then true else if c.threshold + c.hysteresis < v then false else holds) := by
  simp only [verdict.onValue, h]

theorem verdict_discreteOn (h : c.kind = .discreteOn) : verdict c holds (.analog v limited) = none ∧
    verdict c holds (.discrete level edge) = some level := by
  simp only [verdict, verdict.onValue, h, and_self]

theorem verdict_discreteOff (h : c.kind = .discreteOff) : verdict c holds (.analog v limited) = none ∧
    verdict c holds (.discrete level edge) = some (!level) := by
  simp only [verdict, verdict.onValue, h, and_self]

end Verdicts

/-! ### A warning's entry, put again -/

theorem State.setWarning_setWarning (s : State) (w : Fin 32) (x y : Warning) :
    (s.setWarning w x).setWarning w y = s.setWarning w y := by
  simp only [State.setWarning, Vector.set_set]

/-- The building of an event frame looks at no warning. -/
theorem buildEvent_withWarnings (x : Warnings) (s : State) : buildEvent { s with warnings := x } =
    { s with warnings := x, handler := (buildEvent s).handler, loop := (buildEvent s).loop } := by
  cases hevents : s.handler.events with
  | nil =>
    rw [buildEvent_waits (s := s) (.inl hevents), buildEvent_waits (s := { s with warnings := x }) (.inl hevents)]
  | cons first rest =>
    by_cases hroom : s.loop.insertQ.length < 6
    · rw [buildEvent_places (s := s) hevents hroom, buildEvent_places (s := { s with warnings := x }) hevents hroom]
      rfl
    · have hfull := Nat.le_of_not_lt hroom
      rw [buildEvent_waits (s := s) (.inr hfull), buildEvent_waits (s := { s with warnings := x }) (.inr hfull)]

/-- Nor does a report. -/
theorem report_withWarnings (e : Event) (x : Warnings) (s : State) : report e { s with warnings := x } =
    { s with warnings := x, handler := (report e s).handler, loop := (report e s).loop } := by
  unfold report
  dsimp only
  by_cases hlists : s.handler.lists e = true
  · rw [if_pos hlists, if_pos hlists]
    exact buildEvent_withWarnings x { s with handler := s.handler.report e }
  · rw [if_neg hlists, if_neg hlists]

/-- A change of a warning's state: the entry in its state alone, and the event (R127). -/
theorem changeState_eq (w : Fin 32) (new : WarnState) (cause : WarnCause) (s : State) :
    changeState w new cause s =
      let e := s.warnings.entries[w]
      let told := report (.warning w e.state new e.masked cause) s
      { s with handler := told.handler, loop := told.loop,
               warnings := { s.warnings with entries := s.warnings.entries.set w { e with state := new } } } :=
  report_withWarnings _ _ s

/-! ### Conditions and their counts (R115, R119) -/

section Conditions
variable {w : Fin 32} {s : State} {b : Bool}

theorem setCondition_same (h : (s.warnings.entries[w]).holds = b) : setCondition w b s = s := if_pos h

theorem setCondition_true (h : (s.warnings.entries[w]).holds = false) : setCondition w true s =
    becameTrue w (s.setWarning w { s.warnings.entries[w] with holds := true }) := by
  simp only [setCondition, h, Bool.false_eq_true, if_false, if_true]

theorem setCondition_false (h : (s.warnings.entries[w]).holds = true) : setCondition w false s =
    becameFalse w (s.setWarning w { s.warnings.entries[w] with holds := false }) := by
  simp only [setCondition, h, Bool.true_eq_false, if_false, Bool.false_eq_true]

theorem becameTrue_idle (h : (s.warnings.entries[w]).state = .idle) :
    becameTrue w s = select (changeState w .pending .qualify s) := if_pos h

theorem becameTrue_stands (h : (s.warnings.entries[w]).state ≠ .idle) : becameTrue w s = s := if_neg h

variable {c : WarnCondition}

theorem countVerdict_agrees : countVerdict w c (s.warnings.entries[w]).holds s =
    s.setWarning w { s.warnings.entries[w] with qualifyCount := 0, clearCount := 0 } := if_pos rfl

section Qualifies
variable (h : (s.warnings.entries[w]).holds = false)
include h

theorem countVerdict_true_below (hcount : (s.warnings.entries[w]).qualifyCount + 1 ≠ c.qualify) :
    countVerdict w c true s = s.setWarning w { s.warnings.entries[w] with
      qualifyCount := (s.warnings.entries[w]).qualifyCount + 1, clearCount := 0 } := by
  simp only [countVerdict, h, Bool.true_eq_false, if_false, if_true, if_neg hcount, setCounters]

theorem countVerdict_true_reached (hcount : (s.warnings.entries[w]).qualifyCount + 1 = c.qualify) :
    countVerdict w c true s = becameTrue w (s.setWarning w { s.warnings.entries[w] with
      qualifyCount := 0, clearCount := 0, holds := true }) := by
  have hcounted : countVerdict w c true s = setCondition w true (setCounters w 0 0 s) := by
    simp only [countVerdict, h, Bool.true_eq_false, if_false, if_true, if_pos hcount]
  rw [hcounted, setCounters, setCondition_true, State.setWarning_setWarning, State.setWarning_self_get]
  rw [State.setWarning_self_get]
  exact h

end Qualifies

section Clears
variable (h : (s.warnings.entries[w]).holds = true)
include h

theorem countVerdict_false_below (hcount : (s.warnings.entries[w]).clearCount + 1 ≠ c.clear) :
    countVerdict w c false s = s.setWarning w { s.warnings.entries[w] with
      qualifyCount := 0, clearCount := (s.warnings.entries[w]).clearCount + 1 } := by
  simp only [countVerdict, h, Bool.false_eq_true, if_false, if_neg hcount, setCounters]

theorem countVerdict_false_reached (hcount : (s.warnings.entries[w]).clearCount + 1 = c.clear) :
    countVerdict w c false s = becameFalse w (s.setWarning w { s.warnings.entries[w] with
      qualifyCount := 0, clearCount := 0, holds := false }) := by
  have hcounted : countVerdict w c false s = setCondition w false (setCounters w 0 0 s) := by
    simp only [countVerdict, h, Bool.false_eq_true, if_false, if_pos hcount]
  rw [hcounted, setCounters, setCondition_false, State.setWarning_setWarning, State.setWarning_self_get]
  rw [State.setWarning_self_get]
  exact h

end Clears

section Falls
variable {a : WarnAction} (ha : (s.warnings.entries[w]).action = some a)
include ha

/-- The states in which a warning of this latch mode ends when its condition becomes FALSE (R119). -/
def WarnState.clearsBy (x : WarnState) (latch : LatchMode) : Prop :=
  x = .acknowledged ∨ (x = .pending ∧ latch ≠ .latching) ∨ (x = .presented ∧ latch = .selfClearing)

theorem becameFalse_clears (h : (s.warnings.entries[w]).state.clearsBy a.latch) :
    becameFalse w s = endWarning w .clear s := by
  rcases h with hx | ⟨hx, hl⟩ | ⟨hx, hl⟩
  · simp only [becameFalse, hx]
  · simp only [becameFalse, ha, hx]
  · simp only [becameFalse, ha, hx, hl]

theorem becameFalse_stays (h : ¬ (s.warnings.entries[w]).state.clearsBy a.latch) : becameFalse w s = s := by
  unfold WarnState.clearsBy at h
  push Not at h
  obtain ⟨hacknowledged, hpending, hpresented⟩ := h
  cases hx : (s.warnings.entries[w]).state with
  | idle => simp only [becameFalse, hx]
  | pending => simp only [becameFalse, ha, hx, hpending hx]
  | presented =>
    have hl := hpresented hx
    simp only [becameFalse, ha, hx]
  | acknowledged => exact absurd hx hacknowledged

end Falls

end Conditions

/-! ### The end of a warning (R119, R124, R127) -/

/-- A warning's chimes released in the zones of its mark (R124). -/
def Chime.releasedFor (c : Chime) (w : Fin 32) (e : Warning) : Chime :=
  let front : Chime := if e.markFront = true then c.release (.warning w) .front else c
  if e.markRear = true then front.release (.warning w) .rear else front

theorem releaseChimes_eq (w : Fin 32) (s : State) : releaseChimes w s =
    { s.setWarning w { s.warnings.entries[w] with markFront := false, markRear := false } with
      chime := s.chime.releasedFor w s.warnings.entries[w] } := rfl

theorem stopTimers_setWarning (s : State) (w : Fin 32) (x : Warning) : stopTimers w (s.setWarning w x) =
    s.setWarning w { x with presentTimer := none, remindTimer := none } := by
  rw [stopTimers, State.setWarning_self_get, State.setWarning_setWarning]

theorem released_setWarning (s : State) (w : Fin 32) (x : Warning) :
    releaseChimes w (stopTimers w (s.setWarning w x)) =
      { s.setWarning w { x with presentTimer := none, remindTimer := none, markFront := false, markRear := false } with
        chime := s.chime.releasedFor w x } := by
  rw [stopTimers_setWarning, releaseChimes_eq, State.setWarning_self_get, State.setWarning_setWarning,
    State.setWarning_chime]
  rfl

/-- The state that a warning's end leaves before selection or the display's notice. -/
def State.ended (s : State) (w : Fin 32) (cause : WarnCause) : State :=
  let e := s.warnings.entries[w]
  let told := report (.warning w e.state .idle e.masked cause) s
  { s with chime := s.chime.releasedFor w e, handler := told.handler, loop := told.loop,
           warnings := { s.warnings with entries := s.warnings.entries.set w { e with
             state := .idle, presentTimer := none, remindTimer := none, markFront := false, markRear := false } } }

theorem released_eq_ended (w : Fin 32) (cause : WarnCause) (s : State) :
    releaseChimes w (stopTimers w (changeState w .idle cause s)) = s.ended w cause := by
  rw [changeState_eq, State.ended]
  dsimp only
  generalize report (.warning w (s.warnings.entries[w]).state .idle (s.warnings.entries[w]).masked cause) s = told
  exact released_setWarning { s with handler := told.handler, loop := told.loop } w
    { s.warnings.entries[w] with state := .idle }

theorem endWarning_eq (w : Fin 32) (cause : WarnCause) (s : State) : endWarning w cause s =
    if (s.warnings.entries[w]).state = .presented then select (s.ended w cause)
    else notifyDisplay false (s.ended w cause) := by
  rw [← released_eq_ended]
  rfl

/-! ### Gates (R118) -/

section Gates
variable (s : State)

theorem State.keyGateMet_iff (g : KeyGate) : s.keyGateMet g = true ↔
    g = .any ∨ (g = .notOff ∧ s.key.state ≠ .off) ∨ (g = .run ∧ s.key.state = .run) ∨
      (g = .runSettled ∧ s.key.state = .run ∧ s.key.settled = true) := by
  cases g <;> simp [State.keyGateMet]

theorem State.roadSpeed_eq_some (v : Int) : s.roadSpeed = some v ↔ ∃ t, s.trip.setup = some t ∧
    (s.channels[t.speed]).state = .fresh ∧ (s.channels[t.speed]).value = some v := by
  unfold State.roadSpeed
  cases s.trip.setup with
  | none => simp
  | some t => simp only [State.freshValue_eq_some, Option.some.injEq, exists_eq_left']

theorem State.speedGateMet_iff (gate : Nat) : s.speedGateMet gate = true ↔
    gate = 0 ∨ ∃ t v, s.trip.setup = some t ∧ (s.channels[t.speed]).state = .fresh ∧
      (s.channels[t.speed]).value = some v ∧ (gate : Int) ≤ v := by
  have hspeed : s.speedGateMet gate = true ↔ gate = 0 ∨ ∃ v, s.roadSpeed = some v ∧ (gate : Int) ≤ v := by
    unfold State.speedGateMet
    cases s.roadSpeed <;> simp
  rw [hspeed]
  refine or_congr_right ⟨?_, ?_⟩
  · rintro ⟨v, hv, hle⟩
    obtain ⟨t, ht, hfresh, hvalue⟩ := (s.roadSpeed_eq_some v).mp hv
    exact ⟨t, v, ht, hfresh, hvalue, hle⟩
  · rintro ⟨t, v, ht, hfresh, hvalue, hle⟩
    exact ⟨v, (s.roadSpeed_eq_some v).mpr ⟨t, ht, hfresh, hvalue⟩, hle⟩

/-- Both gates of a condition are met. -/
def State.gatesMet (c : WarnCondition) : Bool := s.keyGateMet c.keyGate && s.speedGateMet c.speedGate

/-- The key gate and the speed gate, written out. -/
theorem State.gatesMet_iff (c : WarnCondition) : s.gatesMet c = true ↔
    (c.keyGate = .any ∨ (c.keyGate = .notOff ∧ s.key.state ≠ .off) ∨ (c.keyGate = .run ∧ s.key.state = .run) ∨
      (c.keyGate = .runSettled ∧ s.key.state = .run ∧ s.key.settled = true)) ∧
    (c.speedGate = 0 ∨ ∃ t v, s.trip.setup = some t ∧ (s.channels[t.speed]).state = .fresh ∧
      (s.channels[t.speed]).value = some v ∧ (c.speedGate : Int) ≤ v) := by
  rw [State.gatesMet, Bool.and_eq_true, State.keyGateMet_iff, State.speedGateMet_iff]

variable {s} {w : Fin 32} {c : WarnCondition} (hc : (s.warnings.entries[w]).condition = some c)
  (hon : (s.warnings.entries[w]).enabled = true)
include hc hon

theorem testGate_same (h : s.gatesMet c = (s.warnings.entries[w]).gate) : testGate w s = s := by
  unfold State.gatesMet at h
  simp only [testGate, hc, hon, h, if_true]

theorem testGate_opens (hgate : (s.warnings.entries[w]).gate = false) (h : s.gatesMet c = true) : testGate w s =
    setCondition w (s.takenUp c)
      (s.setWarning w { s.warnings.entries[w] with gate := true, qualifyCount := 0, clearCount := 0 }) := by
  unfold State.gatesMet at h
  simp only [testGate, hc, hon, h, hgate, Bool.true_eq_false, if_false, if_true]

/-- A warning's state with its gate shut: the condition FALSE and the counters 0. -/
def State.shut (s : State) (w : Fin 32) : State :=
  s.setWarning w { s.warnings.entries[w] with gate := false, qualifyCount := 0, clearCount := 0, holds := false }

section Shuts
variable {a : WarnAction} (ha : (s.warnings.entries[w]).action = some a) (hgate : (s.warnings.entries[w]).gate = true)
  (h : s.gatesMet c = false)
include ha hgate h

theorem testGate_shuts_stays (hx : (s.warnings.entries[w]).state = .idle ∨
    (a.latch = .latching ∧ (s.warnings.entries[w]).state ≠ .acknowledged)) : testGate w s = s.shut w := by
  unfold State.gatesMet at h
  rcases hx with hidle | ⟨hlatch, hnot⟩
  · simp only [testGate, State.shut, hc, hon, h, hgate, hidle, Bool.false_eq_true, if_false]
  · cases hstate : (s.warnings.entries[w]).state with
    | acknowledged => exact absurd hstate hnot
    | idle | pending | presented =>
      simp only [testGate, State.shut, hc, hon, ha, h, hgate, hstate, hlatch, Bool.false_eq_true, if_false,
        decide_true, if_true]

theorem testGate_shuts_ends (hx : (s.warnings.entries[w]).state = .acknowledged ∨
    (a.latch ≠ .latching ∧ (s.warnings.entries[w]).state ≠ .idle)) :
    testGate w s = endWarning w .gate (s.shut w) := by
  unfold State.gatesMet at h
  rcases hx with hacknowledged | ⟨hlatch, hnot⟩
  · simp only [testGate, State.shut, hc, hon, h, hgate, hacknowledged, Bool.false_eq_true, if_false]
  · cases hstate : (s.warnings.entries[w]).state with
    | idle => exact absurd hstate hnot
    | pending | presented | acknowledged =>
      simp only [testGate, State.shut, hc, hon, ha, h, hgate, hstate, hlatch, Bool.false_eq_true, if_false,
        decide_false]

end Shuts

end Gates

/-! ### Taking up (R104, R107, R116, R117) -/

section TakenUp
variable {s : State} {c : WarnCondition}

theorem WarnKind.isSampled_iff (k : WarnKind) :
    k.isSampled = true ↔ k = .high ∨ k = .low ∨ k = .discreteOn ∨ k = .discreteOff := by
  cases k <;> decide

theorem State.channelSilent_iff {k : Fin 48} (h : c.subject = k.val) :
    s.channelSilent c.subject = true ↔ (s.channels[k]).state ≠ .fresh := by
  simp only [State.channelSilent, fin?_some k h, bne_iff_ne]

theorem staleResult_eq (c : WarnCondition) (holds : Bool) : staleResult c holds =
    if c.staleAction = 1 then true else if c.staleAction = 2 then false else holds := by
  unfold staleResult
  split
  · rename_i h1
    rw [if_pos (BitVec.eq_of_toNat_eq h1)]
  · rename_i h2
    have haction : c.staleAction = 2 := BitVec.eq_of_toNat_eq h2
    rw [haction]
    rfl
  · rename_i h1 h2
    rw [if_neg fun h => h1 (congrArg BitVec.toNat h), if_neg fun h => h2 (congrArg BitVec.toNat h)]

theorem State.takenUp_sampled {k : Fin 48} (h : c.subject = k.val) (hkind : c.kind.isSampled = true) :
    s.takenUp c = true ↔ (s.channels[k]).state ≠ .fresh ∧ c.staleAction = 1 := by
  have htaken : s.takenUp c = (s.channelSilent c.subject && staleResult c false) := by
    cases hk : c.kind with
    | high | low | discreteOn | discreteOff => simp only [State.takenUp, hk]
    | stale | service | system => rw [hk] at hkind; exact nomatch hkind
  rw [htaken, Bool.and_eq_true, State.channelSilent_iff h, staleResult_eq]
  simp

theorem State.takenUp_stale {k : Fin 48} (h : c.subject = k.val) (hkind : c.kind = .stale) :
    s.takenUp c = true ↔ (s.channels[k]).state ≠ .fresh := by
  simp only [State.takenUp, hkind]
  exact State.channelSilent_iff h

theorem State.takenUp_service {k : Fin 8} (h : c.subject = k.val) (hkind : c.kind = .service) :
    s.takenUp c = true ↔ c.minStage.toNat + 1 ≤ (s.service.items[k]).stage.code := by
  simp only [State.takenUp, hkind, fin?_some k h, stageReaches, decide_eq_true_eq]

theorem State.takenUp_system {k : SysCond} (h : c.subject = k.code) (hkind : c.kind = .system) :
    s.takenUp c = s.warnings.sys k := by
  cases k <;> simp only [State.takenUp, hkind, h, SysCond.code, SysCond.ofCode]

end TakenUp

/-! ### Notices (R114 to R118) -/

section Notices
variable {s : State} {w : Fin 32} {c : WarnCondition}

theorem testGate_condition (hc : (s.warnings.entries[w]).condition = some c) :
    ((testGate w s).warnings.entries[w]).condition = some c := ((testGate_frame w s).loaded w).1.trans hc

theorem warnNotice_shut (h : ((testGate w s).warnings.entries[w]).gate = false) (n : Notice) :
    warnNotice n w s = testGate w s := by
  simp only [warnNotice, h]

section Opened
variable (hc : (s.warnings.entries[w]).condition = some c)
  (hopen : ((testGate w s).warnings.entries[w]).gate = true)
include hc hopen

theorem warnNotice_stale_sampled (h : c.kind.isSampled = true) : warnNotice .stale w s =
    setCondition w (staleResult c ((testGate w s).warnings.entries[w]).holds) (setCounters w 0 0 (testGate w s)) := by
  simp only [warnNotice, hopen, testGate_condition hc, h]

variable (content : Content) (seeded : Bool)

theorem warnNotice_sample_verdict (h : c.kind.isSampled = true) {v : Bool}
    (hv : verdict c ((testGate w s).warnings.entries[w]).holds content = some v) :
    warnNotice (.sample content seeded) w s = countVerdict w c v (testGate w s) := by
  simp only [warnNotice, hopen, testGate_condition hc, h, hv]

theorem warnNotice_sample_noVerdict (h : c.kind.isSampled = true)
    (hv : verdict c ((testGate w s).warnings.entries[w]).holds content = none) :
    warnNotice (.sample content seeded) w s = testGate w s := by
  simp only [warnNotice, hopen, testGate_condition hc, h, hv]

theorem warnNotice_stale_other (h : c.kind.isSampled = false) :
    warnNotice .stale w s = setCondition w true (testGate w s) := by
  simp only [warnNotice, hopen, testGate_condition hc, h]

theorem warnNotice_sample_other (h : c.kind.isSampled = false) :
    warnNotice (.sample content seeded) w s = setCondition w false (testGate w s) := by
  simp only [warnNotice, hopen, testGate_condition hc, h]

end Opened

section Subject
variable (hc : (s.warnings.entries[w]).condition = some c) (hon : (s.warnings.entries[w]).enabled = true)
  {kind : WarnKind} {subject : Nat}
include hc hon

theorem warnSubject_mine (h : c.kind = kind ∧ c.subject = subject) : warnSubject kind subject w s =
    if ((testGate w s).warnings.entries[w]).gate = true then setCondition w ((testGate w s).takenUp c) (testGate w s)
    else testGate w s := by
  simp only [warnSubject, hc, hon, if_pos h]

theorem warnSubject_other (h : ¬(c.kind = kind ∧ c.subject = subject)) : warnSubject kind subject w s = s := by
  simp only [warnSubject, hc, hon, if_neg h]

end Subject

end Notices

/-! ### A change of a system condition (R107) -/

theorem setSys_unchanged {k : SysCond} {b : Bool} {s : State} (h : s.warnings.sys k = b) : setSys k b s = s := if_pos h

theorem setSys_changed {k : SysCond} {b : Bool} {s : State} (h : s.warnings.sys k ≠ b) : setSys k b s =
    (List.finRange 32).foldl (fun t w => warnSubject .system k.code w t)
      { s with warnings := s.warnings.withSys k b } := by
  rw [setSys, if_neg h]
  cases k <;> rfl

/-! ### The obligation -/

/-- Settles O36, from the equations above: verdicts, counts, the system conditions, and for an enabled warning its gate,
its notices and what follows a change of its condition. -/
theorem verdictsAreCountedAgainstTheCondition : Obligations.VerdictsAreCountedAgainstTheCondition := by
  refine ⟨?verdicts, ?counts, ?system, ?warning⟩
  case verdicts =>
    intro c holds v limited level edge count
    refine ⟨verdict_rolling .., fun h => ?_, fun h => ?_, verdict_discreteOn holds v limited level edge,
      verdict_discreteOff holds v limited level edge⟩
    · have hval := verdict_compares holds v limited level edge (.inl h)
      simpa only [onValue_high _ _ h] using hval
    · have hval := verdict_compares holds v limited level edge (.inr h)
      simpa only [onValue_low _ _ h] using hval
  case counts =>
    intro w c s
    exact ⟨changeState_eq .., countVerdict_agrees, countVerdict_true_below, countVerdict_true_reached,
      countVerdict_false_below, countVerdict_false_reached⟩
  case system =>
    intro k b s
    refine ⟨setSys_unchanged, fun h => ⟨List.finRange 32, List.nodup_finRange 32, List.mem_finRange, ?_⟩⟩
    rw [setSys_changed h]
    cases k <;> rfl
  case warning =>
    intro w c a s hc ha hon e s1 opened sampled keyMet met shut
    have hmet : s.gatesMet c = true ↔ met := s.gatesMet_iff c
    have hsampled : sampled → c.kind.isSampled = true := c.kind.isSampled_iff.mpr
    have hshut (h : ¬ opened) : (s1.warnings.entries[w]).gate = false := Bool.eq_false_of_not_eq_true h
    have hunmet (h : ¬ met) : s.gatesMet c = false := Bool.eq_false_of_not_eq_true (mt hmet.mp h)
    refine ⟨?_, ?_, ?_, ?_, ?_, ?_, ?_, ?_, ?_, ?_, ?_, setCondition_same rfl, setCondition_true, setCondition_false,
      becameTrue_idle, becameTrue_stands, ?_, ?_⟩
    · exact fun h => testGate_same hc hon (Bool.eq_iff_iff.mpr (hmet.trans h.symm))
    · exact fun hgate h => testGate_opens hc hon hgate (hmet.mpr h)
    · exact fun hgate h => ⟨testGate_shuts_stays hc hon ha hgate (hunmet h),
        testGate_shuts_ends hc hon ha hgate (hunmet h)⟩
    · exact fun k hk h => State.takenUp_sampled hk (hsampled h)
    · exact fun k hk h => State.takenUp_stale hk h
    · exact fun k hk h => State.takenUp_service hk h
    · exact fun k hk h => State.takenUp_system hk h
    · exact fun h => warnNotice_shut (hshut h)
    · refine fun h hs => ⟨?_, fun content seeded => ⟨fun v => ?_, ?_⟩⟩
      · rw [warnNotice_stale_sampled hc h (hsampled hs), staleResult_eq]
        rfl
      · exact warnNotice_sample_verdict hc h content seeded (hsampled hs)
      · exact warnNotice_sample_noVerdict hc h content seeded (hsampled hs)
    · intro h hk
      have hnot : c.kind.isSampled = false := by rw [hk]; rfl
      exact ⟨warnNotice_stale_other hc h hnot, fun content seeded => warnNotice_sample_other hc h content seeded hnot⟩
    · refine fun kind subject => ⟨fun h => ?_, fun h => warnSubject_other hc hon (not_and_or.mpr h)⟩
      have hmine := warnSubject_mine hc hon h
      exact ⟨fun ho => hmine.trans (if_pos ho), fun ho => hmine.trans (if_neg ho)⟩
    · exact ⟨becameFalse_clears ha, becameFalse_stays ha⟩
    · exact fun cause => endWarning_eq w cause s

end Sys2Proof.Machine
end

section
/-! PROOF. The write requests of the Chime Generator (R130 to R132): what WRITE CHIME SEGMENT, WRITE CHIME PATTERN and
WRITE CHIME SETUP answer in each of their cases, and the statement that follows. -/

namespace Sys2Proof.Machine

/-! ### The pattern in use (R129) and the absent slots (R131) -/

theorem Chime.inUse_iff (c : Chime) (k : Fin 16) : c.inUse k = true ↔
    (∃ r ∈ c.queue, r.pattern = k) ∨ c.front.current = .tick k ∨ c.rear.current = .tick k := by
  simp [Chime.inUse, or_assoc]

/-- The check of WRITE CHIME PATTERN on the first `n` slots, slot by slot. -/
theorem absentSlot_iff (v : Vector (Option Segment) 6) (n : Nat) :
    (v.toList.take n).any Option.isNone = true ↔ ∃ i : Fin 6, i.val < n ∧ v[i] = none := by
  simp only [List.any_eq_true, List.mem_take_iff_getElem, Option.isNone_iff_eq_none, Vector.getElem_toList,
    Vector.length_toList, lt_min_iff]
  constructor
  · rintro ⟨_, ⟨i, ⟨hn, hi⟩, rfl⟩, hnone⟩
    exact ⟨⟨i, hi⟩, hn, hnone⟩
  · rintro ⟨i, hn, hnone⟩
    exact ⟨_, ⟨i.val, ⟨hn, i.isLt⟩, rfl⟩, hnone⟩

/-! ### WRITE CHIME SEGMENT (R130) -/

section WriteChimeSegment
variable {p slot : Byte} {divisor : Word} {on off : Byte} {s : State} {k : Fin 16} {i : Fin 6}

theorem reqWriteChimeSegment_outside
    (h : 16 ≤ p.toNat ∨ slot = 0 ∨ 6 < slot.toNat ∨ divisor.toNat < 100 ∨ 2500 < divisor.toNat ∨ on = 0) :
    reqWriteChimeSegment p slot divisor on off s = refuse .badArgument s := by
  unfold reqWriteChimeSegment
  split
  · rename_i k i hk hi
    have hp : ¬ 16 ≤ p.toNat := Nat.not_le.mpr (lt_of_fin?_eq_some hk)
    have hslot : ¬ 6 < slot.toNat := fun hlt => (lt_of_fin?_eq_some hi).not_ge (Nat.le_sub_one_of_lt hlt)
    exact if_pos (by tauto)
  · rfl

theorem reqWriteChimeSegment_inside (hk : p.toNat = k.val) (hi : slot.toNat = i.val + 1) (hlo : 100 ≤ divisor.toNat)
    (hhi : divisor.toNat ≤ 2500) (hon : on ≠ 0) :
    reqWriteChimeSegment p slot divisor on off s =
      if s.chime.inUse k then refuse .inUse s
      else (setPattern k { s.chime.patterns[k] with
        slots := (s.chime.patterns[k]).slots.set i
          (some { divisor := divisor.toNat, onTime := on.toNat, offTime := off.toNat }) } s, .done) := by
  have hslot : slot ≠ 0 := by rintro rfl; simp at hi
  have hin : ¬ (slot = 0 ∨ divisor.toNat < 100 ∨ 2500 < divisor.toNat ∨ on = 0) :=
    not_or.mpr ⟨hslot, not_or.mpr ⟨hlo.not_gt, not_or.mpr ⟨hhi.not_gt, hon⟩⟩⟩
  simp only [reqWriteChimeSegment, fin?_some k hk, fin?_some i (Nat.sub_eq_of_eq_add hi), if_neg hin]

end WriteChimeSegment

/-! ### WRITE CHIME PATTERN (R131) -/

section WriteChimePattern
variable {p repeats segments : Byte} {s : State} {k : Fin 16}

theorem reqWriteChimePattern_outside (h : 16 ≤ p.toNat ∨ 15 < repeats.toNat ∨ 6 < segments.toNat) :
    reqWriteChimePattern p repeats segments s = refuse .badArgument s := by
  unfold reqWriteChimePattern
  split
  · rfl
  · rename_i hk
    exact if_pos (h.resolve_left (Nat.not_le.mpr (lt_of_fin?_eq_some hk)))

theorem reqWriteChimePattern_inside (hk : p.toNat = k.val) (hr : repeats.toNat ≤ 15) (hn : segments.toNat ≤ 6) :
    reqWriteChimePattern p repeats segments s =
      if s.chime.inUse k then refuse .inUse s
      else if ((s.chime.patterns[k]).slots.toList.take segments.toNat).any Option.isNone then refuse .badArgument s
      else (setPattern k { s.chime.patterns[k] with repeats := repeats.toNat, segments := segments.toNat } s, .done) := by
  have hin : ¬ (15 < repeats.toNat ∨ 6 < segments.toNat) := not_or.mpr ⟨hr.not_gt, hn.not_gt⟩
  simp only [reqWriteChimePattern, fin?_some k hk, if_neg hin]

end WriteChimePattern

/-! ### WRITE CHIME SETUP (R132) -/

/-- The ranges of R132, on the bytes sent. -/
def ChimeSetupInRange (tick p answer : Byte) : Prop :=
  (tick = 0xFF ∨ tick.toNat ≤ 47) ∧ p.toNat ≤ 15 ∧ (answer = 0xFF ∨ answer.toNat ≤ 15)

section WriteChimeSetup
variable {tick p answer : Byte} {s : State}

theorem reqWriteChimeSetup_outside (hout : ¬ ChimeSetupInRange tick p answer) :
    reqWriteChimeSetup tick p answer s = refuse .badArgument s := by
  unfold reqWriteChimeSetup
  split
  · rename_i c k a hc hk ha
    exact absurd ⟨(choice?_exists.mp ⟨c, hc⟩).imp_right Nat.le_of_lt_succ, Nat.le_of_lt_succ (lt_of_fin?_eq_some hk),
      (choice?_exists.mp ⟨a, ha⟩).imp_right Nat.le_of_lt_succ⟩ hout
  · rfl

/-- The stored choices are the ones sent: each encodes to its byte (R190). -/
theorem reqWriteChimeSetup_inside (hin : ChimeSetupInRange tick p answer) :
    ∃ x : ChimeSetup, x.written = true ∧ encChoice (x.tickChannel.map Fin.val) = [tick] ∧
      x.tickPattern.val = p.toNat ∧ encChoice (x.answerPattern.map Fin.val) = [answer] ∧
      reqWriteChimeSetup tick p answer s = ({ s with chime := { s.chime with setup := x } }, .done) := by
  obtain ⟨htick, hp, hanswer⟩ := hin
  obtain ⟨c, hc⟩ : ∃ c, choice? 48 tick = some c := choice?_exists.mpr (htick.imp_right Nat.lt_succ_of_le)
  obtain ⟨a, ha⟩ : ∃ a, choice? 16 answer = some a := choice?_exists.mpr (hanswer.imp_right Nat.lt_succ_of_le)
  obtain ⟨k, hk⟩ : ∃ k : Fin 16, p.toNat = k.val := ⟨⟨p.toNat, Nat.lt_succ_of_le hp⟩, rfl⟩
  refine ⟨{ written := true, tickChannel := c, tickPattern := k, answerPattern := a }, rfl, encChoice_of_choice? hc,
    hk.symm, encChoice_of_choice? ha, ?_⟩
  simp only [reqWriteChimeSetup, hc, fin?_some k hk, ha]

end WriteChimeSetup

/-! ### The obligation -/

/-- Settles O38: the checks of the three requests in their order, the pattern in use and the absent slots read one by
one, and the pattern or the setup that an accepted write leaves. -/
theorem writeChimesByTheirChecks : Obligations.WriteChimesByTheirChecks := by
  intro h p s ht inUse stored
  have huse (k : Fin 16) : s.chime.inUse k = true ↔ inUse k := s.chime.inUse_iff k
  refine ⟨?segment, ?pattern, ?setup⟩
  case segment =>
    intro slot divisor on off run
    have hrun : run = .next (respond h 0x70 false (reqWriteChimeSegment p slot divisor on off s)) :=
      exec_taken nofun rfl ht
    refine ⟨fun hout => taken_refused hrun (reqWriteChimeSegment_outside hout), fun k i hk hi hlo hhi hon => ?_⟩
    have hreq := reqWriteChimeSegment_inside (off := off) (s := s) hk hi hlo hhi hon
    exact ⟨fun hu => taken_refused hrun (hreq.trans (if_pos ((huse k).mpr hu))),
      fun hu => taken_done hrun (hreq.trans (if_neg (mt (huse k).mp hu)))⟩
  case pattern =>
    intro repeats segments run
    have hrun : run = .next (respond h 0x71 false (reqWriteChimePattern p repeats segments s)) :=
      exec_taken nofun rfl ht
    refine ⟨fun hout => taken_refused hrun (reqWriteChimePattern_outside hout), ?_⟩
    intro k hk hr hn missing
    have hmissing := absentSlot_iff (s.chime.patterns[k]).slots segments.toNat
    have hreq := reqWriteChimePattern_inside (s := s) hk hr hn
    refine ⟨fun hu => taken_refused hrun ?_, fun hu hm => taken_refused hrun ?_, fun hu hm => taken_done hrun ?_⟩
    · rw [hreq, if_pos ((huse k).mpr hu)]
    · rw [hreq, if_neg (mt (huse k).mp hu), if_pos (hmissing.mpr hm)]
    · rw [hreq, if_neg (mt (huse k).mp hu), if_neg (mt hmissing.mp hm)]
      rfl
  case setup =>
    intro tick answer run good
    have hrun : run = .next (respond h 0x72 false (reqWriteChimeSetup tick p answer s)) := exec_taken nofun rfl ht
    refine ⟨fun hout => taken_refused hrun (reqWriteChimeSetup_outside hout), fun hin => ?_⟩
    obtain ⟨x, hwritten, htick, hpattern, hanswer, hreq⟩ := reqWriteChimeSetup_inside (s := s) hin
    exact ⟨x, hwritten, htick, hpattern, hanswer, taken_done hrun hreq⟩

end Sys2Proof.Machine
end

section
/-! PROOF. The received frames of the Loop Port (R164, R166, R167, R169): what treating a frame does in each case of R166,
why no waiting request is taken behind it, and the statement that follows. -/

namespace Sys2Proof.Machine

/-! ### Operations that take no request and free no place -/

/-- No request leaves its queue, no held response and no RESTART is settled, and the frames of the insert queue stand in
their places: what `pump` waits for has not come (R180, R182). -/
structure NothingTaken (s t : State) : Prop where
  requestQ : t.loop.requestQ = s.loop.requestQ
  restartPending : t.handler.restartPending = s.handler.restartPending
  held : t.handler.held = s.handler.held
  places : s.loop.insertQ <+: t.loop.insertQ

theorem NothingTaken.of_eq {s t : State} (hloop : t.loop = s.loop) (hhandler : t.handler = s.handler) :
    NothingTaken s t where
  requestQ := by rw [hloop]
  restartPending := by rw [hhandler]
  held := by rw [hhandler]
  places := by rw [hloop]

theorem NothingTaken.refl (s : State) : NothingTaken s s := .of_eq rfl rfl

theorem NothingTaken.trans {s t u : State} (h : NothingTaken s t) (k : NothingTaken t u) : NothingTaken s u where
  requestQ := k.requestQ.trans h.requestQ
  restartPending := k.restartPending.trans h.restartPending
  held := k.held.trans h.held
  places := h.places.trans k.places

/-- Behind a change of another block. -/
theorem NothingTaken.behind {s s' t : State} (h : NothingTaken s' t) (hloop : s'.loop = s.loop)
    (hhandler : s'.handler = s.handler) : NothingTaken s t := (of_eq hloop hhandler).trans h

theorem NothingTaken.ite {p : Prop} [Decidable p] {s t u : State} (ht : NothingTaken s t) (hu : NothingTaken s u) :
    NothingTaken s (if p then t else u) := by
  split
  · exact ht
  · exact hu

theorem NothingTaken.foldl {α : Type} {f : State → α → State} (h : ∀ s a, NothingTaken s (f s a)) (l : List α)
    (s : State) : NothingTaken s (l.foldl f s) := by
  induction l generalizing s with
  | nil => exact .refl s
  | cons a l ih => exact (h s a).trans (ih _)

/-- The handler that was not free is not free. -/
theorem NothingTaken.handlerFree {s t : State} (h : NothingTaken s t) (hbusy : s.handlerFree = false) :
    t.handlerFree = false := by
  have hroom : 0 < t.freePlaces → 0 < s.freePlaces := fun hpos =>
    hpos.trans_le (Nat.sub_le_sub_left h.places.length_le 8)
  have hback : t.handlerFree = true → s.handlerFree = true := by
    simp only [State.handlerFree, h.restartPending, h.held, Bool.and_eq_true, decide_eq_true_eq]
    exact And.imp_left (And.imp_left hroom)
  exact Bool.eq_false_iff.mpr (mt hback (Bool.eq_false_iff.mp hbusy))

/-- Behind it `pump` finds what it found: no request, or a handler that is not free. -/
theorem NothingTaken.pump_eq {s t : State} (h : NothingTaken s t)
    (hidle : s.loop.requestQ = [] ∨ s.handlerFree = false) : pump t = t :=
  hidle.elim (fun hq => pump_empty (h.requestQ.trans hq)) (fun hbusy => pump_busy (h.handlerFree hbusy))

/-! ### The Warning Controller and the display (R107, R118 to R125) -/

theorem report_nothingTaken (e : Event) (s : State) : NothingTaken s (report e s) where
  requestQ := report_loop_requestQ s e
  restartPending := report_handler_restartPending s e
  held := report_handler_held s e
  places := by
    rcases report_cases e s with ⟨_, h⟩ | ⟨_, _, h⟩ | ⟨_, _, _, h⟩ | ⟨_, _, _, first, rest, _, h⟩ <;> rw [h]
    exact List.prefix_append _ _

theorem checkShutdown_nothingTaken (s : State) : NothingTaken s (checkShutdown s) := .ite (.of_eq rfl rfl) (.refl s)

theorem notifyDisplay_nothingTaken (entered : Bool) (s : State) : NothingTaken s (notifyDisplay entered s) :=
  .ite ((checkShutdown_nothingTaken _).behind rfl rfl) (.refl s)

theorem changeState_nothingTaken (w : Fin 32) (new : WarnState) (cause : WarnCause) (s : State) :
    NothingTaken s (changeState w new cause s) := (report_nothingTaken _ _).behind rfl rfl

theorem requestChimes_nothingTaken (w : Fin 32) (s : State) : NothingTaken s (requestChimes w s) := by
  unfold requestChimes
  dsimp only
  split
  · exact .refl s
  · split
    · exact .refl s
    · exact .of_eq rfl rfl

theorem presentWarning_nothingTaken (w : Fin 32) (s : State) : NothingTaken s (presentWarning w s) :=
  (changeState_nothingTaken w .presented .present s).trans
    (((requestChimes_nothingTaken w _).trans (notifyDisplay_nothingTaken true _)).behind rfl rfl)

theorem displaceWarning_nothingTaken (w : Fin 32) (s : State) : NothingTaken s (displaceWarning w s) :=
  (changeState_nothingTaken w .pending .displaced s).trans (.of_eq rfl rfl)

theorem select_nothingTaken (s : State) : NothingTaken s (select s) := by
  unfold select
  split
  · exact notifyDisplay_nothingTaken false s
  · split
    · exact presentWarning_nothingTaken _ s
    · exact .ite ((displaceWarning_nothingTaken _ s).trans (presentWarning_nothingTaken _ _))
        (notifyDisplay_nothingTaken false s)

theorem endWarning_nothingTaken (w : Fin 32) (cause : WarnCause) (s : State) :
    NothingTaken s (endWarning w cause s) := by
  have hended : NothingTaken s (releaseChimes w (stopTimers w (changeState w .idle cause s))) :=
    (changeState_nothingTaken w .idle cause s).trans (.of_eq rfl rfl)
  exact .ite (hended.trans (select_nothingTaken _)) (hended.trans (notifyDisplay_nothingTaken false _))

theorem becameTrue_nothingTaken (w : Fin 32) (s : State) : NothingTaken s (becameTrue w s) :=
  .ite ((changeState_nothingTaken w .pending .qualify s).trans (select_nothingTaken _)) (.refl s)

theorem becameFalse_nothingTaken (w : Fin 32) (s : State) : NothingTaken s (becameFalse w s) := by
  have hended := endWarning_nothingTaken w .clear s
  unfold becameFalse
  dsimp only
  split
  · exact .refl s
  · exact .refl s
  · exact hended
  · exact hended
  · exact .refl s
  · exact hended

theorem setCondition_nothingTaken (w : Fin 32) (b : Bool) (s : State) : NothingTaken s (setCondition w b s) :=
  .ite (.refl s) (.ite ((becameTrue_nothingTaken w _).behind rfl rfl) ((becameFalse_nothingTaken w _).behind rfl rfl))

theorem testGate_nothingTaken (w : Fin 32) (s : State) : NothingTaken s (testGate w s) := by
  unfold testGate
  dsimp only
  split
  · refine .ite (.refl s) (.ite ((setCondition_nothingTaken w _ _).behind rfl rfl) ?_)
    have hended (x : Warning) : NothingTaken s (endWarning w .gate (s.setWarning w x)) :=
      (endWarning_nothingTaken w .gate _).behind rfl rfl
    split
    · exact .of_eq rfl rfl
    · exact .ite (.of_eq rfl rfl) (hended _)
    · exact .ite (.of_eq rfl rfl) (hended _)
    · exact hended _
  · exact .refl s

theorem warnSubject_nothingTaken (kind : WarnKind) (subject : Nat) (w : Fin 32) (s : State) :
    NothingTaken s (warnSubject kind subject w s) := by
  have htested := testGate_nothingTaken w s
  unfold warnSubject
  dsimp only
  split
  · exact .ite (.ite (htested.trans (setCondition_nothingTaken w _ _)) htested) (.refl s)
  · exact .refl s

theorem setSys_nothingTaken (k : SysCond) (b : Bool) (s : State) : NothingTaken s (setSys k b s) := by
  refine .ite (.refl s) (NothingTaken.behind (.foldl (fun t w => ?_) _ _) rfl rfl)
  exact warnSubject_nothingTaken .system k.code w t

/-! ### The Loop Port's own operations (R168, R173, R174) -/

theorem setLoopState_nothingTaken (new : LoopState) (s : State) : NothingTaken s (setLoopState new s) := by
  have hstate : NothingTaken s { s with loop := { s.loop with state := new } } := ⟨rfl, rfl, rfl, List.prefix_rfl⟩
  exact .ite (.refl s) (hstate.trans ((report_nothingTaken _ _).trans (setSys_nothingTaken .loopBroken _ _)))

theorem loopReturn_nothingTaken (f : Frame) (s : State) : NothingTaken s (loopReturn f s) := by
  have hawaiting (a : List Awaiting) : NothingTaken s { s with loop := { s.loop with awaiting := a } } :=
    ⟨rfl, rfl, rfl, List.prefix_rfl⟩
  unfold loopReturn
  dsimp only
  split
  · exact setLoopState_nothingTaken _ s
  · exact ((hawaiting _).trans (.foldl (fun t _ => setLoopState_nothingTaken _ t) _ _)).trans
      (setLoopState_nothingTaken .intact _)

/-- The own hold changes its own fields and the flow slot only (R175). -/
theorem LoopPort.holdTap_queues (l : LoopPort) :
    l.holdTap.requestQ = l.requestQ ∧ l.holdTap.insertQ = l.insertQ := by
  unfold LoopPort.holdTap
  split
  · split
    · split <;> exact ⟨rfl, rfl⟩
    · exact ⟨rfl, rfl⟩
  · exact ⟨rfl, rfl⟩

theorem LoopPort.tap_queues (l : LoopPort) (f : Frame) :
    (l.tap f).requestQ = l.requestQ ∧ (l.tap f).insertQ = l.insertQ := by
  unfold LoopPort.tap
  split
  · exact LoopPort.holdTap_queues _
  · exact ⟨rfl, rfl⟩

/-- A change of the Loop Port that leaves both queues. -/
theorem nothingTaken_withLoop {l : LoopPort} {s : State} (hrequest : l.requestQ = s.loop.requestQ)
    (hinsert : l.insertQ = s.loop.insertQ) : NothingTaken s { s with loop := l } :=
  ⟨hrequest, rfl, rfl, hinsert ▸ List.prefix_rfl⟩

/-! ### The cases of R166 -/

/-- The node number fills the low four bits of its tag (R165). -/
theorem nodeTag_eq_add (n : Node) : nodeTag n = 0xF0 + n.setWidth 8 := by
  revert n
  decide

theorem nodeTag_ne_hold (n : Node) : nodeTag n ≠ 0xE8 := by
  revert n
  decide

theorem nodeTag_ne_release (n : Node) : nodeTag n ≠ 0xE9 := by
  revert n
  decide

/-- The conditions of R164. -/
theorem frameIntact_iff {f : Frame} {longGap stopMissing : Bool} : frameIntact f longGap stopMissing = true ↔
    3 ≤ f.length ∧ f.length = frameLength f + 3 ∧ longGap = false ∧ stopMissing = false ∧ byteSum f = 0 := by
  simp [frameIntact, and_assoc]

/-- A channel references a frame by its tag and, unless any origin will do, its origin (R10). -/
theorem Channel.references_iff (ch : Channel) (f : Frame) : ch.references f = true ↔
    ch.enabled = true ∧ ∃ x, ch.setup = some x ∧ x.tag = f.getD 0 0 ∧
      (x.origin = none ∨ x.origin = some (frameOrigin f)) := by
  unfold Channel.references
  split
  · rename_i x hon hsetup
    cases horigin : x.origin <;> simp [hon, hsetup, horigin]
  · rename_i hnone
    exact iff_of_false Bool.false_ne_true fun ⟨hon, x, hsetup, _⟩ => hnone x hon hsetup

theorem anyReferences_iff (s : State) (f : Frame) :
    s.channels.toList.any (fun ch => ch.references f) = true ↔ ∃ c : Fin 48, (s.channels[c]).references f = true := by
  simp only [List.any_eq_true, Vector.mem_toList_iff, Vector.mem_iff_getElem, Fin.exists_iff, Fin.getElem_fin]
  constructor
  · rintro ⟨_, ⟨i, hi, rfl⟩, href⟩
    exact ⟨i, hi, href⟩
  · rintro ⟨i, hi, href⟩
    exact ⟨_, ⟨i, hi, rfl⟩, href⟩

/-- Forwarding touches the forward queue only (R167). -/
theorem LoopPort.forward_eq (l : LoopPort) (f : Frame) :
    l.forward f = { l with forwardQ := if l.forwardQ.length < 4 then l.forwardQ ++ [f] else l.forwardQ } := by
  unfold LoopPort.forward
  split <;> rfl

section Treatment
variable {f : Frame} {s : State}

theorem treatFrame_ownFlow (hown : frameOrigin f = s.loop.node) (hflow : f.getD 0 0 = 0xE8 ∨ f.getD 0 0 = 0xE9) :
    treatFrame f s = s := (if_pos hown).trans (if_pos hflow)

theorem treatFrame_return (hown : frameOrigin f = s.loop.node) (hflow : ¬ (f.getD 0 0 = 0xE8 ∨ f.getD 0 0 = 0xE9)) :
    treatFrame f s = loopReturn f s := (if_pos hown).trans (if_neg hflow)

theorem treatFrame_consumed (hother : frameOrigin f ≠ s.loop.node) (htag : f.getD 0 0 = nodeTag s.loop.node) :
    treatFrame f s = { s with loop := s.loop.consume f } := (if_neg hother).trans (if_pos htag)

theorem treatFrame_queued (hother : frameOrigin f ≠ s.loop.node) (htag : f.getD 0 0 = nodeTag s.loop.node)
    (hroom : s.loop.requestQ.length < 4) :
    treatFrame f s = { s with loop := { s.loop with requestQ := s.loop.requestQ ++ [f] } } := by
  rw [treatFrame_consumed hother htag, LoopPort.consume, if_pos hroom]

theorem treatFrame_overrun (hother : frameOrigin f ≠ s.loop.node) (htag : f.getD 0 0 = nodeTag s.loop.node)
    (hfull : 4 ≤ s.loop.requestQ.length) : treatFrame f s = { s with loop := { s.loop with overrun := true } } := by
  rw [treatFrame_consumed hother htag, LoopPort.consume, if_neg hfull.not_gt]

theorem treatFrame_hold (hother : frameOrigin f ≠ s.loop.node) (htag : f.getD 0 0 = 0xE8) :
    treatFrame f s = { s with loop := (s.loop.forward f).holderHolds (frameOrigin f) } := by
  have hnode : f.getD 0 0 ≠ nodeTag s.loop.node := htag.trans_ne (nodeTag_ne_hold _).symm
  exact (if_neg hother).trans ((if_neg hnode).trans (if_pos htag))

theorem treatFrame_release (hother : frameOrigin f ≠ s.loop.node) (htag : f.getD 0 0 = 0xE9) :
    treatFrame f s = { s with loop := (s.loop.forward f).holderGoes (frameOrigin f) } := by
  have hnode : f.getD 0 0 ≠ nodeTag s.loop.node := htag.trans_ne (nodeTag_ne_release _).symm
  have hhold : f.getD 0 0 ≠ 0xE8 := htag.trans_ne (by decide)
  exact (if_neg hother).trans ((if_neg hnode).trans ((if_neg hhold).trans (if_pos htag)))

theorem treatFrame_other (hother : frameOrigin f ≠ s.loop.node) (hnode : f.getD 0 0 ≠ nodeTag s.loop.node)
    (hhold : f.getD 0 0 ≠ 0xE8) (hrelease : f.getD 0 0 ≠ 0xE9) :
    treatFrame f s = { s with loop :=
      if s.channels.toList.any (fun ch => ch.references f) then (s.loop.forward f).tap f else s.loop.forward f } :=
  (if_neg hother).trans ((if_neg hnode).trans ((if_neg hhold).trans (if_neg hrelease)))

/-- The queue's only request is taken by a free handler (R180). -/
theorem pump_single (hempty : s.loop.requestQ = []) (hfree : s.handlerFree = true) :
    pump { s with loop := { s.loop with requestQ := [f] } } =
      serve (decodeRequest (frameOrigin f) (framePayload f)) s := by
  have hs : { s with loop := { s.loop with requestQ := [] } } = s := by rw [← hempty]
  have hfree' : State.handlerFree { s with loop := { s.loop with requestQ := [f] } } = true := hfree
  simp only [pump, List.length_singleton, pumpFor, hfree', if_true, hs]

end Treatment

/-! ### The obligation -/

/-- Settles O47: the first case of R166 that applies says what treating the frame does, and `pump` behind it takes the
consumed request of a free handler and nothing else. -/
theorem framesAreTreatedByTheFirstCase : Obligations.FramesAreTreatedByTheFirstCase := by
  intro f longGap stopMissing s hp hidle l run intact tag from' forwarded
  have hreceived : run = .next (frameReceived f longGap stopMissing s) := live_powered _ s hp
  have hpumped (hi : intact) : run = .next (pump (treatFrame f s)) :=
    hreceived.trans (congrArg _ (if_pos (frameIntact_iff.mpr hi)))
  have htreated {t : State} (hi : intact) (ht : treatFrame f s = t) (hn : NothingTaken s t) : run = .next t := by
    rw [hpumped hi, ht, hn.pump_eq hidle]
  have hforward : s.loop.forward f = { l with forwardQ := forwarded } := l.forward_eq f
  refine ⟨fun hbad => hreceived.trans (congrArg _ (if_neg (mt frameIntact_iff.mp hbad))),
    fun hi hown => ⟨fun hflow => htreated hi (treatFrame_ownFlow hown hflow) (.refl s), fun hhold hrelease =>
      htreated hi (treatFrame_return hown (not_or.mpr ⟨hhold, hrelease⟩)) (loopReturn_nothingTaken f s)⟩,
    fun hi hother => ⟨?consumed, ?hold, ?release, ?other⟩⟩
  case consumed =>
    intro htag
    have hnode : tag = nodeTag l.node := htag.trans (nodeTag_eq_add l.node).symm
    refine ⟨fun hfree => ?taken, fun hbusy hroom => ?queued, fun _ hfull => ?lost⟩
    case taken =>
      have hempty : l.requestQ = [] := hidle.resolve_right (ne_false_of_eq_true hfree)
      have ht := treatFrame_queued hother hnode (hempty ▸ Nat.zero_lt_succ 3)
      rw [hempty, List.nil_append] at ht
      rw [hpumped hi, ht]
      exact congrArg _ (pump_single hempty hfree)
    case queued =>
      rw [hpumped hi, treatFrame_queued hother hnode hroom]
      exact congrArg _ (pump_busy hbusy)
    case lost => exact htreated hi (treatFrame_overrun hother hnode hfull) (nothingTaken_withLoop rfl rfl)
  case hold =>
    intro htag
    have ht := treatFrame_hold hother htag
    rw [hforward, LoopPort.holderHolds] at ht
    by_cases hlisted : l.holders.any (fun x => x.node = from') = true
    · rw [if_pos hlisted] at ht
      exact ⟨_, htreated hi ht (nothingTaken_withLoop rfl rfl), fun _ => rfl,
        fun hnew => absurd hlisted (ne_true_of_eq_false hnew)⟩
    · rw [if_neg hlisted] at ht
      exact ⟨_, htreated hi ht (nothingTaken_withLoop rfl rfl), fun hmem => absurd hmem hlisted, fun _ => rfl⟩
  case release =>
    intro htag
    have ht := treatFrame_release hother htag
    rw [hforward] at ht
    exact htreated hi ht (nothingTaken_withLoop rfl rfl)
  case other =>
    intro hnode hhold hrelease refs
    have ht := treatFrame_other hother (nodeTag_eq_add l.node ▸ hnode) hhold hrelease
    rw [hforward] at ht
    have hrefs : s.channels.toList.any (fun ch => ch.references f) = true ↔ refs :=
      (anyReferences_iff s f).trans (exists_congr fun c => (s.channels[c]).references_iff f)
    refine ⟨fun href => ?_, fun href => ?_⟩
    · rw [if_pos (hrefs.mpr href)] at ht
      obtain ⟨hrequest, hinsert⟩ := LoopPort.tap_queues { l with forwardQ := forwarded } f
      exact htreated hi ht (nothingTaken_withLoop hrequest hinsert)
    · rw [if_neg (mt hrefs.mp href)] at ht
      exact htreated hi ht (nothingTaken_withLoop rfl rfl)

end Sys2Proof.Machine
end

section
/-! PROOF. The Chime Generator (chapter 7): a consistent one spelled out by zones, what starting, ending a segment,
placing and releasing make of it, and the statements about requests, releases and the players. -/

namespace Sys2Proof.Machine

/-! ### A consistent Chime Generator, zone by zone -/

/-- The patterns are playable and the queue is ranked (R131, R134). -/
structure Chime.Stocked (c : Chime) : Prop where
  playable : ∀ p : Fin 16, (c.patterns[p]).playable = true
  places : c.queue.length ≤ 8
  ordered : c.queue.Pairwise (fun a b => a.rank ≤ b.rank ∧ ¬ (a.origin = b.origin ∧ a.zone = b.zone))
  nonempty : ∀ r ∈ c.queue, 0 < (c.patterns[r.pattern]).segments

/-- What a player of a zone may play, at a segment number (R138). -/
inductive Chime.Plays (c : Chime) (z : Zone) : Current → Nat → Prop
  | tick {p : Fin 16} {k : Nat} : z = .front → 1 ≤ k → k ≤ (c.patterns[p]).segments → Plays c z (.tick p) k
  | request {r : ChimeRequest} {k : Nat} : r ∈ c.queue → r.zone = z → 1 ≤ k → k ≤ (c.patterns[r.pattern]).segments →
      Plays c z (.request r.origin) k

/-- The player of a zone is SILENT with nothing queued for it, or plays; a released request of the zone is the one that
plays, in TONE. -/
inductive Chime.ZoneSound (c : Chime) (z : Zone) : Prop
  | silent : (c.player z).state = .silent → (c.player z).current = .nothing → (c.player z).timer = none →
      (c.player z).counter = none → (∀ r ∈ c.queue, r.zone ≠ z) → ZoneSound c z
  | playing : (c.player z).state ≠ .silent → (c.player z).timer.isSome = true →
      ((c.player z).counter.isSome = true ↔ (c.player z).state = .tone) →
      c.Plays z (c.player z).current (c.player z).segment →
      (∀ r ∈ c.queue, r.zone = z → r.released = true →
        (c.player z).current = .request r.origin ∧ (c.player z).state = .tone) → ZoneSound c z

/-- Both together. -/
structure Chime.Consistent (c : Chime) : Prop where
  stocked : c.Stocked
  zone : ∀ z, c.ZoneSound z

theorem Chime.stocked_iff (c : Chime) :
    c.Stocked ↔ c.patterns.toList.all Pattern.playable = true ∧ c.ranked = true := by
  have hall : c.patterns.toList.all Pattern.playable = true ↔ ∀ p : Fin 16, (c.patterns[p]).playable = true := by
    simp only [List.all_eq_true, Vector.mem_toList_iff, Vector.mem_iff_getElem]
    exact ⟨fun h p => h _ ⟨p, p.isLt, rfl⟩, fun h x ⟨i, hi, hx⟩ => hx ▸ h ⟨i, hi⟩⟩
  simp only [hall, Chime.ranked, Bool.and_eq_true, decide_eq_true_eq, List.all_eq_true]
  exact ⟨fun h => ⟨h.playable, ⟨h.places, h.ordered⟩, h.nonempty⟩, fun ⟨hp, ⟨hl, ho⟩, hn⟩ => ⟨hp, hl, ho, hn⟩⟩

section Found
variable {c : Chime} {o : ChimeOrigin} {z : Zone} {r : ChimeRequest}

theorem Chime.mem_of_find (h : c.find o z = some r) : r ∈ c.queue ∧ r.origin = o ∧ r.zone = z :=
  ⟨List.mem_of_find?_eq_some h, by simpa using List.find?_some h⟩

/-- No two queued requests share their origin and zone (R134). -/
theorem Chime.Stocked.unique (h : c.Stocked) {a b : ChimeRequest} (ha : a ∈ c.queue) (hb : b ∈ c.queue)
    (ho : a.origin = b.origin) (hz : a.zone = b.zone) : a = b := by
  by_contra hne
  have hsymm : Std.Symm fun a b : ChimeRequest => ¬ (a.origin = b.origin ∧ a.zone = b.zone) :=
    ⟨fun _ _ hab ⟨ho, hz⟩ => hab ⟨ho.symm, hz.symm⟩⟩
  exact (h.ordered.imp And.right).forall ha hb hne ⟨ho, hz⟩

theorem Chime.Stocked.find_eq (h : c.Stocked) (hr : r ∈ c.queue) : c.find r.origin r.zone = some r := by
  cases hf : c.find r.origin r.zone with
  | none => exact absurd (List.find?_eq_none.mp hf r hr) (by simp)
  | some a =>
    obtain ⟨ha, ho, hz⟩ := mem_of_find hf
    rw [h.unique ha hr ho hz]

theorem Chime.find_none_iff : c.find o z = none ↔ ∀ r ∈ c.queue, ¬ (r.origin = o ∧ r.zone = z) := by
  simp [Chime.find]

end Found

/-- A player of a request plays it only while it is queued, by its number in it. -/
theorem Chime.Stocked.plays_request {c : Chime} {z : Zone} {o : ChimeOrigin} {k : Nat} (h : c.Stocked) :
    c.Plays z (.request o) k ↔
      (match c.find o z with | some r => c.within r.pattern k | none => false) = true := by
  constructor
  · rintro (_ | ⟨hr, rfl, hlo, hhi⟩)
    rw [h.find_eq hr]
    exact Bool.and_eq_true_iff.mpr ⟨decide_eq_true hlo, decide_eq_true hhi⟩
  · split
    · rename_i r hf
      obtain ⟨hr, rfl, hz⟩ := Chime.mem_of_find hf
      simp only [Chime.within, Bool.and_eq_true, decide_eq_true_eq]
      exact fun ⟨hlo, hhi⟩ => .request hr hz hlo hhi
    · exact nofun

theorem Chime.plays_tick {c : Chime} {z : Zone} {p : Fin 16} {k : Nat} :
    c.Plays z (.tick p) k ↔ z = .front ∧ c.within p k = true := by
  simp only [Chime.within, Bool.and_eq_true, decide_eq_true_eq]
  exact ⟨fun | .tick hz hlo hhi => ⟨hz, hlo, hhi⟩, fun ⟨hz, hlo, hhi⟩ => .tick hz hlo hhi⟩

theorem Chime.Plays.ne_nothing {c : Chime} {z : Zone} {cur : Current} {k : Nat} (h : c.Plays z cur k) :
    cur ≠ .nothing := by cases h <;> exact nofun

theorem Chime.playerSound_iff (c : Chime) (z : Zone) : c.playerSound z = true ↔
    (((c.player z).timer.isSome = true ↔ (c.player z).state ≠ .silent) ∧
      ((c.player z).counter.isSome = true ↔ (c.player z).state = .tone)) ∧
    (match (c.player z).current with
      | .nothing => (c.player z).state == .silent && !c.queue.any (fun r => r.zone == z)
      | .tick k => (c.player z).state != .silent && z == .front && c.within k (c.player z).segment
      | .request o => (c.player z).state != .silent &&
          (match c.find o z with | some r => c.within r.pattern (c.player z).segment | none => false)) = true := by
  have same (a b : Bool) : (a == b) = true ↔ (a = true ↔ b = true) := by cases a <;> cases b <;> decide
  exact Bool.and_eq_true_iff.trans (and_congr (Bool.and_eq_true_iff.trans (and_congr
    ((same _ _).trans (iff_congr .rfl bne_iff_ne)) ((same _ _).trans (iff_congr .rfl beq_iff_eq)))) .rfl)

/-- The model's test of a zone's player and of its released requests, in these terms. -/
theorem Chime.Stocked.zoneSound_iff {c : Chime} (h : c.Stocked) (z : Zone) : c.ZoneSound z ↔
    c.playerSound z = true ∧ ∀ r ∈ c.queue, r.zone = z → r.released = true →
      (c.player z).current = .request r.origin ∧ (c.player z).state = .tone := by
  constructor
  · rintro (⟨hs, hc, ht, hn, hq⟩ | ⟨hs, ht, hn, hp, hr⟩)
    · refine ⟨?_, fun r hr hz => absurd hz (hq r hr)⟩
      have hnone : c.queue.any (fun r => r.zone == z) = false := by simpa using hq
      simp [playerSound_iff, hs, hc, ht, hn, hnone]
    · refine ⟨?_, hr⟩
      cases hc : (c.player z).current with
      | nothing => exact absurd hc hp.ne_nothing
      | tick p =>
        obtain ⟨rfl, hin⟩ := plays_tick.mp (hc ▸ hp)
        simp [playerSound_iff, hs, hc, ht, hin, hn]
      | request o =>
        rw [hc, h.plays_request] at hp
        rw [playerSound_iff, hc]
        exact ⟨⟨⟨fun _ => hs, fun _ => ht⟩, hn⟩, Bool.and_eq_true_iff.mpr ⟨bne_iff_ne.mpr hs, hp⟩⟩
  · rintro ⟨hp, hr⟩
    obtain ⟨⟨ht, hn⟩, hc⟩ := (c.playerSound_iff z).mp hp
    cases hcur : (c.player z).current with
    | nothing =>
      simp only [hcur, Bool.and_eq_true, beq_iff_eq, Bool.not_eq_true', List.any_eq_false] at hc
      obtain ⟨hs, hq⟩ := hc
      refine .silent hs hcur ?_ ?_ hq
      · simpa [hs] using ht
      · simpa [hs] using hn
    | tick p =>
      simp only [hcur, Bool.and_eq_true, beq_iff_eq, bne_iff_ne] at hc
      exact .playing hc.1.1 (ht.mpr hc.1.1) hn (hcur ▸ plays_tick.mpr ⟨hc.1.2, hc.2⟩) hr
    | request o =>
      simp only [hcur, Bool.and_eq_true, bne_iff_ne] at hc
      exact .playing hc.1 (ht.mpr hc.1) hn (hcur ▸ h.plays_request.mpr hc.2) hr

theorem Chime.releasedPlays_iff (c : Chime) : c.releasedPlays = true ↔ ∀ z, ∀ r ∈ c.queue, r.zone = z →
    r.released = true → (c.player z).current = .request r.origin ∧ (c.player z).state = .tone := by
  simp only [Chime.releasedPlays, Chime.isPlaying, List.all_eq_true, Bool.or_eq_true, Bool.not_eq_true',
    Bool.and_eq_true, decide_eq_true_eq, beq_iff_eq]
  constructor
  · rintro h z r hr rfl hrel
    simpa [hrel] using h r hr
  · intro h r hr
    cases hrel : r.released
    · exact .inl rfl
    · exact .inr (h r.zone r hr rfl hrel)

/-- The two wordings of a consistent Chime Generator. -/
theorem Chime.consistent_iff (c : Chime) : c.consistent = true ↔ c.Consistent := by
  simp only [Chime.consistent, Bool.and_eq_true]
  constructor
  · rintro ⟨⟨⟨⟨hp, hq⟩, hf⟩, hr⟩, hrel⟩
    have hs := c.stocked_iff.mpr ⟨hp, hq⟩
    refine ⟨hs, fun z => (hs.zoneSound_iff z).mpr ⟨?_, c.releasedPlays_iff.mp hrel z⟩⟩
    cases z <;> assumption
  · rintro ⟨hs, hz⟩
    obtain ⟨hp, hq⟩ := c.stocked_iff.mp hs
    exact ⟨⟨⟨⟨hp, hq⟩, ((hs.zoneSound_iff _).mp (hz .front)).1⟩, ((hs.zoneSound_iff _).mp (hz .rear)).1⟩,
      c.releasedPlays_iff.mpr fun z => ((hs.zoneSound_iff z).mp (hz z)).2⟩

/-! ### What leaves a zone as it is -/

theorem Chime.Stocked.congr {c d : Chime} (h : c.Stocked) (hp : d.patterns = c.patterns) (hq : d.queue = c.queue) :
    d.Stocked := by
  refine ⟨hp ▸ h.playable, hq ▸ h.places, hq ▸ h.ordered, ?_⟩
  rw [hp, hq]
  exact h.nonempty

theorem Chime.Stocked.setPlayer {c : Chime} (h : c.Stocked) (z : Zone) (p : Player) : (c.setPlayer z p).Stocked :=
  h.congr (c.setPlayer_patterns z p) (c.setPlayer_queue z p)

theorem Chime.Plays.congr {c d : Chime} {z : Zone} {cur : Current} {k : Nat} (h : c.Plays z cur k)
    (hp : d.patterns = c.patterns) (hq : ∀ r ∈ c.queue, r.zone = z → cur = .request r.origin → r ∈ d.queue) :
    d.Plays z cur k := by
  cases h with
  | tick hz hlo hhi => exact .tick hz hlo (hp ▸ hhi)
  | request hr hz hlo hhi => exact .request (hq _ hr hz rfl) hz hlo (hp ▸ hhi)

/-- A zone is sound as long as its player, its requests and the patterns stay. -/
theorem Chime.ZoneSound.congr {c d : Chime} {z : Zone} (h : c.ZoneSound z) (hp : d.patterns = c.patterns)
    (hz : d.player z = c.player z) (hq : ∀ r, r.zone = z → (r ∈ d.queue ↔ r ∈ c.queue)) : d.ZoneSound z := by
  rcases h with ⟨hs, hc, ht, hn, hnone⟩ | ⟨hs, ht, hn, hplays, hrel⟩
  · exact .silent (hz ▸ hs) (hz ▸ hc) (hz ▸ ht) (hz ▸ hn) fun r hr hrz => hnone r ((hq r hrz).mp hr) hrz
  · refine .playing (hz ▸ hs) (hz ▸ ht) (hz ▸ hn) ?_ fun r hr hrz hrr => hz ▸ hrel r ((hq r hrz).mp hr) hrz hrr
    exact (hz ▸ hplays).congr hp fun r hr hrz _ => (hq r hrz).mpr hr

theorem Chime.ZoneSound.setPlayer {c : Chime} {y z : Zone} (h : c.ZoneSound y) (hy : y ≠ z) (p : Player) :
    (c.setPlayer z p).ZoneSound y :=
  h.congr (c.setPlayer_patterns z p) (c.player_setPlayer_other z y p hy.symm) fun r _ => by rw [c.setPlayer_queue]

/-- All is sound but for the player of a zone, and no request of the zone is released: the player may start. -/
structure Chime.Ready (c : Chime) (z : Zone) : Prop where
  stocked : c.Stocked
  beside : ∀ y, y ≠ z → c.ZoneSound y
  fresh : ∀ r ∈ c.queue, r.zone = z → r.released = false

theorem Chime.Ready.setPlayer {c : Chime} {z : Zone} (h : c.Ready z) (p : Player) : (c.setPlayer z p).Ready z :=
  ⟨h.stocked.setPlayer z p, fun y hy => (h.beside y hy).setPlayer hy p, by rw [c.setPlayer_queue]; exact h.fresh⟩

/-! ### Starting a segment and starting a request (R139, R140) -/

/-- The player as it enters TONE at a segment. -/
def Player.sounding (cur : Current) (k : Nat) (g : Segment) : Player :=
  { state := .tone, current := cur, segment := k, timer := some (10 * g.onTime), counter := some g.divisor }

/-- A playable pattern has each of its segments. -/
theorem Pattern.segment_exists {x : Pattern} (h : x.playable = true) {k : Nat} (hlo : 1 ≤ k) (hhi : k ≤ x.segments) :
    ∃ g, x.slots.toList[k - 1]? = some (some g) := by
  simp only [Pattern.playable, Bool.and_eq_true, decide_eq_true_eq, List.all_eq_true] at h
  have hlt : k - 1 < x.slots.toList.length := by simp; omega
  have hmem : x.slots.toList[k - 1] ∈ x.slots.toList.take x.segments :=
    List.mem_take_iff_getElem.mpr ⟨k - 1, by simp at hlt ⊢; omega, rfl⟩
  obtain ⟨g, hg⟩ := Option.isSome_iff_exists.mp (h.2 _ hmem)
  exact ⟨g, by rw [List.getElem?_eq_getElem hlt, hg]⟩

theorem Chime.enterTone_eq {c : Chime} {z : Zone} {cur : Current} {p : Fin 16} {k : Nat} {g : Segment}
    (hg : (c.patterns[p]).slots.toList[k - 1]? = some (some g)) :
    c.enterTone z cur p k = c.setPlayer z (.sounding cur k g) := by
  rw [Chime.enterTone, List.getD_eq_getElem?_getD, hg]
  rfl

theorem Chime.Stocked.enterTone {c : Chime} (h : c.Stocked) (z : Zone) (cur : Current) {p : Fin 16} {k : Nat}
    (hlo : 1 ≤ k) (hhi : k ≤ (c.patterns[p]).segments) :
    ∃ g, (c.patterns[p]).slots.toList[k - 1]? = some (some g) ∧
      c.enterTone z cur p k = c.setPlayer z (.sounding cur k g) :=
  (Pattern.segment_exists (h.playable p) hlo hhi).imp fun _ hg => ⟨hg, enterTone_eq hg⟩

/-- A player that enters TONE at a segment of what it may play leaves the Chime Generator consistent. -/
theorem Chime.Ready.sounding {c : Chime} {z : Zone} {cur : Current} {k : Nat} (h : c.Ready z) (hp : c.Plays z cur k)
    (g : Segment) : (c.setPlayer z (.sounding cur k g)).Consistent := by
  refine ⟨h.stocked.setPlayer z _, fun y => ?_⟩
  by_cases hy : y = z
  · subst hy
    refine .playing ?_ ?_ ?_ ?_ ?_ <;> rw [c.player_setPlayer]
    · exact nofun
    · rfl
    · exact ⟨fun _ => rfl, fun _ => rfl⟩
    · exact hp.congr (c.setPlayer_patterns _ _) fun r hr _ _ => c.setPlayer_queue _ _ ▸ hr
    · rw [c.setPlayer_queue]
      exact fun r hr hz hrel => absurd hrel (by simp [h.fresh r hr hz])
  · exact (h.beside y hy).setPlayer hy _

theorem Chime.Ready.enterTone {c : Chime} {z : Zone} {cur : Current} {p : Fin 16} {k : Nat} (h : c.Ready z)
    (hp : c.Plays z cur k) (hhi : k ≤ (c.patterns[p]).segments) : (c.enterTone z cur p k).Consistent := by
  have hlo : 1 ≤ k := by cases hp <;> assumption
  obtain ⟨g, _, he⟩ := h.stocked.enterTone z cur hlo hhi
  exact he ▸ h.sounding hp g

/-- The zone's top-ranked request (R139). -/
def Chime.top (c : Chime) (z : Zone) : Option ChimeRequest := c.queue.find? (fun r => decide (r.zone = z))

theorem Chime.mem_of_top {c : Chime} {z : Zone} {r : ChimeRequest} (h : c.top z = some r) : r ∈ c.queue ∧ r.zone = z :=
  ⟨List.mem_of_find?_eq_some h, by simpa using List.find?_some h⟩

theorem Chime.top_none_iff {c : Chime} {z : Zone} : c.top z = none ↔ ∀ r ∈ c.queue, r.zone ≠ z := by
  simp [Chime.top]

theorem Chime.Ready.startTop_eq {c : Chime} {z : Zone} (h : c.Ready z) :
    c.startTop z = (match c.top z with
      | some r => c.enterTone z (.request r.origin) r.pattern 1
      | none => c) := by
  have hfind : c.queue.find? (fun r => decide (r.zone = z) && !r.released) = c.top z := by
    refine List.find?_congr fun r hr => ?_
    by_cases hz : r.zone = z
    · simp [hz, h.fresh r hr hz]
    · simp [hz]
  simp only [Chime.startTop, hfind] <;> rfl

/-- What a chime generator is after the player of a zone has started its top-ranked request, if there is one, and else
has become SILENT: the rest is as it was. -/
structure Chime.Started (c : Chime) (z : Zone) (t : Chime) : Prop where
  patterns : t.patterns = c.patterns
  setup : t.setup = c.setup
  queue : t.queue = c.queue
  beside : ∀ y, y ≠ z → t.player y = c.player y
  starts : ∀ r, c.top z = some r → ∃ g, (c.patterns[r.pattern]).slots.toList[0]? = some (some g) ∧
    t.player z = .sounding (.request r.origin) 1 g
  silent : c.top z = none → t.player z = .silent

/-- A first segment is within a queued request's pattern. -/
theorem Chime.Stocked.plays_first {c : Chime} {r : ChimeRequest} (h : c.Stocked) (hr : r ∈ c.queue) :
    c.Plays r.zone (.request r.origin) 1 := .request hr rfl (Nat.le_refl 1) (h.nonempty r hr)

theorem Chime.Ready.startTop_some {c : Chime} {z : Zone} {r : ChimeRequest} (h : c.Ready z) (hr : c.top z = some r) :
    c.Started z (c.startTop z) ∧ (c.startTop z).Consistent := by
  obtain ⟨hmem, rfl⟩ := mem_of_top hr
  obtain ⟨g, hg, he⟩ := h.stocked.enterTone r.zone (.request r.origin) (Nat.le_refl 1) (h.stocked.nonempty r hmem)
  have hst : c.startTop r.zone = c.setPlayer r.zone (.sounding (.request r.origin) 1 g) := by
    rw [h.startTop_eq, hr]
    exact he
  rw [hst]
  refine ⟨⟨c.setPlayer_patterns _ _, c.setPlayer_setup _ _, c.setPlayer_queue _ _,
    fun y hy => c.player_setPlayer_other _ y _ hy.symm, fun q hq => ?_, fun hn => ?_⟩,
    h.sounding (h.stocked.plays_first hmem) g⟩
  · cases hr.symm.trans hq
    exact ⟨g, hg, c.player_setPlayer _ _⟩
  · exact nomatch hr.symm.trans hn

/-- Stopping and starting (R141): the zone's top-ranked request plays from its first segment, or the player is SILENT. -/
theorem Chime.Ready.stopAndStart {c : Chime} {z : Zone} (h : c.Ready z) :
    c.Started z (c.stopAndStart z) ∧ (c.stopAndStart z).Consistent := by
  have hready : (c.setPlayer z .silent).Ready z := h.setPlayer .silent
  have htop : (c.setPlayer z .silent).top z = c.top z := by rw [Chime.top, c.setPlayer_queue]; rfl
  cases hr : c.top z with
  | some r =>
    obtain ⟨hst, hcon⟩ := hready.startTop_some (htop.trans hr)
    refine ⟨⟨hst.patterns.trans (c.setPlayer_patterns _ _), hst.setup.trans (c.setPlayer_setup _ _),
      hst.queue.trans (c.setPlayer_queue _ _), fun y hy => ?_, fun q hq => ?_, fun hn => nomatch hr.symm.trans hn⟩, hcon⟩
    · exact (hst.beside y hy).trans (c.player_setPlayer_other _ y _ hy.symm)
    · obtain ⟨g, hg, hp⟩ := hst.starts q (htop.trans hq)
      exact ⟨g, c.setPlayer_patterns z .silent ▸ hg, hp⟩
  | none =>
    have hst : c.stopAndStart z = c.setPlayer z .silent := by
      rw [Chime.stopAndStart, Chime.silence, hready.startTop_eq, htop, hr]
    rw [hst]
    refine ⟨⟨c.setPlayer_patterns _ _, c.setPlayer_setup _ _, c.setPlayer_queue _ _,
      fun y hy => c.player_setPlayer_other _ y _ hy.symm, fun q hq => (nomatch hr.symm.trans hq),
      fun _ => c.player_setPlayer _ _⟩, ⟨hready.stocked, fun y => ?_⟩⟩
    by_cases hy : y = z
    · subst hy
      have hp : (c.setPlayer y .silent).player y = .silent := c.player_setPlayer y _
      exact .silent (congrArg Player.state hp) (congrArg Player.current hp) (congrArg Player.timer hp)
        (congrArg Player.counter hp) (c.setPlayer_queue y _ ▸ top_none_iff.mp hr)
    · exact hready.beside y hy

/-! ### Removing and changing a request (R134) -/

theorem Chime.mem_remove {c : Chime} {o : ChimeOrigin} {z : Zone} {r : ChimeRequest} :
    r ∈ (c.remove o z).queue ↔ r ∈ c.queue ∧ ¬ (r.origin = o ∧ r.zone = z) := by
  simp [Chime.remove, List.mem_filter, -not_and, not_and_or]

theorem Chime.Stocked.remove {c : Chime} (h : c.Stocked) (o : ChimeOrigin) (z : Zone) : (c.remove o z).Stocked :=
  ⟨h.playable, (c.remove_length o z).trans h.places, h.ordered.filter _,
    fun r hr => h.nonempty r (mem_remove.mp hr).1⟩

theorem Chime.ZoneSound.remove_beside {c : Chime} {y z : Zone} (h : c.ZoneSound y) (hy : y ≠ z) (o : ChimeOrigin) :
    (c.remove o z).ZoneSound y :=
  h.congr rfl rfl fun r hr => by simp [mem_remove, hr, hy]

theorem Chime.Ready.remove {c : Chime} {z : Zone} (h : c.Ready z) (o : ChimeOrigin) : (c.remove o z).Ready z :=
  ⟨h.stocked.remove o z, fun y hy => (h.beside y hy).remove_beside hy o,
    fun r hr hz => h.fresh r (mem_remove.mp hr).1 hz⟩

/-- A change of a request in its place that keeps what ranks and names it. -/
structure KeepsPlace (f : ChimeRequest → ChimeRequest) : Prop where
  origin : ∀ r, (f r).origin = r.origin
  zone : ∀ r, (f r).zone = r.zone
  pattern : ∀ r, (f r).pattern = r.pattern
  rank : ∀ r, (f r).rank = r.rank

section Modify
variable {c : Chime} {o : ChimeOrigin} {z : Zone} {f : ChimeRequest → ChimeRequest}

theorem Chime.mem_modify {r : ChimeRequest} : r ∈ (c.modify o z f).queue ↔
    ∃ q ∈ c.queue, (if q.origin = o ∧ q.zone = z then f q else q) = r := List.mem_map

/-- The place of a request that a change may have touched. -/
theorem KeepsPlace.ite (hf : KeepsPlace f) (q : ChimeRequest) (p : Prop) [Decidable p] :
    (if p then f q else q).origin = q.origin ∧ (if p then f q else q).zone = q.zone ∧
      (if p then f q else q).pattern = q.pattern ∧ (if p then f q else q).rank = q.rank := by
  split
  · exact ⟨hf.origin q, hf.zone q, hf.pattern q, hf.rank q⟩
  · exact ⟨rfl, rfl, rfl, rfl⟩

theorem Chime.modify_queue (c : Chime) (o : ChimeOrigin) (z : Zone) (f : ChimeRequest → ChimeRequest) :
    (c.modify o z f).queue =
      c.queue.map (fun r => if decide (r.origin = o ∧ r.zone = z) = true then f r else r) := by
  simp only [Chime.modify, decide_eq_true_eq]

theorem Chime.Stocked.modify (h : c.Stocked) (hf : KeepsPlace f) : (c.modify o z f).Stocked := by
  refine ⟨h.playable, (c.modify_length o z f).symm ▸ h.places, ?_, fun r hr => ?_⟩
  · refine List.pairwise_map.mpr (h.ordered.imp fun {a b} hab => ?_)
    obtain ⟨hao, haz, _, har⟩ := hf.ite a (a.origin = o ∧ a.zone = z)
    obtain ⟨hbo, hbz, _, hbr⟩ := hf.ite b (b.origin = o ∧ b.zone = z)
    rw [hao, haz, har, hbo, hbz, hbr]
    exact hab
  · obtain ⟨q, hq, rfl⟩ := mem_modify.mp hr
    show 0 < (c.patterns[(if q.origin = o ∧ q.zone = z then f q else q).pattern]).segments
    simpa only [(hf.ite q _).2.2.1] using h.nonempty q hq

theorem Chime.Plays.modify {y : Zone} {cur : Current} {k : Nat} (h : c.Plays y cur k) (hf : KeepsPlace f) :
    (c.modify o z f).Plays y cur k := by
  cases h with
  | tick hy hlo hhi => exact .tick hy hlo hhi
  | @request r _ hr hy hlo hhi =>
    obtain ⟨ho, hz, hp, _⟩ := hf.ite r (r.origin = o ∧ r.zone = z)
    refine ho ▸ Chime.Plays.request (c := c.modify o z f) (mem_modify.mpr ⟨r, hr, rfl⟩) (hz.trans hy) hlo ?_
    simpa only [hp, Chime.modify_patterns] using hhi

theorem Chime.ZoneSound.modify_beside {y : Zone} (h : c.ZoneSound y) (hy : y ≠ z) (hf : KeepsPlace f) :
    (c.modify o z f).ZoneSound y := by
  refine h.congr rfl rfl fun r hr => ⟨fun hmem => ?_, fun hmem => mem_modify.mpr ⟨r, hmem, ?_⟩⟩
  · obtain ⟨q, hq, rfl⟩ := mem_modify.mp hmem
    rw [(hf.ite q _).2.1] at hr
    rw [if_neg fun hqz => hy (hr.symm.trans hqz.2)]
    exact hq
  · rw [if_neg fun hrz => hy (hr.symm.trans hrz.2)]

theorem Chime.Ready.modify (h : c.Ready z) (hf : KeepsPlace f) (hrel : ∀ r, (f r).released = r.released) :
    (c.modify o z f).Ready z := by
  refine ⟨h.stocked.modify hf, fun y hy => (h.beside y hy).modify_beside hy hf, fun r hr hz => ?_⟩
  obtain ⟨q, hq, rfl⟩ := mem_modify.mp hr
  rw [(hf.ite q _).2.1] at hz
  have hqr := h.fresh q hq hz
  split
  · exact (hrel q).trans hqr
  · exact hqr

end Modify

/-! ### The end of a segment (R140) -/

section SegmentEnd
variable {c : Chime} {z : Zone} {p : Fin 16} {r : ChimeRequest}

theorem Chime.segmentEnd_tick_next (hc : (c.player z).current = .tick p)
    (h : (c.player z).segment < (c.patterns[p]).segments) :
    c.segmentEnd z = c.enterTone z (.tick p) p ((c.player z).segment + 1) := by
  simp only [Chime.segmentEnd, hc, if_pos h]

theorem Chime.segmentEnd_tick_over (hc : (c.player z).current = .tick p)
    (h : (c.patterns[p]).segments ≤ (c.player z).segment) : c.segmentEnd z = c.stopAndStart z := by
  simp only [Chime.segmentEnd, hc, if_neg h.not_gt]

theorem Chime.segmentEnd_next (hc : (c.player z).current = .request r.origin) (hf : c.find r.origin z = some r)
    (h : (c.player z).segment < (c.patterns[r.pattern]).segments) :
    c.segmentEnd z = c.enterTone z (.request r.origin) r.pattern ((c.player z).segment + 1) := by
  simp only [Chime.segmentEnd, hc, hf, if_pos h]

theorem Chime.segmentEnd_unlimited (hc : (c.player z).current = .request r.origin) (hf : c.find r.origin z = some r)
    (h : (c.patterns[r.pattern]).segments ≤ (c.player z).segment) (hl : r.repeatsLeft = none) :
    c.segmentEnd z = c.enterTone z (.request r.origin) r.pattern 1 := by
  simp only [Chime.segmentEnd, hc, hf, if_neg h.not_gt, hl]

theorem Chime.segmentEnd_repeat {n : Nat} (hc : (c.player z).current = .request r.origin)
    (hf : c.find r.origin z = some r) (h : (c.patterns[r.pattern]).segments ≤ (c.player z).segment)
    (hl : r.repeatsLeft = some n) (hn : 2 ≤ n) :
    c.segmentEnd z = (c.modify r.origin z (fun q => { q with repeatsLeft := some (n - 1) })).enterTone z
      (.request r.origin) r.pattern 1 := by
  simp only [Chime.segmentEnd, hc, hf, if_neg h.not_gt, hl, if_neg (Nat.not_le.mpr hn)]

theorem Chime.segmentEnd_over {n : Nat} (hc : (c.player z).current = .request r.origin)
    (hf : c.find r.origin z = some r) (h : (c.patterns[r.pattern]).segments ≤ (c.player z).segment)
    (hl : r.repeatsLeft = some n) (hn : n ≤ 1) :
    c.segmentEnd z = (c.remove r.origin z).stopAndStart z := by
  simp only [Chime.segmentEnd, hc, hf, if_neg h.not_gt, hl, if_pos hn]

/-- A count of repetitions taken down keeps a request's place. -/
theorem keepsPlace_repeatsLeft (x : ChimeRequest → Option Nat) :
    KeepsPlace (fun q => { q with repeatsLeft := x q }) := ⟨fun _ => rfl, fun _ => rfl, fun _ => rfl, fun _ => rfl⟩

/-- The end of a segment of what a player may play leaves the Chime Generator consistent. -/
theorem Chime.Ready.segmentEnd (h : c.Ready z) (hp : c.Plays z (c.player z).current (c.player z).segment) :
    (c.segmentEnd z).Consistent := by
  cases hcur : (c.player z).current with
  | nothing => exact absurd hcur hp.ne_nothing
  | tick p =>
    obtain ⟨hz, hin⟩ := plays_tick.mp (hcur ▸ hp)
    rcases Nat.lt_or_ge (c.player z).segment (c.patterns[p]).segments with hlt | hge
    · rw [segmentEnd_tick_next hcur hlt]
      exact h.enterTone (.tick hz (Nat.succ_pos _) hlt) hlt
    · rw [segmentEnd_tick_over hcur hge]
      exact h.stopAndStart.2
  | request o =>
    rw [hcur] at hp
    cases hp with
    | @request r _ hr hz hlo hhi =>
    have hf : c.find r.origin z = some r := hz ▸ h.stocked.find_eq hr
    rcases Nat.lt_or_ge (c.player z).segment (c.patterns[r.pattern]).segments with hlt | hge
    · rw [segmentEnd_next hcur hf hlt]
      exact h.enterTone (.request hr hz (Nat.succ_pos _) hlt) hlt
    · have hfirst : c.Plays z (.request r.origin) 1 := hz ▸ h.stocked.plays_first hr
      cases hl : r.repeatsLeft with
      | none =>
        rw [segmentEnd_unlimited hcur hf hge hl]
        exact h.enterTone hfirst (h.stocked.nonempty r hr)
      | some n =>
        rcases Nat.lt_or_ge n 2 with hn | hn
        · rw [segmentEnd_over hcur hf hge hl (Nat.le_of_lt_succ hn)]
          exact (h.remove r.origin).stopAndStart.2
        · rw [segmentEnd_repeat hcur hf hge hl hn]
          have hkeeps := keepsPlace_repeatsLeft fun _ => some (n - 1)
          exact (h.modify hkeeps fun _ => rfl).enterTone (hfirst.modify hkeeps) (h.stocked.nonempty r hr)

end SegmentEnd

/-! ### The two expiries (R140, R141) -/

section Expiries
variable {c : Chime} {z : Zone}

theorem Chime.Consistent.plays (h : c.Consistent) (hs : (c.player z).state ≠ .silent) :
    c.Plays z (c.player z).current (c.player z).segment := by
  rcases h.zone z with ⟨hsil, _, _, _, _⟩ | ⟨_, _, _, hp, _⟩
  · exact absurd hsil hs
  · exact hp

/-- A released request of the zone is what the player plays, in TONE. -/
theorem Chime.Consistent.releasedPlaying (h : c.Consistent) {r : ChimeRequest} (hr : r ∈ c.queue) (hz : r.zone = z)
    (hrel : r.released = true) : (c.player z).current = .request r.origin ∧ (c.player z).state = .tone := by
  rcases h.zone z with ⟨_, _, _, _, hq⟩ | ⟨_, _, _, _, hq⟩
  · exact absurd hz (hq r hr)
  · exact hq r hr hz hrel

/-- Where what plays is not released, nothing of the zone is. -/
theorem Chime.Consistent.ready (h : c.Consistent) (hcur : c.currentReleased z = false) : c.Ready z := by
  refine ⟨h.stocked, fun y _ => h.zone y, fun r hr hz => Bool.eq_false_iff.mpr fun hrel => ?_⟩
  obtain ⟨hplays, _⟩ := h.releasedPlaying hr hz hrel
  have hf : c.find r.origin z = some r := hz ▸ h.stocked.find_eq hr
  simp [Chime.currentReleased, hplays, hf, hrel] at hcur

theorem Chime.Consistent.ready_of_not_tone (h : c.Consistent) (hs : (c.player z).state ≠ .tone) : c.Ready z :=
  ⟨h.stocked, fun y _ => h.zone y, fun _ hr hz =>
    Bool.eq_false_iff.mpr fun hrel => hs (h.releasedPlaying hr hz hrel).2⟩

theorem Chime.currentReleased_iff : c.currentReleased z = true ↔
    ∃ o r, (c.player z).current = .request o ∧ c.find o z = some r ∧ r.released = true := by
  unfold Chime.currentReleased
  split
  · rename_i o ho
    split
    · rename_i r hr
      simp [ho, hr]
    · rename_i hr
      simp [ho, hr]
  · rename_i ho
    simp only [Bool.false_eq_true, false_iff]
    exact fun ⟨o, _, h, _⟩ => ho o h

/-- Without the released request that plays, the player may start. -/
theorem Chime.Consistent.ready_remove (h : c.Consistent) {o : ChimeOrigin} (hcur : (c.player z).current = .request o) :
    (c.remove o z).Ready z := by
  refine ⟨h.stocked.remove o z, fun y hy => (h.zone y).remove_beside hy o, fun r hr hz =>
    Bool.eq_false_iff.mpr fun hrel => ?_⟩
  obtain ⟨hmem, hne⟩ := mem_remove.mp hr
  obtain ⟨hplays, _⟩ := h.releasedPlaying hmem hz hrel
  exact hne ⟨Current.request.inj (hplays.symm.trans hcur), hz⟩

/-- The player of a zone with its counter off. -/
theorem Chime.Plays.setPlayer {y : Zone} {cur : Current} {k : Nat} (h : c.Plays y cur k) (p : Player) :
    (c.setPlayer z p).Plays y cur k :=
  h.congr (c.setPlayer_patterns z p) fun r hr _ _ => by rw [c.setPlayer_queue]; exact hr

theorem Chime.Ready.enterGap (h : c.Ready z) (hp : c.Plays z (c.player z).current (c.player z).segment) (n : Nat) :
    (c.setPlayer z { c.player z with state := .gap, counter := none, timer := some n }).Consistent := by
  refine ⟨h.stocked.setPlayer z _, fun y => ?_⟩
  by_cases hy : y = z
  · subst hy
    have he := c.player_setPlayer y { c.player y with state := .gap, counter := none, timer := some n }
    refine .playing ?_ ?_ ?_ ?_ ?_ <;> rw [he]
    · exact nofun
    · rfl
    · exact ⟨nofun, nofun⟩
    · exact hp.setPlayer _
    · rw [c.setPlayer_queue]
      exact fun r hr hz hrel => absurd hrel (by simp [h.fresh r hr hz])
  · exact (h.beside y hy).setPlayer hy _

theorem Chime.Consistent.toneEnd (h : c.Consistent) (z : Zone) : (c.toneEnd z).Consistent := by
  unfold Chime.toneEnd
  dsimp only
  split
  · rename_i htone
    have hp : c.Plays z (c.player z).current (c.player z).segment := h.plays (htone.trans_ne nofun)
    split
    · rename_i hrel
      obtain ⟨o, r, ho, _, _⟩ := currentReleased_iff.mp hrel
      rw [ho]
      exact (h.ready_remove ho).stopAndStart.2
    · rename_i hrel
      have hready : c.Ready z := h.ready (Bool.eq_false_iff.mpr hrel)
      split
      · exact hready.stopAndStart.2
      · split
        · refine (hready.setPlayer _).segmentEnd ?_
          rw [c.player_setPlayer]
          exact hp.setPlayer _
        · exact hready.enterGap hp _
  · exact h

theorem Chime.Consistent.gapEnd (h : c.Consistent) (z : Zone) : (c.gapEnd z).Consistent := by
  unfold Chime.gapEnd
  split
  · rename_i hgap
    exact (h.ready_of_not_tone (hgap.trans_ne nofun)).segmentEnd (h.plays (hgap.trans_ne nofun))
  · exact h

end Expiries

/-! ### Placing a request by its rank (R134, R135) -/

/-- A request stands after all of its rank and above, and before all below. -/
theorem insertByRank_split (r : ChimeRequest) {q : List ChimeRequest} (h : q.Pairwise fun a b => a.rank ≤ b.rank) :
    ∃ a b, q = a ++ b ∧ insertByRank r q = a ++ r :: b ∧ (∀ x ∈ a, x.rank ≤ r.rank) ∧ ∀ x ∈ b, r.rank < x.rank := by
  induction q with
  | nil => exact ⟨[], [], rfl, rfl, nofun, nofun⟩
  | cons y q ih =>
    obtain ⟨hy, hq⟩ := List.pairwise_cons.mp h
    by_cases hle : y.rank ≤ r.rank
    · obtain ⟨a, b, hab, hins, ha, hb⟩ := ih hq
      refine ⟨y :: a, b, congrArg (y :: ·) hab, ?_, List.forall_mem_cons.mpr ⟨hle, ha⟩, hb⟩
      rw [insertByRank, if_pos hle, hins]
      rfl
    · have hlt := Nat.lt_of_not_le hle
      refine ⟨[], y :: q, rfl, if_neg hle, nofun, List.forall_mem_cons.mpr ⟨hlt, fun x hx => ?_⟩⟩
      exact Nat.lt_of_lt_of_le hlt (hy x hx)

theorem mem_insertByRank {r x : ChimeRequest} {q : List ChimeRequest} : x ∈ insertByRank r q ↔ x = r ∨ x ∈ q := by
  induction q with
  | nil => simp [insertByRank]
  | cons y q ih =>
    unfold insertByRank
    split
    · simp only [List.mem_cons, ih]
      tauto
    · simp only [List.mem_cons]

/-- The queue with a request placed by its rank. -/
def Chime.queueing (c : Chime) (r : ChimeRequest) : Chime := { c with queue := insertByRank r c.queue }

/-- A request that may be placed: there is room, it is of a pattern that is not empty, and the queue holds none of its
origin and zone (R134). -/
structure Chime.Places (c : Chime) (r : ChimeRequest) : Prop where
  room : c.queue.length < 8
  nonempty : 0 < (c.patterns[r.pattern]).segments
  single : ∀ x ∈ c.queue, ¬ (x.origin = r.origin ∧ x.zone = r.zone)
  fresh : r.released = false

section Placing
variable {c : Chime} {r : ChimeRequest}

theorem Chime.mem_queueing {x : ChimeRequest} : x ∈ (c.queueing r).queue ↔ x = r ∨ x ∈ c.queue := mem_insertByRank

theorem Chime.Stocked.queueing (h : c.Stocked) (hr : c.Places r) : (c.queueing r).Stocked := by
  refine ⟨h.playable, ?_, ?_, fun x hx => ?_⟩
  · rw [Chime.queueing, insertByRank_length]
    exact hr.room
  · obtain ⟨a, b, hq, hins, ha, hb⟩ := insertByRank_split r (h.ordered.imp And.left)
    have hord := h.ordered
    rw [hq, List.pairwise_append] at hord
    obtain ⟨horda, hordb, hacross⟩ := hord
    have hsingle : ∀ x ∈ a ++ b, ¬ (x.origin = r.origin ∧ x.zone = r.zone) := hq ▸ hr.single
    show (insertByRank r c.queue).Pairwise _
    rw [hins, List.pairwise_append, List.pairwise_cons]
    refine ⟨horda, ⟨fun x hx => ⟨(hb x hx).le, fun ⟨ho, hz⟩ => ?_⟩, hordb⟩, fun x hx y hy => ?_⟩
    · exact hsingle x (List.mem_append_right a hx) ⟨ho.symm, hz.symm⟩
    · rcases List.mem_cons.mp hy with rfl | hy
      · exact ⟨ha x hx, hsingle x (List.mem_append_left b hx)⟩
      · exact hacross x hx y hy
  · rcases mem_queueing.mp hx with rfl | hx
    · exact hr.nonempty
    · exact h.nonempty x hx

theorem Chime.ZoneSound.queueing_beside {y : Zone} (h : c.ZoneSound y) (hy : y ≠ r.zone) :
    (c.queueing r).ZoneSound y := by
  refine h.congr rfl rfl fun x hx => mem_queueing.trans (or_iff_right fun hxr => hy ?_)
  rw [← hx, hxr]

/-- While its player does not rest, a zone takes another request as it is. -/
theorem Chime.ZoneSound.queueing_playing (h : c.ZoneSound r.zone) (hs : (c.player r.zone).state ≠ .silent)
    (hf : r.released = false) : (c.queueing r).ZoneSound r.zone := by
  rcases h with ⟨hsil, _, _, _, _⟩ | ⟨_, ht, hn, hp, hrel⟩
  · exact absurd hsil hs
  · refine .playing hs ht hn (hp.congr rfl fun x hx _ _ => mem_queueing.mpr (.inr hx)) fun x hx hz hxr => ?_
    rcases mem_queueing.mp hx with rfl | hx
    · exact absurd hxr (Bool.eq_false_iff.mp hf)
    · exact hrel x hx hz hxr

theorem Chime.Consistent.queueing_ready (h : c.Consistent) (hr : c.Places r)
    (hs : (c.player r.zone).state ≠ .tone) : (c.queueing r).Ready r.zone := by
  refine ⟨h.stocked.queueing hr, fun y hy => (h.zone y).queueing_beside hy, fun x hx hz => ?_⟩
  rcases mem_queueing.mp hx with rfl | hx
  · exact hr.fresh
  · exact (h.ready_of_not_tone hs).fresh x hx hz

theorem Chime.Consistent.queueing (h : c.Consistent) (hr : c.Places r) (hs : (c.player r.zone).state ≠ .silent) :
    (c.queueing r).Consistent := by
  refine ⟨h.stocked.queueing hr, fun y => ?_⟩
  by_cases hy : y = r.zone
  · exact hy ▸ (h.zone r.zone).queueing_playing hs hr.fresh
  · exact (h.zone y).queueing_beside hy

theorem Chime.queueing_top_isSome (c : Chime) (r : ChimeRequest) : ∃ x, (c.queueing r).top r.zone = some x := by
  refine Option.isSome_iff_exists.mp (Option.isSome_iff_ne_none.mpr fun hn => ?_)
  exact top_none_iff.mp hn r (mem_queueing.mpr (.inl rfl)) rfl

/-- A placed request starts a SILENT player; a player in GAP that is outranked starts anew; else only the queue has
changed (R135). The Chime Generator is consistent again. -/
theorem Chime.Consistent.place (h : c.Consistent) (hr : c.Places r) : (c.place r).Consistent ∧
    ((c.player r.zone).state = .silent → (c.queueing r).Started r.zone (c.place r)) ∧
    ((c.player r.zone).state = .tone → c.place r = c.queueing r) ∧
    ((c.player r.zone).state = .gap →
      ((c.queueing r).outranked r.zone = true → (c.queueing r).Started r.zone (c.place r)) ∧
      ((c.queueing r).outranked r.zone = false → c.place r = c.queueing r)) := by
  have hplace : c.place r = (c.queueing r).afterPlacing r.zone := rfl
  have hplayer : (c.queueing r).player r.zone = c.player r.zone := rfl
  rw [hplace, Chime.afterPlacing, hplayer]
  cases hs : (c.player r.zone).state with
  | silent =>
    obtain ⟨x, hx⟩ := c.queueing_top_isSome r
    obtain ⟨hst, hcon⟩ := (h.queueing_ready hr (hs.trans_ne nofun)).startTop_some hx
    exact ⟨hcon, fun _ => hst, nofun, nofun⟩
  | tone => exact ⟨h.queueing hr (hs.trans_ne nofun), nofun, fun _ => rfl, nofun⟩
  | gap =>
    dsimp only
    split
    · rename_i hout
      obtain ⟨hst, hcon⟩ := (h.queueing_ready hr (hs.trans_ne nofun)).stopAndStart
      exact ⟨hcon, nofun, nofun, fun _ => ⟨fun _ => hst, fun hno => nomatch hout.symm.trans hno⟩⟩
    · rename_i hout
      exact ⟨h.queueing hr (hs.trans_ne nofun), nofun, nofun, fun _ => ⟨fun hyes => absurd hyes hout, fun _ => rfl⟩⟩

end Placing

/-! ### Removing a request that does not play (R135, R136) -/

section Removing
variable {c : Chime} {o : ChimeOrigin} {z : Zone} {v : ChimeRequest}

theorem Chime.isPlaying_iff {r : ChimeRequest} : c.isPlaying r = true ↔ (c.player r.zone).current = .request r.origin := by
  simp [Chime.isPlaying]

theorem Chime.Consistent.remove (h : c.Consistent) (hcur : (c.player z).current ≠ .request o) :
    (c.remove o z).Consistent := by
  refine ⟨h.stocked.remove o z, fun y => ?_⟩
  by_cases hy : y = z
  · subst hy
    rcases h.zone y with ⟨hs, hc, ht, hn, hq⟩ | ⟨hs, ht, hn, hp, hrel⟩
    · exact .silent hs hc ht hn fun r hr => hq r (mem_remove.mp hr).1
    · refine .playing hs ht hn (hp.congr rfl fun r hr _ hplays => mem_remove.mpr ⟨hr, fun ⟨ho, _⟩ => ?_⟩)
        fun r hr => hrel r (mem_remove.mp hr).1
      exact hcur (ho ▸ hplays)
  · exact (h.zone y).remove_beside hy o

/-- Removing a queued request takes that one out of the queue. -/
theorem Chime.Stocked.remove_queue (h : c.Stocked) {a b : List ChimeRequest} (hq : c.queue = a ++ v :: b) :
    (c.remove v.origin v.zone).queue = a ++ b := by
  have hord := h.ordered
  rw [hq, List.pairwise_append, List.pairwise_cons] at hord
  obtain ⟨_, ⟨hb, _⟩, ha⟩ := hord
  have hkeepa : a.filter (fun r => !decide (r.origin = v.origin ∧ r.zone = v.zone)) = a :=
    List.filter_eq_self.mpr fun x hx => by
      simp only [decide_eq_false (ha x hx v List.mem_cons_self).2, Bool.not_false]
  have hkeepb : b.filter (fun r => !decide (r.origin = v.origin ∧ r.zone = v.zone)) = b :=
    List.filter_eq_self.mpr fun x hx => by
      have hne : ¬ (x.origin = v.origin ∧ x.zone = v.zone) := fun ⟨ho, hz⟩ => (hb x hx).2 ⟨ho.symm, hz.symm⟩
      simp only [decide_eq_false hne, Bool.not_false]
  rw [Chime.remove, hq, List.filter_append, List.filter_cons, hkeepa, hkeepb]
  simp

end Removing

/-! ### Requests, releases, the answer and ticks (R135 to R137, R142) -/

section Requests
variable {c : Chime} {o : ChimeOrigin} {z : Zone} {p : Fin 16} {rank : Nat} {f : Nat → Option Nat}

/-- The request as it is queued. -/
def Chime.newRequest (c : Chime) (o : ChimeOrigin) (z : Zone) (p : Fin 16) (rank : Nat) (f : Nat → Option Nat) :
    ChimeRequest :=
  { origin := o, zone := z, pattern := p, rank := rank, repeatsLeft := f (c.patterns[p]).repeats, released := false }

theorem Chime.request_empty (h : (c.patterns[p]).segments = 0) : c.request o z p rank f = c := if_pos h

theorem Chime.request_refresh {r : ChimeRequest} (h : (c.patterns[p]).segments ≠ 0) (hf : c.find o z = some r) :
    c.request o z p rank f = c.modify o z (fun r =>
      { r with repeatsLeft := f (c.patterns[r.pattern]).repeats, released := false }) := by
  simp only [Chime.request, if_neg h, hf]

theorem Chime.request_place (h : (c.patterns[p]).segments ≠ 0) (hf : c.find o z = none) (hq : c.queue.length < 8) :
    c.request o z p rank f = c.place (c.newRequest o z p rank f) := by
  simp only [Chime.request, if_neg h, hf, if_pos hq]
  rfl

theorem Chime.request_full (h : (c.patterns[p]).segments ≠ 0) (hf : c.find o z = none) (hq : 8 ≤ c.queue.length) :
    c.request o z p rank f = (match c.queue.reverse.find? (fun r => !c.isPlaying r) with
      | some v => if rank < v.rank then (c.remove v.origin v.zone).place (c.newRequest o z p rank f) else c
      | none => c) := by
  simp only [Chime.request, if_neg h, hf, if_neg hq.not_gt]
  rfl

theorem Chime.newRequest_places (h : (c.patterns[p]).segments ≠ 0) (hf : c.find o z = none) (hq : c.queue.length < 8) :
    c.Places (c.newRequest o z p rank f) :=
  ⟨hq, Nat.pos_of_ne_zero h, find_none_iff.mp hf, rfl⟩

theorem Chime.newRequest_places_remove {v : ChimeRequest} (hc : c.Consistent) (h : (c.patterns[p]).segments ≠ 0)
    (hf : c.find o z = none) (hv : v ∈ c.queue) :
    (c.remove v.origin v.zone).Places (c.newRequest o z p rank f) :=
  ⟨(c.remove_length_lt v hv).trans_le hc.stocked.places, Nat.pos_of_ne_zero h,
    fun x hx => find_none_iff.mp hf x (mem_remove.mp hx).1, rfl⟩

/-- A refresh leaves no request of the zone released that was not the current in TONE. -/
theorem Chime.Consistent.refresh (h : c.Consistent) (f : ChimeRequest → Option Nat) :
    (c.modify o z (fun r => { r with repeatsLeft := f r, released := false })).Consistent := by
  have hkeeps : KeepsPlace fun r : ChimeRequest => { r with repeatsLeft := f r, released := false } :=
    ⟨fun _ => rfl, fun _ => rfl, fun _ => rfl, fun _ => rfl⟩
  refine ⟨h.stocked.modify hkeeps, fun y => ?_⟩
  rcases h.zone y with ⟨hs, hc, ht, hn, hq⟩ | ⟨hs, ht, hn, hp, hrel⟩
  · refine .silent hs hc ht hn fun r hr => ?_
    obtain ⟨q, hmem, rfl⟩ := mem_modify.mp hr
    rw [(hkeeps.ite q _).2.1]
    exact hq q hmem
  · refine .playing hs ht hn (hp.modify hkeeps) fun r hr hz hrr => ?_
    obtain ⟨q, hmem, rfl⟩ := mem_modify.mp hr
    by_cases hqo : q.origin = o ∧ q.zone = z
    · rw [if_pos hqo] at hrr
      exact nomatch hrr
    · rw [if_neg hqo] at hz hrr ⊢
      exact hrel q hmem hz hrr

/-- Every chime request leaves the Chime Generator consistent (R135). -/
theorem Chime.Consistent.request (h : c.Consistent) (o : ChimeOrigin) (z : Zone) (p : Fin 16) (rank : Nat)
    (f : Nat → Option Nat) : (c.request o z p rank f).Consistent := by
  by_cases hp : (c.patterns[p]).segments = 0
  · rw [request_empty hp]
    exact h
  cases hf : c.find o z with
  | some r =>
    rw [request_refresh hp hf]
    exact h.refresh _
  | none =>
    rcases Nat.lt_or_ge c.queue.length 8 with hq | hq
    · rw [request_place hp hf hq]
      exact (h.place (newRequest_places hp hf hq)).1
    · rw [request_full hp hf hq]
      split
      · rename_i v hv
        have hmem : v ∈ c.queue := List.mem_reverse.mp (List.mem_of_find?_eq_some hv)
        have hnot : (c.player v.zone).current ≠ .request v.origin := by
          simpa [Chime.isPlaying] using List.find?_some hv
        split
        · exact ((h.remove hnot).place (newRequest_places_remove h hp hf hmem)).1
        · exact h
      · exact h

theorem Chime.release_none (h : c.find o z = none) : c.release o z = c := by
  simp only [Chime.release, h]

theorem Chime.release_waiting {r : ChimeRequest} (hf : c.find o z = some r) (hcur : (c.player z).current ≠ .request o) :
    c.release o z = c.remove o z := by
  obtain ⟨_, rfl, rfl⟩ := mem_of_find hf
  simp only [Chime.release, hf, if_neg (mt isPlaying_iff.mp hcur)]

theorem Chime.release_tone {r : ChimeRequest} (hf : c.find o z = some r) (hcur : (c.player z).current = .request o)
    (hs : (c.player z).state = .tone) : c.release o z = c.modify o z (fun q => { q with released := true }) := by
  obtain ⟨_, rfl, rfl⟩ := mem_of_find hf
  simp only [Chime.release, hf, if_pos (isPlaying_iff.mpr hcur), hs]

theorem Chime.release_gap {r : ChimeRequest} (hf : c.find o z = some r) (hcur : (c.player z).current = .request o)
    (hs : (c.player z).state ≠ .tone) : c.release o z = (c.remove o z).stopAndStart z := by
  obtain ⟨_, rfl, rfl⟩ := mem_of_find hf
  simp only [Chime.release, hf, if_pos (isPlaying_iff.mpr hcur)]

/-- The released flag of the request that plays in TONE. -/
theorem Chime.Consistent.flag (h : c.Consistent) (hcur : (c.player z).current = .request o)
    (hs : (c.player z).state = .tone) : (c.modify o z (fun q => { q with released := true })).Consistent := by
  have hkeeps : KeepsPlace fun q : ChimeRequest => { q with released := true } :=
    ⟨fun _ => rfl, fun _ => rfl, fun _ => rfl, fun _ => rfl⟩
  refine ⟨h.stocked.modify hkeeps, fun y => ?_⟩
  by_cases hy : y = z
  · subst hy
    rcases h.zone y with ⟨hsil, _⟩ | ⟨hns, ht, hn, hp, hrel⟩
    · exact nomatch hs.symm.trans hsil
    · refine .playing hns ht hn (hp.modify hkeeps) fun r hr hz hrr => ?_
      obtain ⟨q, hmem, rfl⟩ := mem_modify.mp hr
      by_cases hqo : q.origin = o ∧ q.zone = y
      · rw [if_pos hqo]
        exact ⟨hqo.1 ▸ hcur, hs⟩
      · rw [if_neg hqo] at hz hrr ⊢
        exact hrel q hmem hz hrr
  · exact (h.zone y).modify_beside hy hkeeps

/-- Every release leaves the Chime Generator consistent (R136). -/
theorem Chime.Consistent.release (h : c.Consistent) (o : ChimeOrigin) (z : Zone) : (c.release o z).Consistent := by
  cases hf : c.find o z with
  | none =>
    rw [release_none hf]
    exact h
  | some r =>
    by_cases hcur : (c.player z).current = .request o
    · by_cases hs : (c.player z).state = .tone
      · rw [release_tone hf hcur hs]
        exact h.flag hcur hs
      · rw [release_gap hf hcur hs]
        exact (h.ready_remove hcur).stopAndStart.2
    · rw [release_waiting hf hcur]
      exact h.remove hcur

theorem Chime.Consistent.answer (h : c.Consistent) : c.answer.Consistent := by
  unfold Chime.answer
  split
  · exact h.request _ _ _ _ _
  · exact h

/-- A tick edge leaves the Chime Generator consistent (R142). -/
theorem Chime.Consistent.tick (h : c.Consistent) : c.tick.Consistent := by
  unfold Chime.tick
  dsimp only
  split
  · rename_i hsil
    obtain ⟨hs, hp⟩ := hsil
    have hready : c.Ready .front := h.ready_of_not_tone (hs.trans_ne nofun)
    exact hready.enterTone (.tick rfl (Nat.le_refl 1) (Nat.pos_of_ne_zero hp)) (Nat.pos_of_ne_zero hp)
  · exact h

end Requests

/-! ### The patterns, the millisecond and RESTART (R130, R131, R143) -/

section Patterns
variable {c : Chime}

/-- A playable pattern takes the place of one that is not in use. -/
theorem Chime.Consistent.setPattern (h : c.Consistent) {k : Fin 16} {x : Pattern} (hx : x.playable = true)
    (hfree : c.inUse k = false) : ({ c with patterns := c.patterns.set k x }).Consistent := by
  have hget (p : Fin 16) : (c.patterns.set k x)[p] = if k = p then x else c.patterns[p] := by
    simp only [Fin.getElem_fin, Vector.getElem_set, Fin.ext_iff]
  have hunused := mt (c.inUse_iff k).mpr (Bool.eq_false_iff.mp hfree)
  simp only [not_or, not_exists, not_and] at hunused
  obtain ⟨hqueue, hfront, hrear⟩ := hunused
  have htick (z : Zone) {p : Fin 16} (hz : (c.player z).current = .tick p) : k ≠ p := by
    rintro rfl
    cases z
    · exact hfront hz
    · exact hrear hz
  have hplays (z : Zone) (hp : c.Plays z (c.player z).current (c.player z).segment) :
      Chime.Plays { c with patterns := c.patterns.set k x } z (c.player z).current (c.player z).segment := by
    cases hcur : (c.player z).current with
    | nothing => exact absurd hcur hp.ne_nothing
    | tick p =>
      rw [hcur] at hp
      cases hp with
      | tick hz hlo hhi => exact .tick hz hlo (by simpa only [hget, if_neg (htick z hcur)] using hhi)
    | request o =>
      rw [hcur] at hp
      cases hp with
      | request hr hz hlo hhi =>
        exact .request hr hz hlo (by simpa only [hget, if_neg (Ne.symm (hqueue _ hr))] using hhi)
  refine ⟨⟨fun p => ?_, h.stocked.places, h.stocked.ordered, fun r hr => ?_⟩, fun z => ?_⟩
  · rw [hget]
    split
    · exact hx
    · exact h.stocked.playable p
  · simpa only [hget, if_neg (Ne.symm (hqueue _ hr))] using h.stocked.nonempty r hr
  · rcases h.zone z with ⟨hs, hc, ht, hn, hq⟩ | ⟨hs, ht, hn, hp, hrel⟩
    · exact .silent hs hc ht hn hq
    · exact .playing hs ht hn (hplays z hp) hrel

theorem Chime.Consistent.withSetup (h : c.Consistent) (x : ChimeSetup) : ({ c with setup := x }).Consistent :=
  ⟨h.stocked.congr rfl rfl, fun z => (h.zone z).congr rfl (by cases z <;> rfl) fun _ _ => .rfl⟩

/-- The restart effect silences both players and empties the queue (R143). -/
theorem Chime.Consistent.restart (h : c.Consistent) : c.restart.Consistent := by
  refine ⟨⟨h.stocked.playable, Nat.zero_le 8, .nil, nofun⟩, fun z => ?_⟩
  cases z <;> exact .silent rfl rfl rfl rfl nofun

theorem Player.idle_timer_isSome (p : Player) : p.idle.timer.isSome = p.timer.isSome := Option.isSome_map

theorem Chime.idle_player (c : Chime) (z : Zone) : c.idle.player z = (c.player z).idle := by cases z <;> rfl

/-- A millisecond only takes time off the players' timers. -/
theorem Chime.Consistent.idle (h : c.Consistent) : c.idle.Consistent := by
  refine ⟨h.stocked.congr rfl rfl, fun z => ?_⟩
  rcases h.zone z with ⟨hs, hc, ht, hn, hq⟩ | ⟨hs, ht, hn, hp, hrel⟩
  · refine .silent ?_ ?_ ?_ ?_ hq <;> rw [c.idle_player]
    · exact hs
    · exact hc
    · rw [Player.idle, ht]
      rfl
    · exact hn
  · refine .playing ?_ ?_ ?_ ?_ ?_ <;> rw [c.idle_player]
    · exact hs
    · rw [Player.idle_timer_isSome]
      exact ht
    · exact hn
    · exact hp.congr rfl fun _ hr _ _ => hr
    · exact hrel

/-- Power-on leaves a consistent Chime Generator (R143). -/
theorem Chime.initial_consistent : Chime.initial.Consistent := by
  refine ⟨⟨fun p => ?_, Nat.zero_le 8, .nil, nofun⟩, fun z => ?_⟩
  · simp only [Chime.initial, Fin.getElem_fin, Vector.getElem_replicate]
    rfl
  · cases z <;> exact .silent rfl rfl rfl rfl nofun

end Patterns

/-! ### What the players' operations leave (R139 to R141) -/

/-- The patterns, the setup and the player of every other zone are as they were. -/
structure Chime.Beside (c : Chime) (z : Zone) (t : Chime) : Prop where
  patterns : t.patterns = c.patterns
  setup : t.setup = c.setup
  player : ∀ y, y ≠ z → t.player y = c.player y

section Beside
variable {c d t : Chime} {z : Zone}

theorem Chime.Beside.refl (c : Chime) (z : Zone) : c.Beside z c := ⟨rfl, rfl, fun _ _ => rfl⟩

theorem Chime.Beside.trans (h : c.Beside z d) (k : d.Beside z t) : c.Beside z t :=
  ⟨k.patterns.trans h.patterns, k.setup.trans h.setup, fun y hy => (k.player y hy).trans (h.player y hy)⟩

theorem Chime.setPlayer_beside (c : Chime) (z : Zone) (p : Player) : c.Beside z (c.setPlayer z p) :=
  ⟨c.setPlayer_patterns z p, c.setPlayer_setup z p, fun y hy => c.player_setPlayer_other z y p hy.symm⟩

theorem Chime.enterTone_beside (c : Chime) (z : Zone) (cur : Current) (p : Fin 16) (k : Nat) :
    c.Beside z (c.enterTone z cur p k) := by
  unfold Chime.enterTone
  split <;> exact c.setPlayer_beside z _

theorem Chime.startTop_beside (c : Chime) (z : Zone) : c.Beside z (c.startTop z) := by
  unfold Chime.startTop
  split
  · exact c.enterTone_beside z _ _ _
  · exact .refl c z

theorem Chime.stopAndStart_beside (c : Chime) (z : Zone) : c.Beside z (c.stopAndStart z) :=
  (c.setPlayer_beside z .silent).trans (startTop_beside _ z)

theorem Chime.remove_beside (c : Chime) (o : ChimeOrigin) (z : Zone) : c.Beside z (c.remove o z) :=
  ⟨rfl, rfl, fun _ _ => rfl⟩

theorem Chime.modify_beside (c : Chime) (o : ChimeOrigin) (z : Zone) (f : ChimeRequest → ChimeRequest) :
    c.Beside z (c.modify o z f) := ⟨rfl, rfl, fun _ _ => rfl⟩

theorem Chime.segmentEnd_beside (c : Chime) (z : Zone) : c.Beside z (c.segmentEnd z) := by
  unfold Chime.segmentEnd
  dsimp only
  split
  · exact .refl c z
  · split
    · exact c.enterTone_beside z _ _ _
    · exact c.stopAndStart_beside z
  · split
    · exact c.stopAndStart_beside z
    · split
      · exact c.enterTone_beside z _ _ _
      · split
        · exact c.enterTone_beside z _ _ _
        · split
          · exact (c.remove_beside _ z).trans (stopAndStart_beside _ z)
          · exact (c.modify_beside _ z _).trans (enterTone_beside _ z _ _ _)

theorem Chime.toneEnd_beside (c : Chime) (z : Zone) : c.Beside z (c.toneEnd z) := by
  unfold Chime.toneEnd
  dsimp only
  split
  · split
    · split
      · exact (c.remove_beside _ z).trans (stopAndStart_beside _ z)
      · exact .refl c z
    · split
      · exact c.stopAndStart_beside z
      · split
        · exact (c.setPlayer_beside z _).trans (segmentEnd_beside _ z)
        · exact c.setPlayer_beside z _
  · exact .refl c z

theorem Chime.gapEnd_beside (c : Chime) (z : Zone) : c.Beside z (c.gapEnd z) := by
  unfold Chime.gapEnd
  split
  · exact c.segmentEnd_beside z
  · exact .refl c z

end Beside

/-! ### The players' steps in full (R139 to R141) -/

/-- The player of a zone stands in TONE at segment `k` of pattern `p`. -/
def Chime.Sounding (c : Chime) (z : Zone) (cur : Current) (p : Fin 16) (k : Nat) (t : Chime) : Prop :=
  ∃ g : Segment, (c.patterns[p]).slots.toList[k - 1]? = some (some g) ∧ t.player z = .sounding cur k g

/-- The player of a zone plays its top-ranked request from the first segment, or rests where there is none. -/
def Chime.Starts (c : Chime) (z : Zone) (t : Chime) : Prop :=
  (∀ r, t.top z = some r → c.Sounding z (.request r.origin) r.pattern 1 t) ∧ (t.top z = none → t.player z = .silent)

/-- What the end of a segment makes of what a player plays (R140). -/
structure Chime.Ends (c : Chime) (z : Zone) (t : Chime) : Prop where
  tick : ∀ p, (c.player z).current = .tick p → t.queue = c.queue ∧
    ((c.player z).segment < (c.patterns[p]).segments → c.Sounding z (c.player z).current p ((c.player z).segment + 1) t) ∧
    ((c.patterns[p]).segments ≤ (c.player z).segment → c.Starts z t)
  next : ∀ r ∈ c.queue, r.zone = z → (c.player z).current = .request r.origin →
    (c.player z).segment < (c.patterns[r.pattern]).segments →
    t.queue = c.queue ∧ c.Sounding z (c.player z).current r.pattern ((c.player z).segment + 1) t
  unlimited : ∀ r ∈ c.queue, r.zone = z → (c.player z).current = .request r.origin →
    (c.patterns[r.pattern]).segments ≤ (c.player z).segment → r.repeatsLeft = none →
    t.queue = c.queue ∧ c.Sounding z (c.player z).current r.pattern 1 t
  again : ∀ r ∈ c.queue, r.zone = z → (c.player z).current = .request r.origin →
    (c.patterns[r.pattern]).segments ≤ (c.player z).segment → ∀ n, r.repeatsLeft = some n → 2 ≤ n →
    c.Sounding z (c.player z).current r.pattern 1 t ∧
      t.queue = (c.modify r.origin z (fun q => { q with repeatsLeft := some (n - 1) })).queue
  finish : ∀ r ∈ c.queue, r.zone = z → (c.player z).current = .request r.origin →
    (c.patterns[r.pattern]).segments ≤ (c.player z).segment → ∀ n, r.repeatsLeft = some n → n ≤ 1 →
    t.queue = (c.remove r.origin z).queue ∧ c.Starts z t

section Steps
variable {c d t : Chime} {z : Zone}

theorem Chime.Started.starts_of (h : d.Started z t) (hp : d.patterns = c.patterns) : c.Starts z t := by
  have htop : t.top z = d.top z := congrArg _ h.queue
  refine ⟨fun r hr => ?_, fun hn => h.silent (htop ▸ hn)⟩
  obtain ⟨g, hg, hs⟩ := h.starts r (htop ▸ hr)
  exact ⟨g, hp ▸ hg, hs⟩

theorem Chime.Stocked.sounding {cur : Current} {p : Fin 16} {k : Nat} (h : c.Stocked) (hlo : 1 ≤ k)
    (hhi : k ≤ (c.patterns[p]).segments) : c.Sounding z cur p k (c.enterTone z cur p k) := by
  obtain ⟨g, hg, he⟩ := h.enterTone z cur hlo hhi
  exact ⟨g, hg, he ▸ c.player_setPlayer z _⟩

theorem Chime.Ready.segmentEnd_ends (h : c.Ready z) : c.Ends z (c.segmentEnd z) := by
  have hfind {r : ChimeRequest} (hr : r ∈ c.queue) (hz : r.zone = z) : c.find r.origin z = some r :=
    hz ▸ h.stocked.find_eq hr
  constructor
  case tick =>
    intro p hcur
    rw [hcur]
    rcases Nat.lt_or_ge (c.player z).segment (c.patterns[p]).segments with hlt | hge
    · rw [segmentEnd_tick_next hcur hlt]
      exact ⟨c.enterTone_queue z _ _ _, fun _ => h.stocked.sounding (Nat.succ_pos _) hlt, fun hge => absurd hlt hge.not_gt⟩
    · rw [segmentEnd_tick_over hcur hge]
      exact ⟨c.stopAndStart_queue z, fun hlt => absurd hlt hge.not_gt, fun _ => h.stopAndStart.1.starts_of rfl⟩
  case next =>
    intro r hr hz hcur hlt
    rw [hcur, segmentEnd_next hcur (hfind hr hz) hlt]
    exact ⟨c.enterTone_queue z _ _ _, h.stocked.sounding (Nat.succ_pos _) hlt⟩
  case unlimited =>
    intro r hr hz hcur hge hl
    rw [hcur, segmentEnd_unlimited hcur (hfind hr hz) hge hl]
    exact ⟨c.enterTone_queue z _ _ _, h.stocked.sounding (Nat.le_refl 1) (h.stocked.nonempty r hr)⟩
  case again =>
    intro r hr hz hcur hge n hl hn
    rw [hcur, segmentEnd_repeat hcur (hfind hr hz) hge hl hn]
    have hstocked := h.stocked.modify (o := r.origin) (z := z) (keepsPlace_repeatsLeft fun _ => some (n - 1))
    exact ⟨hstocked.sounding (Nat.le_refl 1) (h.stocked.nonempty r hr), enterTone_queue _ z _ _ _⟩
  case finish =>
    intro r hr hz hcur hge n hl hn
    rw [segmentEnd_over hcur (hfind hr hz) hge hl hn]
    exact ⟨stopAndStart_queue _ z, (h.remove r.origin).stopAndStart.1.starts_of rfl⟩

/-- The end of a segment does not look at the counter. -/
theorem Chime.Ends.of_counter {x : Option Nat}
    (h : (c.setPlayer z { c.player z with counter := x }).Ends z t) : c.Ends z t := by
  cases z <;> exact ⟨h.tick, h.next, h.unlimited, h.again, h.finish⟩

theorem Chime.toneEnd_other (h : (c.player z).state ≠ .tone) : c.toneEnd z = c := if_neg h

theorem Chime.gapEnd_other (h : (c.player z).state ≠ .gap) : c.gapEnd z = c := if_neg h

theorem Chime.gapEnd_gap (h : (c.player z).state = .gap) : c.gapEnd z = c.segmentEnd z := if_pos h

theorem Chime.toneEnd_released {o : ChimeOrigin} {r : ChimeRequest} (h : (c.player z).state = .tone)
    (hcur : (c.player z).current = .request o) (hf : c.find o z = some r) (hr : r.released = true) :
    c.toneEnd z = (c.remove o z).stopAndStart z := by
  have hrel : c.currentReleased z = true := currentReleased_iff.mpr ⟨o, r, hcur, hf, hr⟩
  simp only [Chime.toneEnd, if_pos h, if_pos hrel, hcur]

theorem Chime.toneEnd_outranked (h : (c.player z).state = .tone) (hrel : c.currentReleased z = false)
    (hout : c.outranked z = true) : c.toneEnd z = c.stopAndStart z := by
  simp only [Chime.toneEnd, if_pos h, hrel, Bool.false_eq_true, if_false, if_pos hout]

theorem Chime.toneEnd_gap (h : (c.player z).state = .tone) (hrel : c.currentReleased z = false)
    (hout : c.outranked z = false) (hoff : c.offTime z ≠ 0) : c.toneEnd z =
      c.setPlayer z { c.player z with state := .gap, counter := none, timer := some (10 * c.offTime z) } := by
  simp only [Chime.toneEnd, if_pos h, hrel, hout, Bool.false_eq_true, if_false, if_neg hoff]

theorem Chime.toneEnd_segment (h : (c.player z).state = .tone) (hrel : c.currentReleased z = false)
    (hout : c.outranked z = false) (hoff : c.offTime z = 0) :
    c.toneEnd z = (c.setPlayer z { c.player z with counter := none }).segmentEnd z := by
  simp only [Chime.toneEnd, if_pos h, hrel, hout, Bool.false_eq_true, if_false, if_pos hoff]

theorem Chime.outranked_request {r : ChimeRequest} (h : c.Stocked) (hr : r ∈ c.queue) (hz : r.zone = z)
    (hcur : (c.player z).current = .request r.origin) :
    c.outranked z = true ↔ ∃ x ∈ c.queue, x.zone = z ∧ x.rank < r.rank := by
  have hf : c.find r.origin z = some r := hz ▸ h.find_eq hr
  simp [Chime.outranked, hcur, hf]

theorem Chime.outranked_tick {p : Fin 16} (hcur : (c.player z).current = .tick p) :
    c.outranked z = true ↔ ∃ x ∈ c.queue, x.zone = z := by
  simp [Chime.outranked, hcur]

theorem Chime.offTime_request {r : ChimeRequest} {g : Segment} (h : c.Stocked) (hr : r ∈ c.queue) (hz : r.zone = z)
    (hcur : (c.player z).current = .request r.origin)
    (hg : (c.patterns[r.pattern]).slots.toList[(c.player z).segment - 1]? = some (some g)) :
    c.offTime z = g.offTime := by
  have hf : c.find r.origin z = some r := hz ▸ h.find_eq hr
  simp only [Chime.offTime, hcur, hf, List.getD_eq_getElem?_getD, hg, Option.getD_some]

theorem Chime.offTime_tick {p : Fin 16} {g : Segment} (hcur : (c.player z).current = .tick p)
    (hg : (c.patterns[p]).slots.toList[(c.player z).segment - 1]? = some (some g)) : c.offTime z = g.offTime := by
  simp only [Chime.offTime, hcur, List.getD_eq_getElem?_getD, hg, Option.getD_some]

/-- What a player that is neither released nor outranked does at the end of its on time (R140). -/
theorem Chime.Consistent.toneEnd_goesOn {g : Segment} (h : c.Consistent) (hs : (c.player z).state = .tone)
    (hrel : c.currentReleased z = false) (hout : c.outranked z = false) (hoff : c.offTime z = g.offTime) :
    (g.offTime ≠ 0 → c.toneEnd z =
      c.setPlayer z { c.player z with state := .gap, counter := none, timer := some (10 * g.offTime) }) ∧
    (g.offTime = 0 → c.Ends z (c.toneEnd z)) := by
  refine ⟨fun hg => ?_, fun hg => ?_⟩
  · rw [toneEnd_gap hs hrel hout (hoff ▸ hg), hoff]
  · rw [toneEnd_segment hs hrel hout (hoff ▸ hg)]
    exact ((h.ready hrel).setPlayer _).segmentEnd_ends.of_counter

end Steps

/-! ### The statements about the players, the requests and the releases -/

/-- Settles O40: what the two expiries make of the player, in the order of their tests. -/
theorem playersStepThroughTheirPatterns : Obligations.PlayersStepThroughTheirPatterns := by
  intro z s hp hc
  have h := (Chime.consistent_iff _).mp hc
  intro c pl other sounding starts mine ends
  have hother : other ≠ z := by cases z <;> decide
  have hends {t : Chime} (k : c.Ends z t) : ends t := by
    refine ⟨fun p hcur => k.tick p hcur, fun r hr hz hcur => ⟨k.next r hr hz hcur, fun hge =>
      ⟨k.unlimited r hr hz hcur hge, fun n hn => ⟨fun hn2 => ?_, k.finish r hr hz hcur hge n hn⟩⟩⟩⟩
    obtain ⟨hs, hq⟩ := k.again r hr hz hcur hge n hn hn2
    exact ⟨hs, hq.trans (c.modify_queue _ z _)⟩
  have hfind {r : ChimeRequest} (hr : r ∈ c.queue) (hz : r.zone = z) : c.find r.origin z = some r :=
    hz ▸ h.stocked.find_eq hr
  have hreleased {r : ChimeRequest} (hr : r ∈ c.queue) (hz : r.zone = z) (hcur : pl.current = .request r.origin)
      (hrel : r.released = false) : c.currentReleased z = false := by
    rw [← Bool.not_eq_true, Chime.currentReleased_iff]
    rintro ⟨o, q, ho, hq, hqr⟩
    cases hcur.symm.trans ho
    cases (hfind hr hz).symm.trans hq
    exact nomatch hqr.symm.trans hrel
  refine ⟨⟨c.toneEnd z, live_powered (fun t => { t with chime := t.chime.toneEnd z }) s hp, (c.toneEnd_beside z).patterns, (c.toneEnd_beside z).setup,
    (c.toneEnd_beside z).player other hother, Chime.toneEnd_other, fun htone => ⟨?request, ?tick⟩⟩,
    ⟨c.gapEnd z, live_powered (fun t => { t with chime := t.chime.gapEnd z }) s hp, (c.gapEnd_beside z).patterns, (c.gapEnd_beside z).setup,
    (c.gapEnd_beside z).player other hother, Chime.gapEnd_other, fun hgap => ?gap⟩⟩
  case request =>
    intro r hr hz hcur beaten
    have hout : c.outranked z = true ↔ beaten := Chime.outranked_request h.stocked hr hz hcur
    refine ⟨fun hrel => ?_, fun hrel hb => ?_, fun hrel hb g hg => ?_⟩
    · rw [Chime.toneEnd_released htone hcur (hfind hr hz) hrel]
      exact ⟨Chime.stopAndStart_queue _ z, (h.ready_remove hcur).stopAndStart.1.starts_of rfl⟩
    · have hno := hreleased hr hz hcur hrel
      rw [Chime.toneEnd_outranked htone hno (hout.mpr hb)]
      exact ⟨c.stopAndStart_queue z, (h.ready hno).stopAndStart.1.starts_of rfl⟩
    · have hgo := h.toneEnd_goesOn htone (hreleased hr hz hcur hrel) (Bool.eq_false_iff.mpr (mt hout.mp hb))
        (Chime.offTime_request h.stocked hr hz hcur hg)
      exact ⟨hgo.1, fun hg => hends (hgo.2 hg)⟩
  case tick =>
    intro p hcur
    have hno : c.currentReleased z = false := by
      rw [← Bool.not_eq_true, Chime.currentReleased_iff]
      exact fun ⟨o, _, ho, _⟩ => nomatch hcur.symm.trans ho
    have hout := Chime.outranked_tick hcur
    refine ⟨fun hb => ?_, fun hb g hg => ?_⟩
    · rw [Chime.toneEnd_outranked htone hno (hout.mpr hb)]
      exact ⟨c.stopAndStart_queue z, (h.ready hno).stopAndStart.1.starts_of rfl⟩
    · have hgo := h.toneEnd_goesOn htone hno (Bool.eq_false_iff.mpr (mt hout.mp hb)) (Chime.offTime_tick hcur hg)
      exact ⟨hgo.1, fun hg => hends (hgo.2 hg)⟩
  case gap =>
    rw [Chime.gapEnd_gap hgap]
    exact hends (h.ready_of_not_tone (Eq.trans_ne hgap nofun)).segmentEnd_ends

/-- A pattern's first slot. -/
theorem Pattern.first_slot (x : Pattern) (g : Segment) :
    x.slots.toList[0]? = some (some g) ↔ x.slots[(0 : Fin 6)] = some g := by
  have h : x.slots.toList[0]? = some x.slots[(0 : Fin 6)] := by
    rw [List.getElem?_eq_getElem (by simp), Vector.getElem_toList]
    rfl
  rw [h, Option.some_inj]

/-- Settles O39: the request by its tests (R135), with the placing said once; the release, the answer and the tick by
theirs (R136, R137, R142). -/
theorem chimeRequestsRefreshRankAndPushOut : Obligations.ChimeRequestsRefreshRankAndPushOut := by
  refine ⟨fun _ => rfl, ?_, ?_, ?_, ?_⟩
  · intro c o z hc same other starts
    have h := c.consistent_iff.mp hc
    have hother : other ≠ z := by cases z <;> decide
    have hsame : c.find o z = none ↔ c.queue.any same = false := by
      simp only [Chime.find_none_iff, List.any_eq_false, same, decide_eq_true_eq]
    have hstarts {d t : Chime} (k : d.Started z t) (hb : c.Beside z d) : starts t := by
      have htop : t.top z = d.top z := congrArg _ k.queue
      refine ⟨k.patterns.trans hb.patterns, k.setup.trans hb.setup,
        (k.beside other hother).trans (hb.player other hother), fun r hr => ?_, fun hn => k.silent (htop ▸ hn)⟩
      obtain ⟨g, hg, hs⟩ := k.starts r (htop ▸ hr)
      exact ⟨g, (Pattern.first_slot _ g).mp (hb.patterns ▸ hg), hs⟩
    refine ⟨?request, fun hnone => Chime.release_none (hsame.mpr hnone), ?release⟩
    case request =>
      intro p rank repeats count new run placed
      have hplaced {d : Chime} (hd : d.Consistent) (hpl : d.Places new) (hdc : d = { c with queue := d.queue })
          (hsub : ∀ r ∈ d.queue, r ∈ c.queue) (hcur : ∀ r ∈ c.queue, r.zone = z →
            (c.player z).current = .request r.origin → r ∈ d.queue) : placed d.queue (d.place new) := by
        have hplayer (y : Zone) : d.player y = c.player y := by rw [hdc]; cases y <;> rfl
        have hbeside : c.Beside z (d.queueing new) := by
          rw [hdc]
          exact ⟨rfl, rfl, fun y _ => by cases y <;> rfl⟩
        obtain ⟨a, b, hq, hins, ha, hb⟩ := insertByRank_split new (hd.stocked.ordered.imp And.left)
        obtain ⟨_, hsil, htone, hgap⟩ := hd.place hpl
        rw [hplayer] at hsil htone hgap
        have hqueued : d.queueing new = { c with queue := (d.queueing new).queue } := by rw [hdc]; rfl
        have hpq : (d.place new).queue = (d.queueing new).queue := Chime.afterPlacing_queue _ _
        refine ⟨a, b, hq, hpq.trans hins, ha, hb, fun hs => hstarts (hsil hs) hbeside, fun hs => ?_, fun hs => ⟨?_, ?_⟩⟩
        · rw [hpq, htone hs]
          exact hqueued
        · intro hout
          refine hstarts ((hgap hs).1 ?_) hbeside
          rcases hout with ⟨k, hk⟩ | ⟨r, hr, hz, hr', hlt⟩
          · exact (Chime.outranked_tick (c := d.queueing new) ((hplayer z).symm ▸ hk)).mpr
              ⟨new, Chime.mem_queueing.mpr (.inl rfl), rfl⟩
          · exact (Chime.outranked_request (hd.stocked.queueing hpl)
              (Chime.mem_queueing.mpr (.inr (hcur r hr hz hr'))) hz ((hplayer z).symm ▸ hr')).mpr
              ⟨new, Chime.mem_queueing.mpr (.inl rfl), rfl, hlt⟩
        · intro r hr hz hr' hle htop
          rw [hpq, (hgap hs).2 (Bool.eq_false_iff.mpr fun hout => ?_)]
          · exact hqueued
          · obtain ⟨x, hx, hxz, hlt⟩ := (Chime.outranked_request (hd.stocked.queueing hpl)
              (Chime.mem_queueing.mpr (.inr (hcur r hr hz hr'))) hz ((hplayer z).symm ▸ hr')).mp hout
            rcases Chime.mem_queueing.mp hx with rfl | hx
            · exact absurd hlt hle.not_gt
            · exact absurd hlt (htop x (hsub x hx) hxz).not_gt
      refine ⟨Chime.request_empty, fun hp hsome => ?_, fun hp hnone => ⟨fun hq => ?_, fun hq a v b hqueue hv hb => ?_⟩⟩
      · obtain ⟨r, hr⟩ := Option.ne_none_iff_exists'.mp (mt hsame.mp (ne_false_of_eq_true hsome))
        exact (Chime.request_refresh hp hr).trans (congrArg (fun q => { c with queue := q }) (c.modify_queue o z _))
      · have hf := hsame.mpr hnone
        rw [show run = c.place new from Chime.request_place hp hf hq]
        exact hplaced h (Chime.newRequest_places hp hf hq) rfl (fun _ hr => hr) fun _ hr _ _ => hr
      · have hf := hsame.mpr hnone
        have hlast : c.queue.reverse.find? (fun r => !c.isPlaying r) = some v := by
          refine List.find?_eq_some_iff_append.mpr ⟨by simp [hv], b.reverse, a.reverse, by simp [hqueue], ?_⟩
          intro x hx
          simpa using hb x (List.mem_reverse.mp hx)
        have hvmem : v ∈ c.queue := by simp [hqueue]
        have hvnot : (c.player v.zone).current ≠ .request v.origin := by simpa [Chime.isPlaying] using hv
        have hrun := Chime.request_full (rank := rank) (f := repeats) hp hf hq
        rw [hlast] at hrun
        refine ⟨fun hlt => ?_, fun hle => hrun.trans (if_neg hle.not_gt)⟩
        rw [show run = (c.remove v.origin v.zone).place new from hrun.trans (if_pos hlt),
          ← h.stocked.remove_queue hqueue]
        refine hplaced (h.remove hvnot) (Chime.newRequest_places_remove h hp hf hvmem) rfl
          (fun r hr => (Chime.mem_remove.mp hr).1) fun r hr hz hr' => Chime.mem_remove.mpr ⟨hr, fun ⟨ho, hvz⟩ => ?_⟩
        rw [← hvz, ← ho, hz] at hvnot
        exact hvnot hr'
    case release =>
      intro hsome
      obtain ⟨r, hr⟩ := Option.ne_none_iff_exists'.mp (mt hsame.mp (ne_false_of_eq_true hsome))
      refine ⟨Chime.release_waiting hr, fun hcur hs => ?_, fun hcur hs => ?_⟩
      · rw [Chime.release_gap hr hcur (Eq.trans_ne hs nofun)]
        exact ⟨Chime.stopAndStart_queue _ z,
          hstarts (h.ready_remove hcur).stopAndStart.1 (c.remove_beside o z)⟩
      · exact (Chime.release_tone hr hcur hs).trans (congrArg (fun q => { c with queue := q }) (c.modify_queue o z _))
  · refine fun c => ⟨fun hno => ?_, fun p hw hp => by simp only [Chime.answer, hw, hp]⟩
    unfold Chime.answer
    split
    · rename_i hw hp
      rcases hno with hno | hno
      · exact nomatch hw.symm.trans hno
      · exact nomatch hp.symm.trans hno
    · rfl
  · intro c hc p
    refine ⟨fun hs hp => ?_, fun hno => if_neg fun hyes => hno.elim (absurd hyes.1) hyes.2⟩
    obtain ⟨g, hg, he⟩ := (c.consistent_iff.mp hc).stocked.enterTone .front (.tick p) (Nat.le_refl 1)
      (Nat.pos_of_ne_zero hp)
    exact ⟨g, (Pattern.first_slot _ g).mp hg, (if_pos ⟨hs, hp⟩).trans he⟩
  · intro k n s edge
    unfold chimeNotice
    refine ⟨fun ⟨hw, hk, level, up, seeded, hn⟩ => by rw [if_pos ⟨hw, hk⟩, hn], fun hno => ?_⟩
    split
    · rename_i hyes
      split
      · rename_i level up seeded
        exact absurd ⟨hyes.1, hyes.2, level, up, seeded, rfl⟩ hno
      · rfl
    · rfl

end Sys2Proof.Machine
end


section
/-! PROOF. What every operation keeps of a safe state: the bounds of the blocks, and that no producer of the insert queue
that could place is left waiting (R171, R186, R188). The bounds and the rules by which a change of one block keeps them. -/

namespace Sys2Proof.Machine

/-! ### Bounds of the blocks -/

/-- The store's words stand in their canonical form, and an open erase window has no outcome (R64, R69, R70). -/
structure Store.Sound (x : Store) : Prop where
  words : Memory.wf x.mem = true
  fresh : x.ctl = .eraseWindow → x.outcomes = []

/-- A gauge is on the dial (R23, R24). -/
structure Gauge.OnDial (g : Gauge) : Prop where
  position : g.position ≤ 1023
  park : g.setup.park ≤ 1023
  target : ∀ t, g.target = some t → t ≤ 1023

/-- The place that the frame being sent will take in the awaiting-return list (R170, R173). -/
def LoopTx.places : LoopTx → Nat
  | .inserted _ => 1
  | _ => 0

/-- The queues and lists of the Loop Port are within their places (R167 to R177). -/
structure LoopPort.Bounded (l : LoopPort) : Prop where
  forwarded : l.forwardQ.length ≤ 4
  tapped : l.tapQ.length ≤ 16
  requests : l.requestQ.length ≤ 4
  inserted : l.insertQ.length ≤ 8
  awaiting : l.awaiting.length + l.tx.places ≤ 8
  nodes : (l.node :: l.holders.map Holder.node).Nodup

/-- Every block is within its bounds. -/
structure State.Bounded (s : State) : Prop where
  store : s.store.Sound
  gauges : ∀ i : Fin 6, (s.gauges[i]).OnDial
  loop : s.loop.Bounded
  events : s.handler.events.length ≤ 16
  packets : s.display.queue.length ≤ 6
  chimes : s.chime.queue.length ≤ 8

/-- No held response, start-up report or event waits while it could be placed (R182, R186). -/
structure State.Served (s : State) : Prop where
  held : s.loop.insertQ.length < 8 → s.handler.held = []
  startUp : s.loop.insertQ.length < 6 → s.handler.startUp = none
  events : s.loop.insertQ.length < 6 → s.handler.events = []

/-- Nor does a streaming dump (R188). -/
structure State.Calm (s : State) : Prop extends s.Served where
  dump : s.loop.insertQ.length < 6 → s.handler.dump.isStreaming = false

/-- The node numbers are sixteen, so that nodes that are all different and not the part's own are at most 15. -/
theorem holders_length_le {n : Node} {ns : List Node} (h : (n :: ns).Nodup) : ns.length ≤ 15 := by
  have hfin : ((n :: ns).map BitVec.toFin).Nodup :=
    h.map fun a b hab => BitVec.eq_of_toFin_eq hab
  have hcard := hfin.length_le_card
  simp only [List.length_map, List.length_cons, Fintype.card_fin] at hcard
  omega

theorem Gauge.onDial_iff (g : Gauge) : g.onDial = true ↔ g.OnDial := by
  unfold Gauge.onDial
  rw [Bool.and_eq_true, Bool.and_eq_true, decide_eq_true_eq, decide_eq_true_eq, Option.all_eq_true]
  exact ⟨fun ⟨⟨hp, hk⟩, ht⟩ => ⟨hp, hk, fun t h => of_decide_eq_true (ht t h)⟩,
    fun h => ⟨⟨h.position, h.park⟩, fun t ht => decide_eq_true (h.target t ht)⟩⟩

theorem State.gaugesOnDial_iff (s : State) : s.gaugesOnDial = true ↔ ∀ i : Fin 6, (s.gauges[i]).OnDial := by
  unfold State.gaugesOnDial
  rw [List.all_eq_true]
  refine ⟨fun h i => (Gauge.onDial_iff _).mp (h _ (Vector.mem_toList_iff.mpr (Vector.getElem_mem i.isLt))),
    fun h g hg => ?_⟩
  obtain ⟨i, hi, rfl⟩ := Vector.getElem_of_mem (Vector.mem_toList_iff.mp hg)
  exact (Gauge.onDial_iff _).mpr (h ⟨i, hi⟩)

theorem LoopPort.holdersBounded_iff (l : LoopPort) :
    l.holdersBounded = true ↔ (l.node :: l.holders.map Holder.node).Nodup := by
  unfold LoopPort.holdersBounded
  rw [Bool.and_eq_true, Bool.and_eq_true, decide_eq_true_eq, decide_eq_true_eq, Bool.not_eq_true', List.any_eq_false,
    List.nodup_cons, List.mem_map]
  constructor
  · rintro ⟨⟨_, hnodup⟩, hown⟩
    exact ⟨fun ⟨x, hx, hn⟩ => hown x hx (decide_eq_true hn), hnodup⟩
  · rintro ⟨hown, hnodup⟩
    refine ⟨⟨?_, hnodup⟩, fun x hx hn => hown ⟨x, hx, of_decide_eq_true hn⟩⟩
    have := holders_length_le (n := l.node) (List.nodup_cons.mpr ⟨fun h => hown (List.mem_map.mp h), hnodup⟩)
    rwa [List.length_map] at this

theorem State.windowFresh_iff (s : State) :
    s.windowFresh = true ↔ (s.store.ctl = .eraseWindow → s.store.outcomes = []) := by
  unfold State.windowFresh
  cases s.store.ctl <;> simp

/-- The bounds as the safe states spell them. -/
theorem State.bounded_iff (s : State) : s.Bounded ↔
    (s.storeWords && s.gaugesOnDial && s.queuesBounded && s.loop.awaitingBounded && s.loop.holdersBounded &&
      s.windowFresh) = true := by
  have hawaiting : s.loop.awaitingBounded = true ↔ s.loop.awaiting.length + s.loop.tx.places ≤ 8 := by
    unfold LoopPort.awaitingBounded
    rw [decide_eq_true_eq]
    cases s.loop.tx <;> exact Iff.rfl
  simp only [Bool.and_eq_true, State.gaugesOnDial_iff, LoopPort.holdersBounded_iff, State.windowFresh_iff, hawaiting,
    State.queuesBounded, decide_eq_true_eq, State.storeWords]
  constructor
  · rintro ⟨hstore, hgauges, ⟨hf, ht, hr, hi, ha, hn⟩, he, hp, hc⟩
    exact ⟨⟨⟨⟨⟨hstore.words, hgauges⟩, ⟨⟨⟨⟨⟨hf, ht⟩, hr⟩, hi⟩, he⟩, hp⟩, hc⟩, ha⟩, hn⟩, hstore.fresh⟩
  · rintro ⟨⟨⟨⟨⟨hw, hgauges⟩, ⟨⟨⟨⟨⟨hf, ht⟩, hr⟩, hi⟩, he⟩, hp⟩, hc⟩, ha⟩, hn⟩, hfresh⟩
    exact ⟨⟨hw, hfresh⟩, hgauges, ⟨hf, ht, hr, hi, ha, hn⟩, he, hp, hc⟩

theorem State.safe_iff (s : State) : s.safe = true ↔ s.Bounded ∧ s.producerWaits = false := by
  rw [State.bounded_iff, ← Bool.not_eq_true', ← Bool.and_eq_true]
  rfl

/-- No producer that could place waits: beside the others, no request while the handler may take it (R171, R180). -/
theorem State.producerWaits_eq_false_iff (s : State) : s.producerWaits = false ↔
    s.Calm ∧ (s.loop.insertQ.length < 8 → s.handler.restartPending = true ∨ s.loop.requestQ = []) := by
  have hfree : decide (0 < s.freePlaces) = decide (s.loop.insertQ.length < 8) := by
    unfold State.freePlaces
    exact decide_eq_decide.mpr (by omega)
  have hroom : s.streamRoom = decide (s.loop.insertQ.length < 6) :=
    Bool.eq_iff_iff.mpr ((State.streamRoom_iff s).trans (decide_eq_true_iff).symm)
  unfold State.producerWaits
  rw [hfree, hroom]
  by_cases h8 : s.loop.insertQ.length < 8 <;> by_cases h6 : s.loop.insertQ.length < 6
  · simp only [h8, h6, decide_true, Bool.true_and, Bool.or_eq_false_iff, Bool.not_eq_false', List.isEmpty_iff,
      Bool.and_eq_false_iff, Option.isSome_eq_false_iff, Option.isNone_iff_eq_none, true_imp_iff]
    exact ⟨fun ⟨⟨hh, hr⟩, ⟨hs, he⟩, hd⟩ => ⟨⟨⟨fun _ => hh, fun _ => hs, fun _ => he⟩, fun _ => hd⟩, hr⟩,
      fun ⟨hc, hr⟩ => ⟨⟨hc.held h8, hr⟩, ⟨hc.startUp h6, hc.events h6⟩, hc.dump h6⟩⟩
  · simp only [h8, h6, decide_true, decide_false, Bool.true_and, Bool.false_and, Bool.or_false, Bool.or_eq_false_iff,
      Bool.not_eq_false', List.isEmpty_iff, Bool.and_eq_false_iff, true_imp_iff]
    exact ⟨fun ⟨hh, hr⟩ => ⟨⟨⟨fun _ => hh, fun h => absurd h h6, fun h => absurd h h6⟩, fun h => absurd h h6⟩, hr⟩,
      fun ⟨hc, hr⟩ => ⟨hc.held h8, hr⟩⟩
  · omega
  · simp only [h8, h6, decide_false, Bool.false_and, Bool.or_false, false_imp_iff, and_true, true_iff]
    exact ⟨⟨fun h => absurd h h8, fun h => absurd h h6, fun h => absurd h h6⟩, fun h => absurd h h6⟩

/-! ### What every operation keeps -/

/-- What every command keeps: the queue of commands, the Chime Generator's consistency, and the bounds. -/
structure Sound (s t : State) : Prop where
  pending : t.pending = s.pending
  chime : s.chime.Consistent → t.chime.Consistent
  bounded : s.Bounded → t.Bounded

theorem Sound.refl (s : State) : Sound s s := ⟨rfl, id, id⟩

theorem Sound.trans {s t u : State} (h : Sound s t) (k : Sound t u) : Sound s u :=
  ⟨k.pending.trans h.pending, k.chime ∘ h.chime, k.bounded ∘ h.bounded⟩

/-- What every operation keeps that takes no request and frees no place: besides, no producer is left waiting that was
not, the insert queue only grows, and the requests and a pending RESTART stand. -/
structure CalmKept (s t : State) : Prop extends Sound s t where
  served : s.Served → t.Served
  calm : s.Calm → t.Calm
  fuller : s.loop.insertQ.length ≤ t.loop.insertQ.length
  restarting : s.handler.restartPending = true → t.handler.restartPending = true
  requests : t.loop.requestQ = s.loop.requestQ

theorem CalmKept.refl (s : State) : CalmKept s s := ⟨.refl s, id, id, Nat.le_refl _, id, rfl⟩

theorem CalmKept.trans {s t u : State} (h : CalmKept s t) (k : CalmKept t u) : CalmKept s u :=
  ⟨h.toSound.trans k.toSound, k.served ∘ h.served, k.calm ∘ h.calm, h.fuller.trans k.fuller,
    k.restarting ∘ h.restarting, k.requests.trans h.requests⟩

theorem CalmKept.ite {p : Prop} [Decidable p] {s t u : State} (h : CalmKept s t) (k : CalmKept s u) :
    CalmKept s (if p then t else u) := by
  split
  · exact h
  · exact k

theorem CalmKept.foldl {α : Type} {f : State → α → State} (h : ∀ s a, CalmKept s (f s a)) (as : List α) (s : State) :
    CalmKept s (as.foldl f s) := by
  induction as generalizing s with
  | nil => exact .refl s
  | cons a as ih => exact (h s a).trans (ih _)

/-- An operation of this kind leaves no producer waiting. -/
theorem CalmKept.quiet {s t : State} (k : CalmKept s t) (h : s.producerWaits = false) : t.producerWaits = false := by
  obtain ⟨hcalm, hrequests⟩ := s.producerWaits_eq_false_iff.mp h
  refine t.producerWaits_eq_false_iff.mpr ⟨k.calm hcalm, fun hroom => ?_⟩
  rw [k.requests]
  exact (hrequests (k.fuller.trans_lt hroom)).imp_left k.restarting

/-- What the bounds speak of at the Loop Port: all but the own hold, the loop state, the overrun flag and the broadcast. -/
def LoopPort.places (l : LoopPort) :=
  (l.node, l.forwardQ, l.tapQ, l.requestQ, l.insertQ, l.awaiting, l.tx, l.holders)

/-- All that the bounds speak of. -/
def State.seen (s : State) :=
  (s.pending, s.chime, s.store, s.gauges, s.display.queue, s.loop.places,
    (s.handler.restartPending, s.handler.held, s.handler.events, s.handler.startUp, s.handler.dump))

/-- A change of nothing that the bounds speak of. -/
theorem CalmKept.same {s t : State} (h : t.seen = s.seen) : CalmKept s t := by
  simp only [State.seen, LoopPort.places, Prod.mk.injEq] at h
  obtain ⟨hpending, hchime, hstore, hgauges, hpackets, ⟨hnode, hf, ht, hr, hi, ha, htx, hh⟩, hrestart, hheld, hevents,
    hstart, hdump⟩ := h
  have hserved : s.Served → t.Served := fun b =>
    ⟨fun h => hheld ▸ b.held (hi ▸ h), fun h => hstart ▸ b.startUp (hi ▸ h), fun h => hevents ▸ b.events (hi ▸ h)⟩
  refine ⟨⟨hpending, fun h => hchime ▸ h, fun b => ?_⟩, hserved,
    fun b => ⟨hserved b.toServed, fun h => hdump ▸ b.dump (hi ▸ h)⟩, hi ▸ Nat.le_refl _, fun h => hrestart ▸ h, hr⟩
  refine ⟨hstore ▸ b.store, fun i => hgauges ▸ b.gauges i, ⟨?_, ?_, ?_, ?_, ?_, ?_⟩, ?_, ?_, ?_⟩
  · rw [hf]; exact b.loop.forwarded
  · rw [ht]; exact b.loop.tapped
  · rw [hr]; exact b.loop.requests
  · rw [hi]; exact b.loop.inserted
  · rw [ha, htx]; exact b.loop.awaiting
  · rw [hnode, hh]; exact b.loop.nodes
  · rw [hevents]; exact b.events
  · rw [hpackets]; exact b.packets
  · rw [hchime]; exact b.chimes

/-- An operation behind such a change. -/
theorem CalmKept.behind {s t u : State} (k : CalmKept t u) (h : t.seen = s.seen) : CalmKept s u :=
  (CalmKept.same h).trans k

/-- Such a change behind an operation. -/
theorem CalmKept.then {s t u : State} (k : CalmKept s t) (h : u.seen = t.seen) : CalmKept s u := k.trans (.same h)

/-! ### Changes of one block -/

theorem CalmKept.withStore {s : State} {x : Store} (h : s.store.Sound → x.Sound) : CalmKept s { s with store := x } :=
  ⟨⟨rfl, id, fun b => ⟨h b.store, b.gauges, b.loop, b.events, b.packets, b.chimes⟩⟩,
    fun b => ⟨b.held, b.startUp, b.events⟩, fun b => ⟨⟨b.held, b.startUp, b.events⟩, b.dump⟩, Nat.le_refl _, id, rfl⟩

theorem CalmKept.withGauges {s : State} {x : Vector Gauge 6}
    (h : (∀ i : Fin 6, (s.gauges[i]).OnDial) → ∀ i : Fin 6, (x[i]).OnDial) : CalmKept s { s with gauges := x } :=
  ⟨⟨rfl, id, fun b => ⟨b.store, h b.gauges, b.loop, b.events, b.packets, b.chimes⟩⟩,
    fun b => ⟨b.held, b.startUp, b.events⟩, fun b => ⟨⟨b.held, b.startUp, b.events⟩, b.dump⟩, Nat.le_refl _, id, rfl⟩

theorem CalmKept.withChime {s : State} {x : Chime} (h : s.chime.Consistent → x.Consistent)
    (hq : s.chime.queue.length ≤ 8 → x.queue.length ≤ 8) : CalmKept s { s with chime := x } :=
  ⟨⟨rfl, h, fun b => ⟨b.store, b.gauges, b.loop, b.events, b.packets, hq b.chimes⟩⟩,
    fun b => ⟨b.held, b.startUp, b.events⟩, fun b => ⟨⟨b.held, b.startUp, b.events⟩, b.dump⟩, Nat.le_refl _, id, rfl⟩

theorem CalmKept.withDisplay {s : State} {d : Display} (h : s.display.queue.length ≤ 6 → d.queue.length ≤ 6) :
    CalmKept s { s with display := d } :=
  ⟨⟨rfl, id, fun b => ⟨b.store, b.gauges, b.loop, b.events, h b.packets, b.chimes⟩⟩,
    fun b => ⟨b.held, b.startUp, b.events⟩, fun b => ⟨⟨b.held, b.startUp, b.events⟩, b.dump⟩, Nat.le_refl _, id, rfl⟩

/-- A change of the Loop Port that leaves the insert queue and the requests. -/
theorem CalmKept.withLoop {s : State} {l : LoopPort} (h : s.loop.Bounded → l.Bounded)
    (hi : l.insertQ = s.loop.insertQ) (hr : l.requestQ = s.loop.requestQ) : CalmKept s { s with loop := l } := by
  have hserved : s.Served → State.Served { s with loop := l } := fun b =>
    ⟨fun h => b.held (hi ▸ h), fun h => b.startUp (hi ▸ h), fun h => b.events (hi ▸ h)⟩
  exact ⟨⟨rfl, id, fun b => ⟨b.store, b.gauges, h b.loop, b.events, b.packets, b.chimes⟩⟩, hserved,
    fun b => ⟨hserved b.toServed, fun h => b.dump (hi ▸ h)⟩, by rw [hi], id, hr⟩

/-- The handler holds no more than it held. -/
structure Handler.Within (h k : Handler) : Prop where
  restarting : h.restartPending = true → k.restartPending = true
  held : h.held = [] → k.held = []
  startUp : h.startUp = none → k.startUp = none
  none : h.events = [] → k.events = []
  events : k.events.length ≤ h.events.length
  dump : h.dump.isStreaming = false → k.dump.isStreaming = false

theorem CalmKept.withHandler {s : State} {k : Handler} (h : s.handler.Within k) :
    CalmKept s { s with handler := k } := by
  have hserved : s.Served → State.Served { s with handler := k } := fun b =>
    ⟨fun hr => h.held (b.held hr), fun hr => h.startUp (b.startUp hr), fun hr => h.none (b.events hr)⟩
  exact ⟨⟨rfl, id, fun b => ⟨b.store, b.gauges, b.loop, h.events.trans b.events, b.packets, b.chimes⟩⟩, hserved,
    fun b => ⟨hserved b.toServed, fun hr => h.dump (b.dump hr)⟩, Nat.le_refl _, h.restarting, rfl⟩

/-- A frame takes a free place. -/
theorem insertFrame_calm {f : Frame} {restart : Bool} {s : State} (hroom : s.loop.insertQ.length < 8) :
    CalmKept s (insertFrame f restart s) := by
  have hlen : (insertFrame f restart s).loop.insertQ.length = s.loop.insertQ.length + 1 := List.length_append
  have hserved : s.Served → (insertFrame f restart s).Served := fun b =>
    ⟨fun h => b.held (by omega), fun h => b.startUp (by omega), fun h => b.events (by omega)⟩
  refine ⟨⟨rfl, id, fun b => ⟨b.store, b.gauges, ?_, b.events, b.packets, b.chimes⟩⟩, hserved,
    fun b => ⟨hserved b.toServed, fun h => b.dump (by omega)⟩, by omega, id, rfl⟩
  exact ⟨b.loop.forwarded, b.loop.tapped, b.loop.requests, by omega, b.loop.awaiting, b.loop.nodes⟩

/-! ### Frames and events (R171, R181, R182, R185, R186, R188) -/

theorem placeEvent_calm {s : State} {k : Handler} {payload : Bool → List Byte} (h : s.handler.Within k)
    (hroom : s.streamRoom = true) : CalmKept s (placeEvent payload { s with handler := k }) := by
  have h6 := (State.streamRoom_iff s).mp hroom
  have hcarried : CalmKept s { s with handler := { k with eventsLost := false } } := (CalmKept.withHandler h).then rfl
  exact hcarried.trans (insertFrame_calm (Nat.lt_of_lt_of_le h6 (by decide)))

theorem buildEvent_calm (s : State) : CalmKept s (buildEvent s) := by
  unfold buildEvent
  split
  · rename_i e rest he
    split
    · rename_i hroom
      exact placeEvent_calm ⟨id, id, id, fun h => (nomatch he.symm.trans h),
        by rw [he]; exact Nat.le_succ _, id⟩ hroom
    · exact .refl s
  · exact .refl s

theorem buildStartUp_calm (s : State) : CalmKept s (buildStartUp s) := by
  unfold buildStartUp
  split
  · split
    · rename_i hroom
      exact placeEvent_calm ⟨id, id, fun _ => rfl, id, Nat.le_refl _, id⟩ hroom
    · exact .refl s
  · exact .refl s

theorem buildDump_calm (s : State) : CalmKept s (buildDump s) := by
  unfold buildDump
  split
  · rename_i c hc
    split
    · rename_i hroom
      have h6 := (State.streamRoom_iff s).mp hroom
      have hwithin : ∀ d, s.handler.Within { s.handler with dump := d } := fun d =>
        ⟨id, id, id, id, Nat.le_refl _, fun h => by rw [hc] at h; cases h⟩
      exact (CalmKept.withHandler (hwithin _)).trans (insertFrame_calm (Nat.lt_of_lt_of_le h6 (by decide)))
    · exact .refl s
  · exact .refl s

theorem dumpFor_calm (n : Nat) (s : State) : CalmKept s (dumpFor n s) := by
  induction n generalizing s with
  | zero => exact .refl s
  | succ n ih => exact (buildDump_calm s).trans (ih _)

/-- Once there is no room for a stream frame, or no dump streaming, that stays so. -/
theorem dumpFor_waits {n : Nat} {s : State} (h : 6 ≤ s.loop.insertQ.length ∨ ∀ c, s.handler.dump ≠ .streaming c) :
    dumpFor n s = s := by
  induction n with
  | zero => rfl
  | succ n ih => rw [dumpFor, buildDump_waits h, ih]

/-- Dump frames are built until the room or the stream ends. -/
theorem dumpFor_ends (n : Nat) (s : State) (hn : 6 - s.loop.insertQ.length ≤ n) :
    6 ≤ (dumpFor n s).loop.insertQ.length ∨ (dumpFor n s).handler.dump.isStreaming = false := by
  induction n generalizing s with
  | zero => exact .inl (show 6 ≤ s.loop.insertQ.length by omega)
  | succ n ih =>
    by_cases hroom : 6 ≤ s.loop.insertQ.length
    · rw [dumpFor_waits (.inl hroom)]
      exact .inl hroom
    · cases hd : s.handler.dump with
      | streaming c =>
        refine ih (buildDump s) ?_
        have hlen : (buildDump s).loop.insertQ.length = s.loop.insertQ.length + 1 := by
          unfold buildDump
          simp only [hd, (State.streamRoom_iff s).mpr (by omega), if_true, insertFrame_loop, List.length_append,
            List.length_singleton]
        omega
      | idle | aborted =>
        rw [dumpFor_waits (.inr fun c hc => nomatch hd.symm.trans hc), hd]
        exact .inr rfl

/-- Behind STORE DUMP and DUMP RESUME every frame that has room is built (R188). -/
theorem dumpFill_serves {s : State} (h : s.Served) : (dumpFill s).Calm := by
  refine ⟨(dumpFor_calm 6 s).served h, fun hroom => ?_⟩
  rcases dumpFor_ends 6 s (by omega) with hfull | hover
  · exact absurd hroom (Nat.not_lt.mpr hfull)
  · exact hover

/-- A listed event leaves at once where it has room (R186). -/
theorem report_calm (e : Event) (s : State) : CalmKept s (report e s) := by
  rcases report_cases e s with ⟨_, h⟩ | ⟨_, _, h⟩ | ⟨_, hplace, hfull, h⟩ | ⟨_, hplace, hroom, first, rest, hsplit, h⟩
  · rw [h]
    exact .refl s
  · rw [h]
    exact .same rfl
  · rw [h]
    have hserved : s.Served → State.Served { s with handler := { s.handler with events := s.handler.events ++ [e] } } :=
      fun b => ⟨b.held, b.startUp, fun h => absurd h (Nat.not_lt.mpr hfull)⟩
    refine ⟨⟨rfl, id, fun b => ⟨b.store, b.gauges, b.loop, ?_, b.packets, b.chimes⟩⟩, hserved,
      fun b => ⟨hserved b.toServed, b.dump⟩, Nat.le_refl _, id, rfl⟩
    simp only [List.length_append, List.length_singleton]
    omega
  · rw [h]
    have hlen : rest.length = s.handler.events.length := by
      simpa using (congrArg List.length hsplit).symm
    exact placeEvent_calm ⟨id, id, id, fun hnil => List.eq_nil_of_length_eq_zero (by rw [hlen, hnil]; rfl),
      hlen.le, id⟩ ((State.streamRoom_iff s).mpr hroom)

/-- A response is held only while no place is free. -/
theorem holdFrame_calm {s : State} {f : Frame} (h : s.handler.held ≠ [] ∨ 8 ≤ s.loop.insertQ.length) :
    CalmKept s { s with handler := { s.handler with held := s.handler.held ++ [f] } } := by
  have hserved : s.Served →
      State.Served { s with handler := { s.handler with held := s.handler.held ++ [f] } } := fun b =>
    ⟨fun hroom => h.elim (fun hheld => absurd (b.held hroom) hheld) (fun hfull => absurd hroom (Nat.not_lt.mpr hfull)),
      b.startUp, b.events⟩
  exact ⟨⟨rfl, id, fun b => ⟨b.store, b.gauges, b.loop, b.events, b.packets, b.chimes⟩⟩, hserved,
    fun b => ⟨hserved b.toServed, b.dump⟩, Nat.le_refl _, id, rfl⟩

theorem placeResponse_calm (f : Frame) (restart : Bool) (s : State) : CalmKept s (placeResponse f restart s) := by
  by_cases h : s.loop.insertQ.length < 8
  · rw [placeResponse_places f restart h]
    exact insertFrame_calm h
  · rw [placeResponse_waits f restart (Nat.le_of_not_lt h)]
    exact holdFrame_calm (.inr (Nat.le_of_not_lt h))

theorem holdResponse_calm (f : Frame) (s : State) : CalmKept s (holdResponse f s) := by
  unfold holdResponse
  split
  · exact placeResponse_calm f false s
  · rename_i h
    exact holdFrame_calm (.inl h)

end Sys2Proof.Machine
end


section
/-! PROOF. The blocks that a step changes keep their bounds: the store's words and its erase window (R64 to R71), the
dial of every gauge (R23 to R39), the six packets of the display (R150 to R156), and the eight chime requests. -/

namespace Sys2Proof.Machine

/-! ### The store (R64 to R71) -/

/-- A change that leaves the words, the controller's state and the outcomes. -/
theorem Store.Sound.same {x y : Store} (h : x.Sound) (hm : y.mem = x.mem) (hc : y.ctl = x.ctl)
    (ho : y.outcomes = x.outcomes) : y.Sound := ⟨hm ▸ h.words, fun hy => ho.trans (h.fresh (hc ▸ hy))⟩

/-- A controller with no open window. -/
theorem Store.Sound.shut {y : Store} (hm : Memory.wf y.mem = true) (hc : y.ctl ≠ .eraseWindow) : y.Sound :=
  ⟨hm, fun h => absurd h hc⟩

theorem Store.Sound.setSlot {x : Store} (h : x.Sound) (c : StoreClass) (v : Option StoreStep) : (x.setSlot c v).Sound := by
  cases c <;> exact h.same rfl rfl rfl

theorem Store.Sound.join {x : Store} (h : x.Sound) (c : StoreClass) (b : BitVec 8) : (x.join c b).Sound := by
  cases c <;> exact h.same rfl rfl rfl

theorem Store.Sound.gather {x : Store} (h : x.Sound) (c : StoreClass) : (x.gather c).Sound := by
  unfold Store.gather
  split
  · exact h.join c _
  · exact h

theorem Store.beginFrom_shut (ks : List (Fin 8)) (x : Store) : (Store.beginFrom ks x).ctl ≠ .eraseWindow := by
  induction ks generalizing x with
  | nil => exact nofun
  | cons k ks ih =>
    unfold Store.beginFrom
    split
    · exact ih _
    · exact nofun

theorem Store.beginNext_shut (x : Store) : x.beginNext.ctl ≠ .eraseWindow := Store.beginFrom_shut _ x

theorem Store.Sound.beginNext {x : Store} (h : Memory.wf x.mem = true) : x.beginNext.Sound :=
  .shut (x.beginNext_mem ▸ h) (Store.beginFrom_shut _ _)

theorem Store.Sound.closeWindow {x : Store} (h : Memory.wf x.mem = true) : x.closeWindow.Sound :=
  .beginNext (x := { x with window := none }) h

theorem Store.Sound.place {x : Store} (h : x.Sound) (c : StoreClass) (st : StoreStep) : (x.place c st).Sound := by
  have hslot := h.setSlot c (some st)
  cases st with
  | erase b =>
    show (if x.ctl = .eraseWindow then x.join c b else x.setSlot c (some (.erase b))).Sound
    split
    · exact h.join c b
    · exact hslot
  | program a v =>
    have hshut : (if x.ctl = .eraseWindow then (x.setSlot c (some (.program a v))).closeWindow
        else x.setSlot c (some (.program a v))).Sound := by
      split
      · exact .closeWindow hslot.words
      · exact hslot
    have hsuspended {y : Store} (hy : y.Sound) :
        (if c = .odometer ∧ y.ctl = .erasing then { y with ctl := .suspending } else y).Sound := by
      split
      · exact .shut hy.words (show CtlState.suspending ≠ .eraseWindow from nofun)
      · exact hy
    exact hsuspended hshut

theorem Store.Sound.take {x y : Store} (h : x.Sound) (ht : x.take = some y) : y.Sound := by
  have hgather : ∀ (cs : List StoreClass) (z : Store), z.Sound → (cs.foldl Store.gather z).Sound := by
    intro cs
    induction cs with
    | nil => exact fun z hz => hz
    | cons c cs ih => exact fun z hz => ih _ (hz.gather c)
  unfold Store.take at ht
  split at ht
  · split at ht
    · cases ht
    · split at ht
      · cases ht
        rename_i c _ _ _ _ _
        exact .shut (h.setSlot c none).words nofun
      · cases ht
        exact hgather _ _ ⟨h.words, fun _ => rfl⟩
      · cases ht
  · cases ht

theorem Store.takeSuspending_shut (x : Store) : x.takeSuspending.ctl ≠ .eraseWindow := by
  unfold Store.takeSuspending
  split <;> exact nofun

theorem Store.programEnd_shut {x y : Store} {worn : Bool} {r : ProgramReport} (h : x.programEnd worn = some (r, y)) :
    y.ctl ≠ .eraseWindow := by
  unfold Store.programEnd at h
  split at h
  · cases h
  · simp only [Option.some.injEq, Prod.mk.injEq] at h
    obtain ⟨_, rfl⟩ := h
    split
    · split
      · exact (show CtlState.erasing ≠ .eraseWindow from nofun)
      · exact Store.beginFrom_shut _ _
    · exact (show CtlState.ready ≠ .eraseWindow from nofun)

theorem Store.Sound.programEnd {x y : Store} {worn : Bool} {r : ProgramReport} (h : x.Sound)
    (he : x.programEnd worn = some (r, y)) : y.Sound := by
  obtain ⟨run, _, _, _, hmem⟩ := Store.programEnd_mem x y worn r he
  exact .shut (hmem ▸ Memory.wf_write _ _ _ h.words run.addr.isLt) (Store.programEnd_shut he)

theorem Store.eraseEnd_shut {x y : Store} {failed : Bool} {raised : List Word} {k : Fin 8}
    (h : x.eraseEnd failed raised = some (k, y)) : y.ctl ≠ .eraseWindow := by
  unfold Store.eraseEnd at h
  split at h
  · cases h
  · split at h
    · simp only [Option.some.injEq, Prod.mk.injEq] at h
      obtain ⟨_, rfl⟩ := h
      by_cases hc : x.ctl = .erasing
      · rw [if_pos hc]
        exact Store.beginNext_shut _
      · rw [if_neg hc]
        generalize (if failed = true then EraseOutcome.exceeded else EraseOutcome.erased) = outcome
        split
        · exact (show CtlState.ready ≠ .eraseWindow from nofun)
        · exact Store.takeSuspending_shut _
    · cases h

theorem Store.Sound.eraseEnd {x y : Store} {failed : Bool} {raised : List Word} {k : Fin 8} (h : x.Sound)
    (he : x.eraseEnd failed raised = some (k, y)) : y.Sound := by
  obtain ⟨_, hmem⟩ := Store.eraseEnd_mem x y failed raised k he
  exact .shut (hmem ▸ Memory.wf_mapSector _ _ _ h.words) (Store.eraseEnd_shut he)

theorem Store.Sound.windowExpiry {x : Store} (h : x.Sound) : x.windowExpiry.Sound := by
  unfold Store.windowExpiry
  split
  · exact .closeWindow h.words
  · exact h

theorem Store.Sound.suspensionReached {x : Store} (h : x.Sound) : x.suspensionReached.Sound := by
  unfold Store.suspensionReached
  split
  · exact .shut (by rw [Store.takeSuspending_mem]; exact h.words) (Store.takeSuspending_shut _)
  · exact h

theorem Store.Sound.dropStep {x : Store} (h : x.Sound) (j : StoreClass × BitVec 8) : (x.dropStep j).Sound := by
  refine ⟨h.words, fun hw => ?_⟩
  show (if x.joined.erase j = [] then [] else x.outcomes) = []
  rw [h.fresh hw, ite_self]

theorem Store.Sound.initial {mem : List (Nat × Word)} (h : Memory.wf mem = true) : (Store.initial mem).Sound :=
  .shut h nofun

/-! ### The gauges (R23 to R39) -/

theorem State.mapTarget_le (s : State) (f : GaugeSetup) (v : Int) : s.mapTarget f v ≤ 1023 := by
  unfold State.mapTarget
  omega

theorem State.sourceTarget_le {s : State} {f : GaugeSetup} {t : Nat} (h : s.sourceTarget f = some t) : t ≤ 1023 := by
  unfold State.sourceTarget at h
  split at h
  · obtain ⟨v, _, rfl⟩ := Option.map_eq_some_iff.mp h
    exact s.mapTarget_le f v
  · cases h

theorem toward_le {a b n m : Nat} (ha : a ≤ m) (hb : b ≤ m) : toward a b n ≤ m :=
  (toward_between a b n).2.1.trans (max_le ha hb)

section OnDial
variable {g : Gauge}

theorem Gauge.OnDial.running (h : g.OnDial) (st : GaugeState) : (g.running st).OnDial := ⟨h.position, h.park, h.target⟩

theorem Gauge.OnDial.toPark (h : g.OnDial) : g.toPark.OnDial := by
  unfold Gauge.toPark
  split
  · exact ⟨h.position, h.park, h.target⟩
  · exact h.running _

theorem Gauge.OnDial.unlive (h : g.OnDial) : g.unlive.OnDial := by
  unfold Gauge.unlive
  split
  · exact h.toPark
  · exact h.running _

theorem Gauge.OnDial.track (h : g.OnDial) (s : State) : (s.track g).OnDial := by
  unfold State.track
  dsimp only
  split
  · rename_i t ht
    exact ⟨h.position, h.park, fun u hu => Option.some.inj hu ▸ State.sourceTarget_le ht⟩
  · exact h.running _

theorem Gauge.OnDial.trackUpdate (h : g.OnDial) : g.trackUpdate.OnDial := by
  unfold Gauge.trackUpdate
  split
  · exact h
  · rename_i t ht
    exact ⟨toward_le h.position (h.target t ht), h.park, h.target⟩

theorem Gauge.OnDial.returnUpdate (h : g.OnDial) : g.returnUpdate.OnDial := by
  unfold Gauge.returnUpdate
  dsimp only
  split <;> exact ⟨toward_le h.position h.park, h.park, h.target⟩

theorem Gauge.OnDial.sweepUpUpdate (h : g.OnDial) : g.sweepUpUpdate.OnDial :=
  ⟨toward_le h.position (Nat.le_refl _), h.park, h.target⟩

theorem Gauge.OnDial.sweepDownUpdate (h : g.OnDial) (s : State) : (s.sweepDownUpdate g).OnDial := by
  have hmoved : ({ g with position := toward g.position g.setup.park 32 } : Gauge).OnDial :=
    ⟨toward_le h.position h.park, h.park, h.target⟩
  unfold State.sweepDownUpdate
  dsimp only
  split
  · split
    · exact hmoved.track s
    · exact hmoved.running _
  · exact hmoved

theorem Gauge.OnDial.value (h : g.OnDial) (s : State) (v : Int) : (gaugeValue s g v).OnDial := by
  have haimed : ({ g with target := some (s.mapTarget g.setup v) } : Gauge).OnDial :=
    ⟨h.position, h.park, fun t ht => Option.some.inj ht ▸ s.mapTarget_le _ _⟩
  unfold gaugeValue
  dsimp only
  split
  · exact haimed
  · exact haimed
  · exact haimed
  · split
    · exact haimed.running _
    · exact haimed
  · split
    · exact haimed.running _
    · exact haimed
  · split
    · exact haimed.running _
    · exact haimed

/-- Without a target a gauge is on the dial as before. -/
theorem Gauge.OnDial.aimless (h : g.OnDial) : ({ g with target := none } : Gauge).OnDial := ⟨h.position, h.park, nofun⟩

theorem Gauge.OnDial.stale (h : g.OnDial) : g.stale.OnDial := by
  have haimless := h.aimless
  unfold Gauge.stale
  dsimp only
  split
  · exact haimless.unlive
  · split
    · exact haimless.toPark
    · exact haimless
  all_goals exact haimless

theorem Gauge.OnDial.takes (h : g.OnDial) (s : State) (n : Notice) : (s.gaugeTakes g n).OnDial := by
  unfold State.gaugeTakes
  split
  · exact h.value s _
  · exact h.value s _
  · exact h
  · exact h.stale

theorem Gauge.OnDial.keyOn (h : g.OnDial) (s : State) (new : KeyState) : (gaugeKeyOn s new g).OnDial := by
  have hmarked : ({ g with pending := g.pending || g.setup.fastSettle } : Gauge).OnDial := ⟨h.position, h.park, h.target⟩
  have hon : (if g.setup.sweep then ({ g with pending := g.pending || g.setup.fastSettle } : Gauge).running .sweepUp
      else if new = .run then
        (if s.sourceLive g.setup.source then s.track { g with pending := g.pending || g.setup.fastSettle }
         else if g.setup.stalePark then { g with pending := g.pending || g.setup.fastSettle }
         else ({ g with pending := g.pending || g.setup.fastSettle } : Gauge).running .holding)
      else { g with pending := g.pending || g.setup.fastSettle }).OnDial := by
    split
    · exact hmarked.running _
    · split
      · split
        · exact hmarked.track s
        · split
          · exact hmarked
          · exact hmarked.running _
      · exact hmarked
  unfold gaugeKeyOn
  dsimp only
  split
  · exact hon
  · exact hon
  all_goals exact h

theorem Gauge.OnDial.runFromCrank (h : g.OnDial) (s : State) : (gaugeRunFromCrank s g).OnDial := by
  unfold gaugeRunFromCrank
  split
  · split
    · exact h.track s
    · split
      · exact h.toPark
      · exact h
  · split
    · exact h.track s
    · exact h
  · split
    · exact h.track s
    · exact h
  all_goals exact h

theorem Gauge.OnDial.crank (h : g.OnDial) : (gaugeCrank g).OnDial := by
  unfold gaugeCrank
  split
  · exact ⟨h.position, h.park, h.target⟩
  · exact h

theorem Gauge.OnDial.keyDown (h : g.OnDial) : (gaugeKeyDown g).OnDial := by
  have hcleared : ({ g with pending := false } : Gauge).OnDial := ⟨h.position, h.park, h.target⟩
  unfold gaugeKeyDown
  dsimp only
  split
  · exact hcleared
  · exact hcleared.toPark

theorem Gauge.OnDial.keyTakes (h : g.OnDial) (s : State) (old new : KeyState) : (gaugeKeyTakes old new s g).OnDial := by
  unfold gaugeKeyTakes
  split
  · exact h.keyOn s new
  · split
    · exact h.keyDown
    · exact h.keyDown
    · exact h.runFromCrank s
    · exact h.crank

theorem Gauge.OnDial.write (h : g.OnDial) {f : GaugeSetup} (hf : f.park ≤ 1023) : (g.write f).OnDial := by
  unfold Gauge.write
  dsimp only
  split <;> exact ⟨h.position, hf, h.target⟩

theorem Gauge.OnDial.enable (h : g.OnDial) (s : State) : (s.enabledGauge g).OnDial := by
  have haimed : ({ g with enabled := true, target := s.sourceTarget g.setup, pending := g.setup.fastSettle } :
      Gauge).OnDial := ⟨h.position, h.park, fun _ ht => State.sourceTarget_le ht⟩
  unfold State.enabledGauge
  dsimp only
  split
  · split
    · exact haimed.running _
    · exact haimed.unlive
  · exact haimed.running _
  · exact haimed.toPark
  · exact haimed.toPark

theorem Gauge.OnDial.disable (h : g.OnDial) : g.disable.OnDial :=
  Gauge.OnDial.toPark (g := { g with enabled := false, target := none, pending := false }) ⟨h.position, h.park, nofun⟩

theorem Gauge.OnDial.restarts (h : g.OnDial) (s : State) : (gaugeRestarts s g).OnDial := by
  unfold gaugeRestarts
  split
  · split
    · exact ⟨h.position, h.park, nofun⟩
    · exact Gauge.OnDial.toPark (g := { g with target := none, pending := false }) ⟨h.position, h.park, nofun⟩
  · exact h.aimless

end OnDial

theorem Gauge.OnDial.driven {g : Gauge} (h : g.OnDial) : g.driven.OnDial := ⟨h.position, h.park, h.target⟩

theorem Gauge.OnDial.update {g : Gauge} (h : g.OnDial) (s : State) : (s.gaugeUpdate g).OnDial := by
  have hticking : ({ g with timer := some 20 } : Gauge).OnDial := ⟨h.position, h.park, h.target⟩
  unfold State.gaugeUpdate
  split
  · exact h
  · exact hticking.trackUpdate
  · exact hticking.returnUpdate
  · exact hticking.sweepUpUpdate
  · exact hticking.sweepDownUpdate s
  · exact hticking

/-- A change of one gauge. -/
theorem setGauge_calm {s : State} {i : Fin 6} {x : Gauge} (h : (s.gauges[i]).OnDial → x.OnDial) :
    CalmKept s (s.setGauge i x) := by
  refine .withGauges fun hs j => ?_
  by_cases hj : i = j
  · subst hj
    simpa only [Fin.getElem_fin, Vector.getElem_set_self] using h (hs i)
  · have hne : i.val ≠ j.val := fun hv => hj (Fin.ext hv)
    simpa only [Fin.getElem_fin, Vector.getElem_set_ne _ _ hne] using hs j

/-- A change of every gauge. -/
theorem forGauges_calm {f : State → Gauge → Gauge} {s : State} (h : ∀ g : Gauge, g.OnDial → (f s g).OnDial) :
    CalmKept s (forGauges f s) :=
  .withGauges fun hs i => by simpa only [Fin.getElem_fin, Vector.getElem_map] using h _ (hs i)

theorem driveUpdate_calm (i : Fin 6) (s : State) : CalmKept s (driveUpdate i s) := by
  cases ht : (s.gauges[i]).timer with
  | none =>
    have hstopped : driveUpdate i s = s := by
      unfold driveUpdate
      simp only [ht]
    rw [hstopped]
    exact .refl s
  | some n =>
    have hmoved : driveUpdate i s = s.setGauge i (s.gaugeUpdate s.gauges[i]).driven := by
      unfold driveUpdate
      simp only [ht]
      rfl
    rw [hmoved]
    exact setGauge_calm fun h => (h.update s).driven

theorem gaugeNotice_calm (c : Fin 48) (n : Notice) (s : State) : CalmKept s (gaugeNotice c n s) :=
  forGauges_calm fun g h => by
    split
    · exact h.takes s n
    · exact h

theorem gaugeKey_calm (old new : KeyState) (s : State) : CalmKept s (gaugeKey old new s) :=
  forGauges_calm fun g h => by
    split
    · exact h.keyTakes s old new
    · exact h

/-! ### The display queue (R150, R155, R156) -/

/-- A packet is added to a queue with room. -/
theorem Display.length_append_le {d : Display} {p : Packet} (h : d.room = true) : (d.queue ++ [p]).length ≤ 6 := by
  simp only [Display.room, Bool.and_eq_true, decide_eq_true_eq] at h
  simp only [List.length_append, List.length_singleton]
  omega

theorem Display.askPoll_queue (d : Display) (h : d.queue.length ≤ 6) : d.askPoll.queue.length ≤ 6 := by
  have hplaced : (if d.room then { d with queue := d.queue ++ [Packet.poll] } else
        { d with pollWant := true }).queue.length ≤ 6 := by
    split
    · rename_i hroom
      exact Display.length_append_le hroom
    · exact h
  unfold Display.askPoll
  dsimp only
  generalize (d.queued Packet.poll || d.pollWant || _ : Bool) = asked
  cases asked with
  | true => exact h
  | false => exact hplaced

theorem Display.askAnswer_queue (d : Display) (h : d.queue.length ≤ 6) : d.askAnswer.queue.length ≤ 6 := by
  unfold Display.askAnswer
  split
  · exact h
  · split
    · rename_i hroom
      exact Display.length_append_le (Bool.and_eq_true_iff.mp hroom).1
    · rw [Display.wake_queue]
      exact h

theorem Display.headWake_queue (d : Display) (idleMs : Nat) (h : d.queue.length ≤ 6) :
    (d.headWake idleMs).queue.length ≤ 6 := by
  unfold Display.headWake
  dsimp only
  split
  · exact h
  · exact h
  · exact Display.askPoll_queue { d with idleTimer := some idleMs } h
  · exact h

theorem Display.unqueue_queue (d : Display) (p : Packet) (h : d.queue.length ≤ 6) : (d.unqueue p).queue.length ≤ 6 :=
  (List.length_filter_le _ _).trans h

theorem Display.becomeAbsent_queue (d : Display) (h : d.queue.length ≤ 6) : d.becomeAbsent.queue.length ≤ 6 := by
  have hfold : ∀ (items : List Item) (e : Display), e.queue.length ≤ 6 →
      (items.foldl (fun (e : Display) i => { e.unqueue (.item i) with outstanding := e.outstanding.put i true }) e).queue.length
        ≤ 6 := by
    intro items
    induction items with
    | nil => exact fun e he => he
    | cons i items ih => exact fun e he => ih _ (e.unqueue_queue (.item i) he)
  refine Display.fillWants_queue _ ?_
  split
  · exact Display.unqueue_queue _ _ (hfold _ _ h)
  · exact hfold _ _ h

theorem Display.miss_queue (d : Display) (h : d.queue.length ≤ 6) : d.miss.queue.length ≤ 6 := by
  unfold Display.miss
  dsimp only
  split
  · split
    · exact Display.becomeAbsent_queue { d with missed := d.missed + 1 } h
    · exact h
  · exact h

theorem Display.goodReply_queue (d : Display) (h : d.queue.length ≤ 6) : d.goodReply.queue.length ≤ 6 := by
  unfold Display.goodReply
  dsimp only
  split
  · exact h
  · exact Display.fillWants_queue _ h

/-! ### The displays (R146 to R161) -/

theorem rebuild_calm (s : State) : CalmKept s (rebuild s) := .withDisplay (Display.takeImages_queue _ _)

theorem checkShutdown_calm (s : State) : CalmKept s (checkShutdown s) := .ite (.same rfl) (.refl s)

/-- A change of the display's records, and the rebuild that follows it. -/
theorem rebuild_withDisplay_calm {s t : State} (h : CalmKept s t) {d : Display}
    (hd : t.display.queue.length ≤ 6 → d.queue.length ≤ 6) : CalmKept s (rebuild { t with display := d }) :=
  (h.trans (.withDisplay hd)).trans (rebuild_calm _)

/-- A change of the display's records that may complete the shutdown conditions. -/
theorem checkShutdown_withDisplay_calm {s t : State} (h : CalmKept s t) {d : Display}
    (hd : t.display.queue.length ≤ 6 → d.queue.length ≤ 6) : CalmKept s (checkShutdown { t with display := d }) :=
  (h.trans (.withDisplay hd)).trans (checkShutdown_calm _)

/-- A wake need leaves the queue. -/
theorem Display.wakeIf_queue (p : Prop) [Decidable p] (d : Display) : (if p then d.wake else d).queue = d.queue := by
  split
  · exact d.wake_queue
  · rfl

theorem contentNotice_calm (mc : Option (Fin 64 × Bool)) (rear : Option (Fin 64)) (entered : Bool) (s : State) :
    CalmKept s (contentNotice mc rear entered s) := by
  unfold contentNotice
  dsimp only
  split
  · refine CalmKept.trans (CalmKept.trans (CalmKept.withDisplay ?_) (rebuild_calm _)) (checkShutdown_calm _)
    rw [Display.wakeIf_queue]
    exact id
  · exact .refl s

theorem displayKey_calm (new : KeyState) (s : State) : CalmKept s (displayKey new s) := by
  refine (rebuild_withDisplay_calm (.refl s) ?_).trans (checkShutdown_calm _)
  split
  · split <;> exact id
  all_goals rw [Display.wake_queue]; exact id

theorem packetDone_calm (s : State) : CalmKept s (packetDone s) := by
  unfold packetDone
  dsimp only
  split
  · rename_i p rest _ hq
    refine .ite (checkShutdown_withDisplay_calm (.refl s) fun h => Display.fillWants_queue _ ?_) (.refl s)
    rw [hq, List.length_cons] at h
    exact (Nat.le_succ _).trans h
  · exact .refl s

theorem packetSent_calm (s : State) : CalmKept s (packetSent s) := by
  unfold packetSent
  dsimp only
  split <;> exact .same rfl

theorem pollExpiry_calm (s : State) : CalmKept s (pollExpiry s) :=
  .ite (.withDisplay (Display.askPoll_queue { s.display with pollTimer := some 100 })) (.refl s)

theorem linkStartSent_calm (s : State) : CalmKept s (linkStartSent s) := by
  unfold linkStartSent
  dsimp only
  split
  · refine checkShutdown_withDisplay_calm (.refl s) fun h => Display.fillWants_queue _ ?_
    exact h
  · exact .refl s

theorem linkShutdownSent_calm (s : State) : CalmKept s (linkShutdownSent s) := by
  unfold linkShutdownSent
  dsimp only
  split <;> exact .same rfl

theorem quietExpiry_calm (s : State) : CalmKept s (quietExpiry s) := by
  refine .ite (.withDisplay ?_) (.refl s)
  split <;> exact id

theorem rpIdleExpiry_calm (s : State) : CalmKept s (rpIdleExpiry s) :=
  .ite (checkShutdown_withDisplay_calm (.refl s) id) (.refl s)

theorem mcOffExpiry_calm (s : State) : CalmKept s (mcOffExpiry s) :=
  .ite ((rebuild_withDisplay_calm (.refl s) (d := { s.display with offTimer := none, blanked := true }) id).trans
    (checkShutdown_calm _)) (.refl s)

theorem notAvailableExpiry_calm (s : State) : CalmKept s (notAvailableExpiry s) :=
  .ite (rebuild_withDisplay_calm (.refl s) id) (.refl s)

theorem replyWindowExpiry_calm (s : State) : CalmKept s (replyWindowExpiry s) := by
  unfold replyWindowExpiry
  split
  · exact .withDisplay (Display.miss_queue s.display.endWindow)
  · exact .refl s

theorem wakeAsserted_calm (s : State) : CalmKept s (wakeAsserted s) := .withDisplay (Display.headWake_queue _ _)

/-! ### The chimes (R135 to R142) -/

section Chimes
variable {c : Chime}

theorem Chime.segmentEnd_queue (z : Zone) (h : c.queue.length ≤ 8) : (c.segmentEnd z).queue.length ≤ 8 := by
  have hremove := fun o => (c.remove_length o z).trans h
  unfold Chime.segmentEnd
  dsimp only
  split
  · exact h
  · split
    · rwa [Chime.enterTone_queue]
    · rwa [Chime.stopAndStart_queue]
  · split
    · rwa [Chime.stopAndStart_queue]
    · split
      · rwa [Chime.enterTone_queue]
      · split
        · rwa [Chime.enterTone_queue]
        · split
          · rw [Chime.stopAndStart_queue]
            exact hremove _
          · rwa [Chime.enterTone_queue, Chime.modify_length]

theorem Chime.toneEnd_queue (z : Zone) (h : c.queue.length ≤ 8) : (c.toneEnd z).queue.length ≤ 8 := by
  unfold Chime.toneEnd
  dsimp only
  split
  · split
    · split
      · rw [Chime.stopAndStart_queue]
        exact (c.remove_length _ z).trans h
      · exact h
    · split
      · rwa [Chime.stopAndStart_queue]
      · split
        · exact Chime.segmentEnd_queue z (by rwa [Chime.setPlayer_queue])
        · rwa [Chime.setPlayer_queue]
  · exact h

theorem Chime.gapEnd_queue (z : Zone) (h : c.queue.length ≤ 8) : (c.gapEnd z).queue.length ≤ 8 := by
  unfold Chime.gapEnd
  split
  · exact Chime.segmentEnd_queue z h
  · exact h

theorem Chime.request_queue (o : ChimeOrigin) (z : Zone) (p : Fin 16) (rank : Nat) (f : Nat → Option Nat)
    (h : c.queue.length ≤ 8) : (c.request o z p rank f).queue.length ≤ 8 := (c.request_frame o z p rank f).2.2 h

theorem Chime.release_queue (o : ChimeOrigin) (z : Zone) (h : c.queue.length ≤ 8) :
    (c.release o z).queue.length ≤ 8 := (c.release_frame o z).2.2 h

theorem Chime.answer_queue (h : c.queue.length ≤ 8) : c.answer.queue.length ≤ 8 := by
  unfold Chime.answer
  split
  · exact Chime.request_queue _ _ _ _ _ h
  · exact h

theorem Chime.tick_queue (h : c.queue.length ≤ 8) : c.tick.queue.length ≤ 8 := by
  unfold Chime.tick
  dsimp only
  split
  · rwa [Chime.enterTone_queue]
  · exact h

end Chimes

theorem chimeNotice_calm (c : Fin 48) (n : Notice) (s : State) : CalmKept s (chimeNotice c n s) := by
  refine .ite ?_ (.refl s)
  split
  · exact .withChime (fun h => h.tick) Chime.tick_queue
  · exact .refl s

end Sys2Proof.Machine
end

section
/-! PROOF. What the Warning Controller's operations keep of a safe state (R106 to R128). -/

namespace Sys2Proof.Machine

/-! ### Presentation and chimes (R120 to R127) -/

theorem notifyDisplay_calm (entered : Bool) (s : State) : CalmKept s (notifyDisplay entered s) :=
  contentNotice_calm _ _ entered s

theorem setWarning_calm (w : Fin 32) (x : Warning) (s : State) : CalmKept s (s.setWarning w x) := .same rfl

theorem changeState_calm (w : Fin 32) (new : WarnState) (cause : WarnCause) (s : State) :
    CalmKept s (changeState w new cause s) := (report_calm _ _).behind rfl

theorem requestChimes_calm (w : Fin 32) (s : State) : CalmKept s (requestChimes w s) := by
  unfold requestChimes
  dsimp only
  split
  · exact .refl s
  · split
    · exact .refl s
    · rename_i p _
      refine (setWarning_calm w _ s).trans (.withChime (fun h => ?_) fun h => ?_)
      · have hfront := fun b : Bool => show (if b = true then s.chime.request (.warning w) .front p
            (rankOf w s.warnings.entries[w]) repeatsOf else s.chime).Consistent by
          split
          · exact h.request _ _ _ _ _
          · exact h
        split
        · exact (hfront _).request _ _ _ _ _
        · exact hfront _
      · have hfront := fun b : Bool => show (if b = true then s.chime.request (.warning w) .front p
            (rankOf w s.warnings.entries[w]) repeatsOf else s.chime).queue.length ≤ 8 by
          split
          · exact Chime.request_queue _ _ _ _ _ h
          · exact h
        split
        · exact Chime.request_queue _ _ _ _ _ (hfront _)
        · exact hfront _

theorem releaseChimes_calm (w : Fin 32) (s : State) : CalmKept s (releaseChimes w s) := by
  have hzone (b : Bool) (z : Zone) {c : Chime} (h : c.Consistent) :
      (if b = true then c.release (.warning w) z else c).Consistent := by
    split
    · exact h.release _ _
    · exact h
  have hplaces (b : Bool) (z : Zone) {c : Chime} (h : c.queue.length ≤ 8) :
      (if b = true then c.release (.warning w) z else c).queue.length ≤ 8 := by
    split
    · exact Chime.release_queue _ _ h
    · exact h
  exact (setWarning_calm w _ s).trans (.withChime (fun h => hzone _ .rear (hzone _ .front h))
    (fun h => hplaces _ .rear (hplaces _ .front h)))

theorem stopTimers_calm (w : Fin 32) (s : State) : CalmKept s (stopTimers w s) := .same rfl

theorem presentWarning_calm (w : Fin 32) (s : State) : CalmKept s (presentWarning w s) :=
  (((changeState_calm w .presented .present s).trans (setWarning_calm w _ _)).trans (requestChimes_calm w _)).trans
    (notifyDisplay_calm true _)

theorem displaceWarning_calm (w : Fin 32) (s : State) : CalmKept s (displaceWarning w s) :=
  (changeState_calm w .pending .displaced s).trans (stopTimers_calm w _)

theorem select_calm (s : State) : CalmKept s (select s) := by
  unfold select
  split
  · exact notifyDisplay_calm false s
  · split
    · exact presentWarning_calm _ s
    · exact .ite ((displaceWarning_calm _ s).trans (presentWarning_calm _ _)) (notifyDisplay_calm false s)

/-- A warning leaves its state with its timers stopped and its chimes released. -/
theorem released_calm (w : Fin 32) (new : WarnState) (cause : WarnCause) (s : State) :
    CalmKept s (releaseChimes w (stopTimers w (changeState w new cause s))) :=
  ((changeState_calm w new cause s).trans (stopTimers_calm w _)).trans (releaseChimes_calm w _)

theorem endWarning_calm (w : Fin 32) (cause : WarnCause) (s : State) : CalmKept s (endWarning w cause s) :=
  .ite ((released_calm w .idle cause s).trans (select_calm _)) ((released_calm w .idle cause s).trans (notifyDisplay_calm _ _))

/-! ### Conditions and gates (R114 to R119) -/

theorem becameTrue_calm (w : Fin 32) (s : State) : CalmKept s (becameTrue w s) :=
  .ite ((changeState_calm w .pending .qualify s).trans (select_calm _)) (.refl s)

theorem becameFalse_calm (w : Fin 32) (s : State) : CalmKept s (becameFalse w s) := by
  unfold becameFalse
  dsimp only
  split
  · exact .refl s
  · exact .refl s
  · exact endWarning_calm w .clear s
  · exact endWarning_calm w .clear s
  · exact .refl s
  · exact endWarning_calm w .clear s

theorem setCondition_calm (w : Fin 32) (b : Bool) (s : State) : CalmKept s (setCondition w b s) :=
  .ite (.refl s) (.ite ((becameTrue_calm w _).behind rfl) ((becameFalse_calm w _).behind rfl))

theorem setCounters_calm (w : Fin 32) (qualify clear : Nat) (s : State) : CalmKept s (setCounters w qualify clear s) :=
  .same rfl

theorem countVerdict_calm (w : Fin 32) (c : WarnCondition) (v : Bool) (s : State) :
    CalmKept s (countVerdict w c v s) :=
  .ite (setCounters_calm w 0 0 s)
    (.ite (.ite ((setCondition_calm w true _).behind rfl) (setCounters_calm w _ 0 s))
      (.ite ((setCondition_calm w false _).behind rfl) (setCounters_calm w 0 _ s)))

theorem testGate_calm (w : Fin 32) (s : State) : CalmKept s (testGate w s) := by
  unfold testGate
  dsimp only
  split
  · refine .ite (.refl s) (.ite ((setCondition_calm w _ _).behind rfl) ?_)
    split
    · exact .same rfl
    · exact .ite (.same rfl) ((endWarning_calm w .gate _).behind rfl)
    · exact .ite (.same rfl) ((endWarning_calm w .gate _).behind rfl)
    · exact (endWarning_calm w .gate _).behind rfl
  · exact .refl s

theorem forWarnings_calm {f : Fin 32 → State → State} (h : ∀ w s, CalmKept s (f w s)) (s : State) :
    CalmKept s (forWarnings f s) := .foldl (fun t w => h w t) _ s

theorem testGates_calm (s : State) : CalmKept s (testGates s) := forWarnings_calm testGate_calm s

theorem warnNotice_calm (n : Notice) (w : Fin 32) (s : State) : CalmKept s (warnNotice n w s) := by
  unfold warnNotice
  refine (testGate_calm w s).trans ?_
  dsimp only
  split
  · split
    · split
      · exact countVerdict_calm w _ _ _
      · exact .refl _
    · exact setCondition_calm w false _
    · exact (setCondition_calm w _ _).behind rfl
    · exact setCondition_calm w true _
  · exact .refl _

theorem warnChannel_calm (c : Fin 48) (n : Notice) (s : State) : CalmKept s (warnChannel c n s) := by
  refine forWarnings_calm (fun w t => ?_) s
  dsimp only
  split
  · exact .ite (warnNotice_calm n w t) (.refl t)
  · exact .refl t

theorem warnSubject_calm (kind : WarnKind) (subject : Nat) (w : Fin 32) (s : State) :
    CalmKept s (warnSubject kind subject w s) := by
  have htested := testGate_calm w s
  unfold warnSubject
  dsimp only
  split
  · exact .ite (.ite (htested.trans (setCondition_calm w _ _)) htested) (.refl s)
  · exact .refl s

theorem warnStage_calm (i : Fin 8) (s : State) : CalmKept s (warnStage i s) := forWarnings_calm (warnSubject_calm _ _) s

theorem setSys_calm (k : SysCond) (b : Bool) (s : State) : CalmKept s (setSys k b s) :=
  .ite (.refl s) ((forWarnings_calm (warnSubject_calm .system k.code) _).behind rfl)

/-! ### Timers, acknowledge and the requests' effects (R110 to R112, R121 to R123) -/

theorem toAcknowledged_calm (w : Fin 32) (cause : WarnCause) (s : State) : CalmKept s (toAcknowledged w cause s) :=
  (((changeState_calm w .acknowledged cause s).trans (stopTimers_calm w _)).trans (setWarning_calm w _ _)).trans
    (releaseChimes_calm w _)

theorem presentExpiry_calm (w : Fin 32) (s : State) : CalmKept s (presentExpiry w s) := by
  have hended := (changeState_calm w .idle .timeout s).trans (stopTimers_calm w _)
  unfold presentExpiry
  dsimp only
  split
  · refine .ite ?_ (.ite ((toAcknowledged_calm w .timeout s).trans (select_calm _))
      ((released_calm w .idle .timeout s).trans (select_calm _)))
    exact (CalmKept.ite (hended.trans (releaseChimes_calm w _)) (hended.trans (setWarning_calm w _ _))).trans (select_calm _)
  · exact .refl s

theorem remindExpiry_calm (w : Fin 32) (s : State) : CalmKept s (remindExpiry w s) := by
  unfold remindExpiry
  dsimp only
  split
  · exact ((changeState_calm w .pending .remind s).trans (stopTimers_calm w _)).trans (select_calm _)
  · exact .refl s

theorem acknowledge_calm (w : Fin 32) (s : State) : CalmKept s (acknowledge w s) := by
  have hgone := CalmKept.ite (p := (s.warnings.entries[w]).holds = true) (toAcknowledged_calm w .acknowledge s)
    (released_calm w .idle .acknowledge s)
  refine (CalmKept.ite ?_ hgone).trans (select_calm _)
  refine hgone.trans ?_
  generalize (if (s.warnings.entries[w]).holds = true then toAcknowledged w .acknowledge s
    else releaseChimes w (stopTimers w (changeState w .idle .acknowledge s))) = t
  have hasked : CalmKept t { t with display := t.display.askAnswer } := .withDisplay (Display.askAnswer_queue _)
  exact hasked.trans (.withChime (fun h => h.answer) Chime.answer_queue)

theorem enableWarning_calm (w : Fin 32) (s : State) : CalmKept s (enableWarning w s) := (testGate_calm w _).behind rfl

theorem disableWarning_calm (w : Fin 32) (s : State) : CalmKept s (disableWarning w s) := by
  have hidle : CalmKept s (if (s.warnings.entries[w]).state = .idle
      then s.setWarning w { s.warnings.entries[w] with masked := false }
      else changeState w .idle .disable (s.setWarning w { s.warnings.entries[w] with masked := false })) :=
    .ite (.same rfl) ((changeState_calm w .idle .disable _).behind rfl)
  have hreleased := hidle.trans (releaseChimes_calm w _)
  have hoff (x : Warning) := hreleased.trans (setWarning_calm w x _)
  exact .ite ((hoff _).trans (select_calm _)) ((hoff _).trans (notifyDisplay_calm false _))

theorem maskWarning_calm (w : Fin 32) (s : State) : CalmKept s (maskWarning w s) := by
  unfold maskWarning
  dsimp only
  split
  · exact ((released_calm w .pending .mask _).trans (select_calm _)).behind rfl
  · exact ((releaseChimes_calm w _).trans (notifyDisplay_calm false _)).behind rfl
  · exact (notifyDisplay_calm false _).behind rfl
  · exact (notifyDisplay_calm false _).behind rfl

theorem unmaskWarning_calm (w : Fin 32) (s : State) : CalmKept s (unmaskWarning w s) := (select_calm _).behind rfl

theorem warningKey_calm (old new : KeyState) (s : State) : CalmKept s (warningKey old new s) :=
  (testGates_calm _).behind rfl

end Sys2Proof.Machine
end


section
/-! PROOF. What the other blocks keep of a safe state: the Service Reminder, the save pairs, the Odometer, the settling of
the store, the Trip Computer, the panel, the Loop Port and the clock. -/

namespace Sys2Proof.Machine

/-! ### The Service Reminder (R99) -/

theorem stageNotice_calm (s : State) : CalmKept s (stageNotice s) := by
  refine rebuild_withDisplay_calm (.refl s) ?_
  split <;> exact id

theorem noteStage_calm (i : Fin 8) (old new : Stage) (s : State) : CalmKept s (noteStage i old new s) :=
  .ite (.refl s) (((report_calm _ s).trans (warnStage_calm i _)).trans (stageNotice_calm _))

theorem evaluateItem_calm (i : Fin 8) (s : State) : CalmKept s (evaluateItem i s) :=
  .ite ((noteStage_calm i _ _ _).behind rfl) (.refl s)

theorem evaluateAll_calm (s : State) : CalmKept s (evaluateAll s) :=
  .foldl (fun t i => evaluateItem_calm i t) _ s

theorem shownNotice_calm (s : State) : CalmKept s (shownNotice s) :=
  .ite (.refl s) ((evaluateAll_calm _).behind rfl)

/-! ### The save pairs and their owners (R60, R61, R85, R88, R101) -/

theorem setPair_calm (p : PairId) (x : Pair) (s : State) : CalmKept s (s.setPair p x) :=
  .same (by cases p <;> rfl)

theorem failSave_calm (p : PairId) (s : State) : CalmKept s (failSave p s) :=
  (setPair_calm p _ s).trans (report_calm _ _)

theorem beginSave_calm (p : PairId) (data : List Word) (s : State) : CalmKept s (beginSave p data s) := by
  unfold beginSave
  dsimp only
  split
  · exact failSave_calm p s
  · exact setPair_calm p _ s

theorem requestSave_calm (p : PairId) (data : List Word) (s : State) :
    CalmKept s (requestSave p data s) := .ite (beginSave_calm p data s) (setPair_calm p _ s)

theorem beginHeld_calm (p : PairId) (s : State) : CalmKept s (beginHeld p s) := by
  unfold beginHeld
  dsimp only
  split
  · exact (setPair_calm p _ s).trans (beginSave_calm p _ _)
  · exact .refl s

theorem finishSave_calm (p : PairId) (j : SaveJob) (s : State) : CalmKept s (finishSave p j s) :=
  .ite (setPair_calm p _ s) ((setPair_calm p _ s).trans (report_calm _ _))

theorem pairProgramEnd_calm (p : PairId) (exceeded : Bool) (s : State) :
    CalmKept s (pairProgramEnd p exceeded s) := by
  have hset := fun x => setPair_calm p x s
  unfold pairProgramEnd
  dsimp only
  split
  · exact .ite ((hset _).trans (beginHeld_calm p _)) (hset _)
  · split
    · exact hset _
    · split
      · exact hset _
      · exact .ite ((hset _).trans (failSave_calm p _)) (hset _)
      · exact .ite (hset _) ((hset _).trans (finishSave_calm p _ _))
      · exact (hset _).trans (finishSave_calm p _ _)

theorem pairEraseEnd_calm (p : PairId) (o : Option EraseOutcome) (s : State) :
    CalmKept s (pairEraseEnd p o s) := by
  have hset := fun x => setPair_calm p x s
  unfold pairEraseEnd
  dsimp only
  split
  · exact .ite (hset _) ((hset _).trans (failSave_calm p _))
  · exact (hset _).trans (beginHeld_calm p _)

theorem recoverPair_calm (p : PairId) (s : State) : CalmKept s (recoverPair p s) :=
  .ite ((setPair_calm p _ s).trans (beginHeld_calm p _)) (setPair_calm p _ s)

theorem refreshStoreFault_calm (s : State) : CalmKept s (refreshStoreFault s) := setSys_calm _ _ s

theorem tripSaveEnd_calm (ok : Bool) (s : State) : CalmKept s (tripSaveEnd ok s) := by
  have hfault := fun x => (refreshStoreFault_calm { s with trip := x }).behind (s := s) rfl
  unfold tripSaveEnd
  dsimp only
  split
  · exact (hfault _).then rfl
  · exact .ite ((hfault _).then rfl) ((hfault _).trans ((requestSave_calm .trip _ _).behind rfl))

theorem serviceSaveEnd_calm (ok : Bool) (s : State) : CalmKept s (serviceSaveEnd ok s) := by
  have hfault := (refreshStoreFault_calm { s with service := { s.service with saveFault := !ok } }).behind
    (s := s) rfl
  exact .ite (hfault.trans ((requestSave_calm .service _ _).behind rfl)) (hfault.then rfl)

theorem tripCapture_calm (s : State) : CalmKept s (tripCapture s) :=
  .ite (.refl s) (.ite (.same rfl) (.ite (.refl s) ((requestSave_calm .trip _ _).behind rfl)))

theorem recoverTrips_calm (s : State) : CalmKept s (recoverTrips s) := by
  unfold recoverTrips
  split <;> exact .same rfl

theorem recoverRecords_calm (s : State) : CalmKept s (recoverRecords s) := by
  unfold recoverRecords
  split <;> exact .same rfl

theorem takeServiceReset_calm (i : Fin 8) (src : ResetSource) (s : State) :
    CalmKept s (takeServiceReset i src s) := by
  have hreset := (evaluateAll_calm (s.setItem i { s.service.items[i] with
    record := some (s.shown.getD 0, s.resetDay i) })).behind (s := s) rfl
  exact (hreset.trans (report_calm _ _)).trans
    (.ite (.same rfl) ((requestSave_calm .service _ _).behind rfl))

/-! ### The Odometer (R79 to R82, R87, R89) -/

theorem setOdoFault_calm (b : Bool) (s : State) : CalmKept s (setOdoFault b s) :=
  .ite (.refl s) (((report_calm _ _).trans (setSys_calm _ _ _)).behind rfl)

theorem checkOdoFault_calm (s : State) : CalmKept s (checkOdoFault s) :=
  .ite (setOdoFault_calm true s) (.refl s)

theorem addMetres_calm (metres : Nat) (s : State) : CalmKept s (addMetres metres s) := by
  unfold addMetres
  split
  · exact .refl s
  · exact .ite (((shownNotice_calm _).trans (checkOdoFault_calm _)).behind rfl) (.refl s)

theorem placeOdometer_calm (st : StoreStep) (o : Odometer) (s : State) : CalmKept s (placeOdometer st o s) :=
  (CalmKept.withStore (s := { s with odometer := o }) fun h => h.place .odometer st).behind rfl

theorem odometerPump_calm {s t : State} (h : odometerPump s = some t) : CalmKept s t := by
  have hincrement {o : Odometer} (h : s.incrementStep.map (fun st => placeOdometer st o s) = some t) :
      CalmKept s t := by
    obtain ⟨_, _, rfl⟩ := Option.map_eq_some_iff.mp h
    exact placeOdometer_calm _ _ s
  unfold odometerPump at h
  dsimp only at h
  split at h
  · cases h
  · split at h
    · split at h
      · cases h
      · exact hincrement h
    · split at h
      · cases h
        exact placeOdometer_calm _ _ s
      · split at h
        · split at h <;> cases h <;> exact placeOdometer_calm _ _ s
        · split at h
          · cases h
            exact placeOdometer_calm _ _ s
          · split at h
            · cases h
              exact placeOdometer_calm _ _ s
            · exact hincrement h

theorem answerSetting_calm (st : Status) (s : State) : CalmKept s (answerSetting st s) := by
  unfold answerSetting
  dsimp only
  split
  · exact .same rfl
  · exact (holdResponse_calm _ _).behind rfl

theorem finishSetting_calm (t : Fin 8) (value : Nat) (s : State) : CalmKept s (finishSetting t value s) :=
  (((setOdoFault_calm false _).trans (shownNotice_calm _)).trans (answerSetting_calm .ok _)).behind rfl

theorem incrementEnd_calm (r : ProgramReport) (s : State) : CalmKept s (incrementEnd r s) :=
  .ite (.same rfl) ((setOdoFault_calm false _).behind rfl)

theorem rotationEnd_calm (rot : Rotation) (exceeded : Bool) (s : State) :
    CalmKept s (rotationEnd rot exceeded s) :=
  .ite ((setOdoFault_calm true _).behind rfl) (.ite (.same rfl) (.same rfl))

theorem settingEnd_calm (g : Setting) (exceeded : Bool) (s : State) :
    CalmKept s (settingEnd g exceeded s) := by
  unfold settingEnd
  split
  · exact .refl s
  · exact .refl s
  · exact .ite (answerSetting_calm .failed s) (.same rfl)
  · exact finishSetting_calm _ _ s

theorem odometerProgramEnd_calm (r : ProgramReport) (s : State) : CalmKept s (odometerProgramEnd r s) := by
  unfold odometerProgramEnd
  dsimp only
  split
  · exact .same rfl
  · exact (checkOdoFault_calm _).behind rfl
  · exact ((incrementEnd_calm r _).trans (checkOdoFault_calm _)).behind rfl
  · split
    · exact ((rotationEnd_calm _ _ _).trans (checkOdoFault_calm _)).behind rfl
    · exact .same rfl
  · split
    · exact ((settingEnd_calm _ _ _).trans (checkOdoFault_calm _)).behind rfl
    · exact .same rfl

theorem odometerEraseEnd_calm (os : List (Fin 8 × EraseOutcome)) (s : State) :
    CalmKept s (odometerEraseEnd os s) := by
  unfold odometerEraseEnd
  dsimp only
  split
  · exact (checkOdoFault_calm _).behind rfl
  · split
    · exact .same rfl
    · exact (answerSetting_calm _ _).behind rfl

theorem recoverOdometer_calm (s : State) : CalmKept s (recoverOdometer s) := by
  unfold recoverOdometer
  dsimp only
  split
  · exact (shownNotice_calm _).behind rfl
  · exact ((shownNotice_calm _).trans (setOdoFault_calm true _)).behind rfl

/-! ### Settling and completions (R65 to R71, R75, R76, R86) -/

theorem answerExternal_calm (st : Status) (data : List Byte) (s : State) :
    CalmKept s (answerExternal st data s) := by
  unfold answerExternal
  dsimp only
  split
  · exact .same rfl
  · exact (holdResponse_calm _ _).behind rfl

theorem classProgramEnd_calm (r : ProgramReport) (s : State) : CalmKept s (classProgramEnd r s) := by
  unfold classProgramEnd
  split
  · exact odometerProgramEnd_calm r s
  · exact pairProgramEnd_calm .trip _ s
  · exact pairProgramEnd_calm .service _ s
  · exact answerExternal_calm _ _ s

theorem externalEraseEnd_calm (b : BitVec 8) (os : List (Fin 8 × EraseOutcome)) (s : State) :
    CalmKept s (externalEraseEnd b os s) := by
  unfold externalEraseEnd
  split
  · exact answerExternal_calm _ _ s
  · exact .refl s

theorem classEraseEnd_calm (c : StoreClass) (b : BitVec 8) (os : List (Fin 8 × EraseOutcome)) (s : State) :
    CalmKept s (classEraseEnd c b os s) := by
  unfold classEraseEnd
  dsimp only
  split
  · exact odometerEraseEnd_calm os s
  · exact pairEraseEnd_calm .trip _ s
  · exact pairEraseEnd_calm .service _ s
  · exact externalEraseEnd_calm b os s

theorem reportSave_calm {p : PairId} {s t : State} (h : reportSave p s = some t) : CalmKept s t := by
  unfold reportSave at h
  split at h
  · cases h
  · cases h
    cases p with
    | trip => exact (setPair_calm .trip _ s).trans (tripSaveEnd_calm _ _)
    | service => exact (setPair_calm .service _ s).trans (serviceSaveEnd_calm _ _)

theorem reportErase_calm {s t : State} (h : reportErase s = some t) : CalmKept s t := by
  unfold reportErase at h
  split at h
  · cases h
  · cases h
    rename_i j _
    have hdropped : CalmKept s { s with store := s.store.dropStep j } := .withStore fun h => h.dropStep j
    exact hdropped.trans (classEraseEnd_calm _ _ _ _)

theorem pairPump_calm {p : PairId} {s t : State} (h : pairPump p s = some t) : CalmKept s t := by
  unfold pairPump at h
  split at h
  · cases h
  · cases h
    refine (setPair_calm p _ s).trans (.withStore fun h => ?_)
    cases p <;> exact Store.Sound.place h _ _

theorem takeNext_calm {s t : State} (h : takeNext s = some t) : CalmKept s t := by
  obtain ⟨x, hx, rfl⟩ := Option.map_eq_some_iff.mp h
  exact .withStore fun h => h.take hx

theorem settleOnce_calm {s t : State} (h : settleOnce s = some t) : CalmKept s t := by
  unfold settleOnce at h
  rcases orElse_some h with h | h
  · exact reportSave_calm h
  rcases orElse_some h with h | h
  · exact reportSave_calm h
  rcases orElse_some h with h | h
  · exact reportErase_calm h
  rcases orElse_some h with h | h
  · exact odometerPump_calm h
  rcases orElse_some h with h | h
  · exact pairPump_calm h
  rcases orElse_some h with h | h
  · exact pairPump_calm h
  · exact takeNext_calm h

theorem settleFor_calm (n : Nat) (s : State) : CalmKept s (settleFor n s) := by
  induction n generalizing s with
  | zero => exact .refl s
  | succ n ih =>
    unfold settleFor
    split
    · rename_i t h
      exact (settleOnce_calm h).trans (ih t)
    · exact .refl s

theorem settle_calm (s : State) : CalmKept s (settle s) := settleFor_calm s.settleBound s

theorem storeProgramEnd_calm (worn : Bool) (s : State) : CalmKept s (storeProgramEnd worn s) := by
  unfold storeProgramEnd
  split
  · exact .refl s
  · rename_i r x hx
    have hwritten : CalmKept s { s with store := x } := .withStore fun h => h.programEnd hx
    have hended := CalmKept.ite (p := r.exceeded = true)
      (hwritten.trans (report_calm (.programFailed r.cls r.addr) _)) hwritten
    exact (hended.trans (classProgramEnd_calm r _)).trans (settle_calm _)

theorem sectorEraseEnd_calm (failed : Bool) (raised : List Word) (s : State) :
    CalmKept s (sectorEraseEnd failed raised s) := by
  unfold sectorEraseEnd
  split
  · exact .refl s
  · rename_i k x hx
    have herased : CalmKept s { s with store := x } := .withStore fun h => h.eraseEnd hx
    have hended := CalmKept.ite (p := failed = true) (herased.trans (report_calm (.sectorBad k) _)) herased
    exact hended.trans (settle_calm _)

theorem eraseWindowExpiry_calm (s : State) : CalmKept s (eraseWindowExpiry s) :=
  (CalmKept.withStore fun h => h.windowExpiry).trans (settle_calm _)

theorem suspensionReached_calm (s : State) : CalmKept s (suspensionReached s) :=
  (CalmKept.withStore fun h => h.suspensionReached).trans (settle_calm _)

/-- The start-up report is held only while it has no room (R186). -/
theorem holdStartUp_calm (codes : List ScanCode) (s : State) :
    CalmKept s (buildStartUp { s with handler := { s.handler with startUp := some codes } }) := by
  by_cases hroom : s.loop.insertQ.length < 6
  · have hplaced : buildStartUp { s with handler := { s.handler with startUp := some codes } } =
        placeEvent (startUpPayload codes) { s with handler := { s.handler with startUp := none } } :=
      if_pos ((State.streamRoom_iff _).mpr hroom)
    rw [hplaced]
    exact placeEvent_calm ⟨id, id, fun _ => rfl, id, Nat.le_refl _, id⟩ ((State.streamRoom_iff s).mpr hroom)
  · have hheld : buildStartUp { s with handler := { s.handler with startUp := some codes } } =
        { s with handler := { s.handler with startUp := some codes } } :=
      if_neg fun h => hroom ((State.streamRoom_iff _).mp h)
    rw [hheld]
    have hserved : s.Served → State.Served { s with handler := { s.handler with startUp := some codes } } :=
      fun b => ⟨b.held, fun h => absurd h hroom, b.events⟩
    exact ⟨⟨rfl, id, fun b => ⟨b.store, b.gauges, b.loop, b.events, b.packets, b.chimes⟩⟩, hserved,
      fun b => ⟨hserved b.toServed, b.dump⟩, Nat.le_refl _, id, rfl⟩

theorem scanComplete_calm (s : State) : CalmKept s (scanComplete s) := by
  have hready (f : Vector SectorFlags 8) (codes : List ScanCode) :
      CalmKept s (buildStartUp { s with store := { s.store with ctl := .ready, flags := f },
                                        handler := { s.handler with startUp := some codes } }) :=
    (CalmKept.withStore (x := { s.store with ctl := .ready, flags := f })
      fun h => .shut h.words (show CtlState.ready ≠ .eraseWindow from nofun)).trans (holdStartUp_calm codes _)
  have hpairs (t : State) := ((recoverPair_calm .trip t).trans (recoverTrips_calm _)).trans
    ((recoverPair_calm .service _).trans (recoverRecords_calm _))
  unfold scanComplete
  split
  · exact (((hready _ _).trans (recoverOdometer_calm _)).trans (hpairs _)).trans (settle_calm _)
  · exact .refl s

/-! ### The Trip Computer (R43 to R53, R59) -/

theorem resetTrip_calm (r : Fin 4) (cause : TripCause) (s : State) : CalmKept s (resetTrip r cause s) :=
  (report_calm _ _).behind rfl

theorem addField_calm (r : Fin 4) (f : TripField) (n : Nat) (s : State) : CalmKept s (addField r f n s) := by
  rcases h : ((s.trip.records[r]).get f).add f.limit n with ⟨c, _ | _⟩
  · rw [addField_unreported h]
    exact .same rfl
  · rw [addField_reported h]
    exact (report_calm _ _).behind rfl

theorem addToRecords_calm (f : TripField) (n : Nat) (s : State) : CalmKept s (addToRecords f n s) :=
  .foldl (fun t r => .ite (addField_calm r f n t) (.refl t)) _ s

theorem applyDistance_calm (k delta : Nat) (s : State) : CalmKept s (applyDistance k delta s) :=
  .ite (.same rfl) (((addToRecords_calm _ _ _).trans (addMetres_calm _ _)).behind rfl)

theorem applyFuel_calm (u delta : Nat) (s : State) : CalmKept s (applyFuel u delta s) :=
  .ite (.same rfl) ((addToRecords_calm _ _ _).behind rfl)

theorem rollingCount_calm (t : TripSetup) (fuel : Bool) (count : Nat) (seeded : Bool) (s : State) :
    CalmKept s (rollingCount t fuel count seeded s) := by
  unfold rollingCount
  dsimp only
  split
  · exact .ite ((report_calm _ _).behind rfl)
      (.ite (.ite ((applyFuel_calm _ _ _).behind rfl) ((applyDistance_calm _ _ _).behind rfl))
        (.same rfl))
  · exact .same rfl

theorem rollingNotice_calm (t : TripSetup) (fuel : Bool) (n : Notice) (s : State) :
    CalmKept s (rollingNotice t fuel n s) := by
  unfold rollingNotice
  split
  · exact rollingCount_calm t fuel _ _ s
  · exact .refl s
  · exact .refl s
  · exact .same rfl

theorem tripNotice_calm (c : Fin 48) (n : Notice) (s : State) : CalmKept s (tripNotice c n s) := by
  unfold tripNotice
  split
  · exact .refl s
  · rename_i t _
    have hdistance := CalmKept.ite (p := t.distance = c) (rollingNotice_calm t false n s) (.refl s)
    exact .ite (hdistance.trans (rollingNotice_calm t true n _)) hdistance

theorem tripSeconds_calm (s : State) : CalmKept s (tripSeconds s) := by
  cases hs : s.trip.setup with
  | none => rw [tripSeconds_unset hs]; exact .refl s
  | some t => rw [tripSeconds_set hs]; exact .foldl (fun t (g : Fin 4 × TripField) => addField_calm g.1 g.2 1 t) _ s

theorem tripKey_calm (old new : KeyState) (s : State) : CalmKept s (tripKey old new s) := by
  refine .ite ?_ (.ite (tripCapture_calm s) (.refl s))
  unfold journeyTest
  split
  · exact .ite (resetTrip_calm _ _ s) (.refl s)
  · exact .refl s

theorem journeyLeave_calm (s : State) : CalmKept s (journeyLeave s) :=
  .ite ((report_calm _ _).behind rfl) (.refl s)

/-! ### The trip button and the rear panel (R152 to R158) -/

theorem pressEdge_calm (s : State) : CalmKept s (pressEdge s) := by
  unfold pressEdge
  split
  · exact acknowledge_calm _ s
  · refine .ite (.withDisplay ?_) (.same rfl)
    rw [Display.wake_queue]
    exact id

theorem releaseEdge_calm (s : State) : CalmKept s (releaseEdge s) := by
  unfold releaseEdge
  dsimp only
  split
  · exact .refl s
  · refine .ite (rebuild_withDisplay_calm (.refl s) ?_) (.same rfl)
    exact id

theorem hold2s_calm (s : State) : CalmKept s (hold2s s) := by
  have hreset : ∀ p : Nat, CalmKept s (match buttonTrip p with | some r => resetTrip r .button s | none => s) := by
    intro p
    split
    · exact resetTrip_calm _ _ s
    · exact .refl s
  unfold hold2s
  split
  · exact .refl s
  · refine .ite (rebuild_withDisplay_calm (hreset _) ?_) (.refl s)
    exact id

theorem buttonServiceReset_calm (i : Fin 8) (s : State) : CalmKept s (buttonServiceReset i s) :=
  .ite ((takeServiceReset_calm i .button s).trans (settle_calm _))
    (rebuild_withDisplay_calm (.refl s) (d := { s.display with naTimer := some 3000 }) id)

theorem hold5s_calm (s : State) : CalmKept s (hold5s s) := by
  unfold hold5s
  split
  · exact .refl s
  · refine .ite ?_ (.refl s)
    dsimp only
    split
    · exact .ite ((buttonServiceReset_calm _ _).behind rfl) (.same rfl)
    · exact .same rfl

theorem buttonNotice_calm (n : Notice) (s : State) : CalmKept s (buttonNotice n s) := by
  unfold buttonNotice
  split
  · exact pressEdge_calm s
  · exact releaseEdge_calm s
  · exact .refl s
  · exact .refl s
  · exact .refl s
  · exact .same rfl

theorem displayNotice_calm (c : Fin 48) (n : Notice) (s : State) : CalmKept s (displayNotice c n s) := by
  have hbutton := fun p [Decidable p] => CalmKept.ite (p := p) (buttonNotice_calm n s) (.refl s)
  unfold displayNotice
  split
  · exact .refl s
  · exact .ite ((hbutton _).trans (rebuild_calm _)) (hbutton _)

theorem callChange_calm (b : Bool) (s : State) : CalmKept s (callChange b s) :=
  .ite (setSys_calm _ _ s) ((setSys_calm .rearCall false s).trans (.withDisplay fun h =>
    Display.fillWants_queue _ (Display.unqueue_queue { (setSys .rearCall false s).display with answerWant := false } _ h)))

theorem journeyChange_calm (b : Bool) (s : State) : CalmKept s (journeyChange b s) := by
  have hentered : CalmKept s (journeyEnter s) := (report_calm _ _).behind rfl
  exact .ite (hentered.trans (rebuild_calm _)) (.ite ((journeyLeave_calm s).trans (rebuild_calm _)) (.refl s))

theorem takeRequestSet_calm (call journey : Bool) (s : State) :
    CalmKept s (takeRequestSet call journey s) := by
  have hidle : CalmKept s { s with display := { s.display with idleTimer := some s.idleMs } } := .same rfl
  have hcall := CalmKept.ite (p := s.display.call = call) hidle (hidle.trans (callChange_calm call _))
  have hjourney := CalmKept.ite (p := s.display.journey = journey) hcall
    (hcall.trans (journeyChange_calm journey _))
  exact .ite (.refl s) (checkShutdown_withDisplay_calm hjourney id)

theorem replyTaken_calm (bytes : List Byte) (s : State) : CalmKept s (replyTaken bytes s) := by
  unfold replyTaken
  split
  · refine .ite (CalmKept.trans (.withDisplay ?_) (takeRequestSet_calm _ _ _)) (.withDisplay ?_)
    · exact Display.goodReply_queue s.display.endWindow
    · exact Display.miss_queue s.display.endWindow
  · exact .refl s

/-! ### The own hold (R175, R176) -/

theorem LoopPort.holdTap_places (l : LoopPort) : l.holdTap.places = l.places := by
  unfold LoopPort.holdTap
  split
  · split
    · split <;> rfl
    · rfl
  · rfl

theorem LoopPort.holdTake_places (l : LoopPort) : l.holdTake.places = l.places := by
  have hreleased (k : LoopPort) :
      (if k.tapQ.length ≤ 7 ∧ k.asserted ∧ ¬ k.force then k.releaseNow else k).places = k.places := by
    split <;> rfl
  refine (hreleased _).trans ?_
  split <;> rfl

theorem LoopPort.assertHold_places (l : LoopPort) : l.assertHold.places = l.places := by
  unfold LoopPort.assertHold
  dsimp only
  split <;> rfl

theorem LoopPort.clearHold_places (l : LoopPort) : l.clearHold.places = l.places := by
  unfold LoopPort.clearHold
  dsimp only
  split <;> rfl

theorem LoopPort.refreshExpiry_places (l : LoopPort) : l.refreshExpiry.places = l.places := by
  unfold LoopPort.refreshExpiry
  split <;> rfl

/-- A change of the own hold. -/
theorem CalmKept.withHold {s : State} {l : LoopPort} (h : l.places = s.loop.places) :
    CalmKept s { s with loop := l } := .same (by simp only [State.seen, h])

/-! ### The queues and lists of the Loop Port (R166 to R177) -/

theorem LoopPort.Bounded.of_places {l k : LoopPort} (h : l.Bounded) (hk : k.places = l.places) : k.Bounded := by
  simp only [LoopPort.places, Prod.mk.injEq] at hk
  obtain ⟨hn, hf, ht, hr, hi, ha, htx, hh⟩ := hk
  exact ⟨hf ▸ h.forwarded, ht ▸ h.tapped, hr ▸ h.requests, hi ▸ h.inserted, by rw [ha, htx]; exact h.awaiting,
    by rw [hn, hh]; exact h.nodes⟩

section Port
variable {l : LoopPort}

theorem LoopPort.Bounded.forward (h : l.Bounded) (f : Frame) : (l.forward f).Bounded := by
  unfold LoopPort.forward
  split
  · rename_i hroom
    refine { h with forwarded := ?_ }
    simp only [List.length_append, List.length_singleton]
    omega
  · exact h

theorem LoopPort.Bounded.tap (h : l.Bounded) (f : Frame) : (l.tap f).Bounded := by
  unfold LoopPort.tap
  split
  · rename_i hroom
    have htapped : ({ l with tapQ := l.tapQ ++ [f] } : LoopPort).Bounded := by
      refine { h with tapped := ?_ }
      simp only [List.length_append, List.length_singleton]
      omega
    exact htapped.of_places (LoopPort.holdTap_places _)
  · exact h

theorem LoopPort.Bounded.consume (h : l.Bounded) (f : Frame) : (l.consume f).Bounded := by
  unfold LoopPort.consume
  split
  · rename_i hroom
    refine { h with requests := ?_ }
    simp only [List.length_append, List.length_singleton]
    omega
  · exact h.of_places rfl

theorem LoopPort.Bounded.holderHolds (h : l.Bounded) {n : Node} (hn : n ≠ l.node) : (l.holderHolds n).Bounded := by
  unfold LoopPort.holderHolds
  split
  · refine { h with nodes := ?_ }
    have hsame : (l.holders.map fun x => if x.node = n then { x with left := 2000 } else x).map Holder.node =
        l.holders.map Holder.node := by
      rw [List.map_map]
      refine List.map_congr_left fun x _ => ?_
      simp only [Function.comp_apply]
      split <;> rfl
    rw [hsame]
    exact h.nodes
  · rename_i hnew
    have habsent : n ∉ l.holders.map Holder.node := by
      rintro hmem
      obtain ⟨x, hx, rfl⟩ := List.mem_map.mp hmem
      exact hnew (List.any_eq_true.mpr ⟨x, hx, decide_eq_true rfl⟩)
    refine { h with nodes := ?_ }
    simp only [List.map_append, List.map_cons, List.map_nil]
    rw [← List.cons_append]
    exact List.nodup_append'.mpr ⟨h.nodes, List.nodup_singleton n, by
      rintro x hx hxn
      rw [List.mem_singleton] at hxn
      subst hxn
      rcases List.mem_cons.mp hx with hown | hlisted
      · exact hn hown
      · exact habsent hlisted⟩

theorem LoopPort.Bounded.holderGoes (h : l.Bounded) (n : Node) : (l.holderGoes n).Bounded :=
  { h with nodes := h.nodes.sublist (List.Sublist.cons_cons _ (List.filter_sublist.map _)) }

theorem LoopPort.Bounded.drop (h : l.Bounded) (n : Nat) :
    ({ l with awaiting := l.awaiting.drop n } : LoopPort).Bounded := by
  refine { h with awaiting := le_trans (Nat.add_le_add_right ?_ _) h.awaiting }
  exact List.length_drop ▸ Nat.sub_le _ _

end Port

theorem holderExpiry_calm (n : Node) (s : State) : CalmKept s (holderExpiry n s) :=
  .ite ((CalmKept.withLoop (l := s.loop.holderGoes n) (fun h => h.holderGoes n) rfl rfl).trans (report_calm _ _)) (.refl s)

theorem setLoopState_calm (new : LoopState) (s : State) : CalmKept s (setLoopState new s) :=
  .ite (.refl s) (((report_calm _ _).trans (setSys_calm _ _ _)).behind rfl)

theorem loopMiss_calm (s : State) : CalmKept s (loopMiss s) := setLoopState_calm _ s

theorem loopReturn_calm (f : Frame) (s : State) : CalmKept s (loopReturn f s) := by
  unfold loopReturn
  dsimp only
  split
  · exact loopMiss_calm s
  · rename_i i _
    have hdropped : CalmKept s { s with loop := { s.loop with awaiting := s.loop.awaiting.drop (i + 1) } } :=
      .withLoop (fun h => h.drop (i + 1)) rfl rfl
    exact (hdropped.trans (.foldl (fun t _ => loopMiss_calm t) _ _)).trans (setLoopState_calm _ _)

theorem returnExpiry_calm (s : State) : CalmKept s (returnExpiry s) := by
  unfold returnExpiry
  split
  · exact .refl s
  · rename_i x rest ha
    have hdropped : CalmKept s { s with loop := { s.loop with awaiting := s.loop.awaiting.drop 1 } } :=
      .withLoop (fun h => h.drop 1) rfl rfl
    rw [ha] at hdropped
    exact hdropped.trans (loopMiss_calm _)

theorem broadcastExpiry_calm (s : State) : CalmKept s (broadcastExpiry s) := by
  have hrun : CalmKept s { s with loop := { s.loop with broadcast := some 500 } } := .same rfl
  unfold broadcastExpiry
  dsimp only
  split
  · rename_i hroom
    have h6 := (State.streamRoom_iff s).mp hroom
    exact hrun.trans (insertFrame_calm (Nat.lt_of_lt_of_le h6 (by decide)))
  · exact hrun

/-- A change of the Loop Port that leaves the insert queue. -/
theorem withLoop_sound {s : State} {l : LoopPort} (h : s.loop.Bounded → l.Bounded) : Sound s { s with loop := l } :=
  ⟨rfl, id, fun b => ⟨b.store, b.gauges, h b.loop, b.events, b.packets, b.chimes⟩⟩

theorem State.Calm.withLoop {s : State} (h : s.Calm) {l : LoopPort} (hi : l.insertQ = s.loop.insertQ) :
    State.Calm { s with loop := l } :=
  ⟨⟨fun hr => h.held (hi ▸ hr), fun hr => h.startUp (hi ▸ hr), fun hr => h.events (hi ▸ hr)⟩,
    fun hr => h.dump (hi ▸ hr)⟩

theorem LoopPort.forward_insertQ (l : LoopPort) (f : Frame) : (l.forward f).insertQ = l.insertQ := by
  unfold LoopPort.forward
  split <;> rfl

theorem LoopPort.forward_node (l : LoopPort) (f : Frame) : (l.forward f).node = l.node := by
  unfold LoopPort.forward
  split <;> rfl

theorem LoopPort.tap_insertQ (l : LoopPort) (f : Frame) : (l.tap f).insertQ = l.insertQ := by
  unfold LoopPort.tap
  split
  · exact congrArg (fun x => x.2.2.2.2.1) (LoopPort.holdTap_places { l with tapQ := l.tapQ ++ [f] })
  · rfl

theorem LoopPort.consume_insertQ (l : LoopPort) (f : Frame) : (l.consume f).insertQ = l.insertQ := by
  unfold LoopPort.consume
  split <;> rfl

theorem LoopPort.holderHolds_insertQ (l : LoopPort) (n : Node) : (l.holderHolds n).insertQ = l.insertQ := by
  unfold LoopPort.holderHolds
  split <;> rfl

/-- A frame that is received (R166): a return, a request, a HOLD or RELEASE of another node, or any other. -/
theorem treatFrame_sound (f : Frame) (s : State) :
    Sound s (treatFrame f s) ∧ (s.Calm → (treatFrame f s).Calm) := by
  unfold treatFrame
  dsimp only
  split
  · split
    · exact ⟨.refl s, id⟩
    · exact ⟨(loopReturn_calm f s).toSound, (loopReturn_calm f s).calm⟩
  · rename_i hother
    split
    · exact ⟨withLoop_sound fun h => h.consume f, fun h => h.withLoop (s.loop.consume_insertQ f)⟩
    · split
      · exact ⟨withLoop_sound fun h => (h.forward f).holderHolds (by rwa [LoopPort.forward_node]),
          fun h => h.withLoop ((LoopPort.holderHolds_insertQ _ _).trans (s.loop.forward_insertQ f))⟩
      · split
        · exact ⟨withLoop_sound fun h => (h.forward f).holderGoes _, fun h => h.withLoop (s.loop.forward_insertQ f)⟩
        · split
          · exact ⟨withLoop_sound fun h => (h.forward f).tap f,
              fun h => h.withLoop ((LoopPort.tap_insertQ _ _).trans (s.loop.forward_insertQ f))⟩
          · exact ⟨withLoop_sound fun h => h.forward f, fun h => h.withLoop (s.loop.forward_insertQ f)⟩

/-! ### The clock (R194, R196, R197) -/

theorem settleTimerExpiry_calm (s : State) : CalmKept s (settleTimerExpiry s) := by
  unfold settleTimerExpiry
  split
  · exact (testGates_calm _).behind rfl
  · exact .refl s

theorem secondsEvent_calm (s : State) : CalmKept s (secondsEvent s) := by
  have hclock : CalmKept s { s with key := { s.key.advance.1 with secondsTimer := some 1000 } } := .same rfl
  have hday := CalmKept.ite (p := s.key.advance.2 = true) (hclock.trans (evaluateAll_calm _)) hclock
  exact ((hday.trans (tripSeconds_calm _)).trans (testGates_calm _)).trans (rebuild_calm _)

theorem setClock_calm (seconds day : Nat) (s : State) : CalmKept s (setClock seconds day s) :=
  (((setSys_calm .clockInvalid false _).trans (evaluateAll_calm _)).trans (rebuild_calm _)).behind rfl

end Sys2Proof.Machine
end


section
/-! PROOF. What the notices of the Channel Table, the key and every request keep of a safe state. -/

namespace Sys2Proof.Machine

/-! ### Notices and the key (R10, R19, R20, R193) -/

theorem deliver_calm (c : Fin 48) (n : Notice) (s : State) : CalmKept s (deliver c n s) := by
  have hwarned : CalmKept s (warnChannel c n (gaugeNotice c n s)) := (gaugeNotice_calm c n s).trans (warnChannel_calm c n _)
  have htrip := (hwarned.trans (tripNotice_calm c n _)).trans (settle_calm _)
  exact (htrip.trans (displayNotice_calm c n _)).trans (chimeNotice_calm c n _)

theorem channelTake_calm (s : State) : CalmKept s (channelTake s) := by
  unfold channelTake
  split
  · exact .refl s
  · rename_i fr rest hq
    have htaken : CalmKept s { s with loop := { s.loop with tapQ := rest } } := by
      refine .withLoop (fun h => { h with tapped := ?_ }) rfl rfl
      have hfull := h.tapped
      rw [hq, List.length_cons] at hfull
      exact (Nat.le_succ _).trans hfull
    have hheld := htaken.trans (.withHold (LoopPort.holdTake_places { s.loop with tapQ := rest }))
    have hupdated := hheld.then (u := updateStage fr { s with loop := ({ s.loop with tapQ := rest }).holdTake }) rfl
    exact hupdated.trans (.foldl (fun (t : State) (n : Fin 48 × Notice) => deliver_calm n.1 n.2 t) _ _)

theorem freshnessExpiry_calm (c : Fin 48) (s : State) : CalmKept s (freshnessExpiry c s) := by
  unfold freshnessExpiry
  dsimp only
  split
  · exact .refl s
  · exact (deliver_calm c .stale _).behind rfl

theorem disableChannel_calm (c : Fin 48) (s : State) : CalmKept s (disableChannel c s) :=
  (deliver_calm c .stale _).behind rfl

theorem keyEvent_calm (new : KeyState) (s : State) : CalmKept s (keyEvent new s) := by
  have hreported : CalmKept s (report (.keyChange s.key.state new) { s with key := s.key.record new }) :=
    (report_calm _ _).behind rfl
  have hkeyed := hreported.trans (gaugeKey_calm s.key.state new _)
  have hsettled := (hkeyed.trans (tripKey_calm s.key.state new _)).trans (settle_calm _)
  have hserviced := hsettled.trans
    (.ite (p := new = .run) (evaluateAll_calm _) (.refl _) : CalmKept _ (serviceKey new _))
  exact (hserviced.trans (warningKey_calm s.key.state new _)).trans (displayKey_calm new _)

theorem keySample_calm (found : Lines) (s : State) : CalmKept s (keySample found s) :=
  .ite ((keyEvent_calm _ _).behind rfl) (.same rfl)

theorem LoopPort.Bounded.idle {l : LoopPort} (h : l.Bounded) : l.idle.Bounded := by
  refine ⟨h.forwarded, h.tapped, h.requests, h.inserted, ?_, ?_⟩
  · exact (List.length_map _).symm ▸ h.awaiting
  · have hsame : (l.holders.map fun x => { x with left := x.left - 1 }).map Holder.node = l.holders.map Holder.node := by
      rw [List.map_map]
      rfl
    show (l.node :: (l.holders.map fun x => { x with left := x.left - 1 }).map Holder.node).Nodup
    rw [hsame]
    exact h.nodes

/-- A millisecond changes timers only. -/
theorem idleMillisecond_calm (s : State) : CalmKept s (idleMillisecond s) := by
  refine .ite ⟨⟨rfl, fun h => h.idle, fun b => ⟨?_, fun i => ?_, b.loop.idle, b.events, b.packets, b.chimes⟩⟩,
    fun b => ⟨b.held, b.startUp, b.events⟩, fun b => ⟨⟨b.held, b.startUp, b.events⟩, b.dump⟩, Nat.le_refl _, id, rfl⟩
    (.refl s)
  · exact b.store.same rfl rfl rfl
  · have hg := b.gauges i
    simp only [Fin.getElem_fin, Vector.getElem_map] at hg ⊢
    exact ⟨hg.position, hg.park, hg.target⟩

/-! ### Requests (R180, R181) -/

theorem CalmKept.respond {s : State} {r : State × Answer} (k : CalmKept s r.1) (h : Head) (code : Byte)
    (restart : Bool) : CalmKept s (Machine.respond h code restart r) := by
  unfold Machine.respond
  split
  · exact k
  · exact k.trans ((placeResponse_calm _ restart _).behind rfl)

/-- Behind a response the dump frames that have room are built (R188), whatever the request has made of the dump. -/
theorem respondFill_calm (h : Head) (code : Byte) (restart : Bool) (d : DumpState) (a : Answer) (s : State) :
    CalmKept s (dumpFill (respond h code restart ({ s with handler := { s.handler with dump := d } }, a))) := by
  have hanswered : CalmKept { s with handler := { s.handler with dump := d } }
      (respond h code restart ({ s with handler := { s.handler with dump := d } }, a)) :=
    CalmKept.respond (r := (_, a)) (.refl _) h code restart
  have hserved : s.Served → (respond h code restart ({ s with handler := { s.handler with dump := d } }, a)).Served :=
    fun b => hanswered.served ⟨b.held, b.startUp, b.events⟩
  have hfilled := hanswered.trans (dumpFor_calm 6 _)
  exact ⟨⟨hfilled.pending, hfilled.chime, fun b => hfilled.bounded ⟨b.store, b.gauges, b.loop, b.events, b.packets, b.chimes⟩⟩,
    fun b => (dumpFor_calm 6 _).served (hserved b), fun b => dumpFill_serves (hserved b.toServed), hfilled.fuller,
    hfilled.restarting, hfilled.requests⟩

/-- One of two answers. -/
theorem CalmKept.iteAnswer {p : Prop} [Decidable p] {s : State} {q r : State × Answer}
    (hq : CalmKept s q.1) (hr : CalmKept s r.1) : CalmKept s (if p then q else r).1 := by
  split
  · exact hq
  · exact hr

theorem CalmKept.answer {s t : State} (h : CalmKept s t) (a : Answer) : CalmKept s (t, a).1 := h

section Requests
variable (s : State)

theorem refuse_calm (st : Status) : CalmKept s (refuse st s).1 := .refl s

theorem pagedAt_calm {n : Nat} (part : Option Byte) (i : Option (Fin n)) (content : Fin n → List Byte) :
    CalmKept s (pagedAt part i content s).1 := by
  unfold pagedAt
  split <;> exact .refl s

theorem reqWriteChannel_calm (ch tag origin kind offset bit curve timeout shift debounce : Byte) :
    CalmKept s (reqWriteChannel ch tag origin kind offset bit curve timeout shift debounce s).1 := by
  unfold reqWriteChannel
  split
  · exact refuse_calm s _
  · refine .iteAnswer (refuse_calm s _) ?_
    split
    · exact refuse_calm s _
    · exact .same rfl

theorem reqEnableChannel_calm (ch : Byte) : CalmKept s (reqEnableChannel ch s).1 := by
  unfold reqEnableChannel
  split
  · exact refuse_calm s _
  · split
    · exact refuse_calm s _
    · exact .iteAnswer (refuse_calm s _) (.iteAnswer (.refl s) (.same rfl))

theorem reqDisableChannel_calm (ch : Byte) : CalmKept s (reqDisableChannel ch s).1 := by
  unfold reqDisableChannel
  split
  · exact refuse_calm s _
  · rename_i c _
    exact .iteAnswer ((disableChannel_calm c s).answer _) (.refl s)

theorem reqCurvePoint_calm (curve slot : Byte) (x : BitVec 24) (y : Word) :
    CalmKept s (reqCurvePoint curve slot x y s).1 := by
  unfold reqCurvePoint
  split
  · exact .iteAnswer (refuse_calm s _) (.iteAnswer (refuse_calm s _) (.same rfl))
  · exact refuse_calm s _

theorem reqCommitCurve_calm (curve count : Byte) : CalmKept s (reqCommitCurve curve count s).1 := by
  unfold reqCommitCurve
  split
  · exact refuse_calm s _
  · exact .iteAnswer (refuse_calm s _) (.iteAnswer (.same rfl) (refuse_calm s _))

theorem reqReadCurve_calm (curve slot : Byte) (part : Option Byte) :
    CalmKept s (reqReadCurve curve slot part s).1 := by
  unfold reqReadCurve
  split
  · exact .iteAnswer (refuse_calm s _) (pagedAt_calm s _ _ _)
  · exact refuse_calm s _

/-- The park position of an accepted WRITE GAUGE is on the dial (R25). -/
theorem gaugeFields_park {source curve damping slew : Byte} {park : Word} {flags : Byte} {dial : Word} {f : GaugeSetup}
    (h : gaugeFields source curve damping slew park flags dial = some f) : f.park ≤ 1023 := by
  unfold gaugeFields at h
  split at h
  · split at h
    · rename_i hranges
      obtain ⟨_, _, hpark, _⟩ := hranges
      cases h
      exact hpark
    · cases h
  · cases h

theorem reqWriteGauge_calm (g source curve damping slew : Byte) (park : Word) (flags : Byte) (dial : Word) :
    CalmKept s (reqWriteGauge g source curve damping slew park flags dial s).1 := by
  unfold reqWriteGauge
  split
  · exact refuse_calm s _
  · refine .iteAnswer (refuse_calm s _) ?_
    split
    · exact refuse_calm s _
    · rename_i f hf
      exact setGauge_calm fun h => h.write (gaugeFields_park hf)

theorem reqEnableGauge_calm (g : Byte) : CalmKept s (reqEnableGauge g s).1 := by
  unfold reqEnableGauge
  split
  · exact refuse_calm s _
  · exact .iteAnswer (refuse_calm s _)
      (.iteAnswer (refuse_calm s _) (.iteAnswer (.refl s) ((setGauge_calm fun h => h.enable s).answer .done)))

theorem reqDisableGauge_calm (g : Byte) : CalmKept s (reqDisableGauge g s).1 := by
  unfold reqDisableGauge
  split
  · exact refuse_calm s _
  · exact .iteAnswer ((setGauge_calm fun h => h.disable).answer .done) (.refl s)

theorem reqWriteTripSetup_calm (distance fuel speed level : Byte) (pulses units maxDelta : Word)
    (gapDefault : BitVec 24) :
    CalmKept s (reqWriteTripSetup distance fuel speed level pulses units maxDelta gapDefault s).1 := by
  refine .iteAnswer (refuse_calm s _) ?_
  split
  · exact refuse_calm s _
  · exact .same rfl

theorem reqSnapshotTrip_calm (r : Byte) : CalmKept s (reqSnapshotTrip r s).1 := by
  unfold reqSnapshotTrip
  split
  · exact refuse_calm s _
  · split <;> exact .same rfl

theorem reqReadTrip_calm (r : Byte) : CalmKept s (reqReadTrip r s).1 := by
  unfold reqReadTrip
  split
  · exact refuse_calm s _
  · dsimp only
    split <;> exact .same rfl

theorem reqResetTrip_calm (r : Byte) : CalmKept s (reqResetTrip r s).1 := by
  unfold reqResetTrip
  split
  · exact refuse_calm s _
  · exact resetTrip_calm _ _ s

/-- A step of the EXTERNAL class is placed (R75, R76). -/
theorem placeExternal_calm (op : ExternalOp) (r : Requester) (st : StoreStep) :
    CalmKept s (settle { s with
      handler := { s.handler with ext := some op, extRequester := some r },
      store := s.store.place .external st }) := by
  have hkept : CalmKept s { s with handler := { s.handler with ext := some op, extRequester := some r } } := .same rfl
  exact (hkept.trans (.withStore fun h => h.place .external st)).trans (settle_calm _)

theorem reqStoreProgram_calm (h : Head) (addr : Byte) (value : Word) :
    CalmKept s (reqStoreProgram h addr value s).1 :=
  .iteAnswer (refuse_calm s _) (.iteAnswer (refuse_calm s _)
    (.iteAnswer (refuse_calm s _) ((placeExternal_calm s _ _ _).answer .later)))

theorem reqStoreErase_calm (h : Head) (sectors : Byte) : CalmKept s (reqStoreErase h sectors s).1 :=
  .iteAnswer (refuse_calm s _) (.iteAnswer (refuse_calm s _)
    (.iteAnswer (refuse_calm s _) (.iteAnswer (.refl s) ((placeExternal_calm s _ _ _).answer .later))))

theorem reqSetOdometer_calm (h : Head) (value : BitVec 24) : CalmKept s (reqSetOdometer h value s).1 :=
  .iteAnswer (refuse_calm s _) (.iteAnswer (refuse_calm s _) (.iteAnswer (refuse_calm s _)
    (.iteAnswer (refuse_calm s _) ((settle_calm _).behind rfl))))

theorem reqWriteServiceItem_calm (item message : Byte) (intervalKm intervalDays advanceKm overdueKm : Word)
    (advOverDays : BitVec 24) : CalmKept s
      (reqWriteServiceItem item message intervalKm intervalDays advanceKm overdueKm advOverDays s).1 := by
  unfold reqWriteServiceItem
  split
  · exact refuse_calm s _
  · split
    · exact refuse_calm s _
    · exact (evaluateItem_calm _ _).behind rfl

theorem reqEnableServiceItem_calm (item : Byte) : CalmKept s (reqEnableServiceItem item s).1 := by
  unfold reqEnableServiceItem
  split
  · exact refuse_calm s _
  · exact .iteAnswer (refuse_calm s _) (.iteAnswer (.refl s) ((evaluateItem_calm _ _).behind rfl))

theorem reqDisableServiceItem_calm (item : Byte) : CalmKept s (reqDisableServiceItem item s).1 := by
  unfold reqDisableServiceItem
  split
  · exact refuse_calm s _
  · exact .iteAnswer ((noteStage_calm _ _ _ _).behind rfl) (.refl s)

theorem reqServiceReset_calm (item : Byte) : CalmKept s (reqServiceReset item s).1 := by
  unfold reqServiceReset
  split
  · exact refuse_calm s _
  · exact .iteAnswer ((takeServiceReset_calm _ _ s).trans (settle_calm _)) (refuse_calm s _)

theorem reqWriteWarningCondition_calm (w kind subject : Byte) (threshold hysteresis : Word)
    (counts keyGate : Byte) (speedGate : Word) (staleAction minStage : Byte) : CalmKept s
      (reqWriteWarningCondition w kind subject threshold hysteresis counts keyGate speedGate staleAction minStage
        s).1 := by
  unfold reqWriteWarningCondition
  split
  · exact refuse_calm s _
  · split
    · exact refuse_calm s _
    · split
      · exact refuse_calm s _
      · exact setWarning_calm _ _ s

theorem reqWriteWarningAction_calm (w priority latch chime message lamp routing present remind : Byte) :
    CalmKept s (reqWriteWarningAction w priority latch chime message lamp routing present remind s).1 := by
  unfold reqWriteWarningAction
  split
  · exact refuse_calm s _
  · split
    · exact refuse_calm s _
    · split
      · exact refuse_calm s _
      · exact setWarning_calm _ _ s

theorem reqEnableWarning_calm (w : Byte) : CalmKept s (reqEnableWarning w s).1 := by
  unfold reqEnableWarning
  split
  · exact refuse_calm s _
  · dsimp only
    refine .iteAnswer (refuse_calm s _) ?_
    exact .iteAnswer (.refl s) (enableWarning_calm _ s)

theorem reqDisableWarning_calm (w : Byte) : CalmKept s (reqDisableWarning w s).1 := by
  unfold reqDisableWarning
  split
  · exact refuse_calm s _
  · exact .iteAnswer (disableWarning_calm _ s) (.refl s)

theorem reqMaskWarning_calm (w : Byte) : CalmKept s (reqMaskWarning w s).1 := by
  unfold reqMaskWarning
  split
  · exact refuse_calm s _
  · exact .iteAnswer (.refl s) (maskWarning_calm _ s)

theorem reqUnmaskWarning_calm (w : Byte) : CalmKept s (reqUnmaskWarning w s).1 := by
  unfold reqUnmaskWarning
  split
  · exact refuse_calm s _
  · exact .iteAnswer (unmaskWarning_calm _ s) (.refl s)

/-- A segment stored in a playable pattern leaves it playable (R130). -/
theorem Pattern.playable_set {x : Pattern} (h : x.playable = true) (i : Fin 6) (g : Segment) :
    ({ x with slots := x.slots.set i (some g) } : Pattern).playable = true := by
  unfold Pattern.playable at h ⊢
  rw [Bool.and_eq_true, List.all_eq_true] at h ⊢
  refine ⟨h.1, fun y hy => ?_⟩
  obtain ⟨k, hk, rfl⟩ := List.mem_take_iff_getElem.mp hy
  rw [Vector.getElem_toList, Vector.getElem_set]
  split
  · rfl
  · refine h.2 _ (List.mem_take_iff_getElem.mpr ⟨k, ?_, Vector.getElem_toList _⟩)
    simpa only [Vector.length_toList] using hk

theorem reqWriteChimeSegment_calm (p slot : Byte) (divisor : Word) (on off : Byte) :
    CalmKept s (reqWriteChimeSegment p slot divisor on off s).1 := by
  unfold reqWriteChimeSegment
  split
  · refine .iteAnswer (refuse_calm s _) ?_
    split
    · exact refuse_calm s _
    · rename_i hfree
      exact .withChime (fun h => h.setPattern (Pattern.playable_set (h.stocked.playable _) _ _)
        (Bool.eq_false_iff.mpr hfree)) id
  · exact refuse_calm s _

theorem reqWriteChimePattern_calm (p repeats segments : Byte) :
    CalmKept s (reqWriteChimePattern p repeats segments s).1 := by
  unfold reqWriteChimePattern
  split
  · exact refuse_calm s _
  · dsimp only
    split
    · exact refuse_calm s _
    · rename_i hrange
      split
      · exact refuse_calm s _
      · rename_i hfree
        split
        · exact refuse_calm s _
        · rename_i hpresent
          refine .withChime (fun h => h.setPattern ?_ (Bool.eq_false_iff.mpr hfree)) id
          refine Bool.and_eq_true_iff.mpr ⟨decide_eq_true (Nat.le_of_not_lt fun h => hrange (.inr h)), ?_⟩
          rw [List.all_eq_true]
          intro y hy
          have hy' := fun hnone => hpresent (List.any_eq_true.mpr ⟨y, hy, hnone⟩)
          cases y with
          | none => exact absurd rfl hy'
          | some g => rfl

theorem reqWriteChimeSetup_calm (tickChannel tickPattern answerPattern : Byte) :
    CalmKept s (reqWriteChimeSetup tickChannel tickPattern answerPattern s).1 := by
  unfold reqWriteChimeSetup
  split
  · exact .withChime (fun h => h.withSetup _) id
  · exact refuse_calm s _

theorem reqReadChimePattern_calm (p slot : Byte) (part : Option Byte) :
    CalmKept s (reqReadChimePattern p slot part s).1 := by
  unfold reqReadChimePattern
  split
  · exact .iteAnswer (refuse_calm s _) (pagedAt_calm s _ _ _)
  · exact refuse_calm s _

theorem reqWriteMessage_calm (message chunk : Byte) (chars : Vector Byte 10) :
    CalmKept s (reqWriteMessage message chunk chars s).1 := by
  unfold reqWriteMessage
  split
  · exact refuse_calm s _
  · refine .iteAnswer (refuse_calm s _) (rebuild_withDisplay_calm (.refl s) ?_)
    exact id

theorem reqWriteDisplaySetup_calm (button temperature offDelay : Byte) (idleTime : Word)
    (mcBrightness rpBrightness : Byte) :
    CalmKept s (reqWriteDisplaySetup button temperature offDelay idleTime mcBrightness rpBrightness s).1 := by
  unfold reqWriteDisplaySetup
  split
  · refine .iteAnswer (rebuild_withDisplay_calm (.refl s) ?_) (refuse_calm s _)
    exact id
  · exact refuse_calm s _

theorem reqStoreDump_calm (h : Head) (start : Byte) (count : Word) (code : Byte) :
    CalmKept s (dumpFill (respond h code false (reqStoreDump h start count s))) := by
  unfold reqStoreDump
  split
  · exact respondFill_calm h code false s.handler.dump _ s
  · split
    · exact respondFill_calm h code false s.handler.dump _ s
    · exact respondFill_calm h code false _ _ s

theorem reqDumpAbort_calm : CalmKept s (reqDumpAbort s).1 := by
  unfold reqDumpAbort
  split
  · exact .refl s
  · exact .withHandler ⟨id, id, id, id, Nat.le_refl _, fun _ => rfl⟩
  · exact .refl s

theorem reqDumpResume_calm (h : Head) (code : Byte) :
    CalmKept s (dumpFill (respond h code false (reqDumpResume h s))) := by
  unfold reqDumpResume
  split
  · exact respondFill_calm h code false _ _ s
  · exact respondFill_calm h code false s.handler.dump _ s

theorem reqSetClock_calm (seconds : BitVec 24) (day : Word) : CalmKept s (reqSetClock seconds day s).1 :=
  .iteAnswer (refuse_calm s _) (setClock_calm _ _ s)

end Requests

/-- Every request that is carried out; a row that is no request does nothing here. -/
theorem serve_calm (i : Instr) (s : State) : CalmKept s (serve i s) := by
  cases i with
  | unknownRequest => exact (refuse_calm s _).respond _ _ _
  | writeChannel => exact (reqWriteChannel_calm s ..).respond _ _ _
  | enableChannel => exact (reqEnableChannel_calm s _).respond _ _ _
  | disableChannel => exact (reqDisableChannel_calm s _).respond _ _ _
  | curvePoint => exact (reqCurvePoint_calm s ..).respond _ _ _
  | commitCurve => exact (reqCommitCurve_calm s ..).respond _ _ _
  | readChannelSetup => exact (pagedAt_calm s _ _ _).respond _ _ _
  | readChannel => exact (pagedAt_calm s _ _ _).respond _ _ _
  | readCurve => exact (reqReadCurve_calm s ..).respond _ _ _
  | writeGauge => exact (reqWriteGauge_calm s ..).respond _ _ _
  | enableGauge => exact (reqEnableGauge_calm s _).respond _ _ _
  | disableGauge => exact (reqDisableGauge_calm s _).respond _ _ _
  | readGaugeSetup => exact (pagedAt_calm s _ _ _).respond _ _ _
  | readGauge => exact (pagedAt_calm s _ _ _).respond _ _ _
  | writeTripSetup => exact (reqWriteTripSetup_calm s ..).respond _ _ _
  | readTripFigures => exact (pagedAt_calm s _ _ _).respond _ _ _
  | snapshotTrip => exact (reqSnapshotTrip_calm s _).respond _ _ _
  | readTrip => exact (reqReadTrip_calm s _).respond _ _ _
  | resetTrip => exact (reqResetTrip_calm s _).respond _ _ _
  | storeProgram => exact (reqStoreProgram_calm s ..).respond _ _ _
  | storeErase => exact (reqStoreErase_calm s ..).respond _ _ _
  | setOdometer => exact (reqSetOdometer_calm s ..).respond _ _ _
  | writeServiceItem => exact (reqWriteServiceItem_calm s ..).respond _ _ _
  | enableServiceItem => exact (reqEnableServiceItem_calm s _).respond _ _ _
  | disableServiceItem => exact (reqDisableServiceItem_calm s _).respond _ _ _
  | readServiceItem => exact (pagedAt_calm s _ _ _).respond _ _ _
  | serviceReset => exact (reqServiceReset_calm s _).respond _ _ _
  | writeWarningCondition => exact (reqWriteWarningCondition_calm s ..).respond _ _ _
  | writeWarningAction => exact (reqWriteWarningAction_calm s ..).respond _ _ _
  | enableWarning => exact (reqEnableWarning_calm s _).respond _ _ _
  | disableWarning => exact (reqDisableWarning_calm s _).respond _ _ _
  | maskWarning => exact (reqMaskWarning_calm s _).respond _ _ _
  | unmaskWarning => exact (reqUnmaskWarning_calm s _).respond _ _ _
  | readWarningSetup => exact (pagedAt_calm s _ _ _).respond _ _ _
  | readWarning => exact (pagedAt_calm s _ _ _).respond _ _ _
  | writeChimeSegment => exact (reqWriteChimeSegment_calm s ..).respond _ _ _
  | writeChimePattern => exact (reqWriteChimePattern_calm s ..).respond _ _ _
  | writeChimeSetup => exact (reqWriteChimeSetup_calm s ..).respond _ _ _
  | readChimePattern => exact (reqReadChimePattern_calm s ..).respond _ _ _
  | writeMessage => exact (reqWriteMessage_calm s ..).respond _ _ _
  | readMessage => exact (pagedAt_calm s _ _ _).respond _ _ _
  | writeDisplaySetup => exact (reqWriteDisplaySetup_calm s ..).respond _ _ _
  | assertHold => exact CalmKept.respond (s := s) (r := reqAssertHold s) (.withHold s.loop.assertHold_places) _ _ _
  | clearHold => exact CalmKept.respond (s := s) (r := reqClearHold s) (.withHold s.loop.clearHold_places) _ _ _
  | events _ set =>
    exact CalmKept.respond (s := s) (r := reqEvents set s)
      (.iteAnswer (refuse_calm s _) (.same rfl)) _ _ _
  | restart => 
    exact CalmKept.respond (s := s) (r := reqRestart s)
      (.withHandler ⟨fun _ => rfl, id, id, id, Nat.le_refl _, id⟩) _ _ _
  | storeDump => exact reqStoreDump_calm s ..
  | dumpAbort => exact (reqDumpAbort_calm s).respond _ _ _
  | dumpResume => exact reqDumpResume_calm s ..
  | setClock => exact (reqSetClock_calm s ..).respond _ _ _
  | readTripSetup | readStore | readOdometer | readLamps | readChimeSetup | readChimes | readDisplaySetup | readDisplay
  | readLoop | readStatus | readClock => exact CalmKept.respond (r := paged _ _ s) (.refl s) _ _ _
  | _ => exact .refl s

end Sys2Proof.Machine
end


section
/-! PROOF. Every command keeps a safe state safe and the Chime Generator consistent (R134, R138, R171): the handler's take
of requests, the offers of a free place and their end, the transmitter, RESTART and the supply. -/

namespace Sys2Proof.Machine

/-! ### The handler (R180, R182) -/

/-- What a command keeps: besides, no producer that could place is left waiting. -/
structure SafeKept (s t : State) : Prop extends Sound s t where
  quiet : s.producerWaits = false → t.producerWaits = false

theorem SafeKept.refl (s : State) : SafeKept s s := ⟨.refl s, id⟩

theorem CalmKept.safe {s t : State} (k : CalmKept s t) : SafeKept s t := ⟨k.toSound, k.quiet⟩

theorem SafeKept.ite {p : Prop} [Decidable p] {s t u : State} (h : SafeKept s t) (k : SafeKept s u) :
    SafeKept s (if p then t else u) := by
  split
  · exact h
  · exact k

theorem State.handlerFree_iff (s : State) : s.handlerFree = true ↔
    s.loop.insertQ.length < 8 ∧ s.handler.restartPending = false ∧ s.handler.held = [] := by
  unfold State.handlerFree State.freePlaces
  rw [Bool.and_eq_true, Bool.and_eq_true, decide_eq_true_eq, Bool.not_eq_true', List.isEmpty_iff, and_assoc]
  exact and_congr_left' (by omega)

/-- The oldest request leaves its queue. -/
def State.dequeued (s : State) (rest : List Frame) : State := { s with loop := { s.loop with requestQ := rest } }

/-- The oldest request is carried out. -/
def State.takeRequest (s : State) (f : Frame) (rest : List Frame) : State :=
  serve (decodeRequest (frameOrigin f) (framePayload f)) (s.dequeued rest)

section Take
variable {s : State} {f : Frame} {rest : List Frame}

theorem State.takeRequest_requestQ : (s.takeRequest f rest).loop.requestQ = rest := (serve_calm _ _).requests

theorem State.takeRequest_fuller : s.loop.insertQ.length ≤ (s.takeRequest f rest).loop.insertQ.length :=
  (serve_calm _ (s.dequeued rest)).fuller

theorem takeRequest_calm (h : s.Calm) : (s.takeRequest f rest).Calm :=
  (serve_calm _ (s.dequeued rest)).calm (h.withLoop rfl)

theorem takeRequest_sound (hq : s.loop.requestQ = f :: rest) : Sound s (s.takeRequest f rest) := by
  have hdequeued : Sound s (s.dequeued rest) := by
    refine withLoop_sound fun h => { h with requests := ?_ }
    have hfull := h.requests
    rw [hq, List.length_cons] at hfull
    exact (Nat.le_succ _).trans hfull
  exact hdequeued.trans (serve_calm _ _).toSound

end Take

theorem pumpFor_step {n : Nat} {s : State} {f : Frame} {rest : List Frame} (hq : s.loop.requestQ = f :: rest) :
    pumpFor (n + 1) s = if s.handlerFree = true then pumpFor n (s.takeRequest f rest) else s := by
  simp only [pumpFor, hq]
  rfl

theorem pumpFor_nil {n : Nat} {s : State} (hq : s.loop.requestQ = []) : pumpFor n s = s := by
  cases n with
  | zero => rfl
  | succ n => simp only [pumpFor, hq]

theorem pumpFor_sound (n : Nat) (s : State) : Sound s (pumpFor n s) := by
  induction n generalizing s with
  | zero => exact .refl s
  | succ n ih =>
    cases hq : s.loop.requestQ with
    | nil =>
      rw [pumpFor_nil hq]
      exact .refl s
    | cons f rest =>
      rw [pumpFor_step hq]
      split
      · exact (takeRequest_sound hq).trans (ih _)
      · exact .refl s

/-- A handler that is not free, in a calm state, has no place or a RESTART pending. -/
theorem State.Calm.quiet_of_busy {s : State} (h : s.Calm) (hbusy : s.handlerFree = true → s.loop.requestQ = []) :
    s.producerWaits = false := by
  refine s.producerWaits_eq_false_iff.mpr ⟨h, fun hroom => ?_⟩
  cases hr : s.handler.restartPending with
  | true => exact .inl rfl
  | false => exact .inr (hbusy (s.handlerFree_iff.mpr ⟨hroom, hr, h.held hroom⟩))

/-- Requests are taken until none waits or the handler is not free. -/
theorem pumpFor_quiet {n : Nat} {s : State} (h : s.Calm) (hn : s.loop.requestQ.length ≤ n) :
    (pumpFor n s).producerWaits = false := by
  induction n generalizing s with
  | zero => exact h.quiet_of_busy fun _ => List.eq_nil_of_length_eq_zero (Nat.le_zero.mp hn)
  | succ n ih =>
    cases hq : s.loop.requestQ with
    | nil =>
      rw [pumpFor_nil hq]
      exact h.quiet_of_busy fun _ => hq
    | cons f rest =>
      rw [pumpFor_step hq]
      split
      · refine ih (takeRequest_calm h) ?_
        rw [State.takeRequest_requestQ]
        rw [hq, List.length_cons] at hn
        exact Nat.le_of_succ_le_succ hn
      · rename_i hbusy
        exact h.quiet_of_busy fun hfree => absurd hfree hbusy

theorem State.calm_of_quiet {s : State} (h : s.producerWaits = false) : s.Calm :=
  (s.producerWaits_eq_false_iff.mp h).1

theorem frameReceived_safe (bytes : Frame) (longGap stopMissing : Bool) (s : State) :
    SafeKept s (frameReceived bytes longGap stopMissing s) := by
  obtain ⟨htreated, hcalm⟩ := treatFrame_sound bytes s
  exact .ite ⟨htreated.trans (pumpFor_sound _ _), fun h => pumpFor_quiet (hcalm (State.calm_of_quiet h)) (Nat.le_refl _)⟩
    (.refl s)

theorem arrive_safe (i : Instr) (s : State) : SafeKept s (arrive i s) := by
  unfold arrive
  split
  · exact .refl s
  · exact .ite (serve_calm i s).safe (frameReceived_safe _ _ _ s)

/-- A held response leaves for a free place. -/
theorem placeHeldFrame_calm {s : State} {f : Frame} {rest : List Frame} (hheld : s.handler.held = f :: rest)
    (hroom : s.loop.insertQ.length < 8) :
    CalmKept s (insertFrame f false { s with handler := { s.handler with held := rest } }) := by
  have hshorter : CalmKept s { s with handler := { s.handler with held := rest } } :=
    .withHandler ⟨id, fun h => (nomatch hheld.symm.trans h), id, id, Nat.le_refl _, id⟩
  exact hshorter.trans (insertFrame_calm hroom)

theorem State.freePlaces_pos (s : State) : 0 < s.freePlaces ↔ s.loop.insertQ.length < 8 := by
  unfold State.freePlaces
  omega

theorem placeHeld_safe (s : State) : SafeKept s (placeHeld s) := by
  unfold placeHeld
  split
  · rename_i f rest hheld
    split
    · rename_i hfree
      have hplaced := placeHeldFrame_calm hheld (s.freePlaces_pos.mp hfree)
      exact ⟨hplaced.toSound.trans (pumpFor_sound _ _),
        fun h => pumpFor_quiet (hplaced.calm (State.calm_of_quiet h)) (Nat.le_refl _)⟩
    · exact .refl s
  · exact .refl s

/-! ### The offers of a free place (R171) -/

/-- What is left for the offers: the requests that wait and the free places. -/
def State.offers (s : State) : Nat := s.loop.requestQ.length + (8 - s.loop.insertQ.length)

/-- One turn of a producer: it changes nothing, or takes a request or fills a place. -/
structure Turn (s t : State) : Prop extends Sound s t where
  fuller : s.loop.insertQ.length ≤ t.loop.insertQ.length
  requests : t.loop.requestQ.length ≤ s.loop.requestQ.length

theorem CalmKept.turn {s t : State} (k : CalmKept s t) : Turn s t := ⟨k.toSound, k.fuller, k.requests ▸ Nat.le_refl _⟩

theorem Turn.refl (s : State) : Turn s s := ⟨.refl s, Nat.le_refl _, Nat.le_refl _⟩

theorem Turn.trans {s t u : State} (h : Turn s t) (k : Turn t u) : Turn s u :=
  ⟨h.toSound.trans k.toSound, h.fuller.trans k.fuller, k.requests.trans h.requests⟩

theorem Turn.offers_le {s t : State} (h : Turn s t) : t.offers ≤ s.offers := by
  have hfuller := h.fuller
  have hrequests := h.requests
  unfold State.offers
  omega

theorem takeFor_step {n : Nat} {s : State} {f : Frame} {rest : List Frame} (hq : s.loop.requestQ = f :: rest) :
    takeFor (n + 1) s = if s.handlerFree = true then
      (if s.loop.insertQ.length < (s.takeRequest f rest).loop.insertQ.length then s.takeRequest f rest
       else takeFor n (s.takeRequest f rest))
      else s := by
  simp only [takeFor, hq]
  rfl

theorem takeFor_nil {n : Nat} {s : State} (hq : s.loop.requestQ = []) : takeFor n s = s := by
  cases n with
  | zero => rfl
  | succ n => simp only [takeFor, hq]

theorem takeRequest_turn {s : State} {f : Frame} {rest : List Frame} (hq : s.loop.requestQ = f :: rest) :
    Turn s (s.takeRequest f rest) :=
  ⟨takeRequest_sound hq, State.takeRequest_fuller, by rw [State.takeRequest_requestQ, hq]; exact Nat.le_succ _⟩

theorem takeFor_turn (n : Nat) (s : State) : Turn s (takeFor n s) := by
  induction n generalizing s with
  | zero => exact .refl s
  | succ n ih =>
    cases hq : s.loop.requestQ with
    | nil =>
      rw [takeFor_nil hq]
      exact .refl s
    | cons f rest =>
      rw [takeFor_step hq]
      split
      · split
        · exact takeRequest_turn hq
        · exact (takeRequest_turn hq).trans (ih _)
      · exact .refl s

/-- The handler's turn takes a request or places a held response, if it can. -/
theorem handlerTurn_turn (s : State) : Turn s (handlerTurn s) := by
  unfold handlerTurn
  split
  · rename_i f rest hheld
    split
    · rename_i hfree
      exact (placeHeldFrame_calm hheld (s.freePlaces_pos.mp hfree)).turn
    · exact .refl s
  · exact takeFor_turn _ s

theorem offerRound_turn (s : State) : Turn s (offerRound s) :=
  (((handlerTurn_turn s).trans (buildStartUp_calm _).turn).trans (buildEvent_calm _).turn).trans (buildDump_calm _).turn

/-- What the handler can do at its turn, it does. -/
theorem handlerTurn_advances {s : State} (hroom : s.loop.insertQ.length < 8)
    (hwaits : s.handler.held ≠ [] ∨ (s.handler.restartPending = false ∧ s.loop.requestQ ≠ [])) :
    (handlerTurn s).offers < s.offers := by
  cases hheld : s.handler.held with
  | cons f rest =>
    have hplaced : handlerTurn s = insertFrame f false { s with handler := { s.handler with held := rest } } := by
      simp only [handlerTurn, hheld, s.freePlaces_pos.mpr hroom, if_true]
    rw [hplaced]
    simp only [State.offers, insertFrame_loop, List.length_append, List.length_singleton]
    omega
  | nil =>
    obtain ⟨hpending, hrequests⟩ := hwaits.resolve_left fun h => h hheld
    cases hq : s.loop.requestQ with
    | nil => exact absurd hq hrequests
    | cons f rest =>
      have hturn : handlerTurn s = takeFor (rest.length + 1) s := by
        simp only [handlerTurn, hheld, hq, List.length_cons]
      have htaken : (s.takeRequest f rest).offers < s.offers := by
        have hfuller := State.takeRequest_fuller (s := s) (f := f) (rest := rest)
        simp only [State.offers, State.takeRequest_requestQ, hq, List.length_cons]
        omega
      rw [hturn, takeFor_step hq, if_pos (s.handlerFree_iff.mpr ⟨hroom, hpending, hheld⟩)]
      split
      · exact htaken
      · exact (takeFor_turn _ _).offers_le.trans_lt htaken

/-- What the handler cannot do at its turn, it leaves. -/
theorem handlerTurn_waits {s : State} (hheld : s.handler.held = [])
    (hidle : s.handler.restartPending = true ∨ s.loop.requestQ = []) : handlerTurn s = s := by
  have hturn : handlerTurn s = takeFor s.loop.requestQ.length s := by
    simp only [handlerTurn, hheld]
  rw [hturn]
  cases hq : s.loop.requestQ with
  | nil => exact takeFor_nil hq
  | cons f rest =>
    have hpending := hidle.resolve_right (by rw [hq]; exact List.cons_ne_nil _ _)
    rw [List.length_cons, takeFor_step hq, if_neg]
    rw [s.handlerFree_iff, hpending]
    exact fun h => nomatch h.2.1

/-- A stream builder that has something and the room fills a place. -/
theorem buildEvent_advances {s : State} (hroom : s.loop.insertQ.length < 6) (h : s.handler.events ≠ []) :
    (buildEvent s).offers < s.offers := by
  obtain ⟨e, rest, he⟩ := List.exists_cons_of_ne_nil h
  rw [buildEvent_places he hroom]
  simp only [State.offers, placeEvent_loop, List.length_append, List.length_singleton]
  omega

theorem buildStartUp_waits {s : State} (h : s.handler.startUp = none ∨ 6 ≤ s.loop.insertQ.length) :
    buildStartUp s = s := by
  unfold buildStartUp
  split
  · rename_i codes hcodes
    have hfull := h.resolve_left (by rw [hcodes]; exact nofun)
    exact if_neg fun hroom => absurd ((State.streamRoom_iff s).mp hroom) (Nat.not_lt.mpr hfull)
  · rfl

theorem buildStartUp_places {s : State} {codes : List ScanCode} (h : s.handler.startUp = some codes)
    (hroom : s.loop.insertQ.length < 6) : buildStartUp s =
      placeEvent (startUpPayload codes) { s with handler := { s.handler with startUp := none } } := by
  simp only [buildStartUp, h, (State.streamRoom_iff s).mpr hroom, if_true]

theorem buildStartUp_advances {s : State} (hroom : s.loop.insertQ.length < 6) (h : s.handler.startUp ≠ none) :
    (buildStartUp s).offers < s.offers := by
  obtain ⟨codes, hcodes⟩ := Option.ne_none_iff_exists'.mp h
  rw [buildStartUp_places hcodes hroom]
  simp only [State.offers, placeEvent_loop, List.length_append, List.length_singleton]
  omega

theorem buildDump_advances {s : State} (hroom : s.loop.insertQ.length < 6) (h : s.handler.dump.isStreaming = true) :
    (buildDump s).offers < s.offers := by
  cases hd : s.handler.dump with
  | streaming c =>
    simp only [State.offers, buildDump, hd, (State.streamRoom_iff s).mpr hroom, if_true, insertFrame_loop,
      List.length_append, List.length_singleton]
    omega
  | idle | aborted =>
    rw [hd] at h
    cases h

/-- While a producer that waits can place, a round of the offers takes a request or fills a place (log entry 24). -/
theorem offerRound_advances {s : State} (h : s.producerWaits = true) : (offerRound s).offers < s.offers := by
  have hend (t : State) : (buildDump t).offers ≤ t.offers := (buildDump_calm t).turn.offers_le
  have hevent (t : State) : (buildDump (buildEvent t)).offers ≤ t.offers :=
    (hend _).trans (buildEvent_calm t).turn.offers_le
  have hstart (t : State) : (buildDump (buildEvent (buildStartUp t))).offers ≤ t.offers :=
    (hevent _).trans (buildStartUp_calm t).turn.offers_le
  by_cases hhandler : s.loop.insertQ.length < 8 ∧
      (s.handler.held ≠ [] ∨ (s.handler.restartPending = false ∧ s.loop.requestQ ≠ []))
  · exact (hstart _).trans_lt (handlerTurn_advances hhandler.1 hhandler.2)
  · have hroom : s.loop.insertQ.length < 6 := by
      by_contra hfull
      refine absurd h (ne_true_of_eq_false (State.producerWaits_eq_false ?_ (.inl (Nat.le_of_not_lt hfull))))
      by_contra hno
      simp only [not_or, not_le, not_and_or, ne_eq] at hno hhandler
      grind
    have hidle : s.handler.held = [] ∧ (s.handler.restartPending = true ∨ s.loop.requestQ = []) := by
      have hno := fun hw => hhandler ⟨hroom.trans (by decide), hw⟩
      refine ⟨by_contra fun hheld => hno (.inl hheld), ?_⟩
      cases hp : s.handler.restartPending with
      | true => exact .inl rfl
      | false => exact .inr (by_contra fun hq => hno (.inr ⟨hp, hq⟩))
    unfold offerRound
    rw [handlerTurn_waits hidle.1 hidle.2]
    by_cases hs : s.handler.startUp = none
    · rw [buildStartUp_waits (.inl hs)]
      by_cases he : s.handler.events = []
      · rw [buildEvent_waits (.inl he)]
        refine buildDump_advances hroom (by_contra fun hd => ?_)
        refine absurd h (ne_true_of_eq_false (State.producerWaits_eq_false (.inr hidle) (.inr ⟨hs, he, fun c hc => ?_⟩)))
        exact hd (by rw [hc]; rfl)
      · exact (hend _).trans_lt (buildEvent_advances hroom he)
    · exact (hevent _).trans_lt (buildStartUp_advances hroom hs)

theorem offerFor_turn (n : Nat) (s : State) : Turn s (offerFor n s) := by
  induction n generalizing s with
  | zero => exact .refl s
  | succ n ih =>
    unfold offerFor
    split
    · exact (offerRound_turn s).trans (ih _)
    · exact .refl s

/-- The rounds end with no producer that waits and can place. -/
theorem offerFor_quiet {n : Nat} {s : State} (hn : s.offers ≤ n) : (offerFor n s).producerWaits = false := by
  induction n generalizing s with
  | zero =>
    unfold State.offers at hn
    show s.producerWaits = false
    exact State.producerWaits_eq_false (.inl (by omega)) (.inl (by omega))
  | succ n ih =>
    unfold offerFor
    split
    · rename_i hwaits
      exact ih (Nat.le_of_lt_succ ((offerRound_advances hwaits).trans_le hn))
    · rename_i hquiet
      exact Bool.eq_false_iff.mpr hquiet

theorem offer_quiet (s : State) : (offer s).producerWaits = false :=
  offerFor_quiet (Nat.add_le_add_left (Nat.sub_le _ _) _)

/-! ### The transmitter (R170) -/

theorem LoopPort.Bounded.transmit {l : LoopPort} (h : l.Bounded) : l.transmit.Bounded := by
  unfold LoopPort.transmit
  split
  · rename_i hidle
    have hawaiting : l.awaiting.length ≤ 8 := (Nat.le_add_right _ _).trans h.awaiting
    split
    · exact { h with awaiting := hawaiting }
    · exact { h with awaiting := hawaiting }
    · split
      · rename_i f rest hq
        have hfull := h.forwarded
        rw [hq, List.length_cons] at hfull
        exact { h with forwarded := (Nat.le_succ _).trans hfull, awaiting := hawaiting }
      · split
        · rename_i x rest hq
          split
          · rename_i hsend
            have hfull := h.inserted
            rw [hq, List.length_cons] at hfull
            have hroom : l.awaiting.length < 8 := by
              unfold LoopPort.maySend at hsend
              simp only [Bool.and_eq_true, decide_eq_true_eq] at hsend
              exact hsend.1.2
            exact { h with inserted := (Nat.le_succ _).trans hfull, awaiting := hroom }
          · exact h
        · exact h
  · exact h

/-- Besides its choice the transmitter leaves the insert queue and the requests. -/
theorem LoopPort.transmit_queues (l : LoopPort) : l.transmit.requestQ = l.requestQ ∧
    (l.transmit.insertQ.length < l.insertQ.length ∨ l.transmit.insertQ = l.insertQ) := by
  unfold LoopPort.transmit
  split
  · split
    · exact ⟨rfl, .inr rfl⟩
    · exact ⟨rfl, .inr rfl⟩
    · split
      · exact ⟨rfl, .inr rfl⟩
      · split
        · rename_i x rest hq
          split
          · refine ⟨rfl, .inl ?_⟩
            rw [hq, List.length_cons]
            exact Nat.lt_succ_self _
          · exact ⟨rfl, .inr rfl⟩
        · exact ⟨rfl, .inr rfl⟩
  · exact ⟨rfl, .inr rfl⟩

theorem transmitStart_safe (s : State) : SafeKept s (transmitStart s) := by
  obtain ⟨hrequests, hinserted⟩ := s.loop.transmit_queues
  have hsent : Sound s { s with loop := s.loop.transmit } := withLoop_sound fun h => h.transmit
  unfold transmitStart
  dsimp only
  split
  · exact ⟨hsent.trans (offerFor_turn _ _).toSound, fun _ => offer_quiet _⟩
  · rename_i hsame
    exact (CalmKept.withLoop (fun h => h.transmit) (hinserted.resolve_left hsame) hrequests).safe

theorem LoopPort.Bounded.sent {l : LoopPort} (h : l.Bounded) : l.sent.Bounded := by
  have hawaiting := h.awaiting
  unfold LoopPort.sent
  split
  · exact h
  · exact { h with awaiting := (Nat.le_add_right _ _).trans hawaiting }
  · exact { h with awaiting := (Nat.le_add_right _ _).trans hawaiting }
  · exact { h with awaiting := (Nat.le_add_right _ _).trans hawaiting }
  · rename_i x htx
    refine { h with awaiting := ?_ }
    rw [htx] at hawaiting
    simp only [List.length_append, List.length_singleton]
    exact hawaiting

theorem sent_calm (s : State) : CalmKept s { s with loop := s.loop.sent } := by
  refine .withLoop (fun h => h.sent) ?_ ?_ <;> (unfold LoopPort.sent; split <;> rfl)

/-! ### RESTART (R184) -/

theorem LoopPort.Bounded.restart {l : LoopPort} (h : l.Bounded) : l.restart.Bounded :=
  { h with tapped := Nat.zero_le _, requests := Nat.zero_le _, inserted := Nat.zero_le _ }

theorem restartBlocks_sound (s : State) : Sound s (restartBlocks s) := by
  have hchannels : CalmKept s (channelRestart s) := .same rfl
  have hgauges := hchannels.trans (forGauges_calm fun g h => h.restarts (channelRestart s))
  have hwarnings := hgauges.then (u := warningsRestart (tripRestart (gaugeRestart (channelRestart s)))) rfl
  have hdisplay := hwarnings.trans
    (u := displayRestart (warningsRestart (tripRestart (gaugeRestart (channelRestart s)))))
    (.withDisplay fun _ => Nat.zero_le _)
  refine hdisplay.toSound.trans ⟨rfl, fun h => h.restart, fun b => ?_⟩
  exact ⟨b.store, b.gauges, b.loop.restart, Nat.zero_le _, b.packets, Nat.zero_le _⟩

/-- What RESTART leaves waiting is at most the start-up report, which is then placed. -/
theorem restartBlocks_calm (s : State) : (buildStartUp (restartBlocks s)).Calm := by
  have hempty : (restartBlocks s).loop.insertQ = [] := rfl
  cases h : (restartBlocks s).handler.startUp with
  | none =>
    rw [buildStartUp_waits (.inl h)]
    exact ⟨⟨fun _ => rfl, fun _ => h, fun _ => rfl⟩, fun _ => rfl⟩
  | some codes =>
    rw [buildStartUp_places h (by rw [hempty]; decide)]
    exact ⟨⟨fun _ => rfl, fun _ => rfl, fun _ => rfl⟩, fun _ => rfl⟩

theorem restartNow_safe (s : State) : Sound s (restartNow s) ∧ (restartNow s).producerWaits = false := by
  have htaken (t : State) : CalmKept t
      (checkShutdown { rebuild (notifyDisplay false (testGates (evaluateAll t))) with
        display := (rebuild (notifyDisplay false (testGates (evaluateAll t)))).display.fillWants }) :=
    checkShutdown_withDisplay_calm
      ((((evaluateAll_calm t).trans (testGates_calm _)).trans (notifyDisplay_calm false _)).trans (rebuild_calm _))
      (Display.fillWants_queue _)
  have hplaced := buildStartUp_calm (restartBlocks s)
  refine ⟨((restartBlocks_sound s).trans hplaced.toSound).trans (htaken _).toSound, (htaken _).quiet ?_⟩
  exact (restartBlocks_calm s).quiet_of_busy fun _ => hplaced.requests

theorem frameSent_safe (s : State) : SafeKept s (frameSent s) := by
  have hrestarted := restartNow_safe { s with loop := s.loop.sent }
  exact .ite ⟨(sent_calm s).toSound.trans hrestarted.1, fun _ => hrestarted.2⟩ (sent_calm s).safe

/-! ### The supply (R86, R90) -/

theorem LoopPort.initial_bounded (straps : Node) : (LoopPort.initial straps).Bounded :=
  ⟨Nat.zero_le _, Nat.zero_le _, Nat.zero_le _, Nat.zero_le _, Nat.zero_le _, List.nodup_singleton _⟩

theorem powerOn_bounded (straps : Node) {mem : List (Nat × Word)} (queue : List Instr) (h : Memory.wf mem = true) :
    (State.powerOn straps mem queue).Bounded := by
  refine ⟨.initial h, fun i => ?_, LoopPort.initial_bounded straps, Nat.zero_le _, Nat.zero_le _, Nat.zero_le _⟩
  simp only [State.powerOn, Fin.getElem_fin, Vector.getElem_replicate]
  exact ⟨Nat.zero_le _, Nat.zero_le _, nofun⟩

theorem powerOn_quiet (straps : Node) (mem : List (Nat × Word)) (queue : List Instr) :
    (State.powerOn straps mem queue).producerWaits = false := rfl

/-- The words that a reset finds keep the canonical form. -/
theorem wf_atReset {s : State} (h : Memory.wf s.store.mem = true) (held : Word) (raised : List Word) :
    Memory.wf (if s.powered then s.store.afterLoss held raised else s.store.mem) = true := by
  split
  · exact Store.wf_afterLoss _ _ _ h
  · exact h

theorem powerOnNow_safe (straps : Node) (held : Word) (raised : List Word) (s : State) :
    SafeKept s (powerOnNow straps held raised s) :=
  ⟨⟨rfl, fun _ => Chime.initial_consistent, fun b => powerOn_bounded straps _ (wf_atReset b.store.words held raised)⟩,
    fun _ => powerOn_quiet ..⟩

theorem losePower_safe (held : Word) (raised : List Word) (s : State) : SafeKept s (losePower held raised s) := by
  refine .ite ⟨⟨rfl, fun _ => Chime.initial_consistent, fun b => ?_⟩, fun _ => rfl⟩ (.refl s)
  have hon := powerOn_bounded s.loop.node s.pending (Store.wf_afterLoss s.store held raised b.store.words)
  exact ⟨hon.store, hon.gauges, hon.loop, hon.events, hon.packets, hon.chimes⟩

/-! ### Every command -/

/-- A command that acts on a powered part only. -/
theorem SafeKept.live {f : State → State} {s : State} (k : SafeKept s (f s)) :
    ∃ t, Machine.live f s = .next t ∧ SafeKept s t := by
  refine ⟨_, rfl, ?_⟩
  split
  · exact k
  · exact .refl s

theorem bulbExpiry_calm (s : State) : CalmKept s (bulbExpiry s) := .same rfl

theorem settleExpiry_calm (s : State) : CalmKept s (settleExpiry s) := .ite (.same rfl) (.refl s)

theorem linkShutdownSend_calm (s : State) : CalmKept s (linkShutdownSend s) := .ite (.same rfl) (.refl s)

/-- No command ends in a fault or is refused. -/
theorem exec_safe (i : Instr) (s : State) : ∃ t, exec i s = .next t ∧ SafeKept s t := by
  cases i with
  | powerOnReset straps held raised => exact ⟨_, rfl, powerOnNow_safe straps held raised s⟩
  | powerLoss held raised => exact ⟨_, rfl, losePower_safe held raised s⟩
  | loopFrameReceived bytes gap stop => exact (frameReceived_safe bytes gap stop s).live
  | loopTransmitStart => exact (transmitStart_safe s).live
  | loopFrameSent => exact (frameSent_safe s).live
  | returnTimerExpiry => exact (returnExpiry_calm s).safe.live
  | holdListTimerExpiry n => exact (holderExpiry_calm n s).safe.live
  | refreshTimerExpiry =>
    exact SafeKept.live (f := fun t => { t with loop := t.loop.refreshExpiry })
      (CalmKept.withHold s.loop.refreshExpiry_places).safe
  | broadcastTimerExpiry => exact (broadcastExpiry_calm s).safe.live
  | channelTake => exact (channelTake_calm s).safe.live
  | freshnessExpiry c => exact (freshnessExpiry_calm c s).safe.live
  | driveUpdate g => exact (driveUpdate_calm g s).safe.live
  | keySample acc ign start => exact (keySample_calm _ s).safe.live
  | settleTimerExpiry => exact (settleTimerExpiry_calm s).safe.live
  | secondsEvent => exact (secondsEvent_calm s).safe.live
  | bulbCheckExpiry => exact (bulbExpiry_calm s).safe.live
  | presentTimerExpiry w => exact (presentExpiry_calm w s).safe.live
  | remindTimerExpiry w => exact (remindExpiry_calm w s).safe.live
  | toneEnd z =>
    exact SafeKept.live (f := fun t => { t with chime := t.chime.toneEnd z })
      (CalmKept.withChime (fun h => h.toneEnd z) (Chime.toneEnd_queue z)).safe
  | gapEnd z =>
    exact SafeKept.live (f := fun t => { t with chime := t.chime.gapEnd z })
      (CalmKept.withChime (fun h => h.gapEnd z) (Chime.gapEnd_queue z)).safe
  | eraseWindowExpiry => exact (eraseWindowExpiry_calm s).safe.live
  | programEnd worn => exact (storeProgramEnd_calm worn s).safe.live
  | sectorEraseEnd failed raised => exact (sectorEraseEnd_calm failed raised s).safe.live
  | suspensionReached => exact (suspensionReached_calm s).safe.live
  | scanComplete => exact (scanComplete_calm s).safe.live
  | hold2sExpiry => exact (hold2s_calm s).safe.live
  | hold5sExpiry => exact (hold5s_calm s).safe.live
  | notAvailableExpiry => exact (notAvailableExpiry_calm s).safe.live
  | mcOffTimerExpiry => exact (mcOffExpiry_calm s).safe.live
  | dlWakeAsserted => exact (wakeAsserted_calm s).safe.live
  | linkSettleExpiry => exact (settleExpiry_calm s).safe.live
  | linkStartSent => exact (linkStartSent_calm s).safe.live
  | packetDone => exact (packetDone_calm s).safe.live
  | packetSent => exact (packetSent_calm s).safe.live
  | pollTimerExpiry => exact (pollExpiry_calm s).safe.live
  | statusReply bytes => exact (replyTaken_calm bytes s).safe.live
  | replyWindowExpiry => exact (replyWindowExpiry_calm s).safe.live
  | rpIdleTimerExpiry => exact (rpIdleExpiry_calm s).safe.live
  | linkShutdownSend => exact (linkShutdownSend_calm s).safe.live
  | linkShutdownSent => exact (linkShutdownSent_calm s).safe.live
  | quietTimerExpiry => exact (quietExpiry_calm s).safe.live
  | heldResponsePlaced => exact (placeHeld_safe s).live
  | eventFrameBuild => exact (buildEvent_calm s).safe.live
  | startUpReport => exact (buildStartUp_calm s).safe.live
  | dumpFrameBuild => exact (buildDump_calm s).safe.live
  | restartEffect => exact SafeKept.live (f := restartSent) (.ite (frameSent_safe s) (.refl s))
  | _ => exact (arrive_safe _ s).live

/-- A step answers a next state, which is as safe and as consistent as the one before. -/
theorem step_safe (s : State) : ∃ t, step s = .next t ∧ (s.chime.Consistent → t.chime.Consistent) ∧
    (s.safe = true → t.safe = true) := by
  have hkept {r t : State} (k : SafeKept r t) (h : r.safe = true) : t.safe = true := by
    obtain ⟨hbounded, hquiet⟩ := r.safe_iff.mp h
    exact t.safe_iff.mpr ⟨k.bounded hbounded, k.quiet hquiet⟩
  cases hq : s.pending with
  | nil =>
    have k := (idleMillisecond_calm s).safe
    exact ⟨_, step_idle hq, k.chime, fun h => hkept k h⟩
  | cons c rest =>
    obtain ⟨t, ht, k⟩ := exec_safe c { s with pending := rest }
    refine ⟨t, ?_, k.chime, fun h => hkept k (show State.safe { s with pending := rest } = true from h)⟩
    simp only [step, hq, ht]

/-- Settles O41: every step keeps the Chime Generator consistent. -/
theorem chimeQueueStaysConsistent : Obligations.ChimeQueueStaysConsistent := by
  intro s t hs ht
  obtain ⟨u, hu, hchime, _⟩ := step_safe s
  rw [hu] at ht
  cases ht
  exact t.chime.consistent_iff.mpr (hchime (s.chime.consistent_iff.mp hs))

/-- Settles O60: every step of a safe state answers a safe one. -/
theorem safeStatesStaySafe : Obligations.SafeStatesStaySafe := by
  intro s hs
  obtain ⟨t, ht, _, hsafe⟩ := step_safe s
  rw [ht]
  exact hsafe hs

/-- Settles O59: after a reset the bounds hold, nothing waits, and the Chime Generator is consistent. -/
theorem resetIsSafeAndConsistent : Obligations.ResetIsSafeAndConsistent := by
  have hsafe (straps : Node) {mem : List (Nat × Word)} (queue : List Instr) (h : Memory.wf mem = true) :
      (State.powerOn straps mem queue).safe = true :=
    (State.safe_iff _).mpr ⟨powerOn_bounded straps queue h, powerOn_quiet ..⟩
  have hchime := Chime.initial.consistent_iff.mpr Chime.initial_consistent
  exact ⟨hsafe 0 [] rfl, hchime, fun straps held raised s hs => ⟨_, rfl, hsafe straps _ (wf_atReset hs held raised), hchime⟩⟩

/-- Settles O56: a step runs the front command, and an empty queue lets a millisecond pass. -/
theorem stepRunsTheFrontCommand : Obligations.StepRunsTheFrontCommand := by
  intro c s
  refine ⟨step_cons c s, fun t ht => ?_, fun hq => ⟨_, step_idle hq, ?_, ?_⟩⟩
  · obtain ⟨u, hu, k⟩ := exec_safe c s
    rw [hu] at ht
    cases ht
    exact k.pending
  · exact (idleMillisecond_calm s).pending.trans hq
  · unfold idleMillisecond
    split <;> rfl

end Sys2Proof.Machine
end


section
/-! PROOF. The Service Reminder (chapter 5): an evaluation item by item, the most urgent item, the requests of an item, and
the service reset. -/

namespace Sys2Proof.Machine

/-! ### The most urgent item (R99) -/

section Urgent

theorem Stage.code_injective : Function.Injective Stage.code := by
  intro a b
  cases a <;> cases b <;> decide

theorem Stage.one_le_code_iff (x : Stage) : 1 ≤ x.code ↔ x ≠ .notDue := by
  cases x <;> decide

/-- An item that R99 lets stand as urgent: enabled, with a stage from ADVANCE on. -/
def State.Due (s : State) (i : Fin 8) : Prop :=
  (s.service.items[i]).enabled = true ∧ (s.service.items[i]).stage ≠ .notDue

/-- Of two items the first is the more urgent: the higher stage, and the lower number between equals. -/
def State.Outdoes (s : State) (i j : Fin 8) : Prop :=
  (s.service.items[j]).stage.code < (s.service.items[i]).stage.code ∨
    ((s.service.items[j]).stage = (s.service.items[i]).stage ∧ i.val < j.val)

/-- `best` is the most urgent of the items in `l`, if any of them is due. -/
def State.MostUrgentOf (s : State) (l : List (Fin 8)) : Option (Fin 8) → Prop
  | none => ∀ j ∈ l, ¬ s.Due j
  | some i => i ∈ l ∧ s.Due i ∧ ∀ j ∈ l, s.Due j → j ≠ i → s.Outdoes i j

variable {s : State}

theorem State.Outdoes.asymm {i j : Fin 8} (h : s.Outdoes i j) : ¬ s.Outdoes j i := by
  rintro (hlt | ⟨heq, hlt⟩) <;> rcases h with hlt' | ⟨heq', hlt'⟩
  · omega
  · rw [heq'] at hlt
    omega
  · rw [heq] at hlt'
    omega
  · omega

/-- One more item, of a number above those seen. -/
theorem State.MostUrgentOf.snoc {l : List (Fin 8)} {best : Option (Fin 8)} {k : Fin 8} (h : s.MostUrgentOf l best)
    (hk : ∀ j ∈ l, j < k) : s.MostUrgentOf (l ++ [k]) (moreUrgent s best k) := by
  have hdue : ((s.service.items[k]).enabled = true ∧ 1 ≤ (s.service.items[k]).stage.code) ↔ s.Due k :=
    and_congr_right fun _ => Stage.one_le_code_iff _
  have hlast : k ∈ l ++ [k] := List.mem_append_right _ (List.mem_singleton.mpr rfl)
  unfold moreUrgent
  by_cases hd : s.Due k
  · simp only [if_pos (hdue.mpr hd)]
    cases best with
    | none =>
      refine ⟨hlast, hd, fun j hj hdj hne => ?_⟩
      rcases List.mem_append.mp hj with hj | hj
      · exact absurd hdj (h j hj)
      · exact absurd (List.mem_singleton.mp hj) hne
    | some b =>
      obtain ⟨hb, hdb, hout⟩ := h
      dsimp only
      split
      · rename_i hlt
        refine ⟨hlast, hd, fun j hj hdj hne => ?_⟩
        rcases List.mem_append.mp hj with hj | hj
        · by_cases hjb : j = b
          · rw [hjb]
            exact .inl hlt
          · rcases hout j hj hdj hjb with hj | ⟨hj, _⟩
            · exact .inl (hj.trans hlt)
            · exact .inl (by rwa [hj])
        · exact absurd (List.mem_singleton.mp hj) hne
      · rename_i hge
        refine ⟨List.mem_append_left _ hb, hdb, fun j hj hdj hne => ?_⟩
        rcases List.mem_append.mp hj with hj | hj
        · exact hout j hj hdj hne
        · rw [List.mem_singleton.mp hj]
          rcases Nat.lt_or_eq_of_le (Nat.le_of_not_lt hge) with hlt | heq
          · exact .inl hlt
          · exact .inr ⟨Stage.code_injective heq, hk b hb⟩
  · simp only [if_neg (mt hdue.mp hd)]
    cases best with
    | none =>
      intro j hj
      rcases List.mem_append.mp hj with hj | hj
      · exact h j hj
      · rwa [List.mem_singleton.mp hj]
    | some b =>
      obtain ⟨hb, hdb, hout⟩ := h
      refine ⟨List.mem_append_left _ hb, hdb, fun j hj hdj hne => ?_⟩
      rcases List.mem_append.mp hj with hj | hj
      · exact hout j hj hdj hne
      · rw [List.mem_singleton.mp hj] at hdj
        exact absurd hdj hd

theorem State.MostUrgentOf.foldl {l done : List (Fin 8)} {best : Option (Fin 8)} (h : s.MostUrgentOf done best)
    (hsorted : (done ++ l).Pairwise (· < ·)) : s.MostUrgentOf (done ++ l) (l.foldl (moreUrgent s) best) := by
  induction l generalizing done best with
  | nil => rwa [List.append_nil]
  | cons k l ih =>
    have hbelow : ∀ j ∈ done, j < k := fun j hj =>
      (List.pairwise_append.mp hsorted).2.2 j hj k List.mem_cons_self
    have hnext := ih (h.snoc hbelow) (by rwa [List.append_assoc])
    rwa [List.append_assoc] at hnext

theorem State.mostUrgent_mostUrgentOf (s : State) : s.MostUrgentOf (List.finRange 8) s.mostUrgent :=
  State.MostUrgentOf.foldl (done := []) (best := none) (fun _ h => absurd h List.not_mem_nil)
    (List.pairwise_lt_finRange 8)

/-- The most urgent item is the one that outdoes every other that is due. -/
theorem State.mostUrgent_eq_some_iff {i : Fin 8} :
    s.mostUrgent = some i ↔ s.Due i ∧ ∀ j, s.Due j → j ≠ i → s.Outdoes i j := by
  have hmost := s.mostUrgent_mostUrgentOf
  constructor
  · intro h
    rw [h] at hmost
    obtain ⟨_, hdue, hout⟩ := hmost
    exact ⟨hdue, fun j => hout j (List.mem_finRange j)⟩
  · rintro ⟨hdue, hout⟩
    cases hm : s.mostUrgent with
    | none =>
      rw [hm] at hmost
      exact absurd hdue (hmost i (List.mem_finRange i))
    | some b =>
      rw [hm] at hmost
      obtain ⟨_, hdb, hbest⟩ := hmost
      by_cases hne : b = i
      · rw [hne]
      · exact absurd (hout b hdb hne) (hbest i (List.mem_finRange i) hdue (Ne.symm hne)).asymm

end Urgent

/-! ### An evaluation (R96 to R99) -/

section Evaluation

/-- An enabled item with the figures and the stage that the state gives it. -/
def State.figured (s : State) (it : ServiceItem) : ServiceItem :=
  let km := remainingKm it s.shown
  let days := remainingDays it s.key.valid s.key.day
  { it with stage := stageOf it km days, remainingKm := km, remainingDays := days }

/-- An item as an evaluation leaves it: a disabled one stays. -/
def State.evaluated (s : State) (it : ServiceItem) : ServiceItem := if it.enabled then s.figured it else it

variable {s t : State} {i : Fin 8}

theorem remainingKm_none {it : ServiceItem} {shown : Option Nat}
    (h : it.intervalKm = 0 ∨ it.record = none ∨ shown = none) : remainingKm it shown = none := by
  unfold remainingKm
  split
  · rename_i hrecord
    rcases h with h | h | h
    · exact if_pos h
    · rw [hrecord] at h
      cases h
    · cases h
  · rfl

theorem remainingKm_some {it : ServiceItem} {o d C : Nat} (hkm : it.intervalKm ≠ 0) (hrecord : it.record = some (o, d)) :
    remainingKm it (some C) = some (((o : Int) + it.intervalKm * 10 - C) / 10) := by
  simp only [remainingKm, hrecord, if_neg hkm, Int.fdiv_eq_ediv_of_nonneg _ (show (0 : Int) ≤ 10 by decide)]

theorem remainingDays_none {it : ServiceItem} {valid : Bool} {today : Nat}
    (h : it.intervalDays = 0 ∨ it.record = none ∨ valid = false) : remainingDays it valid today = none := by
  unfold remainingDays
  split
  · rename_i hrecord
    rcases h with h | h | h
    · exact if_pos (.inl h)
    · rw [hrecord] at h
      cases h
    · exact if_pos (.inr h)
  · rfl

theorem remainingDays_some {it : ServiceItem} {o d today : Nat} (hdays : it.intervalDays ≠ 0)
    (hrecord : it.record = some (o, d)) :
    remainingDays it true today = some ((d : Int) + it.intervalDays - today) := by
  simp [remainingDays, hrecord, hdays]

theorem atOrBelow_iff {r : Option Int} {b : Int} : atOrBelow r b = true ↔ ∃ v, r = some v ∧ v ≤ b := by
  cases r <;> simp [atOrBelow]

theorem State.shown_none (h : s.odometer.valid = false) : s.shown = none := by
  simp [State.shown, h]

theorem noteStage_same (x : Stage) (s : State) : noteStage i x x s = s := if_pos rfl

theorem noteStage_changed {old new : Stage} (h : old ≠ new) (s : State) :
    noteStage i old new s = stageNotice (warnStage i (report (.stage i old new) s)) := if_neg h

theorem evaluateItem_disabled (h : (s.service.items[i]).enabled = false) : evaluateItem i s = s := by
  unfold evaluateItem
  exact if_neg (Bool.eq_false_iff.mp h)

theorem evaluateItem_enabled (h : (s.service.items[i]).enabled = true) : evaluateItem i s =
    noteStage i (s.service.items[i]).stage (s.figured s.service.items[i]).stage
      (s.setItem i (s.figured s.service.items[i])) := by
  unfold evaluateItem
  exact if_pos h

theorem evaluateItem_service (i : Fin 8) (s : State) : (evaluateItem i s).service =
    (s.setItem i (s.evaluated s.service.items[i])).service := by
  cases he : (s.service.items[i]).enabled with
  | false =>
    rw [evaluateItem_disabled he, State.evaluated, if_neg (Bool.eq_false_iff.mp he)]
    simp
  | true =>
    rw [evaluateItem_enabled he, State.evaluated, if_pos he]
    exact (noteStage_sameReading i _ _ _).service

theorem evaluateItem_get (i j : Fin 8) (s : State) : (evaluateItem i s).service.items[j] =
    if i = j then s.evaluated s.service.items[i] else s.service.items[j] := by
  rw [evaluateItem_service, State.setItem_get]

/-- An evaluation reads the shown value, the key and the clock, and what it computes it leaves alone. -/
theorem State.evaluated_evaluated (ho : t.odometer = s.odometer) (hk : t.key = s.key) (it : ServiceItem) :
    t.evaluated (s.evaluated it) = s.evaluated it := by
  have hshown : t.shown = s.shown := by simp only [State.shown, ho]
  cases he : it.enabled with
  | false => simp [State.evaluated, he]
  | true =>
    simp only [State.evaluated, State.figured, he, if_true, hshown, hk]
    rfl

theorem State.evaluated_congr (ho : t.odometer = s.odometer) (hk : t.key = s.key) : t.evaluated = s.evaluated := by
  have hshown : t.shown = s.shown := by simp only [State.shown, ho]
  funext it
  simp only [State.evaluated, State.figured, hshown, hk]

theorem foldl_evaluateItem_get {l : List (Fin 8)} (ho : t.odometer = s.odometer) (hk : t.key = s.key)
    (h : t.service.items[i] = s.evaluated s.service.items[i] ∨ (i ∈ l ∧ t.service.items[i] = s.service.items[i])) :
    (l.foldl (fun t j => evaluateItem j t) t).service.items[i] = s.evaluated s.service.items[i] := by
  induction l generalizing t with
  | nil => exact h.resolve_right fun h => List.not_mem_nil h.1
  | cons j l ih =>
    refine ih ((evaluateItem_apart j t).odometer.trans ho) ((evaluateItem_kept j t).key.trans hk) ?_
    rw [evaluateItem_get, State.evaluated_congr ho hk]
    by_cases hji : j = i
    · subst hji
      rw [if_pos rfl]
      rcases h with h | ⟨_, h⟩
      · exact .inl (by rw [h, State.evaluated_evaluated rfl rfl])
      · exact .inl (by rw [h])
    · rw [if_neg hji]
      exact h.imp id fun h => ⟨(List.mem_cons.mp h.1).resolve_left (Ne.symm hji), h.2⟩

/-- An evaluation of all items gives each the figures and the stage of the one state. -/
theorem evaluateAll_get (i : Fin 8) (s : State) :
    (evaluateAll s).service.items[i] = s.evaluated s.service.items[i] := by
  unfold evaluateAll
  exact foldl_evaluateItem_get rfl rfl (.inr ⟨List.mem_finRange i, rfl⟩)

theorem WarnFrame.gauges {s t : State} (h : WarnFrame s t) : t.gauges = s.gauges := by rw [h.rest]

theorem stageNotice_gauges (s : State) : (stageNotice s).gauges = s.gauges := rfl

theorem noteStage_gauges (i : Fin 8) (old new : Stage) (s : State) : (noteStage i old new s).gauges = s.gauges := by
  unfold noteStage
  split
  · rfl
  · exact (stageNotice_gauges _).trans ((report_frame _ s).trans (warnStage_frame i _)).gauges

theorem evaluateItem_gauges (i : Fin 8) (s : State) : (evaluateItem i s).gauges = s.gauges := by
  unfold evaluateItem
  dsimp only
  split
  · exact noteStage_gauges ..
  · rfl

theorem evaluateAll_gauges (s : State) : (evaluateAll s).gauges = s.gauges := by
  unfold evaluateAll
  generalize List.finRange 8 = items
  induction items generalizing s with
  | nil => rfl
  | cons i items ih => exact (ih _).trans (evaluateItem_gauges i s)

end Evaluation

/-- What R96 to R98 say of the figures and the stage of an enabled item. -/
def State.FiguresBy (s : State) (it it' : ServiceItem) : Prop :=
  ((it.intervalKm = 0 ∨ it.record = none ∨ s.odometer.valid = false) → it'.remainingKm = none) ∧
  (∀ o d C, it.intervalKm ≠ 0 → it.record = some (o, d) → s.shown = some C →
    ∃ r : Int, it'.remainingKm = some r ∧ 10 * r ≤ (o : Int) + it.intervalKm * 10 - C ∧
      (o : Int) + it.intervalKm * 10 - C < 10 * r + 10) ∧
  ((it.intervalDays = 0 ∨ it.record = none ∨ s.key.valid = false) → it'.remainingDays = none) ∧
  (∀ o d, it.intervalDays ≠ 0 → it.record = some (o, d) → s.key.valid = true →
    it'.remainingDays = some ((d : Int) + it.intervalDays - s.key.day)) ∧
  (let below (b : Int) (c : Int) := (∃ r, it'.remainingKm = some r ∧ r ≤ b) ∨ (∃ r, it'.remainingDays = some r ∧ r ≤ c)
   (it.record = none → it'.stage = .due) ∧
   (it.record ≠ none → below (-it.overdueKm) (-it.overdueDays) → it'.stage = .overdue) ∧
   (it.record ≠ none → ¬ below (-it.overdueKm) (-it.overdueDays) → below 0 0 → it'.stage = .due) ∧
   (it.record ≠ none → ¬ below (-it.overdueKm) (-it.overdueDays) → ¬ below 0 0 →
     below it.advanceKm it.advanceDays → it'.stage = .advance) ∧
   (it.record ≠ none → ¬ below (-it.overdueKm) (-it.overdueDays) → ¬ below 0 0 →
     ¬ below it.advanceKm it.advanceDays → it'.stage = .notDue))

theorem State.figured_figuresBy (s : State) (it : ServiceItem) : s.FiguresBy it (s.figured it) := by
  have hbelow (b c : Int) : (atOrBelow (s.figured it).remainingKm b || atOrBelow (s.figured it).remainingDays c) = true ↔
      (∃ r, (s.figured it).remainingKm = some r ∧ r ≤ b) ∨ (∃ r, (s.figured it).remainingDays = some r ∧ r ≤ c) := by
    rw [Bool.or_eq_true, atOrBelow_iff, atOrBelow_iff]
  have hstage : (s.figured it).stage = stageOf it (s.figured it).remainingKm (s.figured it).remainingDays := rfl
  refine ⟨fun h => ?_, fun o d C hkm hrecord hC => ?_, fun h => ?_, fun o d hdays hrecord hvalid => ?_, ?_⟩
  · exact remainingKm_none (h.imp id (Or.imp id State.shown_none))
  · have hr : (s.figured it).remainingKm = some (((o : Int) + it.intervalKm * 10 - C) / 10) := by
      rw [← remainingKm_some hkm hrecord, ← hC]
      rfl
    exact ⟨_, hr, by omega, by omega⟩
  · exact remainingDays_none h
  · rw [← remainingDays_some hdays hrecord, ← hvalid]
    rfl
  · rw [hstage, stageOf]
    refine ⟨fun h => if_pos h, fun h ho => ?_, fun h ho hd => ?_, fun h ho hd ha => ?_, fun h ho hd ha => ?_⟩ <;>
      rw [if_neg h]
    · rw [if_pos ((hbelow _ _).mpr ho)]
    · rw [if_neg (mt (hbelow _ _).mp ho), if_pos ((hbelow _ _).mpr hd)]
    · rw [if_neg (mt (hbelow _ _).mp ho), if_neg (mt (hbelow _ _).mp hd), if_pos ((hbelow _ _).mpr ha)]
    · rw [if_neg (mt (hbelow _ _).mp ho), if_neg (mt (hbelow _ _).mp hd), if_neg (mt (hbelow _ _).mp ha)]

/-- Settles O30: the evaluated item is the one with the state's figures, and its stage change is the notice. -/
theorem evaluationGivesTheStage : Obligations.EvaluationGivesTheStage := by
  refine ⟨?_, ?_, ?_, ?_⟩
  · intro i s it
    refine ⟨evaluateItem_disabled, fun he => ?_⟩
    refine ⟨s.figured it, s.figured_figuresBy it, rfl, fun h => ?_, fun h => ?_, ?_⟩
    · rw [evaluateItem_enabled he]
      exact (congrArg (fun x => noteStage i it.stage x _) h).trans (noteStage_same _ _)
    · rw [evaluateItem_enabled he]
      exact noteStage_changed (Ne.symm h) _
    · rw [evaluateItem_get, if_pos rfl, State.evaluated, if_pos he]
  · intro s i it it'
    have hget : it' = s.evaluated it := evaluateAll_get i s
    have k := evaluateAll_apart s
    refine ⟨fun he => ?_, fun he => ?_, k.odometer, (evaluateAll_kept s).key, k.store, evaluateAll_trip s,
      evaluateAll_gauges s⟩
    · rw [hget, State.evaluated, if_neg (Bool.eq_false_iff.mp he)]
    · rw [hget, State.evaluated, if_pos he]
      exact s.figured_figuresBy it
  · intro s i
    refine ⟨rfl, rfl, fun hpage hnone => ?_, fun h => ?_⟩
    · simp only [stageNotice, if_pos (And.intro hpage hnone)]
    · have hstay : ¬ (s.display.page = 6 ∧ s.mostUrgent = none) := fun hboth => h.elim (· hboth.1) (· hboth.2)
      simp only [stageNotice, if_neg hstay]
  · intro s i stands
    exact State.mostUrgent_eq_some_iff

/-! ### The requests of an item (R93, R94) -/

section Items
variable {item message : Byte} {intervalKm intervalDays advanceKm overdueKm : Word} {days : BitVec 24}

/-- An item with the fields that WRITE SERVICE ITEM gives it. -/
def ServiceItem.loaded (it : ServiceItem) (message : Option (Fin 64)) (intervalKm intervalDays advanceKm overdueKm : Word)
    (days : BitVec 24) : ServiceItem :=
  { it with written := true, message := message, intervalKm := intervalKm.toNat, intervalDays := intervalDays.toNat,
            advanceKm := advanceKm.toNat, advanceDays := days.toNat / 4096, overdueKm := overdueKm.toNat,
            overdueDays := days.toNat % 4096 }

theorem serviceFields_none {it : ServiceItem}
    (h : ¬ ((message = 0xFF ∨ message.toNat ≤ 63) ∧ intervalDays.toNat ≤ 1095 ∧ days.toNat / 4096 ≤ 365 ∧
      days.toNat % 4096 ≤ 365 ∧ ¬ (intervalKm = 0 ∧ intervalDays = 0))) :
    serviceFields it message intervalKm intervalDays advanceKm overdueKm days = none := by
  unfold serviceFields
  split
  · rfl
  · rename_i m hm
    have hmessage : message = 0xFF ∨ message.toNat ≤ 63 :=
      (choice?_exists.mp ⟨m, hm⟩).imp id Nat.le_of_lt_succ
    exact if_neg fun hrest => h ⟨hmessage, hrest⟩

theorem serviceFields_some (it : ServiceItem)
    (h : (message = 0xFF ∨ message.toNat ≤ 63) ∧ intervalDays.toNat ≤ 1095 ∧ days.toNat / 4096 ≤ 365 ∧
      days.toNat % 4096 ≤ 365 ∧ ¬ (intervalKm = 0 ∧ intervalDays = 0)) :
    ∃ m : Option (Fin 64), encChoice (m.map Fin.val) = [message] ∧
      serviceFields it message intervalKm intervalDays advanceKm overdueKm days =
        some (it.loaded m intervalKm intervalDays advanceKm overdueKm days) := by
  obtain ⟨hmessage, hrest⟩ := h
  obtain ⟨m, hm⟩ := choice?_exists.mpr (hmessage.imp id Nat.lt_succ_of_le)
  refine ⟨m, encChoice_of_choice? hm, ?_⟩
  simp only [serviceFields, hm]
  exact if_pos hrest

variable {s : State} {i : Fin 8}

theorem reqWriteServiceItem_outside (h : 8 ≤ item.toNat) :
    reqWriteServiceItem item message intervalKm intervalDays advanceKm overdueKm days s = refuse .badArgument s := by
  simp only [reqWriteServiceItem, fin?_none h]

theorem reqWriteServiceItem_inside (h : item.toNat = i.val) :
    reqWriteServiceItem item message intervalKm intervalDays advanceKm overdueKm days s =
      match serviceFields s.service.items[i] message intervalKm intervalDays advanceKm overdueKm days with
      | none => refuse .badArgument s
      | some it => (evaluateItem i (s.setItem i it), .done) := by
  simp only [reqWriteServiceItem, fin?_some i h] <;> rfl

theorem reqEnableServiceItem_outside (h : 8 ≤ item.toNat) : reqEnableServiceItem item s = refuse .badArgument s := by
  simp only [reqEnableServiceItem, fin?_none h]

theorem reqEnableServiceItem_inside (h : item.toNat = i.val) : reqEnableServiceItem item s =
    if (s.service.items[i]).written = false then refuse .invalidState s
    else if (s.service.items[i]).enabled then (s, .done)
    else (evaluateItem i (s.setItem i { s.service.items[i] with enabled := true }), .done) := by
  unfold reqEnableServiceItem
  rw [fin?_some i h]

theorem reqDisableServiceItem_outside (h : 8 ≤ item.toNat) : reqDisableServiceItem item s = refuse .badArgument s := by
  simp only [reqDisableServiceItem, fin?_none h]

theorem reqDisableServiceItem_inside (h : item.toNat = i.val) : reqDisableServiceItem item s =
    if (s.service.items[i]).enabled then
      (noteStage i (s.service.items[i]).stage .notDue
        (s.setItem i { s.service.items[i] with enabled := false, stage := .notDue, remainingKm := none,
                                               remainingDays := none }), .done)
    else (s, .done) := by
  unfold reqDisableServiceItem
  rw [fin?_some i h]

end Items

/-- Settles O29: the checks of the three requests in their order, each with the answer of its case. -/
theorem serviceItemRequestsByTheirChecks : Obligations.ServiceItemRequestsByTheirChecks := by
  intro h item s ht
  have henable : exec (.enableServiceItem h item) s = .next (respond h 0x51 false (reqEnableServiceItem item s)) :=
    exec_taken nofun rfl ht
  have hdisable : exec (.disableServiceItem h item) s = .next (respond h 0x52 false (reqDisableServiceItem item s)) :=
    exec_taken nofun rfl ht
  refine ⟨?_, ?_, ?_⟩
  · intro message intervalKm intervalDays advanceKm overdueKm days run inRange
    have hrun : run = .next (respond h 0x50 false
        (reqWriteServiceItem item message intervalKm intervalDays advanceKm overdueKm days s)) := exec_taken nofun rfl ht
    refine ⟨fun ho => taken_refused hrun (reqWriteServiceItem_outside ho), fun i hi => ⟨fun hout => ?_, fun hin => ?_⟩⟩
    · exact taken_refused hrun (by rw [reqWriteServiceItem_inside hi, serviceFields_none hout])
    · obtain ⟨m, hm, hfields⟩ := serviceFields_some (advanceKm := advanceKm) (overdueKm := overdueKm)
        s.service.items[i] hin
      refine ⟨(s.service.items[i]).loaded m intervalKm intervalDays advanceKm overdueKm days, rfl, hm, rfl, rfl, rfl, rfl, rfl,
        rfl, rfl, rfl, rfl, rfl, rfl, fun he => ?_, fun _ => ?_⟩
      · refine taken_done hrun ?_
        rw [reqWriteServiceItem_inside hi, hfields]
        dsimp only
        rw [evaluateItem_disabled]
        rwa [State.setItem_get, if_pos rfl]
      · exact taken_done hrun (by rw [reqWriteServiceItem_inside hi, hfields])
  · exact fun ho => ⟨taken_refused henable (reqEnableServiceItem_outside ho),
      taken_refused hdisable (reqDisableServiceItem_outside ho)⟩
  · intro i hi it off
    have hon := reqEnableServiceItem_inside (s := s) hi
    have hoff := reqDisableServiceItem_inside (s := s) hi
    refine ⟨fun hw => ?_, fun hw he => ?_, fun hw he => ?_, fun he => ?_, fun he hstage => ?_, fun he hstage => ?_⟩
    · exact taken_refused henable (by rw [hon, if_pos hw])
    · exact taken_done henable (by rw [hon, if_neg (ne_false_of_eq_true hw), if_pos he])
    · exact taken_done henable (by rw [hon, if_neg (ne_false_of_eq_true hw), if_neg (Bool.eq_false_iff.mp he)])
    · exact taken_done hdisable (by rw [hoff, if_neg (Bool.eq_false_iff.mp he)])
    · refine taken_done hdisable ?_
      rw [hoff, if_pos he]
      exact congrArg (·, Answer.done) ((congrArg (fun x => noteStage i x .notDue off) hstage).trans (noteStage_same _ _))
    · exact taken_done hdisable (by rw [hoff, if_pos he, noteStage_changed hstage])


/-! ### The service reset (R100, R101) -/

section Reset
variable {s : State} {i : Fin 8}

theorem State.standing_iff : s.standing = true ↔ s.roadSpeed = some 0 := by
  unfold State.standing
  split <;> simp [*]

/-- The conditions of a service reset in the words of R100. -/
theorem State.mayReset_iff : s.mayReset i = true ↔ s.key.state = .run ∧
    (∃ t, s.trip.setup = some t ∧ (s.channels[t.speed]).state = .fresh ∧ (s.channels[t.speed]).value = some 0) ∧
    s.odometer.valid = true ∧ ((s.service.items[i]).intervalDays ≠ 0 → s.key.valid = true) := by
  rw [← State.roadSpeed_eq_some, ← State.standing_iff, ← or_iff_not_imp_left]
  simp only [State.mayReset, Bool.and_eq_true, Bool.or_eq_true, decide_eq_true_eq, and_assoc]

/-- The day that a service reset records (R100). -/
theorem State.resetDay_eq {day : Nat} (hvalid : s.key.valid = true → day = s.key.day)
    (hinvalid : s.key.valid = false → (∀ o d, (s.service.items[i]).record = some (o, d) → day = d) ∧
      ((s.service.items[i]).record = none → day = 0)) : s.resetDay i = day := by
  unfold State.resetDay
  cases hv : s.key.valid with
  | true => exact (hvalid hv).symm
  | false =>
    obtain ⟨hsome, hnone⟩ := hinvalid hv
    cases hr : (s.service.items[i]).record with
    | none => exact (hnone hr).symm
    | some r => exact (hsome r.1 r.2 hr).symm

/-- A service reset with its figures known. -/
theorem takeServiceReset_eq {src : ResetSource} {C day : Nat} (hC : s.shown = some C) (hday : s.resetDay i = day) :
    takeServiceReset i src s = askServiceSave (report (.serviceReset i src C day)
      (evaluateAll (s.setItem i { s.service.items[i] with record := some (C, day) }))) := by
  unfold takeServiceReset
  rw [hC, hday]
  rfl

theorem reqServiceReset_outside {item : Byte} (h : 8 ≤ item.toNat) : reqServiceReset item s = refuse .badArgument s := by
  simp only [reqServiceReset, fin?_none h]

theorem reqServiceReset_inside {item : Byte} (h : item.toNat = i.val) : reqServiceReset item s =
    if (s.service.items[i]).enabled ∧ s.mayReset i then (settle (takeServiceReset i .request s), .done)
    else refuse .invalidState s := by
  unfold reqServiceReset
  rw [fin?_some i h]

theorem hold5s_none (h : s.display.press = none) : hold5s s = s := by
  simp only [hold5s, h]

theorem hold5s_waits {p : Press} (h : s.display.press = some p) (hw : p.state ≠ .long ∨ p.timer5 = none) :
    hold5s s = s := by
  have hrun : ¬ (p.state = .long ∧ p.timer5.isSome = true) := by
    rintro ⟨hlong, htimer⟩
    rcases hw with hw | hw
    · exact hw hlong
    · rw [hw] at htimer
      cases htimer
  simp only [hold5s, h, if_neg hrun]

/-- The 5 s expiry of a LONG record stops its timer, and on the page of a due item asks for the reset. -/
theorem hold5s_long {p : Press} (h : s.display.press = some p) (hl : p.state = .long) (ht : p.timer5.isSome = true) :
    hold5s s =
      match s.mostUrgent with
      | some i => if p.page = 6 then
          buttonServiceReset i { s with display := { s.display with press := some { p with timer5 := none } } }
        else { s with display := { s.display with press := some { p with timer5 := none } } }
      | none => { s with display := { s.display with press := some { p with timer5 := none } } } := by
  simp only [hold5s, h]
  exact if_pos ⟨hl, ht⟩

theorem setSys_service (k : SysCond) (b : Bool) (s : State) : (setSys k b s).service = s.service :=
  ((sameReading_warnings _ s).trans (setSys_frame k b s).sameReading).service

end Reset

/-- Settles O31: a reset that is taken is the record, the evaluation, its event and the request of a save. -/
theorem serviceResetOnlyStandingInRun : Obligations.ServiceResetOnlyStandingInRun := by
  have htake {s : State} {i : Fin 8} {C day : Nat} (src : ResetSource) (hC : s.shown = some C)
      (hday : (s.key.valid = true → day = s.key.day) ∧
        (s.key.valid = false → (∀ o d, (s.service.items[i]).record = some (o, d) → day = d) ∧
          ((s.service.items[i]).record = none → day = 0))) :=
    takeServiceReset_eq (src := src) hC (State.resetDay_eq hday.1 hday.2)
  refine ⟨?_, ?_, ?_, ?_⟩
  · intro h item s ht run
    have hrun : run = .next (respond h 0x54 false (reqServiceReset item s)) := exec_taken nofun rfl ht
    refine ⟨fun ho => taken_refused hrun (reqServiceReset_outside ho), fun i hi => ⟨fun hnot => ?_, ?_⟩⟩
    · refine taken_refused hrun ((reqServiceReset_inside hi).trans (if_neg ?_))
      rintro ⟨he, hmay⟩
      rcases hnot with hoff | hmaynot
      · rw [he] at hoff
        cases hoff
      · exact hmaynot (State.mayReset_iff.mp hmay)
    · intro C day he hmay hC hday
      refine taken_done hrun ?_
      rw [reqServiceReset_inside hi, if_pos ⟨he, State.mayReset_iff.mpr hmay⟩, htake .request hC hday]
      rfl
  · intro s p i hp hpress hlong htimer hpage hurgent u
    have hrun : exec .hold5sExpiry s = .next (buttonServiceReset i u) := by
      refine (live_powered hold5s s hp).trans ?_
      rw [hold5s_long hpress hlong htimer, hurgent]
      exact congrArg _ (if_pos hpage)
    refine ⟨fun hnot => hrun.trans ?_, fun C day hmay hC hday => hrun.trans ?_⟩
    · exact congrArg _ (if_neg (mt State.mayReset_iff.mp hnot))
    · refine congrArg _ ((if_pos (State.mayReset_iff (s := u).mpr hmay)).trans ?_)
      rw [htake (s := u) .button hC hday]
      rfl
  · intro s hp
    have hrun : exec .hold5sExpiry s = .next (hold5s s) := live_powered hold5s s hp
    refine ⟨fun hnone => hrun.trans (congrArg _ (hold5s_none hnone)), fun p hpress => ⟨fun hw => ?_, ?_⟩⟩
    · exact hrun.trans (congrArg _ (hold5s_waits hpress hw))
    · intro hlong htimer hother
      refine hrun.trans (congrArg _ ?_)
      rw [hold5s_long hpress hlong htimer]
      split
      · rename_i i hi
        exact if_neg (hother.resolve_right (Option.ne_none_iff_isSome.mpr (by rw [hi]; rfl)))
      · rfl
  · intro ok s u
    have hservice : u.service = { s.service with saveFault := !ok } := setSys_service _ _ _
    have hend : serviceSaveEnd ok s =
        if u.service.saveAgain then
          requestSave .service u.serviceImage { u with service := { u.service with saveAgain := false } }
        else { u with service := { u.service with saving := false } } := rfl
    rw [hend]
    refine ⟨fun hagain => ?_, fun hagain => ?_⟩
    · rw [if_pos (by rw [hservice]; exact hagain), State.serviceImage, hservice]
    · rw [if_neg (by rw [hservice]; exact Bool.eq_false_iff.mp hagain)]

end Sys2Proof.Machine
end


section
/-! PROOF. The Warning Controller's requests and presentations (chapter 6): the two halves, the lamps, ENABLE, DISABLE, MASK
and UNMASK, and how a presentation begins and ends. -/

namespace Sys2Proof.Machine

/-! ### The codes of the named values -/

theorem WarnKind.ofCode_eq_some {n : Nat} {k : WarnKind} : WarnKind.ofCode n = some k ↔ n = k.code := by
  constructor
  · intro h
    unfold WarnKind.ofCode at h
    split at h <;> cases h <;> rfl
  · rintro rfl
    cases k <;> rfl

theorem KeyGate.ofCode_eq_some {n : Nat} {g : KeyGate} : KeyGate.ofCode n = some g ↔ n = g.code := by
  constructor
  · intro h
    unfold KeyGate.ofCode at h
    split at h <;> cases h <;> rfl
  · rintro rfl
    cases g <;> rfl

theorem LatchMode.ofCode_eq_some {n : Nat} {l : LatchMode} : LatchMode.ofCode n = some l ↔ n = l.code := by
  constructor
  · intro h
    unfold LatchMode.ofCode at h
    split at h <;> cases h <;> rfl
  · rintro rfl
    cases l <;> rfl

theorem Routing.ofCode_eq_some {n : Nat} {r : Routing} : Routing.ofCode n = some r ↔ n = r.code := by
  constructor
  · intro h
    unfold Routing.ofCode at h
    split at h <;> cases h <;> rfl
  · rintro rfl
    cases r <;> rfl

theorem LatchMode.ofCode_exists {n : Nat} : (∃ l, LatchMode.ofCode n = some l) ↔ n ≤ 2 := by
  simp only [LatchMode.ofCode_eq_some]
  constructor
  · rintro ⟨l, rfl⟩
    cases l <;> decide
  · intro h
    interval_cases n
    exacts [⟨.selfClearing, rfl⟩, ⟨.latching, rfl⟩, ⟨.momentary, rfl⟩]

theorem Routing.ofCode_exists {n : Nat} : (∃ r, Routing.ofCode n = some r) ↔ n ≤ 2 := by
  simp only [Routing.ofCode_eq_some]
  constructor
  · rintro ⟨r, rfl⟩
    cases r <;> decide
  · intro h
    interval_cases n
    exacts [⟨.front, rfl⟩, ⟨.rear, rfl⟩, ⟨.both, rfl⟩]

/-! ### The two halves (R108, R109) -/

section Condition
variable {kind subject : Byte} {threshold hysteresis : Word} {counts keyGate : Byte} {speedGate : Word}
  {staleAction minStage : Byte}

/-- The ranges of R108, on the bytes sent. -/
def ConditionFieldsInRange (kind subject : Byte) (hysteresis : Word) (counts keyGate : Byte) (speedGate : Word)
    (staleAction minStage : Byte) : Prop :=
  ∃ (k : WarnKind) (g : KeyGate), kind.toNat = k.code ∧ keyGate.toNat = g.code ∧
    subject.toNat < (if k = .service then 8 else if k = .system then 5 else 48) ∧ speedGate.toNat ≤ 32767 ∧
    (k.isSampled = true → 1 ≤ counts.toNat / 16 ∧ 1 ≤ counts.toNat % 16 ∧ staleAction.toNat ≤ 2) ∧
    (k = .high ∨ k = .low → hysteresis.toNat ≤ 32767) ∧ (k = .service → minStage.toNat ≤ 2)

/-- What the checks of R108 ask of a kind. -/
def WarnKind.Accepts (k : WarnKind) (subject : Byte) (hysteresis : Word) (counts : Byte) (speedGate : Word)
    (staleAction minStage : Byte) : Prop :=
  subject.toNat < k.subjects ∧ speedGate.toNat ≤ 32767 ∧
    (k.isSampled = true → 1 ≤ counts.toNat / 16 ∧ 1 ≤ counts.toNat % 16 ∧ staleAction.toNat ≤ 2) ∧
    (k = .high ∨ k = .low → hysteresis.toNat ≤ 32767) ∧ (k = .service → minStage.toNat ≤ 2)

theorem conditionFieldsInRange_iff :
    ConditionFieldsInRange kind subject hysteresis counts keyGate speedGate staleAction minStage ↔
      ∃ (k : WarnKind) (g : KeyGate), kind.toNat = k.code ∧ keyGate.toNat = g.code ∧
        k.Accepts subject hysteresis counts speedGate staleAction minStage := by
  have hsubjects (k : WarnKind) : k.subjects = if k = .service then 8 else if k = .system then 5 else 48 := by
    cases k <;> rfl
  simp only [ConditionFieldsInRange, WarnKind.Accepts, hsubjects]

theorem conditionFields_some {c : WarnCondition} :
    conditionFields kind subject threshold hysteresis counts keyGate speedGate staleAction minStage = some c ↔
      kind.toNat = c.kind.code ∧ keyGate.toNat = c.keyGate.code ∧
        c.kind.Accepts subject hysteresis counts speedGate staleAction minStage ∧
        c = { kind := c.kind, subject := subject.toNat, threshold := threshold.toInt, hysteresis := hysteresis.toNat,
              qualify := counts.toNat / 16, clear := counts.toNat % 16, keyGate := c.keyGate,
              speedGate := speedGate.toNat, staleAction := staleAction, minStage := minStage } := by
  have haccepts (k : WarnKind) : (decide (subject.toNat < k.subjects) && decide (speedGate.toNat ≤ 32767) &&
      (if k.isSampled then decide (1 ≤ counts.toNat / 16) && decide (1 ≤ counts.toNat % 16) &&
        decide (staleAction.toNat ≤ 2) else true) &&
      (if k = .high ∨ k = .low then decide (hysteresis.toNat ≤ 32767) else true) &&
      (if k = .service then decide (minStage.toNat ≤ 2) else true)) = true ↔
        k.Accepts subject hysteresis counts speedGate staleAction minStage := by
    cases k <;> simp [WarnKind.Accepts, WarnKind.isSampled, and_assoc]
  constructor
  · intro h
    unfold conditionFields at h
    split at h
    · rename_i k g hk hg
      obtain ⟨hok, hc⟩ := Option.ite_none_right_eq_some.mp h
      cases hc
      exact ⟨WarnKind.ofCode_eq_some.mp hk, KeyGate.ofCode_eq_some.mp hg, (haccepts k).mp hok, rfl⟩
    · cases h
  · rintro ⟨hk, hg, hok, hc⟩
    unfold conditionFields
    rw [WarnKind.ofCode_eq_some.mpr hk, KeyGate.ofCode_eq_some.mpr hg]
    exact (if_pos ((haccepts _).mpr hok)).trans (congrArg some hc.symm)

end Condition

section Action
variable {priority latch chime message lamp routing present remind : Byte}

/-- The ranges of R109, on the bytes sent. -/
def ActionFieldsInRange (priority latch chime message lamp routing present : Byte) : Prop :=
  priority.toNat ≤ 7 ∧ latch.toNat ≤ 2 ∧ routing.toNat ≤ 2 ∧ (chime = 0xFF ∨ chime.toNat ≤ 15) ∧
    (message = 0xFF ∨ message.toNat ≤ 63) ∧ (lamp = 0xFF ∨ lamp.toNat ≤ 11) ∧ present.toNat ≤ 15

theorem choice?_exists_le {n : Nat} {b : Byte} :
    (∃ o, choice? (n + 1) b = some o) ↔ b = 0xFF ∨ b.toNat ≤ n := by
  rw [choice?_exists, Nat.lt_succ_iff]

theorem actionFields_isSome : (actionFields priority latch chime message lamp routing present remind).isSome = true ↔
    ActionFieldsInRange priority latch chime message lamp routing present := by
  constructor
  · intro h
    unfold actionFields at h
    split at h
    · rename_i l r c m la hl hr hc hm hla
      by_cases hrest : priority.toNat ≤ 7 ∧ present.toNat ≤ 15
      · exact ⟨hrest.1, LatchMode.ofCode_exists.mp ⟨l, hl⟩, Routing.ofCode_exists.mp ⟨r, hr⟩,
          choice?_exists_le.mp ⟨c, hc⟩, choice?_exists_le.mp ⟨m, hm⟩, choice?_exists_le.mp ⟨la, hla⟩, hrest.2⟩
      · rw [if_neg hrest] at h
        cases h
    · cases h
  · rintro ⟨hpriority, hlatch, hrouting, hchime, hmessage, hlamp, hpresent⟩
    obtain ⟨l, hl⟩ := LatchMode.ofCode_exists.mpr hlatch
    obtain ⟨r, hr⟩ := Routing.ofCode_exists.mpr hrouting
    obtain ⟨c, hc⟩ := choice?_exists_le.mpr hchime
    obtain ⟨m, hm⟩ := choice?_exists_le.mpr hmessage
    obtain ⟨la, hla⟩ := choice?_exists_le.mpr hlamp
    simp only [actionFields, hl, hr, hc, hm, hla, if_pos (And.intro hpriority hpresent), Option.isSome_some]

/-- The loaded fields are the ones sent: each encodes to its byte (R190). -/
theorem actionFields_encode {a : WarnAction}
    (h : actionFields priority latch chime message lamp routing present remind = some a) :
    a.priority = priority.toNat ∧ a.latch.code = latch.toNat ∧ encChoice (a.chime.map Fin.val) = [chime] ∧
      encChoice (a.message.map Fin.val) = [message] ∧ encChoice (a.lamp.map Fin.val) = [lamp] ∧
      a.routing.code = routing.toNat ∧ a.present = present.toNat ∧ a.remind = remind.toNat := by
  unfold actionFields at h
  split at h
  · rename_i l r c m la hl hr hc hm hla
    obtain ⟨_, ha⟩ := Option.ite_none_right_eq_some.mp h
    cases ha
    exact ⟨rfl, (LatchMode.ofCode_eq_some.mp hl).symm, encChoice_of_choice? hc, encChoice_of_choice? hm,
      encChoice_of_choice? hla, (Routing.ofCode_eq_some.mp hr).symm, rfl, rfl⟩
  · cases h

end Action

section WriteWarning
variable {wb : Byte} {s : State} {w : Fin 32}

section ConditionHalf
variable {kind subject : Byte} {threshold hysteresis : Word} {counts keyGate : Byte} {speedGate : Word}
  {staleAction minStage : Byte}

theorem reqWriteWarningCondition_outside (h : 32 ≤ wb.toNat) : reqWriteWarningCondition wb kind subject threshold
    hysteresis counts keyGate speedGate staleAction minStage s = refuse .badArgument s := by
  simp only [reqWriteWarningCondition, fin?_none h]

theorem reqWriteWarningCondition_enabled (h : wb.toNat = w.val) (he : (s.warnings.entries[w]).enabled = true) :
    reqWriteWarningCondition wb kind subject threshold hysteresis counts keyGate speedGate staleAction minStage s =
      refuse .inUse s := by
  simp only [reqWriteWarningCondition, fin?_some w h, if_pos he]

theorem reqWriteWarningCondition_none (h : wb.toNat = w.val) (he : (s.warnings.entries[w]).enabled = false)
    (hf : conditionFields kind subject threshold hysteresis counts keyGate speedGate staleAction minStage = none) :
    reqWriteWarningCondition wb kind subject threshold hysteresis counts keyGate speedGate staleAction minStage s =
      refuse .badArgument s := by
  simp only [reqWriteWarningCondition, fin?_some w h, if_neg (Bool.eq_false_iff.mp he), hf]

theorem reqWriteWarningCondition_some (h : wb.toNat = w.val) (he : (s.warnings.entries[w]).enabled = false)
    {c : WarnCondition}
    (hf : conditionFields kind subject threshold hysteresis counts keyGate speedGate staleAction minStage = some c) :
    reqWriteWarningCondition wb kind subject threshold hysteresis counts keyGate speedGate staleAction minStage s =
      (s.setWarning w { s.warnings.entries[w] with condition := some c }, .done) := by
  simp only [reqWriteWarningCondition, fin?_some w h, if_neg (Bool.eq_false_iff.mp he), hf]

end ConditionHalf

section ActionHalf
variable {priority latch chime message lamp routing present remind : Byte}

theorem reqWriteWarningAction_outside (h : 32 ≤ wb.toNat) :
    reqWriteWarningAction wb priority latch chime message lamp routing present remind s = refuse .badArgument s := by
  simp only [reqWriteWarningAction, fin?_none h]

theorem reqWriteWarningAction_enabled (h : wb.toNat = w.val) (he : (s.warnings.entries[w]).enabled = true) :
    reqWriteWarningAction wb priority latch chime message lamp routing present remind s = refuse .inUse s := by
  simp only [reqWriteWarningAction, fin?_some w h, if_pos he]

theorem reqWriteWarningAction_none (h : wb.toNat = w.val) (he : (s.warnings.entries[w]).enabled = false)
    (hf : actionFields priority latch chime message lamp routing present remind = none) :
    reqWriteWarningAction wb priority latch chime message lamp routing present remind s = refuse .badArgument s := by
  simp only [reqWriteWarningAction, fin?_some w h, if_neg (Bool.eq_false_iff.mp he), hf]

theorem reqWriteWarningAction_some (h : wb.toNat = w.val) (he : (s.warnings.entries[w]).enabled = false)
    {a : WarnAction} (hf : actionFields priority latch chime message lamp routing present remind = some a) :
    reqWriteWarningAction wb priority latch chime message lamp routing present remind s =
      (s.setWarning w { s.warnings.entries[w] with action := some a }, .done) := by
  simp only [reqWriteWarningAction, fin?_some w h, if_neg (Bool.eq_false_iff.mp he), hf]

end ActionHalf

end WriteWarning

/-- Settles O32: the checks of both requests in their order, each with the answer of its case. -/
theorem writeWarningHalvesByTheirChecks : Obligations.WriteWarningHalvesByTheirChecks := by
  intro h wb s ht
  constructor
  · intro kind subject threshold hysteresis counts keyGate speedGate staleAction minStage run inRange
    have hrun : run = .next (respond h 0x60 false (reqWriteWarningCondition wb kind subject threshold hysteresis counts
        keyGate speedGate staleAction minStage s)) := exec_taken nofun rfl ht
    have hrange : inRange ↔ ∃ (k : WarnKind) (g : KeyGate), kind.toNat = k.code ∧ keyGate.toNat = g.code ∧
        k.Accepts subject hysteresis counts speedGate staleAction minStage := conditionFieldsInRange_iff
    refine ⟨fun ho => taken_refused hrun (reqWriteWarningCondition_outside ho), fun w hw => ⟨fun he => ?_, fun he hout => ?_,
      fun he hin => ?_⟩⟩
    · exact taken_refused hrun (reqWriteWarningCondition_enabled hw he)
    · refine taken_refused hrun (reqWriteWarningCondition_none hw he (Option.eq_none_iff_forall_ne_some.mpr ?_))
      intro c hc
      obtain ⟨hk, hg, hok, _⟩ := conditionFields_some.mp hc
      exact hout (hrange.mpr ⟨_, _, hk, hg, hok⟩)
    · obtain ⟨k, g, hk, hg, hok⟩ := hrange.mp hin
      exact ⟨{ kind := k, subject := subject.toNat, threshold := threshold.toInt, hysteresis := hysteresis.toNat,
               qualify := counts.toNat / 16, clear := counts.toNat % 16, keyGate := g, speedGate := speedGate.toNat,
               staleAction := staleAction, minStage := minStage },
        hk.symm, rfl, rfl, rfl, rfl, rfl, hg.symm, rfl, rfl, rfl,
        taken_done hrun (reqWriteWarningCondition_some hw he (conditionFields_some.mpr ⟨hk, hg, hok, rfl⟩))⟩
  · intro priority latch chime message lamp routing present remind run inRange
    have hrun : run = .next (respond h 0x61 false
        (reqWriteWarningAction wb priority latch chime message lamp routing present remind s)) := exec_taken nofun rfl ht
    have hrange : (actionFields priority latch chime message lamp routing present remind).isSome = true ↔ inRange :=
      actionFields_isSome
    refine ⟨fun ho => taken_refused hrun (reqWriteWarningAction_outside ho), fun w hw => ⟨fun he => ?_, fun he hout => ?_,
      fun he hin => ?_⟩⟩
    · exact taken_refused hrun (reqWriteWarningAction_enabled hw he)
    · rw [← hrange, Option.not_isSome_iff_eq_none] at hout
      exact taken_refused hrun (reqWriteWarningAction_none hw he hout)
    · obtain ⟨a, ha⟩ := Option.isSome_iff_exists.mp (hrange.mpr hin)
      obtain ⟨hpriority, hlatch, hchime, hmessage, hlamp, hrouting, hpresent, hremind⟩ := actionFields_encode ha
      exact ⟨a, hpriority, hlatch, hchime, hmessage, hlamp, hrouting, hpresent, hremind,
        taken_done hrun (reqWriteWarningAction_some hw he ha)⟩

/-! ### The lamps (R126) -/

section Lamps
variable {s : State}

theorem Warning.stands_iff (e : Warning) : e.stands = true ↔
    e.enabled = true ∧ (e.state = .pending ∨ e.state = .presented ∨ e.state = .acknowledged) := by
  cases hstate : e.state <;> simp [Warning.stands, hstate]

theorem State.lampLit_iff (l : Fin 12) : s.lampLit l = true ↔
    (s.warnings.bulbCheck.isSome = true ∨ ∃ (w : Fin 32) (a : WarnAction), (s.warnings.entries[w]).enabled = true ∧
      (s.warnings.entries[w]).masked = false ∧ (s.warnings.entries[w]).action = some a ∧ a.lamp = some l ∧
      ((s.warnings.entries[w]).state = .pending ∨ (s.warnings.entries[w]).state = .presented ∨
        (s.warnings.entries[w]).state = .acknowledged)) := by
  have hentry (e : Warning) : (e.stands && !e.masked &&
      (match e.action with | some a => decide (a.lamp = some l) | none => false)) = true ↔
        ∃ a, e.enabled = true ∧ e.masked = false ∧ e.action = some a ∧ a.lamp = some l ∧
          (e.state = .pending ∨ e.state = .presented ∨ e.state = .acknowledged) := by
    rw [Bool.and_eq_true, Bool.and_eq_true, Warning.stands_iff, Bool.not_eq_true']
    constructor
    · rintro ⟨⟨⟨hon, hstate⟩, hmasked⟩, hlamp⟩
      cases ha : e.action with
      | none =>
        rw [ha] at hlamp
        cases hlamp
      | some a =>
        rw [ha] at hlamp
        exact ⟨a, hon, hmasked, rfl, of_decide_eq_true hlamp, hstate⟩
    · rintro ⟨a, hon, hmasked, ha, hlamp, hstate⟩
      refine ⟨⟨⟨hon, hstate⟩, hmasked⟩, ?_⟩
      rw [ha]
      exact decide_eq_true hlamp
  unfold State.lampLit
  rw [Bool.or_eq_true, List.any_eq_true]
  refine or_congr_right ?_
  constructor
  · rintro ⟨e, he, hlit⟩
    obtain ⟨i, hi, rfl⟩ := List.mem_iff_getElem.mp he
    obtain ⟨a, ha⟩ := (hentry _).mp hlit
    exact ⟨⟨i, by simpa using hi⟩, a, by simpa using ha⟩
  · rintro ⟨w, a, ha⟩
    exact ⟨s.warnings.entries[w], by simp, (hentry _).mpr ⟨a, ha⟩⟩

theorem State.lampsContent_eq (s : State) : s.lampsContent =
    (List.finRange 12).map (fun l => if s.lampLit l = true then (1 : Byte) else 0) ++
      [if s.warnings.bulbCheck.isSome = true then 1 else 0] := by
  rw [State.lampsContent, ← List.flatMap_singleton' ((List.finRange 12).map _), List.flatMap_map]
  rfl

theorem State.lampsContent_length (s : State) : s.lampsContent.length = 13 := by
  rw [State.lampsContent_eq, List.length_append, List.length_map, List.length_finRange]
  rfl

theorem WarnFrame.bulbCheck {s t : State} (h : WarnFrame s t) : t.warnings.bulbCheck = s.warnings.bulbCheck := by
  rw [h.conds]

theorem stageNotice_warnings (s : State) : (stageNotice s).warnings = s.warnings := rfl

theorem evaluateItem_bulbCheck (i : Fin 8) (s : State) :
    (evaluateItem i s).warnings.bulbCheck = s.warnings.bulbCheck := by
  unfold evaluateItem noteStage
  dsimp only
  split
  · split
    · rfl
    · rw [stageNotice_warnings, ((report_frame _ _).trans (warnStage_frame i _)).bulbCheck]
      rfl
  · rfl

theorem evaluateAll_bulbCheck (s : State) : (evaluateAll s).warnings.bulbCheck = s.warnings.bulbCheck := by
  unfold evaluateAll
  generalize List.finRange 8 = items
  induction items generalizing s with
  | nil => rfl
  | cons i items ih => exact (ih _).trans (evaluateItem_bulbCheck i s)

theorem buildStartUp_warnings (s : State) : (buildStartUp s).warnings = s.warnings := by
  unfold buildStartUp
  split
  · split <;> rfl
  · rfl

theorem restartNow_bulbCheck (s : State) : (restartNow s).warnings.bulbCheck = none := by
  have htaken := ((testGates_frame (evaluateAll (buildStartUp (restartBlocks s)))).trans (notifyDisplay_frame false _)).trans
    (rebuild_frame _)
  unfold restartNow
  rw [checkShutdown_warnings]
  dsimp only
  rw [htaken.bulbCheck, evaluateAll_bulbCheck, buildStartUp_warnings]
  rfl

theorem isKeyOn_iff {old new : KeyState} :
    isKeyOn old new = true ↔ (old = .off ∨ old = .acc) ∧ (new = .run ∨ new = .crank) := by
  cases old <;> cases new <;> decide

theorem warningKey_bulbCheck (old new : KeyState) (s : State) : (warningKey old new s).warnings.bulbCheck =
    if isKeyOn old new then some 3000
    else match new with | .off | .acc => none | .run | .crank => s.warnings.bulbCheck := by
  unfold warningKey
  rw [(testGates_frame _).bulbCheck] <;> rfl

end Lamps

/-- Settles O37: the lamps, the bulb check's events, and the part of their content that a read answers. -/
theorem lampsFollowStandingWarnings : Obligations.LampsFollowStandingWarnings := by
  refine ⟨fun s l => State.lampLit_iff l, fun l => ?_, ?_, ?_, ?_, restartNow_bulbCheck⟩
  · rw [Bool.eq_false_iff]
    intro hlit
    rcases (State.lampLit_iff l).mp hlit with hbulb | ⟨w, a, hon, _⟩
    · cases hbulb
    · rw [show (State.reset.warnings.entries[w]).enabled = false from by
        simp [State.reset, State.powerOn, Warnings.initial, Warning.initial]] at hon
      cases hon
  · intro h part s ht lamps content p
    have hrun : exec (.readLamps h part) s = .next (respond h 0x68 false (s, pageOf part s.lampsContent)) :=
      exec_taken nofun rfl ht
    have hcontent : s.lampsContent = content := State.lampsContent_eq s
    have hlast : (s.lampsContent.length - 1) / 11 = 1 := by rw [State.lampsContent_length]
    refine ⟨fun hp => hrun.trans ?_, fun hp => hrun.trans ?_⟩
    · rw [pageOf_above (by rw [hlast]; exact hp), respond_now]
    · rw [pageOf_within (by rw [hlast]; exact hp), respond_now, hlast, hcontent]
  · intro old new s bulb
    have hbulb : bulb = _ := warningKey_bulbCheck old new s
    refine ⟨fun hold hnew => ?_, fun hnew => ?_, fun hold hnew => ?_⟩
    · rw [hbulb, if_pos (isKeyOn_iff.mpr ⟨hold, hnew⟩)]
    · rw [hbulb, if_neg]
      · rcases hnew with rfl | rfl <;> rfl
      · rw [isKeyOn_iff]
        rintro ⟨_, hon⟩
        rcases hnew with rfl | rfl <;> rcases hon with hon | hon <;> cases hon
    · rw [hbulb, if_neg]
      · rcases hnew with rfl | rfl <;> rfl
      · rw [isKeyOn_iff]
        rintro ⟨hoff, _⟩
        rcases hold with rfl | rfl <;> rcases hoff with hoff | hoff <;> cases hoff
  · exact fun s hp => live_powered bulbExpiry s hp

end Sys2Proof.Machine
end


section
/-! PROOF. Selection and the presentations (R120 to R125), and the effects of ENABLE, DISABLE, MASK and UNMASK WARNING
(R110 to R112): each is one entry put in its place, one report, and the chimes requested or released. -/

namespace Sys2Proof.Machine

/-! ### One entry changed and reported -/

section Told

/-- A state with one entry in its place, the chimes as given, and the handler and the Loop Port as the state `u` has them,
in which the change is reported. -/
def State.withTold (s u : State) (c : Chime) (w : Fin 32) (x : Warning) : State :=
  { s with handler := u.handler, loop := u.loop, chime := c,
           warnings := { s.warnings with entries := s.warnings.entries.set w x } }

variable (s u : State) (c : Chime) (w : Fin 32) (x : Warning)

theorem State.withTold_get (v : Fin 32) : (s.withTold u c w x).warnings.entries[v] =
    if w = v then x else s.warnings.entries[v] := State.setWarning_get s w v x

theorem State.withTold_self : (s.withTold u c w x).warnings.entries[w] = x := by
  rw [State.withTold_get, if_pos rfl]

theorem State.withTold_other {v : Fin 32} (h : v ≠ w) :
    (s.withTold u c w x).warnings.entries[v] = s.warnings.entries[v] := by
  rw [State.withTold_get, if_neg (Ne.symm h)]

theorem State.setWarning_withTold (y : Warning) : (s.withTold u c w x).setWarning w y = s.withTold u c w y := by
  simp only [State.setWarning, State.withTold, Vector.set_set]

theorem State.setWarning_eq_withTold : s.setWarning w x = s.withTold s s.chime w x := rfl

theorem changeState_withTold (new : WarnState) (cause : WarnCause) : changeState w new cause s =
    s.withTold (report (.warning w (s.warnings.entries[w]).state new (s.warnings.entries[w]).masked cause) s) s.chime w
      { s.warnings.entries[w] with state := new } := changeState_eq w new cause s

theorem stopTimers_withTold : stopTimers w (s.withTold u c w x) =
    s.withTold u c w { x with presentTimer := none, remindTimer := none } := by
  rw [stopTimers, State.withTold_self, State.setWarning_withTold]

theorem releaseChimes_withTold : releaseChimes w (s.withTold u c w x) =
    s.withTold u (c.releasedFor w x) w { x with markFront := false, markRear := false } := by
  rw [releaseChimes_eq, State.withTold_self, State.setWarning_withTold]
  rfl

/-- A change of an entry that is put in place before its report. -/
theorem changeState_setWarning (new : WarnState) (cause : WarnCause) : changeState w new cause (s.setWarning w x) =
    s.withTold (report (.warning w x.state new x.masked cause) s) s.chime w { x with state := new } := by
  rw [changeState_eq, State.setWarning_self_get]
  have hreport := report_withWarnings (.warning w x.state new x.masked cause) (s.setWarning w x).warnings s
  dsimp only
  rw [show report (.warning w x.state new x.masked cause) (s.setWarning w x) = _ from hreport]
  simp only [State.setWarning, State.withTold, Vector.set_set]

end Told

/-! ### What is requested at an entry into PRESENTED (R124) -/

section Requests

/-- The chimes with a warning's pattern, if it has one, requested in a zone. -/
def Chime.asked (c : Chime) (w : Fin 32) (a : WarnAction) (z : Zone) : Chime :=
  match a.chime with
  | some p => c.request (.warning w) z p (32 * a.priority + w.val) repeatsOf
  | none => c

/-- A warning asks in FRONT. -/
def WarnAction.asksFront (a : WarnAction) : Bool := a.chime.isSome && decide (a.routing ≠ .rear)

/-- A warning asks in REAR. -/
def WarnAction.asksRear (a : WarnAction) : Bool := a.chime.isSome && decide (a.routing ≠ .front)

/-- The chimes with a warning's requests in the zones of its routing. -/
def Chime.askedFor (c : Chime) (w : Fin 32) (a : WarnAction) : Chime :=
  let front : Chime := if a.asksFront = true then c.asked w a .front else c
  if a.asksRear = true then front.asked w a .rear else front

theorem requestChimes_withTold (s u : State) (c : Chime) (w : Fin 32) (x : Warning) {a : WarnAction}
    (ha : x.action = some a) : requestChimes w (s.withTold u c w x) =
      s.withTold u (c.askedFor w a) w
        { x with markFront := x.markFront || a.asksFront, markRear := x.markRear || a.asksRear } := by
  unfold requestChimes
  rw [State.withTold_self]
  dsimp only
  rw [ha]
  dsimp only
  cases hp : a.chime with
  | none =>
    simp only [Chime.askedFor, WarnAction.asksFront, WarnAction.asksRear, hp, Option.isSome_none, Bool.false_and,
      Bool.false_eq_true, if_false, Bool.or_false]
    rw [← ha]
  | some p =>
    have hfront : a.asksFront = (a.routing != .rear) := by
      simp only [WarnAction.asksFront, hp, Option.isSome_some, Bool.true_and]
      cases a.routing <;> rfl
    have hrear : a.asksRear = (a.routing != .front) := by
      simp only [WarnAction.asksRear, hp, Option.isSome_some, Bool.true_and]
      cases a.routing <;> rfl
    simp only [Chime.askedFor, Chime.asked, hp, hfront, hrear, rankOf, ha, State.setWarning_withTold]
    rfl

end Requests

/-! ### The steps of selection (R120, R121, R124) -/

section Steps
variable (s : State) (w : Fin 32)

theorem displaceWarning_eq : displaceWarning w s =
    s.withTold (report (.warning w (s.warnings.entries[w]).state .pending (s.warnings.entries[w]).masked .displaced) s)
      s.chime w { s.warnings.entries[w] with state := .pending, presentTimer := none, remindTimer := none } := by
  rw [displaceWarning, changeState_withTold, stopTimers_withTold]

theorem presentStart_eq (a : WarnAction) : presentStart a =
    if a.present ≠ 0 then some (1000 * a.present) else if a.latch = .momentary then some 4000 else none := by
  rw [presentStart, ite_not]

/-- A presented entry. -/
def Warning.shownBy (e : Warning) (a : WarnAction) : Warning :=
  { e with state := .presented,
           presentTimer := if a.present ≠ 0 then some (1000 * a.present)
             else if a.latch = .momentary then some 4000 else none,
           markFront := e.markFront || a.asksFront, markRear := e.markRear || a.asksRear }

theorem presentWarning_eq {a : WarnAction} (ha : (s.warnings.entries[w]).action = some a) : presentWarning w s =
    notifyDisplay true (s.withTold
      (report (.warning w (s.warnings.entries[w]).state .presented (s.warnings.entries[w]).masked .present) s)
      (s.chime.askedFor w a) w ((s.warnings.entries[w]).shownBy a)) := by
  rw [presentWarning, changeState_withTold]
  dsimp only
  rw [State.withTold_self, State.setWarning_withTold]
  dsimp only
  rw [ha]
  dsimp only
  refine congrArg (notifyDisplay true) ((requestChimes_withTold s _ _ w _ rfl).trans ?_)
  rw [presentStart_eq, ← ha]
  rfl

end Steps

/-! ### Which warning is the top one -/

section Ranks
variable {s : State} {p : Warning → Bool}

theorem rankOf_injective {v w : Fin 32} {e d : Warning} (h : rankOf v e = rankOf w d) : v = w := by
  have hmod (u : Fin 32) (x : Warning) : rankOf u x % 32 = u.val := by
    have hu := u.isLt
    unfold rankOf
    split <;> omega
  exact Fin.ext (by rw [← hmod v e, h, hmod w d])

/-- The top warning is the one that ranks highest of those that satisfy the test. -/
theorem State.topWarning_eq_some_iff {w : Fin 32} : s.topWarning p = some w ↔
    p s.warnings.entries[w] = true ∧
      ∀ v : Fin 32, p s.warnings.entries[v] = true → rankOf w s.warnings.entries[w] ≤ rankOf v s.warnings.entries[v] := by
  refine ⟨fun h => ⟨State.topWarning_holds h, fun v => State.topWarning_least h⟩, fun ⟨hw, hleast⟩ => ?_⟩
  cases htop : s.topWarning p with
  | none => exact absurd ((State.topWarning_none htop w).symm.trans hw) Bool.false_ne_true
  | some b =>
    have hle := hleast b (State.topWarning_holds htop)
    have hge := State.topWarning_least htop hw
    rw [rankOf_injective (Nat.le_antisymm hge hle)]

theorem State.topWarning_eq_none (h : ∀ w, s.topWarning p ≠ some w) : s.topWarning p = none :=
  Option.eq_none_iff_forall_ne_some.mpr h

end Ranks

/-! ### The cases of selection (R120) -/

section Selection
variable {s : State}

/-- The warning that selection would present. -/
def State.selected? (s : State) : Option (Fin 32) := s.topWarning Warning.selectable

theorem select_none (h : s.selected? = none) : select s = notifyDisplay false s := by
  unfold State.selected? Warning.selectable at h
  simp only [select, h]

variable {q p : Fin 32}

theorem select_free (h : s.selected? = some q) (hp : s.presented = none) : select s = presentWarning q s := by
  unfold State.selected? Warning.selectable at h
  simp only [select, h, hp]

theorem select_higher (h : s.selected? = some q) (hp : s.presented = some p)
    (hrank : rankOf q s.warnings.entries[q] < rankOf p s.warnings.entries[p]) :
    select s = presentWarning q (displaceWarning p s) := by
  unfold State.selected? Warning.selectable at h
  simp only [select, h, hp]
  exact if_pos hrank

theorem select_lower (h : s.selected? = some q) (hp : s.presented = some p)
    (hrank : rankOf p s.warnings.entries[p] ≤ rankOf q s.warnings.entries[q]) : select s = notifyDisplay false s := by
  unfold State.selected? Warning.selectable at h
  simp only [select, h, hp]
  exact if_neg (Nat.not_lt.mpr hrank)

theorem notifyDisplay_warnings (entered : Bool) (s : State) : (notifyDisplay entered s).warnings = s.warnings :=
  contentNotice_warnings _ _ _ s

theorem notifyDisplay_get (entered : Bool) (s : State) (v : Fin 32) :
    (notifyDisplay entered s).warnings.entries[v] = s.warnings.entries[v] := by
  rw [notifyDisplay_warnings]

theorem displaceWarning_get (v : Fin 32) (s : State) : (displaceWarning p s).warnings.entries[v] =
    if p = v then
      { s.warnings.entries[p] with state := .pending, presentTimer := none, remindTimer := none }
    else s.warnings.entries[v] := by
  rw [displaceWarning_eq, State.withTold_get]

theorem presentWarning_other (s : State) {v : Fin 32} (h : v ≠ q) :
    (presentWarning q s).warnings.entries[v] = s.warnings.entries[v] := by
  unfold presentWarning
  dsimp only
  rw [notifyDisplay_warnings, changeState_withTold, State.withTold_self, State.setWarning_withTold]
  unfold requestChimes
  dsimp only
  rw [State.withTold_self]
  split
  · exact State.withTold_other _ _ _ _ _ h
  · split
    · exact State.withTold_other _ _ _ _ _ h
    · rw [State.setWarning_withTold]
      exact State.withTold_other _ _ _ _ _ h

/-- Selection leaves every entry that is neither to be presented nor presented. -/
theorem select_other {v : Fin 32} (hnew : (s.warnings.entries[v]).selectable = false)
    (hold : (s.warnings.entries[v]).isPresented = false) : (select s).warnings.entries[v] = s.warnings.entries[v] := by
  cases hq : s.selected? with
  | none => rw [select_none hq, notifyDisplay_warnings]
  | some q =>
    have hvq : v ≠ q := by
      rintro rfl
      rw [State.topWarning_holds hq] at hnew
      cases hnew
    cases hp : s.presented with
    | none => rw [select_free hq hp, presentWarning_other s hvq]
    | some p =>
      have hvp : p ≠ v := by
        rintro rfl
        rw [(Warning.isPresented_iff _).mpr (State.presented_some hp)] at hold
        cases hold
      rcases Nat.lt_or_ge (rankOf q s.warnings.entries[q]) (rankOf p s.warnings.entries[p]) with hlt | hge
      · rw [select_higher hq hp hlt, presentWarning_other _ hvq, displaceWarning_get, if_neg hvp]
      · rw [select_lower hq hp hge, notifyDisplay_warnings]

theorem setWarning_gate (s : State) (w v : Fin 32) {x : Warning} (h : x.gate = (s.warnings.entries[w]).gate) :
    ((s.setWarning w x).warnings.entries[v]).gate = (s.warnings.entries[v]).gate := by
  rw [State.setWarning_get]
  split
  · rename_i hv
    rw [h, hv]
  · rfl

theorem changeState_gate (w v : Fin 32) (new : WarnState) (cause : WarnCause) (s : State) :
    ((changeState w new cause s).warnings.entries[v]).gate = (s.warnings.entries[v]).gate := by
  unfold changeState
  dsimp only
  rw [report_warnings]
  exact setWarning_gate s w v rfl

theorem requestChimes_gate (w v : Fin 32) (s : State) :
    ((requestChimes w s).warnings.entries[v]).gate = (s.warnings.entries[v]).gate := by
  unfold requestChimes
  dsimp only
  split
  · rfl
  · split
    · rfl
    · exact setWarning_gate s w v rfl

/-- Presenting keeps every gate. -/
theorem presentWarning_gate (v : Fin 32) (s : State) :
    ((presentWarning q s).warnings.entries[v]).gate = (s.warnings.entries[v]).gate := by
  unfold presentWarning
  dsimp only
  rw [notifyDisplay_warnings, requestChimes_gate, setWarning_gate, changeState_gate]
  rfl

theorem displaceWarning_gate (v : Fin 32) (s : State) :
    ((displaceWarning p s).warnings.entries[v]).gate = (s.warnings.entries[v]).gate := by
  rw [displaceWarning_get]
  split
  · rename_i hv
    rw [hv]
  · rfl

/-- Selection changes no gate. -/
theorem select_gate (v : Fin 32) (s : State) :
    ((select s).warnings.entries[v]).gate = (s.warnings.entries[v]).gate := by
  cases hq : s.selected? with
  | none => rw [select_none hq, notifyDisplay_warnings]
  | some q =>
    cases hp : s.presented with
    | none => rw [select_free hq hp, presentWarning_gate]
    | some p =>
      rcases Nat.lt_or_ge (rankOf q s.warnings.entries[q]) (rankOf p s.warnings.entries[p]) with hlt | hge
      · rw [select_higher hq hp hlt, presentWarning_gate, displaceWarning_gate]
      · rw [select_lower hq hp hge, notifyDisplay_warnings]

end Selection

/-! ### ENABLE, DISABLE, MASK and UNMASK (R110 to R112) -/

section Effects
variable {s : State} {w : Fin 32}

/-- What is loaded of the other warnings, and their masked fields, stand within the frame. -/
theorem WarnFrame.others {r t : State} (h : WarnFrame r t)
    (hr : ∀ v, v ≠ w → r.warnings.entries[v] = s.warnings.entries[v]) (v : Fin 32) (hv : v ≠ w) :
    (t.warnings.entries[v]).condition = (s.warnings.entries[v]).condition ∧
      (t.warnings.entries[v]).action = (s.warnings.entries[v]).action ∧
      (t.warnings.entries[v]).enabled = (s.warnings.entries[v]).enabled ∧
      (t.warnings.entries[v]).masked = (s.warnings.entries[v]).masked := by
  rw [← hr v hv]
  exact h.loaded v

theorem State.takenUp_setWarning (s : State) (w : Fin 32) (x : Warning) (c : WarnCondition) :
    (s.setWarning w x).takenUp c = s.takenUp c := by
  unfold State.takenUp
  split
  · rfl
  · rfl
  · split
    · rename_i k _
      cases k <;> rfl
    · rfl
  all_goals rfl

/-- An entry that ENABLE WARNING has just enabled, with its gate and its condition. -/
def Warning.on (e : Warning) (gate holds : Bool) : Warning :=
  { e with enabled := true, state := .idle, holds := holds, gate := gate, qualifyCount := 0, clearCount := 0 }

section Enable
variable {c : WarnCondition} (hc : (s.warnings.entries[w]).condition = some c)
include hc

theorem enableWarning_shut (h : s.gatesMet c = false) :
    enableWarning w s = s.setWarning w ((s.warnings.entries[w]).on false false) :=
  testGate_same (s := s.setWarning w ((s.warnings.entries[w]).on false false)) (c := c)
    (by rw [State.setWarning_self_get]; exact hc) (by rw [State.setWarning_self_get]; rfl)
    (by rw [State.setWarning_self_get]; exact h)

theorem enableWarning_opens (h : s.gatesMet c = true) : enableWarning w s =
    setCondition w (s.takenUp c) (s.setWarning w ((s.warnings.entries[w]).on true false)) := by
  refine (testGate_opens (s := s.setWarning w ((s.warnings.entries[w]).on false false)) (c := c)
    (by rw [State.setWarning_self_get]; exact hc) (by rw [State.setWarning_self_get]; rfl)
    (by rw [State.setWarning_self_get]; rfl) h).trans ?_
  rw [State.takenUp_setWarning, State.setWarning_self_get, State.setWarning_setWarning]
  rfl

theorem enableWarning_false (h : s.gatesMet c = true) (ht : s.takenUp c = false) :
    enableWarning w s = s.setWarning w ((s.warnings.entries[w]).on true false) := by
  rw [enableWarning_opens hc h, ht, setCondition_same]
  rw [State.setWarning_self_get]
  rfl

theorem enableWarning_true (h : s.gatesMet c = true) (ht : s.takenUp c = true) : enableWarning w s =
    select (changeState w .pending .qualify (s.setWarning w ((s.warnings.entries[w]).on true true))) := by
  rw [enableWarning_opens hc h, ht, setCondition_true, State.setWarning_self_get, State.setWarning_setWarning,
    becameTrue_idle]
  · rfl
  · rw [State.setWarning_self_get]
    rfl
  · rw [State.setWarning_self_get]
    rfl

/-- The gate of a warning just enabled is as its condition's gates are. -/
theorem enableWarning_gate : ((enableWarning w s).warnings.entries[w]).gate = s.gatesMet c := by
  cases h : s.gatesMet c with
  | false =>
    rw [enableWarning_shut hc h, State.setWarning_self_get]
    rfl
  | true =>
    cases ht : s.takenUp c with
    | false =>
      rw [enableWarning_false hc h ht, State.setWarning_self_get]
      rfl
    | true =>
      rw [enableWarning_true hc h ht, select_gate, changeState_gate, State.setWarning_self_get]
      rfl

end Enable

/-- An entry that DISABLE WARNING has disabled. -/
def Warning.off (e : Warning) : Warning :=
  { condition := e.condition, action := e.action, enabled := false, state := .idle, masked := false, holds := false,
    gate := false, qualifyCount := 0, clearCount := 0, presentTimer := none, remindTimer := none, markFront := false,
    markRear := false }

/-- The state in which a disabled warning's selection or notice follows. -/
def State.disabled (s : State) (w : Fin 32) : State :=
  let e := s.warnings.entries[w]
  s.withTold (if e.state = .idle then s else report (.warning w e.state .idle false .disable) s)
    (s.chime.releasedFor w e) w e.off

theorem disableWarning_eq : disableWarning w s =
    if (s.warnings.entries[w]).state = .presented ∨ (s.warnings.entries[w]).state = .pending then select (s.disabled w)
    else notifyDisplay false (s.disabled w) := by
  unfold disableWarning State.disabled
  dsimp only
  by_cases hidle : (s.warnings.entries[w]).state = .idle
  · simp only [if_pos hidle, State.setWarning_eq_withTold s, releaseChimes_withTold, State.withTold_self,
      State.setWarning_withTold]
    rw [hidle]
    rfl
  · simp only [if_neg hidle, changeState_setWarning, releaseChimes_withTold, State.withTold_self,
      State.setWarning_withTold]
    rfl

theorem State.disabled_get : (s.disabled w).warnings.entries[w] = (s.warnings.entries[w]).off :=
  State.withTold_self _ _ _ _ _

/-- The disabled entry, after whatever follows. -/
theorem disableWarning_get : (disableWarning w s).warnings.entries[w] = (s.warnings.entries[w]).off := by
  rw [disableWarning_eq]
  split
  · rw [select_other, State.disabled_get] <;> rw [State.disabled_get] <;> rfl
  · exact (notifyDisplay_get ..).trans State.disabled_get

theorem disableWarning_frame : WarnFrame (s.disabled w) (disableWarning w s) := by
  rw [disableWarning_eq]
  split
  · exact select_frame _
  · exact notifyDisplay_frame false _

/-- The entry that MASK WARNING leaves of a PRESENTED warning, of a PENDING one, and of another. -/
def Warning.maskedEntry (e : Warning) : Warning :=
  match e.state with
  | .presented => { e with masked := true, state := .pending, presentTimer := none, remindTimer := none,
                           markFront := false, markRear := false }
  | .pending => { e with masked := true, markFront := false, markRear := false }
  | .idle | .acknowledged => { e with masked := true }

/-- The state in which the selection or the notice after a MASK WARNING follows. -/
def State.maskedState (s : State) (w : Fin 32) : State :=
  let e := s.warnings.entries[w]
  match e.state with
  | .presented =>
    s.withTold (report (.warning w .presented .pending true .mask) s) (s.chime.releasedFor w e) w e.maskedEntry
  | .pending => s.withTold s (s.chime.releasedFor w e) w e.maskedEntry
  | .idle | .acknowledged => s.setWarning w e.maskedEntry

theorem maskWarning_eq : maskWarning w s =
    if (s.warnings.entries[w]).state = .presented then select (s.maskedState w)
    else notifyDisplay false (s.maskedState w) := by
  unfold maskWarning State.maskedState Warning.maskedEntry
  dsimp only
  cases hstate : (s.warnings.entries[w]).state with
  | presented =>
    dsimp only
    rw [if_pos rfl, changeState_setWarning, stopTimers_withTold, releaseChimes_withTold]
    rfl
  | pending =>
    dsimp only
    rw [if_neg nofun, State.setWarning_eq_withTold, releaseChimes_withTold]
    rfl
  | idle =>
    dsimp only
    rw [if_neg nofun]
  | acknowledged =>
    dsimp only
    rw [if_neg nofun]

theorem State.maskedState_get (v : Fin 32) : (s.maskedState w).warnings.entries[v] =
    if w = v then (s.warnings.entries[w]).maskedEntry else s.warnings.entries[v] := by
  unfold State.maskedState
  dsimp only
  split
  · exact State.withTold_get ..
  · exact State.withTold_get ..
  · exact State.setWarning_get ..
  · exact State.setWarning_get ..

theorem Warning.maskedEntry_pending {e : Warning} (h : e.state = .pending) :
    e.maskedEntry = { e with masked := true, markFront := false, markRear := false } := by
  cases e
  cases h
  rfl

theorem Warning.maskedEntry_other {e : Warning} (h : e.state = .idle ∨ e.state = .acknowledged) :
    e.maskedEntry = { e with masked := true } := by
  cases e
  rcases h with h | h <;> cases h <;> rfl

theorem State.maskedState_pending (h : (s.warnings.entries[w]).state = .pending) :
    s.maskedState w = s.withTold s (s.chime.releasedFor w s.warnings.entries[w]) w
      { s.warnings.entries[w] with masked := true, markFront := false, markRear := false } := by
  simp only [State.maskedState, h, Warning.maskedEntry_pending h]

theorem State.maskedState_other
    (h : (s.warnings.entries[w]).state = .idle ∨ (s.warnings.entries[w]).state = .acknowledged) :
    s.maskedState w = s.setWarning w { s.warnings.entries[w] with masked := true } := by
  rw [← Warning.maskedEntry_other h]
  rcases h with h | h <;> simp only [State.maskedState, h]

theorem Warning.maskedEntry_masked (e : Warning) : e.maskedEntry.masked = true := by
  unfold Warning.maskedEntry
  split <;> rfl

theorem Warning.maskedEntry_enabled (e : Warning) : e.maskedEntry.enabled = e.enabled := by
  unfold Warning.maskedEntry
  split <;> rfl

theorem Warning.maskedEntry_state (e : Warning) :
    e.maskedEntry.state = if e.state = .presented then .pending else e.state := by
  unfold Warning.maskedEntry
  split <;> simp [*]

theorem Warning.selectable_masked {e : Warning} (h : e.masked = true) : e.selectable = false := by
  simp [Warning.selectable, h]

theorem Warning.isPresented_not {e : Warning} (h : e.state ≠ .presented) : e.isPresented = false := by
  simp [Warning.isPresented, h]

theorem Warning.selectable_not {e : Warning} (h : e.state ≠ .pending) : e.selectable = false := by
  simp [Warning.selectable, h]

theorem maskWarning_get : (maskWarning w s).warnings.entries[w] = (s.warnings.entries[w]).maskedEntry := by
  have hself : (s.maskedState w).warnings.entries[w] = (s.warnings.entries[w]).maskedEntry := by
    rw [State.maskedState_get, if_pos rfl]
  rw [maskWarning_eq]
  split
  · rename_i hpresented
    rw [select_other, hself]
    · rw [hself]
      exact Warning.selectable_masked (Warning.maskedEntry_masked _)
    · rw [hself]
      refine Warning.isPresented_not ?_
      rw [Warning.maskedEntry_state, if_pos hpresented]
      nofun
  · exact (notifyDisplay_get ..).trans hself

theorem maskWarning_frame : WarnFrame (s.maskedState w) (maskWarning w s) := by
  rw [maskWarning_eq]
  split
  · exact select_frame _
  · exact notifyDisplay_frame false _

end Effects

section Requests
variable {wb : Byte} {s : State} {w : Fin 32}

theorem warningRequests_outside (h : 32 ≤ wb.toNat) : reqEnableWarning wb s = refuse .badArgument s ∧
    reqDisableWarning wb s = refuse .badArgument s ∧ reqMaskWarning wb s = refuse .badArgument s ∧
    reqUnmaskWarning wb s = refuse .badArgument s := by
  simp only [reqEnableWarning, reqDisableWarning, reqMaskWarning, reqUnmaskWarning, fin?_none h, and_self]

variable (h : wb.toNat = w.val)
include h

theorem reqEnableWarning_inside : reqEnableWarning wb s =
    if (s.warnings.entries[w]).condition.isNone ∨ (s.warnings.entries[w]).action.isNone then refuse .invalidState s
    else if (s.warnings.entries[w]).enabled then (s, .done) else (enableWarning w s, .done) := by
  simp only [reqEnableWarning, fin?_some w h]

theorem reqDisableWarning_inside : reqDisableWarning wb s =
    if (s.warnings.entries[w]).enabled then (disableWarning w s, .done) else (s, .done) := by
  simp only [reqDisableWarning, fin?_some w h]

theorem reqMaskWarning_inside : reqMaskWarning wb s =
    if (s.warnings.entries[w]).masked then (s, .done) else (maskWarning w s, .done) := by
  simp only [reqMaskWarning, fin?_some w h]

theorem reqUnmaskWarning_inside : reqUnmaskWarning wb s =
    if (s.warnings.entries[w]).masked then (unmaskWarning w s, .done) else (s, .done) := by
  simp only [reqUnmaskWarning, fin?_some w h]

end Requests

/-- Settles O33: each request is its entry changed, its report and its chimes, and then selection or the notice. -/
theorem enableDisableAndMaskWarnings : Obligations.EnableDisableAndMaskWarnings := by
  intro h wb s ht
  have henable : exec (.enableWarning h wb) s = .next (respond h 0x62 false (reqEnableWarning wb s)) :=
    exec_taken nofun rfl ht
  have hdisable : exec (.disableWarning h wb) s = .next (respond h 0x63 false (reqDisableWarning wb s)) :=
    exec_taken nofun rfl ht
  have hmask : exec (.maskWarning h wb) s = .next (respond h 0x64 false (reqMaskWarning wb s)) :=
    exec_taken nofun rfl ht
  have hunmask : exec (.unmaskWarning h wb) s = .next (respond h 0x65 false (reqUnmaskWarning wb s)) :=
    exec_taken nofun rfl ht
  constructor
  · intro ho
    obtain ⟨he, hd, hm, hu⟩ := warningRequests_outside (s := s) ho
    exact ⟨taken_refused henable he, taken_refused hdisable hd, taken_refused hmask hm, taken_refused hunmask hu⟩
  intro w hw e front released told others
  have hen := reqEnableWarning_inside (s := s) hw
  have hdis := reqDisableWarning_inside (s := s) hw
  have hma := reqMaskWarning_inside (s := s) hw
  have hun := reqUnmaskWarning_inside (s := s) hw
  refine ⟨fun hhalf => ?_, fun c hc ha => ⟨fun he => ?_, fun he => ?_⟩, fun he => ?_, fun he => ?_, fun hm => ?_,
    fun hm => ?_, fun hm => ?_, fun hm => ?_⟩
  · exact taken_refused henable (hen.trans (if_pos (hhalf.imp Option.isNone_iff_eq_none.mpr
      Option.isNone_iff_eq_none.mpr)))
  · refine taken_done henable (hen.trans ?_)
    rw [if_neg (not_or.mpr ⟨by rw [show (s.warnings.entries[w]).condition = _ from hc]; nofun,
      mt Option.isNone_iff_eq_none.mp ha⟩), if_pos he]
  · intro on met
    have hmet : s.gatesMet c = true ↔ met := by rw [State.gatesMet, Bool.and_eq_true]
    have hrun : exec (.enableWarning h wb) s = .next (answered h 0x62 .ok [] (enableWarning w s)) := by
      refine taken_done henable (hen.trans ?_)
      rw [if_neg (not_or.mpr ⟨by rw [show (s.warnings.entries[w]).condition = _ from hc]; nofun,
        mt Option.isNone_iff_eq_none.mp ha⟩), if_neg (Bool.eq_false_iff.mp he)]
    have hframe : WarnFrame (on false false) (enableWarning w s) := testGate_frame w _
    obtain ⟨hcondition, haction, henabled, hmasked⟩ := hframe.loaded w
    have hself : (on false false).warnings.entries[w] = e.on false false := State.setWarning_self_get ..
    rw [hself] at hcondition haction henabled hmasked
    refine ⟨⟨enableWarning w s, hrun, hframe.others fun v hv => State.setWarning_other_get _ _ (Ne.symm hv), rfl,
      fun hm => enableWarning_false hc (hmet.mpr hm), fun hm => enableWarning_true hc (hmet.mpr hm), henabled, hmasked,
      hcondition, haction, ?_⟩, fun hm => hrun.trans ?_⟩
    · rw [enableWarning_gate hc]
      exact hmet
    · rw [enableWarning_shut hc (Bool.eq_false_iff.mpr (mt hmet.mp hm))]
      rfl
  · exact taken_done hdisable (hdis.trans (if_neg (Bool.eq_false_iff.mp he)))
  · refine ⟨disableWarning w s, taken_done hdisable (hdis.trans (if_pos he)),
      disableWarning_frame.others fun v hv => State.withTold_other _ _ _ _ _ hv, disableWarning_get, fun hx => ?_,
      fun hx => ?_⟩
    · exact disableWarning_eq.trans (if_pos hx)
    · refine disableWarning_eq.trans (if_neg ?_)
      show ¬ (e.state = .presented ∨ e.state = .pending)
      rcases hx with hx | hx <;> rw [hx] <;> decide
  · exact taken_done hmask (hma.trans (if_pos hm))
  · have hget : (maskWarning w s).warnings.entries[w] = e.maskedEntry := maskWarning_get
    have hshown : maskWarning w s = if e.state = .presented then select (s.maskedState w)
      else notifyDisplay false (s.maskedState w) := maskWarning_eq
    refine ⟨maskWarning w s, taken_done hmask (hma.trans (if_neg (Bool.eq_false_iff.mp hm))),
      maskWarning_frame.others fun v hv => ?_, fun hx => ?_, fun hx => ?_, fun hx => ?_, ?_, ?_, ?_, fun hx => ?_,
      fun hx => ?_⟩
    · rw [State.maskedState_get, if_neg (Ne.symm hv)]
    · rw [hshown, if_pos hx]
      simp only [State.maskedState, Warning.maskedEntry, show (s.warnings.entries[w]).state = _ from hx]
      rfl
    · rw [hshown, if_neg (by rw [hx]; nofun), State.maskedState_pending hx]
      rfl
    · rw [hshown, if_neg (by rcases hx with hx | hx <;> rw [hx] <;> nofun), State.maskedState_other hx]
    · rw [hget, Warning.maskedEntry_masked]
    · rw [hget, Warning.maskedEntry_enabled]
    · rw [hget, Warning.maskedEntry_state]
    · rw [hget]
      simp only [Warning.maskedEntry, hx]
    · rw [hget]
      rcases hx with hx | hx <;> simp only [Warning.maskedEntry, hx, and_self]
  · exact taken_done hunmask (hun.trans (if_neg (Bool.eq_false_iff.mp hm)))
  · have hframe : WarnFrame (s.setWarning w { e with masked := false }) (unmaskWarning w s) := select_frame _
    obtain ⟨_, _, henabled, hmasked⟩ := hframe.loaded w
    rw [State.setWarning_self_get] at henabled hmasked
    refine ⟨unmaskWarning w s, taken_done hunmask (hun.trans (if_pos hm)),
      hframe.others fun v hv => State.setWarning_other_get _ _ (Ne.symm hv), rfl, hmasked, henabled, fun hx => ?_⟩
    have hself : (s.setWarning w { e with masked := false }).warnings.entries[w] = { e with masked := false } :=
      State.setWarning_self_get ..
    have hsame : (unmaskWarning w s).warnings.entries[w] = { e with masked := false } := by
      refine (select_other ?_ ?_).trans hself <;> rw [hself]
      · exact Warning.selectable_not (by rcases hx with hx | hx <;> simp [hx])
      · exact Warning.isPresented_not (by rcases hx with hx | hx <;> simp [hx])
    rw [hsame]

end Sys2Proof.Machine
end


section
/-! PROOF. How presentations begin and end (R120 to R125): the statement about selection, the contents of the display's
notice, the timers and the press edge. -/

namespace Sys2Proof.Machine

/-! ### The contents (R125) -/

section Contents
variable {s : State}

/-- What a warning has to be to stand on the rear panel. -/
theorem Warning.rearCandidate_iff (e : Warning) : e.rearCandidate = true ↔
    e.enabled = true ∧ e.masked = false ∧ e.state ≠ .idle ∧
      ∃ a, e.action = some a ∧ a.routing ≠ .front ∧ a.message ≠ none := by
  cases ha : e.action with
  | none => simp [Warning.rearCandidate, ha]
  | some a =>
    simp only [Warning.rearCandidate, Warning.stands, ha, Bool.and_eq_true, bne_iff_ne, Bool.not_eq_true',
      Option.isSome_iff_ne_none, Option.some.injEq, exists_eq_left', and_assoc]
    tauto

variable {w : Fin 32} {a : WarnAction}

theorem State.mcContent_none (h : s.presented = none) : s.mcContent = none := by
  simp only [State.mcContent, h]

theorem State.mcContent_some (h : s.presented = some w) (ha : (s.warnings.entries[w]).action = some a) :
    s.mcContent = a.message.map (fun m => (m, decide (a.priority ≤ 1))) := by
  simp only [State.mcContent, h, ha]

theorem State.rearContent_none (h : s.topWarning Warning.rearCandidate = none) : s.rearContent = none := by
  simp only [State.rearContent, h]

theorem State.rearContent_some (h : s.topWarning Warning.rearCandidate = some w)
    (ha : (s.warnings.entries[w]).action = some a) : s.rearContent = a.message := by
  simp only [State.rearContent, h, ha]

end Contents

/-! ### An entry moved to another state (R121 to R123) -/

section Moves

/-- The state `u` is `s` with a warning moved to another state and reported, but for its chimes and the display. -/
def State.Moved (s u : State) (w : Fin 32) (new : WarnState) (cause : WarnCause) (remind : Timer) : Prop :=
  let e := s.warnings.entries[w]
  let told := report (.warning w e.state new e.masked cause) s
  u = { s with warnings := u.warnings, chime := u.chime, display := u.display, handler := told.handler,
               loop := told.loop } ∧
  u.warnings = { s.warnings with entries := u.warnings.entries } ∧
  (u.warnings.entries[w]).state = new ∧ (u.warnings.entries[w]).presentTimer = none ∧
  (u.warnings.entries[w]).remindTimer = remind ∧ (u.warnings.entries[w]).enabled = e.enabled ∧
  (u.warnings.entries[w]).masked = e.masked ∧ (u.warnings.entries[w]).holds = e.holds ∧
  (∀ v : Fin 32, v ≠ w → u.warnings.entries[v] = s.warnings.entries[v])

/-- An entry in a new state with its present timer stopped. -/
def Warning.movedTo (e : Warning) (new : WarnState) (remind : Timer) : Warning :=
  { e with state := new, presentTimer := none, remindTimer := remind }

/-- An entry with its chime mark as given. -/
def Warning.marked (e : Warning) (front rear : Bool) : Warning := { e with markFront := front, markRear := rear }

/-- An entry with its chime mark clear. -/
def Warning.unmarked (e : Warning) : Warning := e.marked false false

/-- The state with a warning's entry moved and reported, and the chimes as given. -/
def State.movedTo (s : State) (w : Fin 32) (new : WarnState) (cause : WarnCause) (c : Chime) (x : Warning) : State :=
  s.withTold (report (.warning w (s.warnings.entries[w]).state new (s.warnings.entries[w]).masked cause) s) c w x

variable (s : State) (w : Fin 32) (new : WarnState) (cause : WarnCause) (remind : Timer) (c : Chime)

/-- Whatever the chimes and the display become, an entry moved is `Moved`. -/
theorem State.moved_movedTo (front rear : Bool) (d : Display) :
    s.Moved { s.movedTo w new cause c (((s.warnings.entries[w]).movedTo new remind).marked front rear) with
      display := d } w new cause remind := by
  let told := report (.warning w (s.warnings.entries[w]).state new (s.warnings.entries[w]).masked cause) s
  let x := ((s.warnings.entries[w]).movedTo new remind).marked front rear
  have hself := State.withTold_self s told c w x
  exact ⟨rfl, rfl, congrArg Warning.state hself, congrArg Warning.presentTimer hself,
    congrArg Warning.remindTimer hself, (congrArg Warning.enabled hself).trans rfl,
    (congrArg Warning.masked hself).trans rfl, (congrArg Warning.holds hself).trans rfl, fun v hv => State.withTold_other s told c w x hv⟩

theorem State.moved_unmarked : s.Moved (s.movedTo w new cause c ((s.warnings.entries[w]).movedTo new remind).unmarked) w
    new cause remind := State.moved_movedTo s w new cause remind c false false s.display

theorem stopped_movedTo : stopTimers w (changeState w new cause s) =
    s.movedTo w new cause s.chime ((s.warnings.entries[w]).movedTo new none) := by
  rw [changeState_withTold, stopTimers_withTold]
  rfl

/-- A warning that moves with its timers stopped and its chimes released. -/
theorem released_movedTo : releaseChimes w (stopTimers w (changeState w new cause s)) =
    s.movedTo w new cause (s.chime.releasedFor w s.warnings.entries[w])
      ((s.warnings.entries[w]).movedTo new none).unmarked := by
  rw [stopped_movedTo, State.movedTo, releaseChimes_withTold]
  rfl

/-- The remind timer that an acknowledged warning starts (R123). -/
def WarnAction.remindStart (a : WarnAction) : Timer := if a.remind = 0 then none else some (1000 * a.remind)

variable {s w}

theorem toAcknowledged_movedTo {a : WarnAction} (ha : (s.warnings.entries[w]).action = some a) :
    toAcknowledged w cause s =
      s.movedTo w .acknowledged cause (s.chime.releasedFor w s.warnings.entries[w])
        ((s.warnings.entries[w]).movedTo .acknowledged a.remindStart).unmarked := by
  have haction : ((s.warnings.entries[w]).movedTo .acknowledged none).action = some a := ha
  rw [toAcknowledged, stopped_movedTo, State.movedTo, State.withTold_self, haction]
  dsimp only
  rw [State.setWarning_withTold, releaseChimes_withTold, ← haction]
  rfl

end Moves

/-! ### The timers and the press edge -/

section Ends
variable {w : Fin 32} {s : State} {a : WarnAction}

/-- A pattern that plays until it is released is the one that the action half names. -/
def State.untilReleased (s : State) (a : WarnAction) : Bool :=
  match a.chime with
  | some p => decide ((s.chime.patterns[p]).repeats = 0)
  | none => false

theorem State.untilReleased_iff : s.untilReleased a = true ↔
    ∃ p, a.chime = some p ∧ (s.chime.patterns[p]).repeats = 0 := by
  cases ha : a.chime <;> simp [State.untilReleased, ha]

section Presented
variable (ht : (s.warnings.entries[w]).presentTimer.isSome = true) (hx : (s.warnings.entries[w]).state = .presented)
  (ha : (s.warnings.entries[w]).action = some a)
include ht hx ha

theorem presentExpiry_momentary (hl : a.latch = .momentary) : presentExpiry w s =
    select (s.movedTo w .idle .timeout
      (if s.untilReleased a = true then s.chime.releasedFor w s.warnings.entries[w] else s.chime)
      ((s.warnings.entries[w]).movedTo .idle none).unmarked) := by
  obtain ⟨t, ht⟩ := Option.isSome_iff_exists.mp ht
  simp only [presentExpiry, ht, hx, ha, if_pos hl]
  refine congrArg select ?_
  by_cases hu : s.untilReleased a = true
  · rw [if_pos hu, ← released_movedTo]
    exact if_pos hu
  · rw [if_neg hu]
    refine (if_neg hu).trans ?_
    rw [stopped_movedTo, State.movedTo, State.withTold_self, State.setWarning_withTold]
    rfl

theorem presentExpiry_holds (hl : a.latch ≠ .momentary) (hh : (s.warnings.entries[w]).holds = true) :
    presentExpiry w s = select (s.movedTo w .acknowledged .timeout (s.chime.releasedFor w s.warnings.entries[w])
      ((s.warnings.entries[w]).movedTo .acknowledged a.remindStart).unmarked) := by
  obtain ⟨t, ht⟩ := Option.isSome_iff_exists.mp ht
  simp only [presentExpiry, ht, hx, ha, if_neg hl, hh, if_true, toAcknowledged_movedTo .timeout ha]

theorem presentExpiry_clear (hl : a.latch ≠ .momentary) (hh : (s.warnings.entries[w]).holds = false) :
    presentExpiry w s = select (s.movedTo w .idle .timeout (s.chime.releasedFor w s.warnings.entries[w])
      ((s.warnings.entries[w]).movedTo .idle none).unmarked) := by
  obtain ⟨t, ht⟩ := Option.isSome_iff_exists.mp ht
  simp only [presentExpiry, ht, hx, ha, if_neg hl, hh, Bool.false_eq_true, if_false, released_movedTo]

end Presented

theorem remindExpiry_acknowledged (ht : (s.warnings.entries[w]).remindTimer.isSome = true)
    (hx : (s.warnings.entries[w]).state = .acknowledged) : remindExpiry w s =
      select (s.movedTo w .pending .remind s.chime ((s.warnings.entries[w]).movedTo .pending none)) := by
  obtain ⟨t, ht⟩ := Option.isSome_iff_exists.mp ht
  simp only [remindExpiry, ht, hx, stopped_movedTo]

theorem Warning.isRearCall_iff (e : Warning) :
    e.isRearCall = true ↔ ∃ c, e.condition = some c ∧ c.kind = .system ∧ c.subject = 4 := by
  cases hc : e.condition <;> simp [Warning.isRearCall, hc]

/-- The state and the remind timer that an acknowledge gives a warning (R122). -/
def Warning.acknowledgedAs (e : Warning) (a : WarnAction) : WarnState × Timer :=
  if e.holds = true then (.acknowledged, a.remindStart) else (.idle, none)

/-- The state before selection, and before the answer to a passenger's call. -/
def State.acknowledged (s : State) (w : Fin 32) (a : WarnAction) : State :=
  let e := s.warnings.entries[w]
  s.movedTo w (e.acknowledgedAs a).1 .acknowledge (s.chime.releasedFor w e)
    (e.movedTo (e.acknowledgedAs a).1 (e.acknowledgedAs a).2).unmarked

theorem acknowledge_eq (ha : (s.warnings.entries[w]).action = some a) : acknowledge w s =
    select (if (s.warnings.entries[w]).isRearCall then
      { s.acknowledged w a with display := s.display.askAnswer,
                                chime := (s.chime.releasedFor w s.warnings.entries[w]).answer }
    else s.acknowledged w a) := by
  unfold acknowledge State.acknowledged Warning.acknowledgedAs
  dsimp only
  by_cases hh : (s.warnings.entries[w]).holds = true
  · rw [if_pos hh, if_pos hh, toAcknowledged_movedTo .acknowledge ha]
    rfl
  · rw [if_neg hh, if_neg hh, released_movedTo]
    rfl

theorem pressEdge_presented (h : s.presented = some w) : pressEdge s = acknowledge w s := by
  simp only [pressEdge, h]

end Ends

/-- Settles O35: selection by its cases, and each end of a presentation as the entry moved, its report and its chimes. -/
theorem presentationsEndByTheirRules : Obligations.PresentationsEndByTheirRules := by
  constructor
  · intro s entry rank top first shown rear
    have hfirst (w : Fin 32) : s.selected? = some w ↔ first w :=
      State.topWarning_eq_some_iff.trans (and_congr (Warning.selectable_iff _)
        (forall_congr' fun v => imp_congr_left (Warning.selectable_iff _)))
    have hshown (w : Fin 32) : s.presented = some w ↔ shown w :=
      (State.topWarning_eq_some_iff (p := Warning.isPresented)).trans (and_congr (Warning.isPresented_iff _)
        (forall_congr' fun v => imp_congr_left (Warning.isPresented_iff _)))
    have hrear (w : Fin 32) : s.topWarning Warning.rearCandidate = some w ↔ top rear w :=
      State.topWarning_eq_some_iff.trans (and_congr (Warning.rearCandidate_iff _)
        (forall_congr' fun v => imp_congr_left (Warning.rearCandidate_iff _)))
    have hnone {o : Option (Fin 32)} {p : Fin 32 → Prop} (hp : ∀ w, o = some w ↔ p w) (h : ∀ w, ¬ p w) : o = none :=
      Option.eq_none_iff_forall_ne_some.mpr fun w => mt (hp w).mp (h w)
    refine ⟨fun h => select_none (hnone hfirst h), fun q hq => ⟨fun h => ?_, fun p hp hlt => ?_, fun p hp hle => ?_⟩,
      fun w => displaceWarning_eq s w, fun w a ha => ?_, fun entered => ?_⟩
    · exact select_free ((hfirst q).mpr hq) (hnone hshown h)
    · exact select_higher ((hfirst q).mpr hq) ((hshown p).mpr hp) hlt
    · exact select_lower ((hfirst q).mpr hq) ((hshown p).mpr hp) hle
    · exact presentWarning_eq s w ha
    · refine ⟨s.mcContent, s.rearContent, rfl, fun h => State.mcContent_none (hnone hshown h), fun w a hw ha => ?_,
        fun h => State.rearContent_none (hnone hrear h), fun w a hw ha => ?_⟩
      · rw [State.mcContent_some ((hshown w).mpr hw) ha]
        exact ⟨fun hm => by rw [hm]; rfl, fun m hm => by rw [hm]; rfl⟩
      · exact State.rearContent_some ((hrear w).mpr hw) ha
  · intro w s hp e front released moved
    have hmoved {u : State} {new : WarnState} {cause : WarnCause} {remind : Timer}
        (h : s.Moved u w new cause remind) : moved u new cause remind := h
    have hmarks (new : WarnState) (cause : WarnCause) (c : Chime) (remind : Timer) :
        ((s.movedTo w new cause c (e.movedTo new remind).unmarked).warnings.entries[w]) =
          (e.movedTo new remind).unmarked := State.withTold_self _ _ _ _ _
    refine ⟨?_, fun ht hx => ?_, ?_⟩
    · intro a ht hx ha untilReleased
      have hrun : exec (.presentTimerExpiry w) s = .next (presentExpiry w s) := live_powered (presentExpiry w) s hp
      by_cases hl : a.latch = .momentary
      · refine ⟨_, hrun.trans (congrArg _ (presentExpiry_momentary ht hx ha hl)), rfl, ?_, ?_, fun _ => ⟨?_, ?_, ?_⟩,
          fun hn => absurd hl hn, fun hn => absurd hl hn, fun hn => absurd hl hn⟩
        · rw [hmarks]
          rfl
        · rw [hmarks]
          rfl
        · exact hmoved (State.moved_unmarked ..)
        · exact fun hu => if_pos (State.untilReleased_iff.mpr hu)
        · exact fun hu => if_neg (mt State.untilReleased_iff.mp hu)
      · cases hh : e.holds with
        | true =>
          refine ⟨_, hrun.trans (congrArg _ (presentExpiry_holds ht hx ha hl hh)), rfl, ?_, ?_, fun hn => absurd hn hl,
            fun _ => rfl, fun _ _ => hmoved (State.moved_unmarked ..), fun _ => nofun⟩
          · rw [hmarks]
            rfl
          · rw [hmarks]
            rfl
        | false =>
          refine ⟨_, hrun.trans (congrArg _ (presentExpiry_clear ht hx ha hl hh)), rfl, ?_, ?_, fun hn => absurd hn hl,
            fun _ => rfl, fun _ => nofun, fun _ _ => hmoved (State.moved_unmarked ..)⟩
          · rw [hmarks]
            rfl
          · rw [hmarks]
            rfl
    · have hrun : exec (.remindTimerExpiry w) s = .next (remindExpiry w s) := live_powered (remindExpiry w) s hp
      exact ⟨_, hrun.trans (congrArg _ (remindExpiry_acknowledged ht hx)), rfl, rfl,
        hmoved (State.moved_movedTo s w .pending .remind none s.chime e.markFront e.markRear s.display)⟩
    · intro a hpresented ha rearCall
      have hcall : e.isRearCall = true ↔ rearCall := Warning.isRearCall_iff e
      have hedge := (pressEdge_presented hpresented).trans (acknowledge_eq ha)
      have hstate (d : Display) (c : Chime) :
          (e.holds = true → moved { s.acknowledged w a with display := d, chime := c } .acknowledged .acknowledge
            a.remindStart) ∧
          (e.holds = false → moved { s.acknowledged w a with display := d, chime := c } .idle .acknowledge none) := by
        refine ⟨fun hh => ?_, fun hh => ?_⟩
        · have has : e.acknowledgedAs a = (.acknowledged, a.remindStart) := if_pos hh
          rw [State.acknowledged, show (s.warnings.entries[w]).acknowledgedAs a = _ from has]
          exact hmoved (State.moved_movedTo s w .acknowledged .acknowledge a.remindStart c false false d)
        · have has : e.acknowledgedAs a = (.idle, none) := if_neg (Bool.eq_false_iff.mp hh)
          rw [State.acknowledged, show (s.warnings.entries[w]).acknowledgedAs a = _ from has]
          exact hmoved (State.moved_movedTo s w .idle .acknowledge none c false false d)
      have hself : (s.acknowledged w a).warnings.entries[w] =
          (e.movedTo (e.acknowledgedAs a).1 (e.acknowledgedAs a).2).unmarked := State.withTold_self _ _ _ _ _
      by_cases hr : e.isRearCall = true
      · obtain ⟨hholds, hclear⟩ := hstate s.display.askAnswer (s.chime.releasedFor w e).answer
        refine ⟨_, hedge.trans (congrArg select (if_pos hr)), ?_, ?_, fun _ => ⟨rfl, rfl⟩,
          fun hn => absurd (hcall.mp hr) hn, hholds, hclear⟩
        · exact congrArg Warning.markFront hself
        · exact congrArg Warning.markRear hself
      · obtain ⟨hholds, hclear⟩ := hstate s.display (s.chime.releasedFor w e)
        refine ⟨_, hedge.trans (congrArg select (if_neg hr)), ?_, ?_, fun hn => absurd (hcall.mpr hn) hr,
          fun _ => ⟨rfl, rfl⟩, hholds, hclear⟩
        · exact congrArg Warning.markFront hself
        · exact congrArg Warning.markRear hself

end Sys2Proof.Machine
end


section
/-! PROOF. The Trip Computer's requests and its key events (R53, R57 to R61): snapshots, reads and resets of a record, the
key-off capture and the end of its save, and the journey gap. -/

namespace Sys2Proof.Machine

/-! ### The requests of a record (R57 to R59) -/

section TripRequests
variable {rb : Byte} {s : State} {r : Fin 4}

theorem tripRequests_outside (h : 4 ≤ rb.toNat) : reqSnapshotTrip rb s = refuse .badArgument s ∧
    reqReadTrip rb s = refuse .badArgument s ∧ reqResetTrip rb s = refuse .badArgument s := by
  simp only [reqSnapshotTrip, reqReadTrip, reqResetTrip, fin?_none h, and_self]

variable (h : rb.toNat = r.val)
include h

theorem reqResetTrip_inside : reqResetTrip rb s = (resetTrip r .request s, .done) := by
  simp only [reqResetTrip, fin?_some r h]

theorem reqSnapshotTrip_live (hs : s.trip.snapshots[r] = none) : reqSnapshotTrip rb s =
    ({ s with trip := { s.trip with snapshots := s.trip.snapshots.set r (some s.trip.records[r]) } }, .now .ok [0]) := by
  simp only [reqSnapshotTrip, fin?_some r h, hs]

theorem reqSnapshotTrip_latched {x : TripRecord} (hs : s.trip.snapshots[r] = some x) :
    reqSnapshotTrip rb s = (s, .now .ok [1]) := by
  simp only [reqSnapshotTrip, fin?_some r h, hs]

theorem reqReadTrip_live (hs : s.trip.snapshots[r] = none) : reqReadTrip rb s =
    (s, .now .ok (tripBytes s.trip.records[r] false (if r = 3 then s.trip.rear.code else 0))) := by
  simp only [reqReadTrip, fin?_some r h, hs]

theorem reqReadTrip_latched {x : TripRecord} (hs : s.trip.snapshots[r] = some x) : reqReadTrip rb s =
    ({ s with trip := { s.trip with snapshots := s.trip.snapshots.set r none } },
      .now .ok (tripBytes x true (if r = 3 then s.trip.rear.code else 0))) := by
  simp only [reqReadTrip, fin?_some r h, hs]

end TripRequests

/-- Settles O14: the record without a snapshot and with one, and the reset. -/
theorem snapshotsReadsAndResetsOfTrips : Obligations.SnapshotsReadsAndResetsOfTrips := by
  intro h rb s ht
  have hsnapshot : exec (.snapshotTrip h rb) s = .next (respond h 0x33 false (reqSnapshotTrip rb s)) :=
    exec_taken nofun rfl ht
  have hread : exec (.readTrip h rb) s = .next (respond h 0x34 false (reqReadTrip rb s)) := exec_taken nofun rfl ht
  have hreset : exec (.resetTrip h rb) s = .next (respond h 0x35 false (reqResetTrip rb s)) := exec_taken nofun rfl ht
  constructor
  · intro ho
    obtain ⟨hs, hr, hz⟩ := tripRequests_outside (s := s) ho
    exact ⟨taken_refused hsnapshot hs, taken_refused hread hr, taken_refused hreset hz⟩
  intro r hr flag bytes
  have hbytes (x : TripRecord) (snapshot : Bool) :
      tripBytes x snapshot (if r = 3 then s.trip.rear.code else 0) = bytes x snapshot := by
    have hstate : (if r = 3 then s.trip.rear.code else 0) * 2 ^ 21 =
        2097152 * (if r = 3 then (match s.trip.rear with | .idle => 0 | .running => 1 | .ended => 2) else 0) := by
      rw [Nat.mul_comm]
      cases s.trip.rear <;> rfl
    unfold tripBytes
    rw [hstate]
    rfl
  refine ⟨fun hs => ⟨?_, ?_⟩, fun x hs => ⟨?_, ?_⟩, ?_⟩
  · rw [hsnapshot, reqSnapshotTrip_live hr hs, respond_now]
  · rw [hread, reqReadTrip_live hr hs, respond_now, hbytes]
  · rw [hsnapshot, reqSnapshotTrip_latched hr hs, respond_now]
  · rw [hread, reqReadTrip_latched hr hs, respond_now, hbytes]
  · exact taken_done hreset (reqResetTrip_inside hr)

/-! ### Key events and the end of a save (R53, R60, R61) -/

section Capture
variable {s : State}

theorem Capture.words_length (c : Capture) : c.words.length = 16 := rfl

theorem tripCapture_scanning (h : s.store.ctl = .scanning) : tripCapture s = s := if_pos h

theorem tripCapture_saving (h : s.store.ctl ≠ .scanning) (hs : s.trip.saving = true) :
    tripCapture s = { s with trip := { s.trip with pendingCapture := some s.captureNow } } := by
  unfold tripCapture
  rw [if_neg h]
  exact if_pos hs

theorem tripCapture_same (h : s.store.ctl ≠ .scanning) (hs : s.trip.saving = false)
    (hc : s.trip.savedCopy = some s.captureNow) : tripCapture s = s := by
  unfold tripCapture
  rw [if_neg h]
  exact (if_neg (Bool.eq_false_iff.mp hs)).trans (if_pos hc)

theorem tripCapture_saves (h : s.store.ctl ≠ .scanning) (hs : s.trip.saving = false)
    (hc : s.trip.savedCopy ≠ some s.captureNow) : tripCapture s =
      requestSave .trip s.captureNow.words { s with trip := { s.trip with saving := true } } := by
  unfold tripCapture
  rw [if_neg h]
  exact (if_neg (Bool.eq_false_iff.mp hs)).trans (if_neg hc)

theorem tripKey_keyOn {old new : KeyState} (h : isKeyOn old new = true) : tripKey old new s = journeyTest s := if_pos h

theorem tripKey_off (old : KeyState) (s : State) : tripKey old .off s = tripCapture s := by
  have hnot : ¬ isKeyOn old .off = true := by cases old <;> decide
  exact (if_neg hnot).trans (if_pos rfl)

theorem tripKey_other {old new : KeyState} (h : ¬ isKeyOn old new = true) (hoff : new ≠ .off) : tripKey old new s = s :=
  (if_neg h).trans (if_neg hoff)

theorem journeyTest_unknown (h : s.key.valid = false ∨ s.key.keyOff = none) : journeyTest s = s := by
  unfold journeyTest
  rcases h with h | h
  · rw [h]
  · rw [h]
    split <;> trivial

theorem journeyTest_known {off : Stamp} (hv : s.key.valid = true) (ho : s.key.keyOff = some off) : journeyTest s =
    if s.journeyGap * 60 ≤ standingTime { day := s.key.day, seconds := s.key.seconds } off then resetTrip 2 .gap s
    else s := by
  simp only [journeyTest, hv, ho]

/-- A time in minutes is reached by the standing time exactly when the time stood, 0 if negative, reaches it. -/
theorem standingTime_reaches (now off : Stamp) (gap : Nat) : gap * 60 ≤ standingTime now off ↔
    (gap : Int) * 60 ≤ max 0 (((now.day : Int) - off.day) * 86400 + ((now.seconds : Int) - off.seconds)) := by
  unfold standingTime
  omega

/-- The saved copy after the end of a save of the trip pair. -/
def State.copyAfter (s : State) (ok : Bool) : Option Machine.Capture :=
  if ok then (match s.tripPair.active with | some k => some (captureAt s.store.mem k) | none => s.trip.savedCopy)
  else s.trip.savedCopy

/-- The state with the save's outcome in the mark, in the copy and in STORE_FAULT. -/
def State.afterSave (s : State) (ok : Bool) : State :=
  refreshStoreFault { s with trip := { s.trip with savedCopy := s.copyAfter ok, saveFault := !ok } }

theorem setSys_trip (k : SysCond) (b : Bool) (s : State) : (setSys k b s).trip = s.trip := (setSys_frame k b s).trip

theorem State.afterSave_trip (s : State) (ok : Bool) :
    (s.afterSave ok).trip = { s.trip with savedCopy := s.copyAfter ok, saveFault := !ok } := setSys_trip _ _ _

theorem tripSaveEnd_idle {ok : Bool} (h : s.trip.pendingCapture = none ∨ s.trip.pendingCapture = s.copyAfter ok) :
    tripSaveEnd ok s =
      { s.afterSave ok with trip := { (s.afterSave ok).trip with saving := false, pendingCapture := none } } := by
  have hpending : (s.afterSave ok).trip.pendingCapture = s.trip.pendingCapture := by rw [State.afterSave_trip]
  have hcopy : (s.afterSave ok).trip.savedCopy = s.copyAfter ok := by rw [State.afterSave_trip]
  show (match (s.afterSave ok).trip.pendingCapture with
    | none => { s.afterSave ok with trip := { (s.afterSave ok).trip with saving := false } }
    | some c =>
      let s2 := { s.afterSave ok with trip := { (s.afterSave ok).trip with pendingCapture := none } }
      if s2.trip.savedCopy = some c then { s2 with trip := { s2.trip with saving := false } }
      else requestSave .trip c.words s2) = _
  cases hp : (s.afterSave ok).trip.pendingCapture with
  | none =>
    dsimp only
    rw [← hp]
  | some c =>
    rw [hp] at hpending
    rcases h with h | h
    · rw [h] at hpending
      cases hpending
    · exact if_pos (by rw [hcopy, ← h, hpending])

theorem tripSaveEnd_pending {ok : Bool} {c : Machine.Capture} (hp : s.trip.pendingCapture = some c)
    (hc : s.copyAfter ok ≠ some c) : tripSaveEnd ok s =
      requestSave .trip c.words
        { s.afterSave ok with trip := { (s.afterSave ok).trip with pendingCapture := none } } := by
  have hpending : (s.afterSave ok).trip.pendingCapture = some c := by rw [State.afterSave_trip, ← hp]
  have hcopy : (s.afterSave ok).trip.savedCopy ≠ some c := by rwa [State.afterSave_trip]
  show (match (s.afterSave ok).trip.pendingCapture with
    | none => { s.afterSave ok with trip := { (s.afterSave ok).trip with saving := false } }
    | some c =>
      let s2 := { s.afterSave ok with trip := { (s.afterSave ok).trip with pendingCapture := none } }
      if s2.trip.savedCopy = some c then { s2 with trip := { s2.trip with saving := false } }
      else requestSave .trip c.words s2) = _
  rw [hpending]
  exact if_neg hcopy

end Capture

/-- Settles O18: the capture by its cases, the end of a save, and the gap test. -/
theorem keyOffCapturesOnlyWhatChanged : Obligations.KeyOffCapturesOnlyWhatChanged := by
  refine ⟨?_, ?_, ?_⟩
  · intro old s c
    rw [tripKey_off]
    exact ⟨tripCapture_scanning, tripCapture_saving, tripCapture_same,
      fun h hs hc => ⟨c.words_length, tripCapture_saves h hs hc⟩⟩
  · intro ok s copy u
    have hcopy : s.copyAfter ok = copy := by
      unfold State.copyAfter
      cases ok with
      | false => rfl
      | true => cases h : s.tripPair.active <;> simp only [copy, h, if_true]
    have hafter : s.afterSave ok = u := by
      unfold State.afterSave
      rw [hcopy]
      rfl
    refine ⟨fun h => ?_, fun c hp hc => ?_⟩
    · rw [← hafter]
      exact tripSaveEnd_idle (by rwa [hcopy])
    · rw [← hafter]
      exact tripSaveEnd_pending hp (by rwa [hcopy])
  · intro old new s keyOn zeroed
    have hon : isKeyOn old new = true ↔ keyOn := isKeyOn_iff
    refine ⟨fun h hoff => tripKey_other (mt hon.mp h) hoff, fun h hunknown => ?_, ?_⟩
    · rw [tripKey_keyOn (hon.mpr h), journeyTest_unknown hunknown]
    · intro off h hv ho stood
      refine ⟨fun t hs => ?_, fun hs => ?_⟩
      · have hgap : s.journeyGap = t.journeyGap := by simp only [State.journeyGap, hs]
        rw [tripKey_keyOn (hon.mpr h), journeyTest_known hv ho, hgap]
        have hreaches := standingTime_reaches { day := s.key.day, seconds := s.key.seconds } off t.journeyGap
        refine ⟨fun hreach => ?_, fun hbelow => ?_⟩
        · exact if_pos (hreaches.mpr hreach)
        · exact if_neg (mt hreaches.mp (Int.not_le.mpr hbelow))
      · rw [tripKey_keyOn (hon.mpr h), journeyTest_known hv ho]
        by_cases hreach : s.journeyGap * 60 ≤ standingTime { day := s.key.day, seconds := s.key.seconds } off
        · exact .inl (if_pos hreach)
        · exact .inr (if_neg hreach)

end Sys2Proof.Machine
end


section
/-! PROOF. The display's packets and the states of the link (R150, R151, R155, R159 to R161): an item that changes, the wants
that fill the free places one after another, the packet that is filled when it is taken, and the link's events. -/

namespace Sys2Proof.Machine

/-! ### A byte sum and its check byte (section 10.5.5) -/

theorem byteSum_append (a b : List Byte) : byteSum (a ++ b) = byteSum a + byteSum b := by
  induction a with
  | nil => simp [byteSum]
  | cons x a ih =>
    rw [List.cons_append, byteSum, ih, byteSum, BitVec.add_assoc]

/-- The check byte makes the sum 0. -/
theorem byteSum_withCheck (bs : List Byte) : byteSum (withCheck bs) = 0 := by
  simp [withCheck, byteSum_append, byteSum]

/-! ### An item that changes (R150) -/

section Items
variable {d : Display} {i : Item}

theorem Display.queued_iff {p : Packet} : d.queued p = true ↔ p ∈ d.queue := List.contains_iff_mem

theorem Display.room_iff : d.room = true ↔ d.link = .active ∧ d.queue.length < 6 := by
  simp only [Display.room, Bool.and_eq_true, decide_eq_true_eq]

theorem Display.maySend_iff : d.maySend i = true ↔ (i.isRear = true → d.present = true) := by
  cases h : i.isRear <;> simp [Display.maySend, h]

theorem Display.itemChanged_queued (h : Packet.item i ∈ d.queue) : d.itemChanged i = d :=
  if_pos (Display.queued_iff.mpr h)

theorem Display.itemChanged_placed (h : Packet.item i ∉ d.queue) (hr : d.room = true) (hs : d.maySend i = true) :
    d.itemChanged i = { d with queue := d.queue ++ [.item i], outstanding := d.outstanding.put i false } := by
  unfold Display.itemChanged
  rw [if_neg (mt Display.queued_iff.mp h), if_pos (by rw [hr, hs]; rfl)]

theorem Display.itemChanged_marked (h : Packet.item i ∉ d.queue) (hr : ¬ (d.room = true ∧ d.maySend i = true)) :
    d.itemChanged i = { d with outstanding := d.outstanding.put i true } := by
  unfold Display.itemChanged
  rw [if_neg (mt Display.queued_iff.mp h), if_neg (by rwa [Bool.and_eq_true])]

end Items

/-! ### The wants (R150) -/

section Wants

/-- A packet is wanted. -/
def Display.wants (d : Display) : Packet → Bool
  | .poll => d.pollWant
  | .answered => d.answerWant
  | .item i => d.outstanding.get i

/-- A packet may be sent, as the rear panel stands. -/
def Display.may (d : Display) : Packet → Bool
  | .poll => true
  | .answered => d.present
  | .item i => d.maySend i

/-- A wanted packet that may be sent and is not queued. -/
def Display.fillable (d : Display) (p : Packet) : Bool := d.wants p && d.may p && !d.queued p

/-- The marks that are not among the packets taken. -/
def Outstanding.without (o : Outstanding) (ps : List Packet) : Outstanding :=
  { mcText := o.mcText && !ps.contains (.item .mcText), mcAttr := o.mcAttr && !ps.contains (.item .mcAttr),
    rp1Text := o.rp1Text && !ps.contains (.item .rp1Text), rp1Attr := o.rp1Attr && !ps.contains (.item .rp1Attr),
    rp2Text := o.rp2Text && !ps.contains (.item .rp2Text), rp2Attr := o.rp2Attr && !ps.contains (.item .rp2Attr),
    rpClock := o.rpClock && !ps.contains (.item .rpClock) }

/-- The display with packets queued and their wants cleared. -/
def Display.taken (d : Display) (ps : List Packet) : Display :=
  { d with queue := d.queue ++ ps, outstanding := d.outstanding.without ps,
           pollWant := d.pollWant && !ps.contains .poll, answerWant := d.answerWant && !ps.contains .answered }

/-- The filling of one place from one want. -/
def Display.fillWant (d : Display) (p : Packet) : Display := if d.room && d.fillable p then d.taken [p] else d

/-- The packets of the wants in R150's order. -/
def wantOrder : List Packet := .poll :: .answered :: allItems.map .item

theorem filter_cons_append (p : Packet → Bool) (q : Packet) (l : List Packet) :
    (q :: l).filter p = (if p q = true then [q] else []) ++ l.filter p := by
  rw [List.filter_cons]
  split <;> rfl

theorem wantOrder_nodup : wantOrder.Nodup := by decide

variable (d : Display)

theorem Outstanding.without_get (o : Outstanding) (ps : List Packet) (i : Item) :
    (o.without ps).get i = (o.get i && !ps.contains (.item i)) := by cases i <;> rfl

theorem Outstanding.without_nil (o : Outstanding) : o.without [] = o := by
  simp [Outstanding.without]

theorem Outstanding.without_item (o : Outstanding) (i : Item) : o.without [.item i] = o.put i false := by
  cases i <;> simp [Outstanding.without, Outstanding.put]

theorem Outstanding.without_other (o : Outstanding) {p : Packet} (h : ∀ i, p ≠ .item i) : o.without [p] = o := by
  simp only [Outstanding.without, List.contains_cons, List.contains_nil, Bool.or_false,
    beq_eq_false_iff_ne.mpr (Ne.symm (h _)), Bool.not_false, Bool.and_true]

theorem Display.taken_nil : d.taken [] = d := by
  simp [Display.taken, Outstanding.without_nil]

theorem Display.fillPoll_eq : d.fillPoll = d.fillWant .poll := by
  unfold Display.fillPoll Display.fillWant Display.taken
  rw [Outstanding.without_other _ (p := .poll) (fun _ => nofun)]
  simp [Display.fillable, Display.wants, Display.may, ← Bool.and_assoc]

theorem Display.fillAnswer_eq : d.fillAnswer = d.fillWant .answered := by
  unfold Display.fillAnswer Display.fillWant Display.taken
  rw [Outstanding.without_other _ (p := .answered) (fun _ => nofun)]
  simp [Display.fillable, Display.wants, Display.may, ← Bool.and_assoc]

theorem Display.fillItem_eq (i : Item) : d.fillItem i = d.fillWant (.item i) := by
  unfold Display.fillItem Display.fillWant Display.taken
  rw [Outstanding.without_item]
  simp [Display.fillable, Display.wants, Display.may, ← Bool.and_assoc]

/-- Filling from the wants is the filling of one place after another, in R150's order. -/
theorem Display.fillWants_eq : d.fillWants = wantOrder.foldl Display.fillWant d := by
  unfold Display.fillWants wantOrder
  rw [List.foldl_cons, List.foldl_cons, List.foldl_map, Display.fillPoll_eq, Display.fillAnswer_eq]
  exact congrArg (fun f => List.foldl f _ allItems) (funext fun e => funext fun i => e.fillItem_eq i)

theorem Display.fillWant_link (p : Packet) : (d.fillWant p).link = d.link := by
  unfold Display.fillWant
  split <;> rfl

theorem Display.fillWants_inactive (h : d.link ≠ .active) : d.fillWants = d := by
  rw [Display.fillWants_eq]
  induction wantOrder with
  | nil => rfl
  | cons p l ih =>
    have hroom : ¬ (d.room && d.fillable p) = true := by
      rw [Bool.and_eq_true, Display.room_iff]
      exact fun hr => h hr.1.1
    rw [List.foldl_cons, Display.fillWant, if_neg hroom, ih]

theorem Display.taken_wants {ps : List Packet} {q : Packet} (h : q ∉ ps) : (d.taken ps).wants q = d.wants q := by
  have hc : ps.contains q = false := by rw [List.contains_eq_mem, decide_eq_false h]
  cases q with
  | poll => simp only [Display.wants, Display.taken, hc, Bool.not_false, Bool.and_true]
  | answered => simp only [Display.wants, Display.taken, hc, Bool.not_false, Bool.and_true]
  | item i => simp only [Display.wants, Display.taken, Outstanding.without_get, hc, Bool.not_false, Bool.and_true]

/-- Taking one packet leaves every other as fillable as it was. -/
theorem Display.taken_fillable {p q : Packet} (h : q ≠ p) : (d.taken [p]).fillable q = d.fillable q := by
  have hqueued : (d.taken [p]).queued q = d.queued q := by
    rw [Bool.eq_iff_iff, Display.queued_iff, Display.queued_iff]
    exact List.mem_append.trans (or_iff_left (mt List.mem_singleton.mp h))
  have hmay : (d.taken [p]).may q = d.may q := by cases q <;> rfl
  rw [Display.fillable, Display.fillable, hqueued, hmay, Display.taken_wants d (mt List.mem_singleton.mp h)]

theorem Outstanding.without_append (o : Outstanding) (ps qs : List Packet) :
    (o.without ps).without qs = o.without (ps ++ qs) := by
  simp only [Outstanding.without, List.contains_append, Bool.not_or, Bool.and_assoc]

theorem Display.taken_append (ps qs : List Packet) : (d.taken ps).taken qs = d.taken (ps ++ qs) := by
  simp only [Display.taken, Outstanding.without_append, List.append_assoc, List.contains_append, Bool.not_or,
    Bool.and_assoc]

/-- While the link is ACTIVE the free places take the fillable packets in order, as far as they go. -/
theorem Display.foldl_fillWant {l : List Packet} {d : Display} (h : d.link = .active) (hl : l.Nodup) :
    l.foldl Display.fillWant d = d.taken ((l.filter d.fillable).take (6 - d.queue.length)) := by
  induction l generalizing d with
  | nil =>
    rw [List.filter_nil, List.take_nil, Display.taken_nil]
    rfl
  | cons p l ih =>
    obtain ⟨hp, hl⟩ := List.nodup_cons.mp hl
    rw [List.foldl_cons, ih ((d.fillWant_link p).trans h) hl]
    unfold Display.fillWant
    by_cases hf : d.fillable p = true
    · by_cases hroom : d.queue.length < 6
      · have hsame : l.filter (d.taken [p]).fillable = l.filter d.fillable :=
          List.filter_congr fun q hq => d.taken_fillable fun heq => hp (heq ▸ hq)
        have hplaces : 6 - d.queue.length = (6 - (d.queue.length + 1)) + 1 := by omega
        rw [if_pos (by rw [hf, Display.room_iff.mpr ⟨h, hroom⟩]; rfl), hsame, Display.taken_append,
          List.filter_cons_of_pos hf, hplaces, List.take_succ_cons, List.singleton_append]
        congr 3
        simp [Display.taken]
      · have hnone : 6 - d.queue.length = 0 := by omega
        rw [if_neg (by rw [Bool.and_eq_true, Display.room_iff]; exact fun hr => hroom hr.1.2), hnone,
          List.take_zero, List.take_zero]
    · rw [if_neg (by rw [Bool.and_eq_true]; exact fun hr => hf hr.2), List.filter_cons_of_neg hf]

theorem Display.fillWants_active {d : Display} (h : d.link = .active) :
    d.fillWants = d.taken ((wantOrder.filter d.fillable).take (6 - d.queue.length)) := by
  rw [Display.fillWants_eq, Display.foldl_fillWant h wantOrder_nodup]

end Wants

/-! ### A packet filled from the image (R151) -/

section Packets

/-- The bytes of a packet before its check byte. -/
def packetBody (m : Images) : Packet → List Byte
  | .item i => (Packet.item i).kind :: i.headRow ++ m.content i
  | .poll => [0x05]
  | .answered => [0x06]

theorem packetBytes_eq (m : Images) (p : Packet) : packetBytes m p = withCheck (packetBody m p) := by
  cases p <;> rfl

variable {s : State}

theorem packetDone_takes {p : Packet} {rest : List Packet} (htx : s.display.tx = .idle)
    (hq : s.display.queue = p :: rest) (hl : s.display.link = .active ∨ s.display.link = .shuttingDown) :
    packetDone s = checkShutdown { s with display :=
      ({ s.display with queue := rest, tx := .sending (.packet p) (packetBytes s.display.images p) }).fillWants } := by
  simp only [packetDone, htx, hq]
  exact if_pos hl

theorem packetDone_waits (h : s.display.tx ≠ .idle ∨ s.display.queue = [] ∨ s.display.link = .waking ∨
    s.display.link = .hibernating) : packetDone s = s := by
  unfold packetDone
  dsimp only
  split
  · rename_i p rest htx hq
    rcases h with h | h | h | h
    · exact absurd htx h
    · rw [hq] at h
      cases h
    · exact if_neg (by rw [h]; nofun)
    · exact if_neg (by rw [h]; nofun)
  · rfl

theorem packetSent_poll {bytes : List Byte} (h : s.display.tx = .sending (.packet .poll) bytes) : packetSent s =
    { s with display := { s.display with tx := .listening, replyWindow := some 10 } } := by
  simp only [packetSent, h]

theorem packetSent_other {p : Packet} {bytes : List Byte} (h : s.display.tx = .sending (.packet p) bytes)
    (hp : p ≠ .poll) : packetSent s = { s with display := { s.display with tx := .idle } } := by
  cases p with
  | poll => exact absurd rfl hp
  | answered => simp only [packetSent, h]
  | item i => simp only [packetSent, h]

end Packets

/-- Settles O43: the item that changes, the wants that fill the places, and the packet taken. -/
theorem displayPacketsAreFilledWhenTaken : Obligations.DisplayPacketsAreFilledWhenTaken := by
  refine ⟨?_, ?_, ?_⟩
  · intro d i mayGo
    have hgo : (d.room = true ∧ d.maySend i = true) ↔ mayGo := by
      rw [Display.room_iff, Display.maySend_iff, and_assoc]
    exact ⟨Display.itemChanged_queued,
      fun h hm => Display.itemChanged_placed h (hgo.mpr hm).1 (hgo.mpr hm).2,
      fun h hm => Display.itemChanged_marked h (mt hgo.mp hm)⟩
  · intro d items wanted
    have hwanted : wantOrder.filter d.fillable = wanted := by
      have hitems : (allItems.map Packet.item).filter d.fillable = items.map Packet.item := by
        rw [List.filter_map]
        rfl
      have hpoll : d.fillable .poll = (d.pollWant && !d.queue.contains .poll) := by
        simp only [Display.fillable, Display.wants, Display.may, Display.queued, Bool.and_true]
      rw [wantOrder, filter_cons_append, filter_cons_append, hitems, hpoll, ← List.append_assoc]
      rfl
    refine ⟨fun h => ?_, fun h => d.fillWants_inactive h⟩
    rw [Display.fillWants_active h, hwanted]
    exact ⟨rfl, rfl, fun i => Outstanding.without_get _ _ i⟩
  · intro s hp d
    have hdone : exec .packetDone s = .next (packetDone s) := live_powered packetDone s hp
    have hsent : exec .packetSent s = .next (packetSent s) := live_powered packetSent s hp
    refine ⟨fun p rest htx hq hl => ?_, fun h => hdone.trans (congrArg _ (packetDone_waits h)), fun p bytes htx => ⟨?_, ?_⟩⟩
    · refine ⟨packetBody d.images p, ?_, packetBytes_eq _ _, ?_, ?_, ?_, ?_, ?_, ⟨?_, ?_, ?_⟩, ?_, ?_⟩
      · rw [packetBytes_eq, byteSum_withCheck]
      · exact fun h => by rw [h]; rfl
      · exact fun h => by rw [h]; rfl
      · exact fun h => by rw [h]; rfl
      · exact fun h => by rw [h]; rfl
      · exact fun h => by rw [h]; rfl
      · exact fun h => by rw [h]; rfl
      · exact fun h => by rw [h]; rfl
      · exact fun h => by rw [h]; rfl
      · intro h
        have hbody : packetBody d.images p = 0x04 :: d.images.content .rpClock := by rw [h]; rfl
        rw [hbody]
        refine ⟨fun hc => ?_, fun n hc => ?_⟩
        · simp only [Images.content, hc]
        · simp only [Images.content, hc]
          rfl
      · rw [hdone, packetDone_takes htx hq hl]
    · rintro rfl
      rw [hsent, packetSent_poll htx]
    · intro hne
      rw [hsent, packetSent_other htx hne]

/-! ### The link (R155, R159 to R161) -/

section Link
variable {d : Display} {s : State}

/-- A poll is queued, wanted, on the wire or listened for. -/
def Display.Polled (d : Display) : Prop :=
  .poll ∈ d.queue ∨ d.pollWant = true ∨ d.tx = .listening ∨ ∃ bytes, d.tx = .sending (.packet .poll) bytes

/-- A poll is being sent or its answer listened for. -/
def DisplayTx.onWire : DisplayTx → Bool
  | .sending (.packet .poll) _ => true
  | .listening => true
  | _ => false

theorem DisplayTx.onWire_iff (x : DisplayTx) :
    x.onWire = true ↔ x = .listening ∨ ∃ bytes, x = .sending (.packet .poll) bytes := by
  unfold DisplayTx.onWire
  split
  · simp
  · simp
  · rename_i hsending hlistening
    refine iff_of_false Bool.false_ne_true ?_
    rintro (h | ⟨bytes, h⟩)
    · exact hlistening h
    · exact hsending bytes h

theorem Display.polled_iff : (d.queued .poll || d.pollWant || d.tx.onWire) = true ↔ d.Polled := by
  rw [Bool.or_eq_true, Bool.or_eq_true, Display.queued_iff, DisplayTx.onWire_iff, or_assoc]
  rfl

theorem Display.askPoll_eq : d.askPoll =
    if (d.queued .poll || d.pollWant || d.tx.onWire) = true then d
    else if d.room = true then { d with queue := d.queue ++ [.poll] } else { d with pollWant := true } := rfl

theorem Display.askPoll_polled (h : d.Polled) : d.askPoll = d := by
  rw [Display.askPoll_eq, if_pos (Display.polled_iff.mpr h)]

theorem Display.askPoll_room (h : ¬ d.Polled) (hr : d.room = true) :
    d.askPoll = { d with queue := d.queue ++ [.poll] } := by
  rw [Display.askPoll_eq, if_neg (mt Display.polled_iff.mp h), if_pos hr]

theorem Display.askPoll_full (h : ¬ d.Polled) (hr : ¬ d.room = true) : d.askPoll = { d with pollWant := true } := by
  rw [Display.askPoll_eq, if_neg (mt Display.polled_iff.mp h), if_neg hr]

theorem State.idleMs_eq (s : State) :
    s.idleMs = 1000 * (match s.display.setup with | some f => f.idleTime | none => 10) := by
  unfold State.idleMs State.displaySetup
  cases s.display.setup <;> rfl

theorem State.offMs_eq (s : State) :
    s.offMs = 1000 * (match s.display.setup with | some f => f.offDelay | none => 0) := by
  unfold State.offMs State.displaySetup
  cases s.display.setup <;> rfl

theorem State.mayShutDown_iff : s.mayShutDown = true ↔ s.display.link = .active ∧ s.key.state = KeyState.off ∧
    s.display.blanked = true ∧ s.display.mcWarning = none ∧ s.display.idleTimer = none ∧
    s.display.rearWarning = none ∧ s.display.answerWant = false ∧ .answered ∉ s.display.queue := by
  simp only [State.mayShutDown, Bool.and_eq_true, decide_eq_true_eq, Option.isNone_iff_eq_none, Bool.not_eq_true',
    and_assoc, ← Bool.not_eq_true, Display.queued_iff]

theorem checkShutdown_shuts (h : s.mayShutDown = true) : checkShutdown s =
    { s with display := { s.display with link := .shuttingDown, pollTimer := none, pollWant := false } } := if_pos h

theorem checkShutdown_stays (h : ¬ s.mayShutDown = true) : checkShutdown s = s := if_neg h

theorem linkStartSent_starts {bytes : List Byte} (h : s.display.tx = .sending .linkStart bytes) : linkStartSent s =
    checkShutdown { s with display :=
      ({ s.display with tx := .idle, link := .active, outstanding := .all,
                        pollWant := s.display.pollWant || s.display.headMark, headMark := false,
                        pollTimer := some 100 }).fillWants } := by
  simp only [linkStartSent, h]

theorem linkShutdownSent_quiet {bytes : List Byte} (h : s.display.tx = .sending .linkShutdown bytes) :
    linkShutdownSent s = { s with display := { s.display with tx := .idle, quietTimer := some 5 } } := by
  simp only [linkShutdownSent, h]

theorem quietExpiry_eq (ht : s.display.quietTimer.isSome = true) (hl : s.display.link = .shuttingDown) :
    quietExpiry s = { s with display :=
      if s.display.wakeAfter then { s.display with quietTimer := none, link := .waking, wakeAfter := false,
                                                   settleTimer := some 2 }
      else { s.display with quietTimer := none, link := .hibernating } } := if_pos ⟨ht, hl⟩

theorem Display.headWake_hibernating (ms : Nat) (h : d.link = .hibernating) : d.headWake ms =
    { d with idleTimer := some ms, link := .waking, settleTimer := some 2, headMark := true } := by
  simp only [Display.headWake, h]

theorem Display.headWake_waking (ms : Nat) (h : d.link = .waking) :
    d.headWake ms = { d with idleTimer := some ms, headMark := true } := by
  simp only [Display.headWake, h]

theorem Display.headWake_active (ms : Nat) (h : d.link = .active) :
    d.headWake ms = ({ d with idleTimer := some ms }).askPoll := by
  simp only [Display.headWake, h]

theorem Display.headWake_shuttingDown (ms : Nat) (h : d.link = .shuttingDown) :
    d.headWake ms = { d with idleTimer := some ms, headMark := true, wakeAfter := true } := by
  simp only [Display.headWake, h]

end Link

/-- Settles O44: each event of the link in the states in which it acts. -/
theorem linkStatesByTheirEvents : Obligations.LinkStatesByTheirEvents := by
  intro s hp d idle shown polled asked
  have hasked {e : Display} (h : e.link = .active) : asked e e.askPoll := by
    have hroom : e.room = true ↔ e.queue.length < 6 := Display.room_iff.trans (and_iff_right h)
    exact ⟨Display.askPoll_polled, fun hn hq => Display.askPoll_room hn (hroom.mpr hq),
      fun hn hq => Display.askPoll_full hn (mt hroom.mp (Nat.not_lt.mpr hq))⟩
  have hwake : exec .dlWakeAsserted s = .next (shown (d.headWake idle)) := by
    exact (live_powered wakeAsserted s hp).trans (congrArg (fun ms => Host.Outcome.next (shown (d.headWake ms))) s.idleMs_eq)
  have hsettle : exec .linkSettleExpiry s = .next (settleExpiry s) := live_powered settleExpiry s hp
  have hstart : exec .linkStartSent s = .next (linkStartSent s) := live_powered linkStartSent s hp
  have hpoll : exec .pollTimerExpiry s = .next (pollExpiry s) := live_powered pollExpiry s hp
  have hidle : exec .rpIdleTimerExpiry s = .next (rpIdleExpiry s) := live_powered rpIdleExpiry s hp
  have hsend : exec .linkShutdownSend s = .next (linkShutdownSend s) := live_powered linkShutdownSend s hp
  have hsent : exec .linkShutdownSent s = .next (linkShutdownSent s) := live_powered linkShutdownSent s hp
  have hquiet : exec .quietTimerExpiry s = .next (quietExpiry s) := live_powered quietExpiry s hp
  refine ⟨fun hl => ?_, fun hl => ?_, fun hl => ?_, fun hl => ?_, fun ht hl htx => ?_, fun bytes htx => ?_,
    fun ht hl => ?_, fun ht => ?_, fun h => checkShutdown_shuts (State.mayShutDown_iff.mpr h),
    fun h => checkShutdown_stays (mt State.mayShutDown_iff.mp h), fun hl hq htx ht => ?_, fun h => ?_,
    fun bytes htx => ?_, fun ht hl => ⟨fun hw => ?_, fun hw => ?_⟩⟩
  · rw [hwake, Display.headWake_hibernating _ hl]
  · rw [hwake, Display.headWake_waking _ hl]
  · refine ⟨_, hwake, ?_⟩
    rw [Display.headWake_active _ hl]
    exact hasked hl
  · rw [hwake, Display.headWake_shuttingDown _ hl]
  · exact hsettle.trans (congrArg _ (if_pos ⟨ht, hl, htx⟩))
  · rw [hstart, linkStartSent_starts htx]
  · exact ⟨_, hpoll.trans (congrArg _ (if_pos ⟨ht, hl⟩)), hasked hl⟩
  · exact hidle.trans (congrArg _ (if_pos ht))
  · exact hsend.trans (congrArg _ (if_pos ⟨hl, hq, htx, ht⟩))
  · refine hsend.trans (congrArg _ (if_neg ?_))
    rintro ⟨hl, hq, htx, _⟩
    rcases h with h | h | h
    · exact h hl
    · exact h hq
    · exact h htx
  · rw [hsent, linkShutdownSent_quiet htx]
  · rw [hquiet, quietExpiry_eq ht hl, if_neg (Bool.eq_false_iff.mp hw)]
  · rw [hquiet, quietExpiry_eq ht hl, if_pos hw]

end Sys2Proof.Machine
end


section
/-! PROOF. The trip button and the MC (R125, R147, R152 to R154, R159): the notice of the two warnings' contents, the key at
the display, the press record and the two timers. -/

namespace Sys2Proof.Machine

section Button
variable {s : State} {d : Display} {p : Press}

theorem Display.wake_eq (d : Display) : d.wake =
    if d.link = .hibernating then { d with link := .waking, settleTimer := some 2 }
    else if d.link = .shuttingDown then { d with wakeAfter := true } else d := by
  cases h : d.link <;> simp [Display.wake, h]

/-! ### The contents' notice (R125) -/

section Notice
variable {mc : Option (Fin 64 × Bool)} {rear : Option (Fin 64)} {entered : Bool}

/-- The display with the contents of a notice, before a wake. -/
def State.noticed (s : State) (idleMs : Nat) (mc : Option (Fin 64 × Bool)) (rear : Option (Fin 64)) (entered : Bool) : Display :=
  { s.display with
    mcWarning := mc, rearWarning := rear,
    press := if entered = true then
        s.display.press.map (fun p => { p with state := .cancelled, timer2 := none, timer5 := none })
      else s.display.press,
    idleTimer := if s.display.rearWarning ≠ rear then some idleMs else s.display.idleTimer }

theorem contentNotice_same (hmc : s.display.mcWarning = mc) (hrear : s.display.rearWarning = rear)
    (he : entered = false) : contentNotice mc rear entered s = s := by
  subst hmc hrear he
  exact if_neg (by simp)

/-- A notice that tells anything new wakes the link for a warning that is present and differs. -/
theorem contentNotice_new (h : s.display.mcWarning ≠ mc ∨ s.display.rearWarning ≠ rear ∨ entered = true) :
    contentNotice mc rear entered s = checkShutdown (rebuild { s with display :=
      (if (s.display.mcWarning ≠ mc ∧ mc ≠ none) ∨ (s.display.rearWarning ≠ rear ∧ rear ≠ none) then
        (s.noticed s.idleMs mc rear entered).wake
      else s.noticed s.idleMs mc rear entered) }) := by
  have htold : (decide (s.display.mcWarning ≠ mc) || decide (s.display.rearWarning ≠ rear) || entered) = true := by
    rwa [Bool.or_eq_true, Bool.or_eq_true, decide_eq_true_eq, decide_eq_true_eq, or_assoc]
  have hwakes : ((decide (s.display.mcWarning ≠ mc) && mc.isSome) ||
      (decide (s.display.rearWarning ≠ rear) && rear.isSome)) = true ↔
        (s.display.mcWarning ≠ mc ∧ mc ≠ none) ∨ (s.display.rearWarning ≠ rear ∧ rear ≠ none) := by
    rw [Bool.or_eq_true, Bool.and_eq_true, Bool.and_eq_true, decide_eq_true_eq, decide_eq_true_eq,
      Option.isSome_iff_ne_none, Option.isSome_iff_ne_none]
  have hidle : (if decide (s.display.rearWarning ≠ rear) = true then some s.idleMs else s.display.idleTimer) =
      if s.display.rearWarning ≠ rear then some s.idleMs else s.display.idleTimer := by
    simp only [decide_eq_true_eq]
  unfold contentNotice
  dsimp only
  rw [if_pos htold, hidle]
  simp only [hwakes]
  rfl

end Notice

/-! ### The key at the display (R147) -/

theorem displayKey_off (h : s.offMs = 0) : displayKey .off s =
    checkShutdown (rebuild { s with display := { s.display with blanked := true, offTimer := none } }) := by
  have hdelay : s.displaySetup.offDelay = 0 := by
    unfold State.offMs at h
    omega
  simp only [displayKey, if_pos hdelay]

theorem displayKey_delay (h : s.offMs ≠ 0) : displayKey .off s =
    checkShutdown (rebuild { s with display := { s.display with offTimer := some s.offMs } }) := by
  have hdelay : s.displaySetup.offDelay ≠ 0 := by
    unfold State.offMs at h
    omega
  simp only [displayKey, if_neg hdelay]

theorem displayKey_on {new : KeyState} (h : new ≠ .off) : displayKey new s =
    checkShutdown (rebuild { s with display := ({ s.display with blanked := false, offTimer := none }).wake }) := by
  cases new with
  | off => exact absurd rfl h
  | acc | run | crank => rfl

/-! ### The press record (R152, R153) -/

theorem pressEdge_blanked (hp : s.presented = none) (hb : s.display.blanked = true) : pressEdge s =
    { s with display := ({ s.display with
        blanked := false,
        offTimer := if s.key.state = KeyState.off then some s.offMs else s.display.offTimer }).wake } := by
  simp only [pressEdge, hp]
  exact if_pos hb

theorem pressEdge_shown (hp : s.presented = none) (hb : s.display.blanked = false) : pressEdge s =
    { s with display := { s.display with
        press := some { page := s.display.page, state := .held, timer2 := some 2000, timer5 := some 5000 } } } := by
  simp only [pressEdge, hp]
  exact if_neg (Bool.eq_false_iff.mp hb)

theorem releaseEdge_none (h : s.display.press = none) : releaseEdge s = s := by
  simp only [releaseEdge, h]

theorem releaseEdge_held (h : s.display.press = some p) (hs : p.state = .held) : releaseEdge s =
    rebuild { s with display := { s.display with press := none, page := s.nextPage } } := by
  simp only [releaseEdge, h]
  exact if_pos hs

theorem releaseEdge_other (h : s.display.press = some p) (hs : p.state ≠ .held) : releaseEdge s =
    { s with display := { s.display with press := none } } := by
  simp only [releaseEdge, h]
  exact if_neg hs

theorem State.nextPage_eq (s : State) : s.nextPage =
    if s.display.page = 6 then 1 else if s.display.page = 5 ∧ s.mostUrgent = none then 1 else s.display.page + 1 := by
  unfold State.nextPage
  dsimp only
  by_cases h5 : s.display.page = 5
  · cases hm : s.mostUrgent <;> simp [h5]
  · by_cases h6 : s.display.page = 6
    · simp [h6]
    · simp [h5, h6]

theorem hold2s_none (h : s.display.press = none) : hold2s s = s := by
  simp only [hold2s, h]

theorem hold2s_other (h : s.display.press = some p) (hs : p.state ≠ .held) : hold2s s = s := by
  simp only [hold2s, h]
  exact if_neg fun hheld => hs hheld.1

theorem hold2s_held (h : s.display.press = some p) (hs : p.state = .held) (ht : p.timer2.isSome = true) : hold2s s =
    (let s1 := match buttonTrip p.page with | some r => resetTrip r .button s | none => s
     rebuild { s1 with display := { s1.display with press := some { p with state := .long, timer2 := none } } }) := by
  simp only [hold2s, h]
  exact if_pos ⟨hs, ht⟩

theorem buttonTrip_none {page : Nat} (h : 4 ≤ page ∨ page = 0) : buttonTrip page = none := by
  unfold buttonTrip
  split
  · omega
  · omega
  · omega
  · rfl

theorem buttonTrip_tripA {page : Nat} (h : page = 1 ∨ page = 2) : buttonTrip page = some 0 := by
  rcases h with rfl | rfl <;> rfl

end Button

/-- Settles O46: each notice, edge and expiry in the states in which it acts. -/
theorem pressRecordsAndMcTimers : Obligations.PressRecordsAndMcTimers := by
  intro s hp d delay shown nextPage woken ended
  have hwoken (e : Display) : e.wake = woken e := Display.wake_eq e
  have hdelay : s.offMs = delay := s.offMs_eq
  have hhold : exec .hold2sExpiry s = .next (hold2s s) := live_powered hold2s s hp
  have hoff : exec .mcOffTimerExpiry s = .next (mcOffExpiry s) := live_powered mcOffExpiry s hp
  have hna : exec .notAvailableExpiry s = .next (notAvailableExpiry s) := live_powered notAvailableExpiry s hp
  refine ⟨fun level seeded => ⟨rfl, rfl, rfl, fun v limited => rfl, fun count => rfl⟩, ?notice, fun h => ?_, fun h => ?_,
    fun new h => ?_, fun hnone => ⟨fun hb => ?_, fun hb => ?_⟩, fun r => rfl, fun h => ⟨releaseEdge_none h, ?_⟩, ?press,
    rfl, fun h => ?_, fun h => ?_, fun h => ?_, fun h => ?_⟩
  case notice =>
    intro mc rear entered fresh e
    have he : s.noticed s.idleMs mc rear entered = e := congrArg (fun ms => s.noticed ms mc rear entered) s.idleMs_eq
    refine ⟨fun hmc hrear hent => contentNotice_same hmc hrear hent, fun h => ⟨fun hf => ?_, fun hf => ?_⟩⟩
    · rw [contentNotice_new h, if_pos hf, he, hwoken]
    · rw [contentNotice_new h, if_neg hf, he]
  · exact displayKey_off (hdelay.trans h)
  · rw [displayKey_delay (fun h0 => h (hdelay.symm.trans h0)), hdelay]
  · rw [displayKey_on h, hwoken]
  · rw [pressEdge_blanked hnone hb, hwoken, hdelay]
  · exact pressEdge_shown hnone hb
  · rw [hhold, hold2s_none h]
  case press =>
    intro p hpress
    refine ⟨fun hs => ?_, fun hs => ⟨releaseEdge_other hpress hs, ?_⟩, ?_⟩
    · rw [releaseEdge_held hpress hs, State.nextPage_eq]
    · rw [hhold, hold2s_other hpress hs]
    · intro hs ht long
      have hrun := hold2s_held hpress hs ht
      refine ⟨fun hpage => ?_, fun hpage => ?_, fun hpage => ?_⟩
      · rw [hhold, hrun, buttonTrip_tripA hpage]
      · rw [hhold, hrun, show buttonTrip p.page = some 1 by rw [hpage]; rfl]
      · rw [hhold, hrun, buttonTrip_none hpage]
  · exact hoff.trans (congrArg _ (if_pos h))
  · exact hoff.trans (congrArg _ (if_neg (by rw [show s.display.offTimer = none from h]; nofun)))
  · exact hna.trans (congrArg _ (if_pos h))
  · exact hna.trans (congrArg _ (if_neg (by rw [show s.display.naTimer = none from h]; nofun)))

end Sys2Proof.Machine
end


section
/-! PROOF. The rear panel's replies (R155 to R158): the ask for CALL ANSWERED, the misses and the ABSENT panel, the filling
from the wants, and the running RP idle timer. -/

namespace Sys2Proof.Machine

/-! ### The ask for CALL ANSWERED (R158) -/

section Ask
variable {d : Display}

theorem Display.askAnswer_dropped (h : d.call = false ∨ d.answerWant = true ∨ .answered ∈ d.queue) :
    d.askAnswer = d := by
  refine if_pos ?_
  rw [Bool.or_eq_true, Bool.or_eq_true, Bool.not_eq_true', Display.queued_iff, or_assoc]
  exact h

theorem Display.askAnswer_asked (hc : d.call = true) (hs : ¬ (d.answerWant = true ∨ .answered ∈ d.queue)) : d.askAnswer =
    if d.link = .active ∧ d.queue.length < 6 ∧ d.present = true then { d with queue := d.queue ++ [.answered] }
    else ({ d with answerWant := true }).wake := by
  have hdropped : ¬ (!d.call || d.answerWant || d.queued .answered) = true := by
    rw [Bool.or_eq_true, Bool.or_eq_true, Bool.not_eq_true', Display.queued_iff, hc, or_assoc]
    exact fun h => h.elim nofun hs
  have hplace : (d.room && d.present) = true ↔ d.link = .active ∧ d.queue.length < 6 ∧ d.present = true := by
    rw [Bool.and_eq_true, Display.room_iff, and_assoc]
  unfold Display.askAnswer
  rw [if_neg hdropped]
  simp only [hplace]

end Ask

/-! ### What filling from the wants leaves as it was (R150) -/

section Filling
variable {d : Display}

theorem Display.fillWants_only (d : Display) : d.fillWants =
    { d with queue := d.fillWants.queue, outstanding := d.fillWants.outstanding, pollWant := d.fillWants.pollWant,
             answerWant := d.fillWants.answerWant } := by
  by_cases h : d.link = .active
  · rw [Display.fillWants_active h]
    rfl
  · rw [Display.fillWants_inactive d h]

/-- A packet that is not fillable is neither queued nor no longer wanted afterwards. -/
theorem Display.fillWants_keeps {p : Packet} (h : d.fillable p = false) :
    d.fillWants.wants p = d.wants p ∧ (p ∈ d.fillWants.queue ↔ p ∈ d.queue) := by
  by_cases hl : d.link = .active
  · have hp : p ∉ (wantOrder.filter d.fillable).take (6 - d.queue.length) := by
      intro hmem
      rw [(List.mem_filter.mp (List.mem_of_mem_take hmem)).2] at h
      cases h
    rw [Display.fillWants_active hl]
    exact ⟨d.taken_wants hp, List.mem_append.trans (or_iff_left hp)⟩
  · rw [Display.fillWants_inactive d hl]
    exact ⟨rfl, Iff.rfl⟩

theorem Display.fillable_unwanted {p : Packet} (h : d.wants p = false) : d.fillable p = false := by
  simp [Display.fillable, h]

theorem Display.fillable_barred {p : Packet} (h : d.may p = false) : d.fillable p = false := by
  simp [Display.fillable, h]

end Filling

/-! ### A rebuild changes the images, the queue and the marks only (R146) -/

section Rebuild

theorem Display.foldl_itemChanged_only (is : List Item) (d : Display) : is.foldl Display.itemChanged d =
    { d with queue := (is.foldl Display.itemChanged d).queue,
             outstanding := (is.foldl Display.itemChanged d).outstanding } := by
  have hone (e : Display) (i : Item) :
      e.itemChanged i = { e with queue := (e.itemChanged i).queue, outstanding := (e.itemChanged i).outstanding } := by
    unfold Display.itemChanged
    split
    · rfl
    · split <;> rfl
  induction is generalizing d with
  | nil => rfl
  | cons i is ih =>
    rw [List.foldl_cons]
    refine (ih _).trans ?_
    rw [hone d i]

theorem rebuild_only (s : State) : rebuild s = { s with display := { s.display with
    images := (rebuild s).display.images, queue := (rebuild s).display.queue,
    outstanding := (rebuild s).display.outstanding } } := by
  have hfold := Display.foldl_itemChanged_only (allItems.filter (Images.differ s.display.images (buildImages s)))
    { s.display with images := buildImages s }
  have himages : (rebuild s).display.images = buildImages s := congrArg Display.images hfold
  rw [himages]
  exact congrArg (fun d => { s with display := d }) hfold

/-- An item that changes adds no packet but its own. -/
theorem Display.mem_foldl_itemChanged {is : List Item} {d : Display} {p : Packet} (h : ∀ i ∈ is, p ≠ .item i) :
    p ∈ (is.foldl Display.itemChanged d).queue ↔ p ∈ d.queue := by
  induction is generalizing d with
  | nil => exact Iff.rfl
  | cons i is ih =>
    rw [List.foldl_cons, ih fun j hj => h j (List.mem_cons_of_mem i hj)]
    unfold Display.itemChanged
    split
    · exact Iff.rfl
    · split
      · exact List.mem_append.trans (or_iff_left (mt List.mem_singleton.mp (h i List.mem_cons_self)))
      · exact Iff.rfl

theorem rebuild_answered (s : State) : .answered ∈ (rebuild s).display.queue ↔ .answered ∈ s.display.queue :=
  Display.mem_foldl_itemChanged (d := { s.display with images := buildImages s }) fun _ _ => nofun

end Rebuild

/-! ### A panel that becomes ABSENT (R156) -/

section Absent

theorem Outstanding.ext_get {o x : Outstanding} (h : ∀ i, o.get i = x.get i) : o = x := by
  obtain ⟨a, b, c, e, f, g, k⟩ := o
  obtain ⟨a', b', c', e', f', g', k'⟩ := x
  cases h .mcText
  cases h .mcAttr
  cases h .rp1Text
  cases h .rp1Attr
  cases h .rp2Text
  cases h .rp2Attr
  cases h .rpClock
  rfl

/-- The items whose packets are removed keep their marks set. -/
theorem Display.foldl_unqueue (l : List Item) (d : Display) :
    l.foldl (fun (e : Display) i => { e.unqueue (.item i) with outstanding := e.outstanding.put i true }) d =
      { d with queue := d.queue.filter (fun p => l.all (fun i => p != .item i)),
               outstanding := l.foldl (fun o i => o.put i true) d.outstanding } := by
  induction l generalizing d with
  | nil =>
    have hall : d.queue.filter (fun p => [].all (fun i => p != Packet.item i)) = d.queue :=
      List.filter_eq_self.mpr fun _ _ => rfl
    rw [hall]
    rfl
  | cons i l ih =>
    rw [List.foldl_cons, ih, List.foldl_cons]
    simp only [Display.unqueue, List.filter_filter, List.all_cons]
    simp only [Bool.and_comm]

theorem Outstanding.foldl_put_get (l : List Item) (o : Outstanding) (j : Item) :
    (l.foldl (fun o i => o.put i true) o).get j = (o.get j || l.contains j) := by
  induction l generalizing o with
  | nil => simp
  | cons i l ih =>
    rw [List.foldl_cons, ih, Outstanding.get_put, List.contains_cons]
    by_cases h : i = j
    · simp [h]
    · simp [h, beq_eq_false_iff_ne.mpr (Ne.symm h)]

variable {d : Display}

/-- The marks with those of the removed rear items set. -/
def Display.rearMarks (d : Display) : Outstanding :=
  let out (marked : Bool) (i : Item) : Bool := marked || d.queue.contains (.item i)
  { d.outstanding with
    rp1Text := out d.outstanding.rp1Text .rp1Text, rp1Attr := out d.outstanding.rp1Attr .rp1Attr,
    rp2Text := out d.outstanding.rp2Text .rp2Text, rp2Attr := out d.outstanding.rp2Attr .rp2Attr,
    rpClock := out d.outstanding.rpClock .rpClock }

theorem Display.rearMarks_get (d : Display) (i : Item) :
    d.rearMarks.get i = (d.outstanding.get i || (i.isRear && d.queue.contains (.item i))) := by
  cases i <;> simp [Display.rearMarks, Outstanding.get, Item.isRear]

/-- A packet that stays queued when the panel becomes ABSENT. -/
def Packet.stays : Packet → Bool
  | .item .mcText | .item .mcAttr | .poll => true
  | _ => false

theorem Packet.stays_item (i : Item) : (Packet.item i).stays = !i.isRear := by cases i <;> rfl

theorem Packet.stays_iff (p : Packet) : p.stays = true ↔ p ≠ .answered ∧ ∀ i, i.isRear = true → p ≠ .item i := by
  cases p with
  | poll => simp [Packet.stays]
  | answered => simp [Packet.stays]
  | item i =>
    rw [Packet.stays_item, Bool.not_eq_true']
    refine ⟨fun h => ⟨nofun, fun j hj hij => ?_⟩, fun ⟨_, h⟩ => Bool.eq_false_iff.mpr fun hi => h i hi rfl⟩
    cases hij
    exact Bool.false_ne_true (h.symm.trans hj)

/-- The display of a panel that has become ABSENT, before the wants fill the places. -/
def Display.absent (d : Display) : Display :=
  { d with present := false, answerWant := d.answerWant || d.queue.contains .answered,
           queue := d.queue.filter Packet.stays, outstanding := d.rearMarks }

theorem Display.becomeAbsent_eq (d : Display) : d.becomeAbsent = d.absent.fillWants := by
  let rear := allItems.filter (fun i => i.isRear && d.queued (.item i))
  let d1 : Display := { d with present := false, queue := d.queue.filter (fun p => rear.all (fun i => p != .item i)),
                               outstanding := rear.foldl (fun o i => o.put i true) d.outstanding }
  have hrear (i : Item) : i ∈ rear ↔ i.isRear = true ∧ .item i ∈ d.queue := by
    rw [List.mem_filter, Bool.and_eq_true, Display.queued_iff]
    exact and_iff_right (by cases i <;> decide)
  have hmarks : rear.foldl (fun o i => o.put i true) d.outstanding = d.rearMarks := by
    refine Outstanding.ext_get fun i => ?_
    rw [Outstanding.foldl_put_get, Display.rearMarks_get]
    congr 1
    rw [Bool.eq_iff_iff, List.contains_iff_mem, hrear, Bool.and_eq_true, List.contains_iff_mem]
  have hout (p : Packet) (hp : p ∈ d.queue) :
      rear.all (fun i => p != .item i) = true ↔ ∀ i, i.isRear = true → p ≠ .item i := by
    rw [List.all_eq_true]
    constructor
    · intro h i hi hpi
      exact bne_iff_ne.mp (h i ((hrear i).mpr ⟨hi, hpi ▸ hp⟩)) hpi
    · exact fun h i hi => bne_iff_ne.mpr (h i ((hrear i).mp hi).1)
  have hanswered : d1.queued .answered = true ↔ .answered ∈ d.queue := by
    rw [Display.queued_iff, List.mem_filter]
    exact and_iff_left_of_imp fun h => (hout _ h).mpr fun i _ => nofun
  have hbecome : d.becomeAbsent =
      (if d1.queued .answered then { d1.unqueue .answered with answerWant := true } else d1).fillWants := by
    unfold Display.becomeAbsent
    dsimp only
    rw [Display.foldl_unqueue]
  rw [hbecome]
  refine congrArg Display.fillWants ?_
  by_cases ha : .answered ∈ d.queue
  · have hqueue : (d1.queue.filter (fun q => q != .answered)) = d.queue.filter Packet.stays := by
      rw [List.filter_filter]
      refine List.filter_congr fun p hp => ?_
      rw [Bool.eq_iff_iff, Bool.and_eq_true, bne_iff_ne, hout p hp, Packet.stays_iff]
    have hwant : (d.answerWant || d.queue.contains .answered) = true := by
      rw [List.contains_iff_mem.mpr ha, Bool.or_true]
    rw [if_pos (hanswered.mpr ha)]
    unfold Display.unqueue Display.absent
    rw [hqueue, hwant, ← hmarks]
  · have hqueue : d1.queue = d.queue.filter Packet.stays := by
      refine List.filter_congr fun p hp => ?_
      rw [Bool.eq_iff_iff, hout p hp, Packet.stays_iff]
      exact (and_iff_right (show p ≠ .answered from fun hpa => ha (hpa ▸ hp))).symm
    have hwant : (d.answerWant || d.queue.contains .answered) = d.answerWant := by
      rw [List.contains_eq_mem, decide_eq_false ha, Bool.or_false]
    rw [if_neg (mt hanswered.mp ha)]
    unfold Display.absent
    rw [hwant, ← hqueue, ← hmarks]

theorem Display.miss_third (hm : d.missed = 2) (hp : d.present = true) :
    d.miss = ({ d with missed := 3 } : Display).absent.fillWants := by
  unfold Display.miss
  rw [if_pos (by omega)]
  dsimp only
  rw [hm, if_pos ⟨rfl, hp⟩, Display.becomeAbsent_eq]

theorem Display.miss_counted (hm : d.missed < 3) (h : d.missed + 1 < 3 ∨ d.present = false) :
    d.miss = { d with missed := d.missed + 1 } := by
  unfold Display.miss
  rw [if_pos hm]
  refine if_neg ?_
  rintro ⟨h3, hp⟩
  rcases h with h | h
  · exact absurd h3 (Nat.ne_of_lt h)
  · exact absurd (hp.symm.trans h) nofun

theorem Display.miss_full (hm : 3 ≤ d.missed) : d.miss = d := if_neg (Nat.not_lt.mpr hm)

/-- With the panel ABSENT neither an answer nor a rear item is fillable. -/
theorem Display.absent_fillable (d : Display) {p : Packet} (h : p.stays = false) : d.absent.fillable p = false := by
  refine Display.fillable_barred ?_
  cases p with
  | poll => cases h
  | answered => rfl
  | item i =>
    cases i with
    | mcText => cases h
    | mcAttr => cases h
    | rp1Text | rp1Attr | rp2Text | rp2Attr | rpClock => rfl

theorem Display.absent_queue (d : Display) {p : Packet} (h : p.stays = false) : p ∉ d.absent.queue := by
  intro hp
  rw [(List.mem_filter.mp hp).2] at h
  cases h

theorem Packet.stays_rear {i : Item} (h : i.isRear = true) : (Packet.item i).stays = false := by
  rw [Packet.stays_item, h]
  rfl

end Absent

/-! ### A running RP idle timer (R161) -/

/-- The display setup stays, and an RP idle timer that has just been restarted stays so. -/
structure IdleKept (s t : State) : Prop where
  setup : t.display.setup = s.display.setup
  idle : s.display.idleTimer = some s.idleMs → t.display.idleTimer = some t.idleMs

section Idle

theorem IdleKept.of_display {s t : State} (h : t.display.setup = s.display.setup)
    (hi : t.display.idleTimer = s.display.idleTimer) : IdleKept s t := by
  refine ⟨h, fun hs => ?_⟩
  rw [hi, hs, State.idleMs_eq, State.idleMs_eq, h]

theorem IdleKept.refl (s : State) : IdleKept s s := .of_display rfl rfl

theorem IdleKept.trans {s t u : State} (h : IdleKept s t) (k : IdleKept t u) : IdleKept s u :=
  ⟨k.setup.trans h.setup, k.idle ∘ h.idle⟩

/-- Behind a change of another block. -/
theorem IdleKept.behind {s r t : State} (k : IdleKept r t) (h : r.display = s.display) : IdleKept s t :=
  IdleKept.trans (.of_display (by rw [h]) (by rw [h])) k

theorem IdleKept.ite {p : Prop} [Decidable p] {s t u : State} (ht : IdleKept s t) (hu : IdleKept s u) :
    IdleKept s (if p then t else u) := by
  split
  · exact ht
  · exact hu

theorem IdleKept.foldl {α : Type} {f : State → α → State} (h : ∀ s a, IdleKept s (f s a)) (l : List α) (s : State) :
    IdleKept s (l.foldl f s) := by
  induction l generalizing s with
  | nil => exact .refl s
  | cons a l ih => exact (h s a).trans (ih _)

theorem report_idleKept (e : Event) (s : State) : IdleKept s (report e s) :=
  .of_display (by rw [report_display]) (by rw [report_display])

theorem rebuild_idleKept (s : State) : IdleKept s (rebuild s) :=
  .of_display (by rw [rebuild_only]) (by rw [rebuild_only])

theorem checkShutdown_idleKept (s : State) : IdleKept s (checkShutdown s) := .ite (.of_display rfl rfl) (.refl s)

theorem Display.wake_setup (d : Display) : d.wake.setup = d.setup := by
  unfold Display.wake
  split <;> rfl

theorem Display.wake_idleTimer (d : Display) : d.wake.idleTimer = d.idleTimer := by
  unfold Display.wake
  split <;> rfl

/-- A notice of the contents restarts the timer or leaves it (R125, R161). -/
theorem contentNotice_idleKept (mc : Option (Fin 64 × Bool)) (rear : Option (Fin 64)) (entered : Bool) (s : State) :
    IdleKept s (contentNotice mc rear entered s) := by
  have hnoticed : IdleKept s { s with display := s.noticed s.idleMs mc rear entered } := by
    refine ⟨rfl, fun h => ?_⟩
    show (if s.display.rearWarning ≠ rear then some s.idleMs else s.display.idleTimer) = some s.idleMs
    split
    · rfl
    · exact h
  by_cases h : s.display.mcWarning ≠ mc ∨ s.display.rearWarning ≠ rear ∨ entered = true
  · rw [contentNotice_new h]
    refine IdleKept.trans ?_ ((rebuild_idleKept _).trans (checkShutdown_idleKept _))
    split
    · exact hnoticed.trans (.of_display (Display.wake_setup _) (Display.wake_idleTimer _))
    · exact hnoticed
  · obtain ⟨hmc, hrest⟩ := not_or.mp h
    obtain ⟨hrear, he⟩ := not_or.mp hrest
    rw [contentNotice_same (not_not.mp hmc) (not_not.mp hrear) (Bool.eq_false_iff.mpr he)]
    exact .refl s

theorem notifyDisplay_idleKept (entered : Bool) (s : State) : IdleKept s (notifyDisplay entered s) :=
  contentNotice_idleKept _ _ entered s

theorem changeState_idleKept (w : Fin 32) (new : WarnState) (cause : WarnCause) (s : State) :
    IdleKept s (changeState w new cause s) := (report_idleKept _ _).behind rfl

theorem requestChimes_display (w : Fin 32) (s : State) : (requestChimes w s).display = s.display := by
  unfold requestChimes
  dsimp only
  split
  · rfl
  · split <;> rfl

theorem presentWarning_idleKept (w : Fin 32) (s : State) : IdleKept s (presentWarning w s) :=
  (changeState_idleKept w .presented .present s).trans
    ((notifyDisplay_idleKept true _).behind (requestChimes_display w _))

theorem displaceWarning_idleKept (w : Fin 32) (s : State) : IdleKept s (displaceWarning w s) :=
  (changeState_idleKept w .pending .displaced s).trans ((IdleKept.refl _).behind rfl)

theorem select_idleKept (s : State) : IdleKept s (select s) := by
  unfold select
  split
  · exact notifyDisplay_idleKept false s
  · split
    · exact presentWarning_idleKept _ s
    · exact .ite ((displaceWarning_idleKept _ s).trans (presentWarning_idleKept _ _)) (notifyDisplay_idleKept false s)

theorem endWarning_idleKept (w : Fin 32) (cause : WarnCause) (s : State) : IdleKept s (endWarning w cause s) := by
  have hended : IdleKept s (releaseChimes w (stopTimers w (changeState w .idle cause s))) :=
    (changeState_idleKept w .idle cause s).trans ((IdleKept.refl _).behind rfl)
  exact .ite (hended.trans (select_idleKept _)) (hended.trans (notifyDisplay_idleKept false _))

theorem becameTrue_idleKept (w : Fin 32) (s : State) : IdleKept s (becameTrue w s) :=
  .ite ((changeState_idleKept w .pending .qualify s).trans (select_idleKept _)) (.refl s)

theorem becameFalse_idleKept (w : Fin 32) (s : State) : IdleKept s (becameFalse w s) := by
  have hended := endWarning_idleKept w .clear s
  unfold becameFalse
  dsimp only
  split
  · exact .refl s
  · exact .refl s
  · exact hended
  · exact hended
  · exact .refl s
  · exact hended

theorem setCondition_idleKept (w : Fin 32) (b : Bool) (s : State) : IdleKept s (setCondition w b s) :=
  .ite (.refl s) (.ite ((becameTrue_idleKept w _).behind rfl) ((becameFalse_idleKept w _).behind rfl))

theorem testGate_idleKept (w : Fin 32) (s : State) : IdleKept s (testGate w s) := by
  unfold testGate
  dsimp only
  split
  · refine .ite (.refl s) (.ite ((setCondition_idleKept w _ _).behind rfl) ?_)
    have hended (x : Warning) : IdleKept s (endWarning w .gate (s.setWarning w x)) :=
      (endWarning_idleKept w .gate _).behind rfl
    have hshut (x : Warning) : IdleKept s (s.setWarning w x) := (IdleKept.refl _).behind rfl
    split
    · exact hshut _
    · exact .ite (hshut _) (hended _)
    · exact .ite (hshut _) (hended _)
    · exact hended _
  · exact .refl s

theorem warnSubject_idleKept (kind : WarnKind) (subject : Nat) (w : Fin 32) (s : State) :
    IdleKept s (warnSubject kind subject w s) := by
  have htested := testGate_idleKept w s
  unfold warnSubject
  dsimp only
  split
  · exact .ite (.ite (htested.trans (setCondition_idleKept w _ _)) htested) (.refl s)
  · exact .refl s

theorem setSys_idleKept (k : SysCond) (b : Bool) (s : State) : IdleKept s (setSys k b s) := by
  refine .ite (.refl s) (IdleKept.behind (.foldl (fun t w => ?_) _ _) rfl)
  exact warnSubject_idleKept .system k.code w t

end Idle

end Sys2Proof.Machine
end


section
/-! PROOF. The rear panel's good replies (R155, R157): the request set with its changes of CALL and JOURNEY, and with the
ask and the misses the whole of O45. -/

namespace Sys2Proof.Machine

/-! ### What the changes of a request set keep -/

/-- What taking a request set keeps beside its own fields: the reply's counts, the answer, the warnings, and the blocks that
it does not reach. -/
structure SideKept (s t : State) : Prop where
  setup : t.display.setup = s.display.setup
  idleTimer : t.display.idleTimer = s.display.idleTimer
  missed : t.display.missed = s.display.missed
  present : t.display.present = s.display.present
  answerWant : t.display.answerWant = s.display.answerWant
  answered : .answered ∈ t.display.queue ↔ .answered ∈ s.display.queue
  warnings : t.warnings = s.warnings
  mem : t.store.mem = s.store.mem
  channels : t.channels = s.channels
  key : t.key = s.key

section Side

theorem SideKept.refl (s : State) : SideKept s s := ⟨rfl, rfl, rfl, rfl, rfl, Iff.rfl, rfl, rfl, rfl, rfl⟩

theorem SideKept.trans {s t u : State} (h : SideKept s t) (k : SideKept t u) : SideKept s u :=
  ⟨k.setup.trans h.setup, k.idleTimer.trans h.idleTimer, k.missed.trans h.missed, k.present.trans h.present,
    k.answerWant.trans h.answerWant, k.answered.trans h.answered, k.warnings.trans h.warnings, k.mem.trans h.mem,
    k.channels.trans h.channels, k.key.trans h.key⟩

theorem rebuild_sideKept (s : State) : SideKept s (rebuild s) := by
  refine ⟨?_, ?_, ?_, ?_, ?_, rebuild_answered s, rfl, rfl, rfl, rfl⟩ <;> rw [rebuild_only]

theorem checkShutdown_sideKept (s : State) : SideKept s (checkShutdown s) := by
  unfold checkShutdown
  split
  · exact ⟨rfl, rfl, rfl, rfl, rfl, Iff.rfl, rfl, rfl, rfl, rfl⟩
  · exact .refl s

/-- A change of the trip records that is reported and shown. -/
theorem shownTrip_sideKept (e : Event) (x : Trip) (s : State) :
    SideKept s (rebuild (report e { s with trip := x })) := by
  have hreport : SideKept s (report e { s with trip := x }) := by
    have hk := report_kept e { s with trip := x }
    refine ⟨?_, ?_, ?_, ?_, ?_, ?_, report_warnings _ _, hk.mem, hk.channels, hk.key⟩ <;> rw [report_display]
  exact hreport.trans (rebuild_sideKept _)

theorem shownTrip_trip (e : Event) (x : Trip) (s : State) : (rebuild (report e { s with trip := x })).trip = x :=
  report_trip _ _

end Side

/-! ### Good replies (R155 to R157) -/

section Replies
variable {s : State} {bytes : List Byte}

theorem replyGood_iff : replyGood bytes = true ↔
    bytes.length = 3 ∧ bytes[0]? = some 0x81 ∧ byteSum bytes = 0 := by
  rw [replyGood, Bool.and_eq_true, Bool.and_eq_true, beq_iff_eq, beq_iff_eq, beq_iff_eq, and_assoc]
  refine and_congr_right fun hlen => and_congr_left' ?_
  obtain ⟨a, l, rfl⟩ : ∃ a l, bytes = a :: l := List.exists_cons_of_ne_nil (by rintro rfl; cases hlen)
  simp

theorem replyTaken_outside (h : s.display.tx ≠ .listening) : replyTaken bytes s = s := by
  unfold replyTaken
  split
  · rename_i htx
    exact absurd htx h
  · rfl

theorem replyWindowExpiry_outside (h : s.display.tx ≠ .listening) : replyWindowExpiry s = s := by
  unfold replyWindowExpiry
  split
  · rename_i htx
    exact absurd htx h
  · rfl

section Listening
variable (h : s.display.tx = .listening)
include h

theorem replyWindowExpiry_inside : replyWindowExpiry s = { s with display := s.display.endWindow.miss } := by
  simp only [replyWindowExpiry, h]

theorem replyTaken_bad (hg : ¬ replyGood bytes = true) :
    replyTaken bytes s = { s with display := s.display.endWindow.miss } := by
  simp only [replyTaken, h]
  exact if_neg hg

theorem replyTaken_good (hg : replyGood bytes = true) : replyTaken bytes s =
    takeRequestSet ((bytes.getD 1 0).getLsbD 0) ((bytes.getD 1 0).getLsbD 1)
      { s with display := s.display.endWindow.goodReply } := by
  simp only [replyTaken, h]
  exact if_pos hg

end Listening

theorem Display.goodReply_present {d : Display} (h : d.present = true) : d.goodReply = { d with missed := 0 } := if_pos h

theorem Display.goodReply_absent {d : Display} (h : d.present = false) : d.goodReply =
    ({ d with missed := 0, present := true,
              outstanding := { d.outstanding with rp1Text := true, rp1Attr := true, rp2Text := true,
                                                  rp2Attr := true, rpClock := true } }).fillWants :=
  if_neg (Bool.eq_false_iff.mp h)

/-- What a good reply leaves of the display as it was. -/
theorem Display.goodReply_fields (d : Display) : d.goodReply.call = d.call ∧ d.goodReply.journey = d.journey ∧
    d.goodReply.setup = d.setup ∧ d.goodReply.missed = 0 ∧ d.goodReply.present = true := by
  cases h : d.present with
  | true =>
    rw [Display.goodReply_present h]
    exact ⟨rfl, rfl, rfl, rfl, h⟩
  | false =>
    rw [Display.goodReply_absent h, Display.fillWants_only]
    exact ⟨rfl, rfl, rfl, rfl, rfl⟩

theorem takeRequestSet_same {call journey : Bool} (hc : s.display.call = call) (hj : s.display.journey = journey) :
    takeRequestSet call journey s = s := if_pos ⟨hc, hj⟩

theorem takeRequestSet_differs {call journey : Bool} (h : s.display.call ≠ call ∨ s.display.journey ≠ journey) :
    takeRequestSet call journey s =
      (let timed : State := { s with display := { s.display with idleTimer := some s.idleMs } }
       let called := if s.display.call = call then timed else callChange call timed
       let t := if s.display.journey = journey then called else journeyChange journey called
       checkShutdown { t with display := { t.display with call := call, journey := journey } }) :=
  if_neg fun hsame => h.elim (· hsame.1) (· hsame.2)

/-- The display when CALL leaves: neither wanted nor queued, with the freed place filled (R157). -/
def Display.callGone (d : Display) : Display := (({ d with answerWant := false }).unqueue .answered).fillWants

theorem Display.callGone_only (d : Display) : d.callGone =
    { d with queue := d.callGone.queue, outstanding := d.callGone.outstanding, pollWant := d.callGone.pollWant,
             answerWant := d.callGone.answerWant } :=
  Display.fillWants_only _

theorem Display.callGone_answered (d : Display) : d.callGone.answerWant = false ∧ .answered ∉ d.callGone.queue := by
  obtain ⟨hwants, hqueue⟩ := Display.fillWants_keeps
    (d := ({ d with answerWant := false }).unqueue .answered) (p := .answered) (Display.fillable_unwanted rfl)
  refine ⟨hwants, fun h => ?_⟩
  have hnot := (List.mem_filter.mp (hqueue.mp h)).2
  exact absurd hnot (by decide)

theorem callChange_false (s : State) : callChange false s =
    { setSys .rearCall false s with display := (setSys .rearCall false s).display.callGone } := rfl

/-- What a change of CALL keeps (R157). -/
structure CallKept (s t : State) : Prop where
  trip : t.trip = s.trip
  idle : IdleKept s t
  missed : t.display.missed = s.display.missed
  present : t.display.present = s.display.present
  mem : t.store.mem = s.store.mem
  channels : t.channels = s.channels
  key : t.key = s.key

theorem setSys_callKept (b : Bool) (s : State) : CallKept s (setSys .rearCall b s) := by
  have hframe := setSys_frame .rearCall b s
  have hkept := setSys_kept .rearCall b s
  refine ⟨hframe.trip, setSys_idleKept .rearCall b s, ?_, ?_, hkept.mem, hkept.channels,
    hkept.key⟩ <;> rw [hframe.display] <;> rfl

theorem callChange_kept (b : Bool) (s : State) : CallKept s (callChange b s) := by
  have h := setSys_callKept b s
  cases b with
  | true => exact h
  | false =>
    rw [callChange_false]
    generalize setSys .rearCall false s = t at h
    refine ⟨h.trip, h.idle.trans (.of_display ?_ ?_), .trans ?_ h.missed, .trans ?_ h.present, h.mem,
      h.channels, h.key⟩ <;> dsimp only <;> rw [Display.callGone_only]

theorem callChange_rearCall (b : Bool) (s : State) : (callChange b s).warnings.rearCall = b := by
  cases b with
  | true => exact setSys_sys .rearCall true s
  | false => exact setSys_sys .rearCall false s

theorem CallKept.refl (s : State) : CallKept s s := ⟨rfl, .refl s, rfl, rfl, rfl, rfl, rfl⟩

/-- The state after the change of CALL, if it differs from the one held before. -/
def State.calledWith (s : State) (before call : Bool) : State := if before = call then s else callChange call s

theorem State.calledWith_kept (s : State) (before call : Bool) : CallKept s (s.calledWith before call) := by
  unfold State.calledWith
  split
  · exact .refl s
  · exact callChange_kept call s

/-- The state after the change of JOURNEY, if it differs from the one held before. -/
def State.journeyedWith (s : State) (before journey : Bool) : State :=
  if before = journey then s else journeyChange journey s

section Journey
variable {before journey : Bool} {x : Trip}

/-- REAR_JOURNEY stays as it is. -/
theorem State.journeyedWith_kept (ht : s.trip = x) (h : before = journey ∨ (journey = false ∧ x.rear ≠ .running)) :
    s.journeyedWith before journey = s := by
  subst ht
  unfold State.journeyedWith
  split
  · rfl
  · rename_i hne
    obtain ⟨rfl, hrear⟩ := h.resolve_left hne
    exact if_neg hrear

theorem State.journeyedWith_enter (ht : s.trip = x) (h : ¬ (before = journey ∨ (journey = false ∧ x.rear ≠ .running)))
    (hj : journey = true) : s.journeyedWith before journey = rebuild (report .journeyStart { s with trip := { x with
      records := x.records.set 3 .zero, snapshots := x.snapshots.set 3 none, rear := .running } }) := by
  subst hj ht
  exact if_neg fun hb => h (.inl hb)

theorem State.journeyedWith_leave (ht : s.trip = x) (h : ¬ (before = journey ∨ (journey = false ∧ x.rear ≠ .running)))
    (hj : journey = false) : s.journeyedWith before journey = rebuild (report
      (.journeyEnd (x.records[(3 : Fin 4)]).distance.value (x.records[(3 : Fin 4)]).elapsed.value)
      { s with trip := { x with rear := .ended } }) := by
  subst hj ht
  have hrear : s.trip.rear = .running := not_not.mp fun hr => h (.inr ⟨rfl, hr⟩)
  have hchange : journeyChange false s = rebuild (journeyLeave s) := if_pos hrear
  have hleave : journeyLeave s = report
      (.journeyEnd (s.trip.records[(3 : Fin 4)]).distance.value (s.trip.records[(3 : Fin 4)]).elapsed.value)
      { s with trip := { s.trip with rear := .ended } } := if_pos hrear
  rw [← hleave, ← hchange]
  exact if_neg fun hb => h (.inl hb)

theorem State.journeyedWith_sideKept (s : State) (before journey : Bool) :
    SideKept s (s.journeyedWith before journey) := by
  by_cases h : before = journey ∨ (journey = false ∧ s.trip.rear ≠ .running)
  · rw [State.journeyedWith_kept rfl h]
    exact .refl s
  · cases journey with
    | true =>
      rw [State.journeyedWith_enter rfl h rfl]
      exact shownTrip_sideKept _ _ s
    | false =>
      rw [State.journeyedWith_leave rfl h rfl]
      exact shownTrip_sideKept _ _ s

end Journey

/-- The request set held. -/
def State.holding (s : State) (call journey : Bool) : State :=
  { s with display := { s.display with call := call, journey := journey } }

theorem State.holding_sideKept (s : State) (call journey : Bool) : SideKept s (s.holding call journey) :=
  ⟨rfl, rfl, rfl, rfl, rfl, Iff.rfl, rfl, rfl, rfl, rfl⟩

theorem checkShutdown_set (s : State) : (checkShutdown s).display.call = s.display.call ∧
    (checkShutdown s).display.journey = s.display.journey ∧ (checkShutdown s).trip = s.trip := by
  unfold checkShutdown
  split <;> exact ⟨rfl, rfl, rfl⟩

/-- A request set that differs: CALL, JOURNEY, the set held, and the shutdown conditions (R157, R161). -/
theorem takeRequestSet_acts {call journey : Bool} (h : s.display.call ≠ call ∨ s.display.journey ≠ journey) :
    takeRequestSet call journey s = checkShutdown (State.holding
      (State.journeyedWith (State.calledWith { s with display := { s.display with idleTimer := some s.idleMs } } s.display.call call)
        s.display.journey journey) call journey) :=
  takeRequestSet_differs h

end Replies

/-- What the third miss leaves (R155, R156). -/
theorem Display.absent_filled (d : Display) : .answered ∉ d.absent.fillWants.queue ∧
    (.answered ∈ d.queue → d.absent.fillWants.answerWant = true) ∧
    ∀ i : Item, i.isRear = true → .item i ∉ d.absent.fillWants.queue ∧
      (.item i ∈ d.queue → d.absent.fillWants.outstanding.get i = true) ∧
      (.item i ∉ d.queue → d.absent.fillWants.outstanding.get i = d.outstanding.get i) := by
  have hkeeps {p : Packet} (h : p.stays = false) := Display.fillWants_keeps (d.absent_fillable h)
  obtain ⟨hwant, hqueue⟩ := hkeeps (p := .answered) rfl
  refine ⟨fun h => d.absent_queue rfl (hqueue.mp h), fun h => Eq.trans hwant ?_, fun i hi => ?_⟩
  · show (d.answerWant || d.queue.contains .answered) = true
    rw [List.contains_iff_mem.mpr h, Bool.or_true]
  · obtain ⟨hmark, hitem⟩ := hkeeps (Packet.stays_rear hi)
    have hget : d.absent.fillWants.outstanding.get i = (d.outstanding.get i || d.queue.contains (.item i)) := by
      refine Eq.trans hmark ((d.rearMarks_get i).trans ?_)
      rw [hi, Bool.true_and]
    refine ⟨fun h => d.absent_queue (Packet.stays_rear hi) (hitem.mp h), fun h => ?_, fun h => ?_⟩
    · rw [hget, List.contains_iff_mem.mpr h, Bool.or_true]
    · rw [hget, List.contains_eq_mem, decide_eq_false h, Bool.or_false]

section Settling

/-- Settles O45: the ask, the misses, and the good reply with the changes of its request set. -/
theorem repliesAndMissesOfTheRearPanel : Obligations.RepliesAndMissesOfTheRearPanel := by
  constructor
  · intro d standing place
    refine ⟨fun hc => Display.askAnswer_dropped (.inl hc), fun hs => Display.askAnswer_dropped (.inr hs),
      fun hc hs hp => ?_, fun hc hs hp => ?_⟩
    · rw [Display.askAnswer_asked hc hs, if_pos hp]
    · rw [Display.askAnswer_asked hc hs, if_neg hp]
      refine ⟨fun hl => ?_, fun hl => ?_, fun hl => ?_⟩
      · rcases hl with hl | hl <;> simp [Display.wake, hl]
      · simp [Display.wake, hl]
      · simp [Display.wake, hl]
  · intro s hp d ended missed
    have hmissed : missed ended.miss := by
      refine ⟨fun hm => Display.miss_full (d := ended) hm, fun hm h => Display.miss_counted (d := ended) hm h,
        fun hm hpres => ?_⟩
      have hthird : ended.miss = ({ ended with missed := 3 } : Display).absent.fillWants := Display.miss_third hm hpres
      have hfilled := Display.absent_filled { ended with missed := 3 }
      refine ⟨hthird.trans (congrArg Display.fillWants ?_), ?_⟩
      · unfold Display.absent Display.rearMarks
        dsimp only
        congr 1
      · rw [hthird]
        refine ⟨?_, ?_, ?_, ?_, ?_, ?_, ?_, hfilled⟩ <;> rw [Display.fillWants_only] <;> rfl
    refine ⟨fun htx => ⟨?_, fun bytes => ?_⟩, fun htx => ⟨⟨ended.miss, ?_, hmissed⟩, ?_⟩⟩
    · exact (live_powered replyWindowExpiry s hp).trans (congrArg Host.Outcome.next (replyWindowExpiry_outside htx))
    · exact (live_powered (replyTaken bytes) s hp).trans (congrArg Host.Outcome.next (replyTaken_outside htx))
    · exact (live_powered replyWindowExpiry s hp).trans (congrArg Host.Outcome.next (replyWindowExpiry_inside htx))
    intro bytes good call journey
    have hgood : replyGood bytes = true ↔ good := replyGood_iff
    have hrun : exec (.statusReply bytes) s = .next (replyTaken bytes s) := live_powered (replyTaken bytes) s hp
    refine ⟨fun hg => ⟨ended.miss, ?_, hmissed⟩, fun hg hc hj => ?_, fun hg hd => ?_⟩
    · exact hrun.trans (congrArg Host.Outcome.next (replyTaken_bad htx (mt hgood.mp hg)))
    · obtain ⟨hcall, hjourney, -⟩ := ended.goodReply_fields
      have hsame : replyTaken bytes s = { s with display := ended.goodReply } := by
        rw [replyTaken_good htx (hgood.mpr hg)]
        exact takeRequestSet_same (hcall.trans hc) (hjourney.trans hj)
      rw [hrun, hsame]
      exact ⟨fun h => congrArg (fun e => Host.Outcome.next { s with display := e }) (Display.goodReply_present (d := ended) h),
        fun h => congrArg (fun e => Host.Outcome.next { s with display := e }) (Display.goodReply_absent (d := ended) h)⟩
    · let reply : State := { s with display := ended.goodReply }
      obtain ⟨hcall, hjourney, hsetup, hmiss, hpresent⟩ := ended.goodReply_fields
      have hidle : reply.idleMs = 1000 * (match d.setup with | some f => f.idleTime | none => 10) := by
        rw [State.idleMs_eq]
        exact congrArg (fun x : Option DisplaySetup => 1000 * (match x with | some f => f.idleTime | none => 10)) hsetup
      have hacts : replyTaken bytes s = _ := (replyTaken_good htx (hgood.mpr hg)).trans
        (takeRequestSet_acts (s := reply) (hd.imp (hcall.trans_ne ·) (hjourney.trans_ne ·)))
      rw [hidle, show reply.display.call = d.call from hcall, show reply.display.journey = d.journey from hjourney] at hacts
      let timed : State := { s with display := { ended.goodReply with
        idleTimer := some (1000 * (match d.setup with | some f => f.idleTime | none => 10)) } }
      have htimed : timed.display.idleTimer = some timed.idleMs := congrArg some hidle.symm
      have hcalled : CallKept timed (timed.calledWith d.call call) := timed.calledWith_kept d.call call
      have hrear : d.call ≠ call → (timed.calledWith d.call call).warnings.rearCall = call := fun h =>
        (congrArg (fun t : State => t.warnings.rearCall) (if_neg h)).trans (callChange_rearCall call timed)
      have hsame : d.call = call → (timed.calledWith d.call call) = timed := fun h => if_pos h
      have hleft : d.call = true → call = false → (timed.calledWith d.call call).display.answerWant = false ∧
          .answered ∉ (timed.calledWith d.call call).display.queue := by
        intro h h'
        rw [h, h']
        exact (setSys .rearCall false timed).display.callGone_answered
      let u : State := (timed.calledWith d.call call).journeyedWith d.journey journey
      have hside : SideKept (timed.calledWith d.call call) (checkShutdown (u.holding call journey)) :=
        ((State.journeyedWith_sideKept _ _ _).trans (State.holding_sideKept u call journey)).trans (checkShutdown_sideKept _)
      obtain ⟨hsetcall, hsetjourney, htrip⟩ := checkShutdown_set (u.holding call journey)
      refine ⟨_, hrun.trans (congrArg Host.Outcome.next hacts), hsetcall, hsetjourney,
        (hside.missed.trans hcalled.missed).trans hmiss, (hside.present.trans hcalled.present).trans hpresent, ?_, ?_,
        fun h h' => ?_, fun h => ?_, fun h => ?_, hside.mem.trans hcalled.mem, hside.channels.trans hcalled.channels,
        hside.key.trans hcalled.key⟩
      · rw [hside.idleTimer, hcalled.idle.idle htimed, State.idleMs_eq, hcalled.idle.setup]
        exact congrArg (fun x : Option DisplaySetup => some (1000 * (match x with | some f => f.idleTime | none => 10))) hsetup
      · have hcalledTrip : (timed.calledWith d.call call).trip = s.trip := hcalled.trip
        have hended {v : State} (hu : u = v) : checkShutdown (u.holding call journey) = checkShutdown (v.holding call journey) :=
          congrArg (fun v : State => checkShutdown (v.holding call journey)) hu
        refine ⟨fun hk => ?_, fun hk hj => ?_, fun hk hj => ?_, fun hk => ?_, fun hk hj => ?_, fun hk hj => ?_⟩
        · exact htrip.trans ((congrArg State.trip (State.journeyedWith_kept hcalledTrip hk)).trans hcalledTrip)
        · exact htrip.trans ((congrArg State.trip (State.journeyedWith_enter hcalledTrip hk hj)).trans (shownTrip_trip _ _ _))
        · exact htrip.trans ((congrArg State.trip (State.journeyedWith_leave hcalledTrip hk hj)).trans (shownTrip_trip _ _ _))
        · exact hended (State.journeyedWith_kept hcalledTrip hk)
        · exact hended (State.journeyedWith_enter hcalledTrip hk hj)
        · exact hended (State.journeyedWith_leave hcalledTrip hk hj)
      · obtain ⟨hwant, hqueue⟩ := hleft h h'
        exact ⟨hside.answerWant.trans hwant, mt hside.answered.mp hqueue⟩
      · exact (congrArg Warnings.rearCall hside.warnings).trans (hrear h)
      · rw [hside.warnings, hsame h]

end Settling

end Sys2Proof.Machine
end


section
/-! PROOF. A loss of power and the power-on reset (R64, R86, and each chapter's reset values). -/

namespace Sys2Proof.Machine

/-! ### A rewritten sector, word by word -/

section Sector
variable {m : List (Nat × Word)}

/-- Distinct addresses written one after another each hold what was written. -/
theorem Memory.read_foldl_write_same {ws : List Nat} {f : Nat → Nat × Word} {w : Nat} (hm : Memory.wf m = true)
    (hf : ∀ v ∈ ws, (f v).1 < 256) (hd : ∀ v ∈ ws, (f v).1 = (f w).1 → v = w) (hn : ws.Nodup) (hw : w ∈ ws) :
    Memory.read (ws.foldl (fun acc v => Memory.write acc (f v).1 (f v).2) m) (f w).1 = (f w).2 := by
  induction ws generalizing m with
  | nil => cases hw
  | cons v ws ih =>
    obtain ⟨hv, hn⟩ := List.nodup_cons.mp hn
    have hwrite := Memory.wf_write m _ (f v).2 hm (hf v List.mem_cons_self)
    rw [List.foldl_cons]
    by_cases hvw : v = w
    · subst hvw
      rw [Memory.read_foldl_write_other ws _ f (f v).1 ?_ hwrite]
      · exact Memory.read_write_same m 0 _ _ hm
      · intro u hu
        refine ⟨hf u (List.mem_cons_of_mem v hu), fun h => hv ?_⟩
        exact hd u (List.mem_cons_of_mem v hu) h ▸ hu
    · exact ih hwrite (fun u hu => hf u (List.mem_cons_of_mem v hu)) (fun u hu => hd u (List.mem_cons_of_mem v hu)) hn
        ((List.mem_cons.mp hw).resolve_left (Ne.symm hvw))

/-- A word of a rewritten sector. -/
theorem Memory.read_mapSector_inside {a : Fin 256} (f : Nat → Word → Word) (hm : Memory.wf m = true) :
    Memory.read (Memory.mapSector m (sectorOf a) f) a.val = f (a.val % 32) (Memory.read m a.val) := by
  have haddr : wordAddr (sectorOf a) (a.val % 32) = a.val := Nat.div_add_mod a.val 32
  have hread := Memory.read_foldl_write_same (ws := List.range 32) (w := a.val % 32)
    (f := fun w => (wordAddr (sectorOf a) w, f w (sectorWord m (sectorOf a) w))) hm
    (fun v hv => by have := List.mem_range.mp hv; have := (sectorOf a).isLt; unfold wordAddr; dsimp only; omega)
    (fun v _ h => by unfold wordAddr at h; dsimp only at h; omega)
    List.nodup_range (List.mem_range.mpr (Nat.mod_lt _ (by decide)))
  dsimp only at hread
  rw [haddr] at hread
  refine hread.trans (congrArg (f _) ?_)
  exact congrArg (Memory.read m) haddr

end Sector

/-! ### What a loss of power leaves (R64) -/

section Loss
variable {x : Store} {held : Word} {raised : List Word} {a : Fin 256}

theorem Store.cutProgram_other (hx : Memory.wf x.mem = true) (h : ∀ r, x.running = some r → r.addr ≠ a) :
    Memory.read (x.cutProgram held) a.val = Memory.read x.mem a.val := by
  unfold Store.cutProgram
  split
  · rename_i r hr
    exact Memory.read_write_other x.mem 0 _ _ _ hx fun hc => h r hr (Fin.ext hc.symm)
  · rfl

theorem Store.cutProgram_same {r : Running} (hx : Memory.wf x.mem = true) (hr : x.running = some r) :
    Memory.read (x.cutProgram held) r.addr.val = Memory.read x.mem r.addr.val &&& (r.value ||| held) := by
  simp only [Store.cutProgram, hr]
  exact Memory.read_write_same x.mem 0 _ _ hx

/-- Outside the sector that is being erased only a program in progress leaves a trace. -/
theorem Store.afterLoss_outside (hx : Memory.wf x.mem = true) (h : x.current ≠ some (sectorOf a)) :
    Memory.read (x.afterLoss held raised) a.val = Memory.read (x.cutProgram held) a.val := by
  cases hc : x.current with
  | none => rw [Store.afterLoss_idle hc]
  | some k =>
    rw [Store.afterLoss_erasing hc]
    refine Memory.read_mapSector_outside _ (Store.wf_cutProgram held hx) fun hk => h ?_
    rw [hc, hk]

/-- A word of the sector that is being erased keeps its bits and may gain others. -/
theorem Store.afterLoss_inside (hx : Memory.wf x.mem = true) (h : x.current = some (sectorOf a)) :
    Memory.read (x.afterLoss held raised) a.val =
      Memory.read (x.cutProgram held) a.val ||| raised.getD (a.val % 32) 0 := by
  rw [Store.afterLoss_erasing h]
  exact Memory.read_mapSector_inside _ (Store.wf_cutProgram held hx)

/-- The bits after a loss of power, by what was in progress at their word. -/
theorem Store.afterLoss_bits (hx : Memory.wf x.mem = true) (b : Fin 16) :
    let before := (Memory.read x.mem a.val).getLsbD b.val
    let after := (Memory.read (x.afterLoss held raised) a.val).getLsbD b.val
    (x.current ≠ some (sectorOf a) → (∀ r, x.running = some r → r.addr ≠ a) → after = before) ∧
    (∀ r, x.running = some r → r.addr = a → x.current ≠ some (sectorOf a) →
      (r.value.getLsbD b.val = true → after = before) ∧ (after = true → before = true)) ∧
    (x.current = some (sectorOf a) → (∀ r, x.running = some r → r.addr ≠ a) → before = true → after = true) := by
  refine ⟨fun hc hr => ?_, fun r hr ha hc => ?_, fun hc hr hbefore => ?_⟩
  · rw [Store.afterLoss_outside hx hc, Store.cutProgram_other hx hr]
  · subst ha
    rw [Store.afterLoss_outside hx hc, Store.cutProgram_same hx hr, BitVec.getLsbD_and, BitVec.getLsbD_or]
    refine ⟨fun hv => ?_, fun h => (Bool.and_eq_true_iff.mp h).1⟩
    rw [hv, Bool.true_or, Bool.and_true]
  · rw [Store.afterLoss_inside hx hc, Store.cutProgram_other hx hr, BitVec.getLsbD_or, hbefore, Bool.true_or]

end Loss

/-- Settles O27: the bits after a loss of power, and the power-on state by computation. -/
theorem powerLossKeepsOnlyTheStore : Obligations.PowerLossKeepsOnlyTheStore := by
  intro s held raised hwf during
  have hbits (a : Fin 256) (b : Fin 16) := Store.afterLoss_bits (held := held) (raised := raised) (a := a) hwf b
  refine ⟨fun hp => ⟨?_, fun straps => ?_⟩, fun hp straps => ?_, fun straps mem queue => ?_⟩
  · have hlost : losePower held raised s =
        { State.powerOn s.loop.node (s.store.afterLoss held raised) s.pending with powered := false } := if_pos hp
    refine ⟨losePower held raised s, rfl, ?_, ?_, fun a b => ?_⟩ <;> rw [hlost]
    · rfl
    · exact hbits a b
  · have hmem : (powerOnNow straps held raised s).store.mem = s.store.afterLoss held raised := if_pos hp
    refine ⟨powerOnNow straps held raised s, rfl, rfl, fun a b => ?_⟩
    rw [hmem]
    exact hbits a b
  · refine congrArg (fun m => Host.Outcome.next (State.powerOn straps m s.pending)) (if_neg ?_)
    exact Bool.eq_false_iff.mp hp
  · rfl

end Sys2Proof.Machine
end


section
/-! PROOF. The loop port: the loop state with its returns and misses (R173, R174), the transmitter's order (R170), and the
own hold and the hold list (R175 to R177). -/

namespace Sys2Proof.Machine

/-! ### The loop state (R173, R174) -/

section LoopStates
variable {s : State} {new : LoopState}

theorem setLoopState_eq (new : LoopState) (s : State) : setLoopState new s =
    if s.loop.state = new then s
    else setSys .loopBroken (decide (new = .broken))
      (report (.loopState s.loop.state new) { s with loop := { s.loop with state := new } }) := rfl

/-- The loop state after a miss. -/
def LoopState.missed (x : LoopState) : LoopState := if x = .intact then .suspect else .broken

theorem loopMiss_eq (s : State) : loopMiss s = setLoopState s.loop.state.missed s := by
  unfold loopMiss LoopState.missed
  cases s.loop.state <;> rfl

/-- Nothing of the loop port but its insert queue differs. -/
def LoopPort.Inserts (l m : LoopPort) : Prop := m = { l with insertQ := m.insertQ }

theorem LoopPort.Inserts.trans {l m n : LoopPort} (h : l.Inserts m) (k : m.Inserts n) : l.Inserts n := by
  unfold LoopPort.Inserts at h k ⊢
  rw [k, h]

theorem WarnFrame.inserts {t : State} (h : WarnFrame s t) : s.loop.Inserts t.loop := congrArg State.loop h.rest

theorem report_inserts (e : Event) (s : State) : s.loop.Inserts (report e s).loop := (report_frame e s).inserts

theorem setSys_inserts (k : SysCond) (b : Bool) (s : State) : s.loop.Inserts (setSys k b s).loop :=
  (setSys_frame k b s).inserts

/-- A change of the loop state changes the loop's own state and its insert queue only. -/
theorem setLoopState_inserts (new : LoopState) (s : State) :
    ({ s.loop with state := new } : LoopPort).Inserts (setLoopState new s).loop := by
  by_cases h : s.loop.state = new
  · rw [setLoopState_eq, if_pos h, ← h]
    rfl
  · rw [setLoopState_eq, if_neg h]
    exact (report_inserts _ { s with loop := { s.loop with state := new } }).trans (setSys_inserts _ _ _)

theorem setLoopState_state (new : LoopState) (s : State) : (setLoopState new s).loop.state = new := by
  rw [setLoopState_inserts]

theorem setLoopState_broken (h : s.warnings.loopBroken = decide (s.loop.state = .broken)) :
    (setLoopState new s).warnings.loopBroken = decide (new = .broken) := by
  by_cases hs : s.loop.state = new
  · rw [setLoopState_eq, if_pos hs, h, hs]
  · rw [setLoopState_eq, if_neg hs]
    exact setSys_sys .loopBroken _ _

/-- The misses of the entries before a later one. -/
def loopMisses {α : Type} (l : List α) (s : State) : State := l.foldl (fun t _ => loopMiss t) s

theorem loopMisses_inserts {α : Type} (l : List α) (s : State) :
    ({ s.loop with state := (loopMisses l s).loop.state } : LoopPort).Inserts (loopMisses l s).loop := by
  induction l generalizing s with
  | nil => rfl
  | cons a l ih =>
    have hstep := ih (loopMiss s)
    have hmiss := setLoopState_inserts s.loop.state.missed s
    rw [← loopMiss_eq] at hmiss
    unfold LoopPort.Inserts at hmiss hstep ⊢
    rw [hmiss] at hstep
    exact hstep

theorem loopMisses_broken {α : Type} (l : List α) {s : State}
    (h : s.warnings.loopBroken = decide (s.loop.state = .broken)) :
    (loopMisses l s).warnings.loopBroken = decide ((loopMisses l s).loop.state = .broken) := by
  induction l generalizing s with
  | nil => exact h
  | cons a l ih =>
    refine ih (s := loopMiss s) ?_
    rw [loopMiss_eq, setLoopState_broken h, setLoopState_state]

theorem loopMisses_congr {α β : Type} {l : List α} {r : List β} (h : l.length = r.length) (s : State) :
    loopMisses l s = loopMisses r s := by
  induction l generalizing r s with
  | nil =>
    rw [List.length_eq_zero_iff.mp h.symm]
    rfl
  | cons a l ih =>
    cases r with
    | nil => cases h
    | cons b r => exact ih (Nat.succ.inj h) (loopMiss s)

variable {f : Frame}

theorem loopReturn_unknown (h : ∀ a ∈ s.loop.awaiting, a.frame ≠ f) : loopReturn f s = loopMiss s := by
  have hnone : s.loop.awaiting.findIdx? (fun a => a.frame = f) = none :=
    List.findIdx?_eq_none_iff.mpr fun a ha => decide_eq_false (h a ha)
  simp only [loopReturn, hnone]

/-- A return of an awaited frame misses those before it, and is then good. -/
theorem loopReturn_awaited {missed : List Awaiting} {a : Awaiting} {rest : List Awaiting}
    (hl : s.loop.awaiting = missed ++ a :: rest) (ha : a.frame = f) (hm : ∀ m ∈ missed, m.frame ≠ f) :
    loopReturn f s =
      setLoopState .intact (loopMisses missed { s with loop := { s.loop with awaiting := rest } }) := by
  have hidx : s.loop.awaiting.findIdx? (fun a => a.frame = f) = some missed.length := by
    rw [hl, List.findIdx?_append, List.findIdx?_eq_none_iff.mpr fun m h => decide_eq_false (hm m h), List.findIdx?_cons,
      if_pos (decide_eq_true ha)]
    simp
  have hdrop : s.loop.awaiting.drop (missed.length + 1) = rest := by rw [hl]; simp
  simp only [loopReturn, hidx, hdrop]
  exact congrArg (setLoopState .intact) (loopMisses_congr List.length_range _)

end LoopStates

/-- Settles O48: the expiry, and a return by its place in the list. -/
theorem returnsAndMissesMoveTheLoopState : Obligations.ReturnsAndMissesMoveTheLoopState := by
  intro s hp awaiting into afterMiss
  have hrun : exec .returnTimerExpiry s = .next (returnExpiry s) := live_powered returnExpiry s hp
  refine ⟨fun h => ?_, fun a rest h => ?_, fun f => ⟨fun h => ?_, fun a rest h ha => ?_, fun missed a rest h ha hm => ?_⟩⟩
  · rw [hrun]
    simp only [returnExpiry, h]
  · rw [hrun]
    simp only [returnExpiry, h]
    exact congrArg Host.Outcome.next (loopMiss_eq _)
  · exact (loopReturn_unknown h).trans (loopMiss_eq s)
  · exact loopReturn_awaited (missed := []) h ha (fun _ h => nomatch h)
  · have hreturn := loopReturn_awaited h ha hm
    refine ⟨hreturn.trans (congrArg (into .intact) ?_), ?_, fun hb => ?_⟩
    · refine congrArg (fun g => missed.foldl g (awaiting rest s)) (funext fun t => funext fun _ => loopMiss_eq t)
    · rw [hreturn]
      generalize hu : loopMisses missed { s with loop := { s.loop with awaiting := rest } } = u
      have hmisses := loopMisses_inserts missed { s with loop := { s.loop with awaiting := rest } }
      have hgood := setLoopState_inserts .intact u
      unfold LoopPort.Inserts at hgood hmisses
      rw [hu] at hmisses
      rw [hmisses] at hgood
      exact hgood
    · rw [hreturn]
      exact setLoopState_broken (loopMisses_broken missed hb)

/-! ### The own hold and the hold list (R175 to R177) -/

section Hold
variable {l : LoopPort} {s : State}

theorem LoopPort.tap_full {f : Frame} (h : 16 ≤ l.tapQ.length) : l.tap f = l := if_neg (Nat.not_lt.mpr h)

theorem LoopPort.tap_room {f : Frame} (h : l.tapQ.length < 16) :
    l.tap f = ({ l with tapQ := l.tapQ ++ [f] } : LoopPort).holdTap := if_pos h

theorem LoopPort.holdTap_below (h : l.tapQ.length < 12) : l.holdTap = l := if_neg (Nat.not_le.mpr h)

theorem LoopPort.holdTap_critical (h : 12 ≤ l.tapQ.length) : l.holdTap =
    if l.asserted then
      (if l.critical = 0 then { l with critical := 1 } else ({ l with critical := 0 } : LoopPort).wantHold)
    else l.assertNow := if_pos h

theorem LoopPort.holdTake_above (h : 12 ≤ l.tapQ.length) : l.holdTake = l := by
  unfold LoopPort.holdTake
  dsimp only
  rw [if_neg (by omega : ¬ l.tapQ.length ≤ 11)]
  exact if_neg fun hc => absurd hc.1 (by omega)

theorem LoopPort.holdTake_keeps (h : l.tapQ.length ≤ 11) (hk : 8 ≤ l.tapQ.length ∨ l.asserted = false ∨ l.force = true) :
    l.holdTake = { l with critical := 0 } := by
  unfold LoopPort.holdTake
  rw [if_pos h]
  refine if_neg ?_
  rintro ⟨hlen, hasserted, hforce⟩
  rcases hk with hk | hk | hk
  · exact absurd hlen (Nat.not_le.mpr hk)
  · exact Bool.false_ne_true (hk.symm.trans hasserted)
  · exact hforce hk

theorem LoopPort.holdTake_releases (h : l.tapQ.length ≤ 7) (ha : l.asserted = true) (hf : l.force = false) :
    l.holdTake = ({ l with critical := 0 } : LoopPort).releaseNow := by
  unfold LoopPort.holdTake
  rw [if_pos (Nat.le_trans h (by decide))]
  exact if_pos ⟨h, ha, Bool.eq_false_iff.mp hf⟩

theorem holderExpiry_known {n : Node} (h : ∃ x ∈ s.loop.holders, x.node = n) : holderExpiry n s =
    report (.holdExpired n) { s with loop := s.loop.holderGoes n } := by
  obtain ⟨x, hx, hn⟩ := h
  exact if_pos (List.any_eq_true.mpr ⟨x, hx, decide_eq_true hn⟩)

theorem holderExpiry_unknown {n : Node} (h : ∀ x ∈ s.loop.holders, x.node ≠ n) : holderExpiry n s = s := by
  refine if_neg fun hany => ?_
  obtain ⟨x, hx, hn⟩ := List.any_eq_true.mp hany
  exact h x hx (of_decide_eq_true hn)

end Hold

/-- Settles O50: the two requests, the taps and takes by the length of the tap queue, and the two expiries. -/
theorem holdsByTheirEvents : Obligations.HoldsByTheirEvents := by
  refine ⟨fun h s ht => ?_, fun l f => ⟨LoopPort.tap_full, fun hl => ?_, fun h11 h16 => ?_, LoopPort.holdTake_above,
    fun h8 h11 => LoopPort.holdTake_keeps h11 (.inl h8), fun h7 => ⟨LoopPort.holdTake_releases h7,
    fun hk => LoopPort.holdTake_keeps (Nat.le_trans h7 (by decide)) (.inr hk)⟩⟩, fun s hp => ?_⟩
  · have hassert : exec (.assertHold h) s = .next (respond h 0x90 false (reqAssertHold s)) := exec_taken nofun rfl ht
    have hclear : exec (.clearHold h) s = .next (respond h 0x91 false (reqClearHold s)) := exec_taken nofun rfl ht
    refine ⟨fun ha => taken_done hassert ?_, fun ha => taken_done hassert ?_, fun ha hl => taken_done hclear ?_,
      fun hk => taken_done hclear ?_⟩ <;>
      refine congrArg (fun l : LoopPort => (({ s with loop := l } : State), Answer.done)) ?_
    · exact if_neg (Bool.eq_false_iff.mp ha)
    · exact if_pos ha
    · exact if_pos ⟨ha, hl⟩
    · refine if_neg fun ⟨ha, hl⟩ => ?_
      rcases hk with hk | hk
      · exact Bool.false_ne_true (hk.symm.trans ha)
      · omega
  · rw [LoopPort.tap_room (by omega)]
    exact LoopPort.holdTap_below (by simp; omega)
  · have htap : l.tap f = _ := (LoopPort.tap_room h16).trans (LoopPort.holdTap_critical (by simp; omega))
    refine ⟨fun ha => htap.trans (if_neg (Bool.eq_false_iff.mp ha)), fun ha hc => htap.trans ((if_pos ha).trans (if_pos hc)),
      fun ha hc => htap.trans ((if_pos ha).trans (if_neg ?_))⟩
    exact fun h0 => by simp [hc] at h0
  · have hrefresh : exec .refreshTimerExpiry s = .next { s with loop := s.loop.refreshExpiry } :=
      live_powered (fun t => { t with loop := t.loop.refreshExpiry }) s hp
    refine ⟨fun h => ?_, fun h => ?_, fun n => ⟨fun h => ?_, fun h => ?_⟩⟩
    · obtain ⟨x, hx⟩ := Option.isSome_iff_exists.mp h
      rw [hrefresh]
      simp only [LoopPort.refreshExpiry, hx, LoopPort.wantHold]
    · rw [hrefresh]
      simp only [LoopPort.refreshExpiry, h]
    · exact (live_powered (holderExpiry n) s hp).trans (congrArg Host.Outcome.next (holderExpiry_known h))
    · exact (live_powered (holderExpiry n) s hp).trans (congrArg Host.Outcome.next (holderExpiry_unknown h))

/-! ### The transmitter (R170) -/

section Transmitter
variable {l : LoopPort} {s : State}

theorem LoopPort.transmit_busy (h : l.tx ≠ .idle) : l.transmit = l := by
  unfold LoopPort.transmit
  split
  · rename_i hidle
    exact absurd hidle h
  · rfl

section Idle
variable (h : l.tx = .idle)
include h

theorem LoopPort.transmit_hold (hf : l.flow = .hold) :
    l.transmit = { l with flow := .empty, tx := .hold (mkFrame 0xE8 l.node []) } := by
  simp only [LoopPort.transmit, h, hf, LoopPort.flowFrame]

theorem LoopPort.transmit_release (hf : l.flow = .release) :
    l.transmit = { l with flow := .empty, tx := .release (mkFrame 0xE9 l.node []) } := by
  simp only [LoopPort.transmit, h, hf, LoopPort.flowFrame]

theorem LoopPort.transmit_forwarded {f : Frame} {rest : List Frame} (hf : l.flow = .empty) (hq : l.forwardQ = f :: rest) :
    l.transmit = { l with forwardQ := rest, tx := .forwarded f } := by
  simp only [LoopPort.transmit, h, hf, hq]

theorem LoopPort.transmit_none (hf : l.flow = .empty) (hq : l.forwardQ = []) (hi : l.insertQ = []) : l.transmit = l := by
  simp only [LoopPort.transmit, h, hf, hq, hi]

theorem LoopPort.transmit_inserted {x : Inserted} {rest : List Inserted} (hf : l.flow = .empty) (hq : l.forwardQ = [])
    (hi : l.insertQ = x :: rest) :
    l.transmit = if l.maySend x then { l with insertQ := rest, tx := .inserted x } else l := by
  simp only [LoopPort.transmit, h, hf, hq, hi]

end Idle

theorem LoopPort.maySend_iff {x : Inserted} : l.maySend x = true ↔
    l.holders = [] ∧ l.awaiting.length < 8 ∧ ∀ a ∈ l.awaiting, a.frame ≠ x.frame := by
  unfold LoopPort.maySend
  rw [Bool.and_eq_true, Bool.and_eq_true, List.isEmpty_iff, decide_eq_true_eq, and_assoc, Bool.not_eq_true',
    List.any_eq_false]
  simp only [decide_eq_true_eq]

/-- A transmission that frees no place of the insert queue. -/
theorem transmitStart_frees_none {x : LoopPort} (h : s.loop.transmit = x) (hx : x.insertQ = s.loop.insertQ) :
    transmitStart s = { s with loop := x } := by
  unfold transmitStart
  rw [h]
  exact if_neg (by rw [hx]; exact Nat.lt_irrefl _)

/-- A transmission that takes the oldest inserted frame. -/
theorem transmitStart_frees {x : LoopPort} (h : s.loop.transmit = x) (hx : x.insertQ.length < s.loop.insertQ.length) :
    transmitStart s = offer { s with loop := x } := by
  unfold transmitStart
  rw [h]
  exact if_pos hx

/-- A sent frame that is not the RESTART response. -/
theorem frameSent_plain (h : s.loop.sendingRestart = false) : frameSent s = { s with loop := s.loop.sent } :=
  if_neg (Bool.eq_false_iff.mp h)

end Transmitter

/-- A flow frame has three bytes (R165). -/
theorem flowFrame_bytes (tag : Byte) (n : Node) :
    mkFrame tag n [] = [tag, n ++ (0 : BitVec 4), -(tag + (n ++ (0 : BitVec 4)))] := by
  show [tag, n ++ (0 : BitVec 4), -(tag + ((n ++ (0 : BitVec 4)) + 0#8))] = _
  rw [BitVec.add_zero]

/-- Settles O49: the choice by the flow slot, the forward queue and the insert queue, and a sent frame by its kind. -/
theorem transmitterChoosesByTheOrder : Obligations.TransmitterChoosesByTheOrder := by
  intro s hp l port allowed
  have hstart : exec .loopTransmitStart s = .next (transmitStart s) := live_powered transmitStart s hp
  have hsent : exec .loopFrameSent s = .next (frameSent s) := live_powered frameSent s hp
  have hkeeps {x : LoopPort} (h : l.transmit = x) (hx : x.insertQ = l.insertQ) : exec .loopTransmitStart s = .next (port x) :=
    hstart.trans (congrArg Host.Outcome.next (transmitStart_frees_none h hx))
  have hplain {x : LoopPort} (h : l.sendingRestart = false) (hx : l.sent = x) : exec .loopFrameSent s = .next (port x) :=
    hsent.trans (congrArg Host.Outcome.next ((frameSent_plain h).trans (congrArg port hx)))
  refine ⟨fun h => hkeeps (LoopPort.transmit_busy h) rfl, fun h => ⟨fun hf => hkeeps (LoopPort.transmit_hold h hf) rfl,
    fun hf => hkeeps (LoopPort.transmit_release h hf) rfl, fun hf => ⟨fun f rest hq =>
    hkeeps (LoopPort.transmit_forwarded h hf hq) rfl, fun hq => ⟨fun hi => hkeeps (LoopPort.transmit_none h hf hq hi) rfl,
    fun x rest hi => ?_⟩⟩⟩, fun h => hplain (x := l) ?_ ?_, flowFrame_bytes 0xE8 l.node, fun f h => ?_, fun f h => ?_, fun f h => ?_, fun f h => ?_⟩
  · have hinserted := LoopPort.transmit_inserted h hf hq hi
    have htakes (ha : allowed x) : exec .loopTransmitStart s = .next (offer (port { l with insertQ := rest, tx := .inserted x })) :=
      hstart.trans (congrArg Host.Outcome.next (transmitStart_frees (hinserted.trans (if_pos (LoopPort.maySend_iff.mpr ha)))
        (by show rest.length < l.insertQ.length; rw [hi]; exact Nat.lt_succ_self _)))
    refine ⟨htakes, fun ha hr hh hs he hd => ?_, fun ha => ?_⟩
    · refine (htakes ha).trans (congrArg Host.Outcome.next (offer_none ?_))
      exact State.producerWaits_eq_false (.inr ⟨hh, .inr hr⟩) (.inr ⟨hs, he, hd⟩)
    · exact hkeeps (hinserted.trans (if_neg (mt LoopPort.maySend_iff.mp ha))) rfl
  · simp only [LoopPort.sendingRestart, h]
  · show l.sent = l
    unfold LoopPort.sent
    rw [h]
  all_goals
    refine hplain ?_ ?_
    · simp only [LoopPort.sendingRestart, h]
    · simp only [LoopPort.sent, h]

/-! ### A refused STORE DUMP while a dump streams (R187, R188) -/

/-- The reset state with a dump that streams, though places are free: no safe state, but one in which a request is taken. -/
def streamingReset : State :=
  { State.reset with handler := { State.reset.handler with
      dump := .streaming { recipient := 1, seq := 0, next := 0, remaining := 5 } } }

theorem streamingReset_takes : streamingReset.takes ⟨1, 0⟩ = true := by decide

/-- The refusal is followed by the streaming dump's frame. -/
theorem streamingReset_inserts : (serve (.storeDump ⟨1, 0⟩ 0 0) streamingReset).loop.insertQ.length = 2 := by decide

/-- Refutes O51: a STORE DUMP refused as BAD_ARGUMENT does more than answer where a dump streams and places are free,
since the dump frames that may be placed follow it in the same step. -/
theorem not_eventsAndDumpRequestsByTheirChecks : ¬ Obligations.EventsAndDumpRequestsByTheirChecks := by
  intro h
  have hrun : exec (.storeDump ⟨1, 0⟩ 0 0) streamingReset = .next (serve (.storeDump ⟨1, 0⟩ 0 0) streamingReset) :=
    exec_taken nofun rfl streamingReset_takes
  obtain ⟨-, hdump, -⟩ := h ⟨1, 0⟩ streamingReset streamingReset_takes
  have hrefused := (hdump 0 0).1 (by decide)
  have hsame : serve (.storeDump ⟨1, 0⟩ 0 0) streamingReset = answered ⟨1, 0⟩ 0xA3 .badArgument [] streamingReset := by
    rw [hrun] at hrefused
    exact Host.Outcome.next.inj hrefused
  have hlen := streamingReset_inserts
  rw [hsame] at hlen
  exact absurd hlen (by decide)

end Sys2Proof.Machine
end


section
/-! PROOF. The store's requests and the reports to the classes (R67, R75, R76, R182), and the end of a program (R65). -/

namespace Sys2Proof.Machine

/-! ### What follows within an event, and what it depends on -/

section Follows
variable {s : State}

/-- The step that the Odometer brings next, with its context when the step is placed. -/
def State.odometerNext (s : State) : Option (StoreStep × Odometer) :=
  let o := s.odometer
  if s.store.ctl = .scanning ∨ s.store.slotOdometer.isSome ∨ o.work.isSome then none
  else if o.eraseOut then
    if o.setting.isSome then none else s.incrementStep.map (·, { o with work := some .increment })
  else
    match o.recovery with
    | k :: _ => some (.program (storeAddr k 0) statusObsolete, { o with work := some .recovery })
    | [] =>
      match o.setting with
      | some g =>
        let o1 := { o with setting := some { g with phase := (s.settingStep g).2 } }
        some ((s.settingStep g).1,
          match (s.settingStep g).1 with
          | .program _ _ => { o1 with work := some .setting }
          | .erase _ => { o1 with eraseOut := true })
      | none =>
        match s.rotationNow with
        | some r => some (s.rotationStep r, { o with rotation := some r, work := some .rotation })
        | none =>
          if s.spareEraseNeeded then some (.erase (oneSector s.spare), { o with eraseOut := true })
          else s.incrementStep.map (·, { o with work := some .increment })

theorem odometerPump_eq (s : State) : odometerPump s = s.odometerNext.map fun x => placeOdometer x.1 x.2 s := by
  unfold odometerPump State.odometerNext
  by_cases hwaits : s.store.ctl = .scanning ∨ s.store.slotOdometer.isSome ∨ s.odometer.work.isSome
  · simp only [if_pos hwaits, Option.map_none]
  rw [if_neg hwaits, if_neg hwaits]
  by_cases hout : s.odometer.eraseOut = true
  · rw [if_pos hout, if_pos hout, apply_ite (Option.map _), Option.map_map]
    rfl
  rw [if_neg hout, if_neg hout]
  cases hrecovery : s.odometer.recovery with
  | cons k rest => rfl
  | nil =>
    cases hsetting : s.odometer.setting with
    | some g =>
      dsimp only
      cases (s.settingStep g).1 <;> rfl
    | none =>
      dsimp only
      cases s.rotationNow with
      | some r => rfl
      | none =>
        dsimp only
        rw [apply_ite (Option.map _), Option.map_map]
        rfl

theorem odometerPump_eq_none : odometerPump s = none ↔ s.odometerNext = none := by
  rw [odometerPump_eq, Option.map_eq_none_iff]

theorem pairPump_eq_none {p : PairId} : pairPump p s = none ↔ s.pairStep p = none := by
  unfold pairPump
  split
  · exact iff_of_true rfl ‹_›
  · rename_i h
    exact iff_of_false nofun (by rw [h]; nofun)

theorem reportSave_eq_none {p : PairId} : reportSave p s = none ↔ (s.pair p).ended = none := by
  unfold reportSave
  split
  · exact iff_of_true rfl ‹_›
  · rename_i h
    exact iff_of_false nofun (by rw [h]; nofun)

theorem reportErase_eq_none : reportErase s = none ↔ s.store.finishedStep = none := by
  unfold reportErase
  split
  · exact iff_of_true rfl ‹_›
  · rename_i h
    exact iff_of_false nofun (by rw [h]; nofun)

theorem takeNext_eq_none : takeNext s = none ↔ s.store.take = none := Option.map_eq_none_iff

/-- Nothing but a take is left to follow. -/
structure State.Rests (s : State) : Prop where
  trip : s.tripPair.ended = none
  service : s.servicePair.ended = none
  erase : s.store.finishedStep = none
  odometer : s.odometerNext = none
  tripStep : s.pairStep .trip = none
  serviceStep : s.pairStep .service = none

theorem settleOnce_eq_none : settleOnce s = none ↔ s.Rests ∧ s.store.take = none := by
  have horElse (a b : Option State) : (a <|> b) = none ↔ a = none ∧ b = none := Option.orElse_eq_none a b
  unfold settleOnce
  rw [horElse, horElse, horElse, horElse, horElse, horElse, reportSave_eq_none, reportSave_eq_none, reportErase_eq_none,
    odometerPump_eq_none, pairPump_eq_none, pairPump_eq_none, takeNext_eq_none]
  exact ⟨fun ⟨ha, hb, hc, hd, he, hf, hg⟩ => ⟨⟨ha, hb, hc, hd, he, hf⟩, hg⟩,
    fun ⟨⟨ha, hb, hc, hd, he, hf⟩, hg⟩ => ⟨ha, hb, hc, hd, he, hf, hg⟩⟩

/-- With nothing else left, the controller's take is what follows. -/
theorem State.Rests.take {x : Store} (h : s.Rests) (hx : s.store.take = some x) :
    settleOnce s = some { s with store := x } := by
  have hsome : takeNext s = some { s with store := x } := by rw [takeNext, hx]; rfl
  unfold settleOnce
  rw [(reportSave_eq_none (p := .trip)).mpr h.trip, (reportSave_eq_none (p := .service)).mpr h.service, reportErase_eq_none.mpr h.erase,
    odometerPump_eq_none.mpr h.odometer, pairPump_eq_none.mpr h.tripStep, pairPump_eq_none.mpr h.serviceStep, hsome]
  rfl

/-- What is left to follow does not depend on the handler, the EXTERNAL slot or the program that runs. -/
theorem State.Rests.external {k : Handler} {c : CtlState} {r : Option Running} {x : Option StoreStep} (h : s.Rests)
    (hs : s.store.ctl ≠ .scanning) (hc : c ≠ .scanning) :
    ({ s with handler := k, store := { s.store with ctl := c, running := r, slotExternal := x } } : State).Rests where
  trip := h.trip
  service := h.service
  erase := h.erase
  odometer := by
    have ho := h.odometer
    unfold State.odometerNext at ho ⊢
    simp only [hs, hc, false_or] at ho ⊢
    exact ho
  tripStep := h.tripStep
  serviceStep := h.serviceStep

end Follows

/-! ### The requests of the store (R75, R76) -/

section Requests
variable {s : State} {h : Head}

/-- The part with a request kept and its step placed. -/
def State.withExternal (s : State) (h : Head) (code : Byte) (op : ExternalOp) (step : StoreStep) : State :=
  { s with handler := { s.handler with ext := some op,
                                       extRequester := some { node := h.node, code := code, seq := h.seq } },
           store := s.store.place .external step }

section Program
variable {addr : Byte} {value : Word} {a : Fin 256} (ha : addr.toNat = a.val)
include ha

theorem addrOf_eq : addrOf addr = a := Fin.ext ha

theorem reqStoreProgram_protected (hl : a.val < 192) : reqStoreProgram h addr value s = refuse .isProtected s := by
  unfold reqStoreProgram
  rw [addrOf_eq ha]
  exact if_pos hl

variable (hl : 192 ≤ a.val)
include hl

theorem reqStoreProgram_busy (he : s.handler.ext.isSome = true) : reqStoreProgram h addr value s = refuse .busy s := by
  unfold reqStoreProgram
  rw [addrOf_eq ha]
  exact (if_neg (Nat.not_lt.mpr hl)).trans (if_pos he)

variable (he : s.handler.ext = none)
include he

theorem reqStoreProgram_bad (hb : (s.sector (sectorOf a)).bad = true) :
    reqStoreProgram h addr value s = refuse .failed s := by
  unfold reqStoreProgram
  rw [addrOf_eq ha]
  exact (if_neg (Nat.not_lt.mpr hl)).trans ((if_neg (by rw [he]; nofun)).trans (if_pos hb))

theorem reqStoreProgram_accepted (hb : (s.sector (sectorOf a)).bad = false) :
    reqStoreProgram h addr value s = (settle (s.withExternal h 0x41 (.program a) (.program a value)), .later) := by
  unfold reqStoreProgram
  rw [addrOf_eq ha]
  exact (if_neg (Nat.not_lt.mpr hl)).trans ((if_neg (by rw [he]; nofun)).trans (if_neg (Bool.eq_false_iff.mp hb)))

end Program

/-- A settled READY controller has no step waiting. -/
theorem Store.take_eq_none {x : Store} (hr : x.ctl = .ready) (h : x.take = none) (c : StoreClass) : x.slot c = none := by
  by_contra hc
  unfold Store.take at h
  rw [if_pos hr] at h
  split at h
  · rename_i hfind
    have := List.find?_eq_none.mp hfind c (by cases c <;> decide)
    exact this (Option.isSome_iff_ne_none.mpr hc)
  · rename_i d hfind
    have hsome := List.find?_some hfind
    split at h
    · cases h
    · cases h
    · rename_i hnone
      rw [hnone] at hsome
      cases hsome

/-- From a settled READY controller an EXTERNAL program runs at once (R68, R75). -/
theorem settle_external_program {a : Fin 256} {value : Word} (hs : settleOnce s = none) (hr : s.store.ctl = .ready) :
    settle (s.withExternal h 0x41 (.program a) (.program a value)) =
      { s.withExternal h 0x41 (.program a) (.program a value) with store :=
        { s.store with ctl := .programming, running := some { cls := .external, addr := a, value := value } } } := by
  obtain ⟨hrests, htake⟩ := settleOnce_eq_none.mp hs
  have hslots := Store.take_eq_none hr htake
  have hplace : s.store.place .external (.program a value) =
      { s.store with slotExternal := some (.program a value) } := by
    unfold Store.place
    dsimp only [Store.setSlot]
    rw [hr]
    rfl
  have htaken : (s.store.place .external (.program a value)).take =
      some { s.store with ctl := .programming, running := some { cls := .external, addr := a, value := value } } := by
    have ho : s.store.slotOdometer = none := hslots .odometer
    have ht : s.store.slotTrip = none := hslots .trip
    have hv : s.store.slotService = none := hslots .service
    have he : s.store.slotExternal = none := hslots .external
    rw [hplace]
    simp only [Store.take, hr, if_true, allClasses, List.find?, Store.slot, ho, ht, hv, Option.isSome_none,
      Option.isSome_some, Store.setSlot]
    rw [he]
  have hfollows : settleOnce (s.withExternal h 0x41 (.program a) (.program a value)) = some _ :=
    State.Rests.take (by
      unfold State.withExternal
      rw [hplace]
      exact hrests.external (by rw [hr]; nofun) (by rw [hr]; nofun)) htaken
  have hctl : (s.withExternal h 0x41 (.program a) (.program a value)).store.ctl = .ready := by
    unfold State.withExternal
    rw [hplace]
    exact hr
  rw [(settle_next _ _ (by rw [State.windowFresh, hctl]; rfl) hfollows).1]
  refine settle_of_none (settleOnce_eq_none.mpr ⟨?_, if_neg nofun⟩)
  exact hrests.external (by rw [hr]; nofun) nofun

section Erase
variable {sectors : Byte}

theorem reqStoreErase_empty (h0 : sectors = 0) : reqStoreErase h sectors s = refuse .badArgument s := if_pos h0

theorem reqStoreErase_protected (h0 : sectors ≠ 0) (hp : sectors &&& 0xC0 = 0) :
    reqStoreErase h sectors s = refuse .isProtected s := (if_neg h0).trans (if_pos hp)

variable (hp : sectors &&& 0xC0 ≠ 0)
include hp

theorem reqStoreErase_open : reqStoreErase h sectors s =
    if s.handler.ext.isSome then refuse .busy s
    else if (sectorsOf (sectors &&& 0xC0)).all (fun k => (s.sector k).bad) then
      (s, .now .failed (eraseBytes sectors []))
    else (settle (s.withExternal h 0x42 (.erase sectors) (.erase (sectors &&& 0xC0))), .later) := by
  have h0 : sectors ≠ 0 := by
    rintro rfl
    exact hp rfl
  exact (if_neg h0).trans (if_neg hp)

theorem reqStoreErase_busy (he : s.handler.ext.isSome = true) : reqStoreErase h sectors s = refuse .busy s :=
  (reqStoreErase_open hp).trans (if_pos he)

variable (he : s.handler.ext = none)
include he

theorem reqStoreErase_allBad (hb : (sectorsOf (sectors &&& 0xC0)).all (fun k => (s.sector k).bad) = true) :
    reqStoreErase h sectors s = (s, .now .failed (eraseBytes sectors [])) :=
  (reqStoreErase_open hp).trans ((if_neg (by rw [he]; nofun)).trans (if_pos hb))

theorem reqStoreErase_accepted (hb : ¬ (sectorsOf (sectors &&& 0xC0)).all (fun k => (s.sector k).bad) = true) :
    reqStoreErase h sectors s =
      (settle (s.withExternal h 0x42 (.erase sectors) (.erase (sectors &&& 0xC0))), .later) :=
  (reqStoreErase_open hp).trans ((if_neg (by rw [he]; nofun)).trans (if_neg hb))

end Erase

theorem mem_sectorsOf {b : BitVec 8} {k : Fin 8} : k ∈ sectorsOf b ↔ b.getLsbD k.val = true := by
  rw [sectorsOf, List.mem_filter]
  exact and_iff_right (List.mem_finRange k)

/-- The open sectors of a set are 6 and 7. -/
theorem openSectors_bit (sectors : Byte) (k : Fin 8) :
    (sectors &&& 0xC0).getLsbD k.val = true ↔ 6 ≤ k.val ∧ sectors.getLsbD k.val = true := by
  have hmask : (0xC0 : Byte).getLsbD k.val = decide (6 ≤ k.val) := by revert k; decide
  rw [BitVec.getLsbD_and, hmask, Bool.and_eq_true, decide_eq_true_eq, and_comm]

theorem allBad_iff (sectors : Byte) : (sectorsOf (sectors &&& 0xC0)).all (fun k => (s.sector k).bad) = true ↔
    ∀ k : Fin 8, 6 ≤ k.val → sectors.getLsbD k.val = true → (s.sector k).bad = true := by
  rw [List.all_eq_true]
  simp only [mem_sectorsOf, openSectors_bit, and_imp]

end Requests

/-! ### The reports to the classes (R67, R182) -/

section Reports
variable {s : State} {os : List (Fin 8 × EraseOutcome)} {b : BitVec 8}

theorem holdResponse_places {f : Frame} (hh : s.handler.held = []) (hq : s.loop.insertQ.length < 8) :
    holdResponse f s = insertFrame f false s := (if_pos hh).trans (placeResponse_places f false hq)

theorem holdResponse_waits {f : Frame} (h : s.handler.held ≠ [] ∨ 8 ≤ s.loop.insertQ.length) : holdResponse f s =
    { s with handler := { s.handler with held := s.handler.held ++ [f] } } := by
  by_cases hh : s.handler.held = []
  · exact (if_pos hh).trans (placeResponse_waits f false (h.resolve_left (· hh)))
  · exact if_neg hh

theorem answerExternal_forgotten {st : Status} {data : List Byte} (h : s.handler.extRequester = none) :
    answerExternal st data s = { s with handler := { s.handler with ext := none, extRequester := none } } := by
  simp only [answerExternal, h]

theorem answerExternal_remembered {st : Status} {data : List Byte} {r : Requester} (h : s.handler.extRequester = some r) :
    answerExternal st data s = holdResponse (responseFrame { node := r.node, seq := r.seq } r.code st data s)
      { s with handler := { s.handler with ext := none, extRequester := none },
               loop := { s.loop with overrun := false } } := by
  simp only [answerExternal, h]
  rfl

/-- The lowest sector of a set. -/
theorem sectorsOf_head {k : Fin 8} (hk : b.getLsbD k.val = true)
    (hlow : ∀ j : Fin 8, j.val < k.val → b.getLsbD j.val = false) : (sectorsOf b).head? = some k := by
  have hsplit : List.finRange 8 = (List.finRange 8).take k.val ++ k :: (List.finRange 8).drop (k.val + 1) := by
    clear hk hlow; revert k; decide
  have hnone : ((List.finRange 8).take k.val).filter (fun k => b.getLsbD k.val) = [] := by
    refine List.filter_eq_nil_iff.mpr fun j hj => ?_
    have hlt : j.val < k.val := by
      revert hj; clear hlow hk; revert j k; decide
    rw [hlow j hlt]
    exact Bool.false_ne_true
  rw [sectorsOf, hsplit, List.filter_append, hnone, List.nil_append, List.filter_cons_of_pos (by exact hk)]
  rfl

theorem eraseBytes_eq (named : BitVec 8) (os : List (Fin 8 × EraseOutcome)) : eraseBytes named os =
    (List.finRange 8).map (fun k => if named.getLsbD k.val = false then 0xFF else if k.val < 6 then 3
      else match outcomeOf os k with | some .erased => 0 | some .exceeded => 1 | _ => 2) := by
  refine List.map_congr_left fun k _ => ?_
  cases named.getLsbD k.val with
  | false => rfl
  | true =>
    show eraseByte os k = _
    unfold eraseByte
    rcases outcomeOf os k with _ | (_ | _ | _ | _) <;> rfl

theorem allErased_iff : allErased b os = true ↔ ∀ k : Fin 8, b.getLsbD k.val = true → outcomeOf os k = some .erased := by
  unfold allErased
  rw [List.all_eq_true]
  simp only [mem_sectorsOf, decide_eq_true_eq]

end Reports

/-- Settles O19: the requests by their checks, and each report by its class. -/
theorem storeRequestsByTheirChecks : Obligations.StoreRequestsByTheirChecks := by
  refine ⟨fun h s ht => ⟨fun addr value a ha => ?_, fun sectors => ?_⟩, fun s => ?_⟩
  · have hrun : exec (.storeProgram h addr value) s = .next (respond h 0x41 false (reqStoreProgram h addr value s)) :=
      exec_taken nofun rfl ht
    have haccepted (hl : 192 ≤ a.val) (he : s.handler.ext = none) (hb : (s.sector (sectorOf a)).bad = false) :
        exec (.storeProgram h addr value) s = .next (settle (s.withExternal h 0x41 (.program a) (.program a value))) := by
      rw [hrun, reqStoreProgram_accepted ha hl he hb, respond_later]
    refine ⟨fun hl => taken_refused hrun (reqStoreProgram_protected ha hl),
      fun hl he => taken_refused hrun (reqStoreProgram_busy ha hl he),
      fun hl he hb => taken_refused hrun (reqStoreProgram_bad ha hl he hb),
      fun hl he hb => ⟨haccepted hl he hb, fun hs hr => ?_⟩⟩
    exact (haccepted hl he hb).trans (congrArg Host.Outcome.next (settle_external_program hs hr))
  · have hrun : exec (.storeErase h sectors) s = .next (respond h 0x42 false (reqStoreErase h sectors s)) :=
      exec_taken nofun rfl ht
    refine ⟨fun h0 => taken_refused hrun (reqStoreErase_empty h0),
      fun h0 hp => taken_refused hrun (reqStoreErase_protected h0 hp),
      fun hp he => taken_refused hrun (reqStoreErase_busy hp he), fun hp he hb => ?_, fun hp he hb => ?_⟩
    · rw [hrun, reqStoreErase_allBad hp he ((allBad_iff sectors).mpr hb), respond_now]
      rfl
    · rw [hrun, reqStoreErase_accepted hp he (mt (allBad_iff sectors).mp hb), respond_later]
      rfl
  · intro freed answers
    have hanswers (st : Status) (data : List Byte) : answers (answerExternal st data s) st data :=
      ⟨answerExternal_forgotten, fun r => answerExternal_remembered⟩
    refine ⟨fun f => ⟨holdResponse_places, holdResponse_waits⟩, fun rep => ⟨fun h => ?_, fun h => ?_, fun h => ?_, fun h => ?_⟩,
      fun b os => ⟨rfl, fun k hk hlow => ?_, fun named hn => ?_⟩⟩
    · simp only [classProgramEnd, h]
    · simp only [classProgramEnd, h]
    · simp only [classProgramEnd, h]
    · simp only [classProgramEnd, h]
      exact hanswers _ _
    · simp only [classEraseEnd, sectorsOf_head hk hlow, Option.bind_some, and_self]
    · have hend : classEraseEnd .external b os s =
          answerExternal (if allErased b os then .ok else .failed) (eraseBytes named os) s := by
        simp only [classEraseEnd, externalEraseEnd, hn]
      rw [hend, eraseBytes_eq]
      refine ⟨fun hall => ?_, fun hall => ?_⟩
      · rw [if_pos (allErased_iff.mpr hall)]
        exact hanswers _ _
      · rw [if_neg (mt allErased_iff.mp hall)]
        exact hanswers _ _

end Sys2Proof.Machine
end


section
/-! PROOF. What settling leaves of the sectors' flags (R66, R67), and the end of a program (R65). -/

namespace Sys2Proof.Machine

/-! ### The flags of the sectors stay while steps are reported, placed and taken -/

section Flags
variable {s t : State}

theorem Store.beginFrom_only (ks : List (Fin 8)) (x : Store) : Store.beginFrom ks x =
    { x with ctl := (Store.beginFrom ks x).ctl, eraseSet := (Store.beginFrom ks x).eraseSet,
             current := (Store.beginFrom ks x).current, outcomes := (Store.beginFrom ks x).outcomes } := by
  induction ks generalizing x with
  | nil => rfl
  | cons k ks ih =>
    unfold Store.beginFrom
    split
    · exact ih _
    · rfl

/-- Beginning the next sector changes the controller's state, its set, its sector and the outcomes only. -/
theorem Store.beginNext_only (x : Store) : x.beginNext =
    { x with ctl := x.beginNext.ctl, eraseSet := x.beginNext.eraseSet, current := x.beginNext.current,
             outcomes := x.beginNext.outcomes } := Store.beginFrom_only x.todo x

theorem Store.beginNext_flags (x : Store) : x.beginNext.flags = x.flags := by rw [Store.beginNext_only]

theorem Store.join_flags (x : Store) (c : StoreClass) (b : BitVec 8) : (x.join c b).flags = x.flags := x.setSlot_flags c none

theorem Store.place_flags (x : Store) (c : StoreClass) (step : StoreStep) : (x.place c step).flags = x.flags := by
  cases step with
  | erase b =>
    unfold Store.place
    dsimp only
    split
    · exact x.join_flags c b
    · exact x.setSlot_flags c _
  | program a v =>
    have hclosed (y : Store) : y.closeWindow.flags = y.flags := Store.beginNext_flags { y with window := none }
    have hplaced : (if x.ctl = .eraseWindow then (x.setSlot c (some (.program a v))).closeWindow
        else x.setSlot c (some (.program a v))).flags = x.flags := by
      split
      · rw [hclosed, Store.setSlot_flags]
      · exact x.setSlot_flags c _
    have hsuspends (z : Store) : (if c = .odometer ∧ z.ctl = .erasing then { z with ctl := .suspending } else z).flags =
        z.flags := by
      split <;> rfl
    exact (hsuspends _).trans hplaced

theorem Store.gather_flags (x : Store) (c : StoreClass) : (x.gather c).flags = x.flags := by
  unfold Store.gather
  split
  · exact x.join_flags c _
  · rfl

theorem Store.take_flags {x y : Store} (h : x.take = some y) : y.flags = x.flags := by
  have hgathered (cs : List StoreClass) (z : Store) : (cs.foldl Store.gather z).flags = z.flags := by
    induction cs generalizing z with
    | nil => rfl
    | cons c cs ih => exact (ih _).trans (z.gather_flags c)
  unfold Store.take at h
  split at h
  · split at h
    · cases h
    · split at h
      · cases h
        exact x.setSlot_flags _ none
      · cases h
        exact hgathered allClasses _
      · cases h
  · cases h

theorem finishSetting_store (k : Fin 8) (value : Nat) (s : State) : (finishSetting k value s).store = s.store := by
  refine (answerSetting_same .ok _).1.trans ((shownNotice_apart _).store.trans ((setOdoFault_same false _).store.trans ?_))
  rfl

theorem odometerProgramEnd_store (r : ProgramReport) (s : State) : (odometerProgramEnd r s).store = s.store := by
  have hincrement (t : State) : (incrementEnd r t).store = t.store := by
    unfold incrementEnd
    dsimp only
    split
    · rfl
    · exact (setOdoFault_same false _).store
  have hrotation (rot : Rotation) (t : State) : (rotationEnd rot r.exceeded t).store = t.store := by
    unfold rotationEnd
    dsimp only
    split
    · exact (setOdoFault_same true _).store
    · split <;> rfl
  have hsetting (g : Setting) (t : State) : (settingEnd g r.exceeded t).store = t.store := by
    unfold settingEnd
    split
    · rfl
    · rfl
    · split
      · exact (answerSetting_same .failed t).1
      · rfl
    · exact finishSetting_store _ _ t
  unfold odometerProgramEnd
  dsimp only
  split
  · rfl
  · exact (checkOdoFault_same _).store
  · exact (checkOdoFault_same _).store.trans (hincrement _)
  · split
    · exact (checkOdoFault_same _).store.trans (hrotation _ _)
    · rfl
  · split
    · exact (checkOdoFault_same _).store.trans (hsetting _ _)
    · rfl

/-- A class takes the outcome of its program without a change to the store. -/
theorem classProgramEnd_store (r : ProgramReport) (s : State) : (classProgramEnd r s).store = s.store := by
  unfold classProgramEnd
  split
  · exact odometerProgramEnd_store r s
  · exact (pairProgramEnd_apart .trip _ s).store
  · exact (pairProgramEnd_apart .service _ s).store
  · exact (answerExternal_apart _ _ s).store

theorem classEraseEnd_store (c : StoreClass) (b : BitVec 8) (os : List (Fin 8 × EraseOutcome)) (s : State) :
    (classEraseEnd c b os s).store = s.store := by
  unfold classEraseEnd
  dsimp only
  split
  · exact (odometerEraseEnd_count os s).1
  · exact (pairEraseEnd_apart .trip _ s).store
  · exact (pairEraseEnd_apart .service _ s).store
  · exact (externalEraseEnd_apart b os s).store

theorem settleOnce_flags (h : settleOnce s = some t) : t.store.flags = s.store.flags := by
  unfold settleOnce at h
  rcases orElse_some h with h | h
  · rw [(reportSave_apart h).store]
  rcases orElse_some h with h | h
  · rw [(reportSave_apart h).store]
  rcases orElse_some h with h | h
  · unfold reportErase at h
    split at h
    · cases h
    · cases h
      rw [classEraseEnd_store]
      rfl
  have hpair {p : PairId} (h : pairPump p s = some t) : t.store.flags = s.store.flags := by
    unfold pairPump at h
    split at h
    · cases h
    · cases h
      exact Store.place_flags _ _ _
  rcases orElse_some h with h | h
  · rw [odometerPump_eq] at h
    obtain ⟨x, _, rfl⟩ := Option.map_eq_some_iff.mp h
    exact Store.place_flags _ _ _
  rcases orElse_some h with h | h
  · exact hpair h
  rcases orElse_some h with h | h
  · exact hpair h
  · obtain ⟨x, hx, rfl⟩ := Option.map_eq_some_iff.mp h
    exact Store.take_flags hx

theorem settleFor_flags (n : Nat) (s : State) : (settleFor n s).store.flags = s.store.flags := by
  induction n generalizing s with
  | zero => rfl
  | succ n ih =>
    unfold settleFor
    split
    · exact (ih _).trans (settleOnce_flags ‹_›)
    · rfl

/-- What follows within an event leaves the flags of every sector. -/
theorem settle_flags (s : State) : (settle s).store.flags = s.store.flags := settleFor_flags s.settleBound s

end Flags

theorem sectorFlags_set_same (v : Vector SectorFlags 8) (k : Fin 8) (f : SectorFlags) : (v.set k f)[k] = f :=
  Vector.getElem_set_self k.isLt

theorem sectorFlags_set_other (v : Vector SectorFlags 8) {j k : Fin 8} (h : k ≠ j) (f : SectorFlags) :
    (v.set j f)[k] = v[k] :=
  Vector.getElem_set_ne j.isLt k.isLt fun hj => h (Fin.ext hj.symm)

/-! ### The end of a program (R65) -/

section ProgramEnd
variable {x y : Store} {worn : Bool} {r : Running}

/-- A program asks for a 1 over a 0. -/
theorem programmed_ne_iff {old value : Word} : programmed old value ≠ value ↔
    ∃ i : Fin 16, value.getLsbD i.val = true ∧ old.getLsbD i.val = false := by
  constructor
  · intro h
    by_contra hall
    refine h (BitVec.eq_of_getLsbD_eq fun i hi => ?_)
    have hbit : ¬ (value.getLsbD i = true ∧ old.getLsbD i = false) := fun hb => hall ⟨⟨i, hi⟩, hb⟩
    rw [programmed, BitVec.getLsbD_and]
    revert hbit
    cases value.getLsbD i <;> cases old.getLsbD i <;> decide
  · rintro ⟨i, hv, ho⟩ h
    have hbit := congrArg (fun w : Word => w.getLsbD i.val) h
    rw [programmed, BitVec.getLsbD_and, ho, hv] at hbit
    cases hbit

theorem programExceeds_iff {old value : Word} : programExceeds old value worn = true ↔
    worn = true ∨ ∃ i : Fin 16, value.getLsbD i.val = true ∧ old.getLsbD i.val = false := by
  rw [programExceeds, Bool.or_eq_true, decide_eq_true_eq, programmed_ne_iff]

/-- The store with the program written, before the controller goes on. -/
def Store.written (x : Store) (r : Running) (exceeded : Bool) : Store :=
  let f := x.flags[sectorOf r.addr]
  { x with mem := Memory.write x.mem r.addr.val (Memory.read x.mem r.addr.val &&& r.value), running := none,
           flags := x.flags.set (sectorOf r.addr) { f with worn := f.worn || exceeded, erasedKnown := false } }

theorem Store.programEnd_running (h : x.running = some r) : x.programEnd worn =
    (let old := Memory.read x.mem r.addr.val
     let exceeded := programExceeds old r.value worn
     some ({ cls := r.cls, addr := r.addr, word := old &&& r.value, exceeded := exceeded,
             cleared := ones old - ones (old &&& r.value) },
       if x.ctl = .suspendedProgramming then
         (if x.current.isSome then { x.written r exceeded with ctl := .erasing } else (x.written r exceeded).beginNext)
       else { x.written r exceeded with ctl := .ready })) := by
  have hnext (z : Store) : (match x.current with | some _ => { z with ctl := .erasing } | none => z.beginNext) =
      if x.current.isSome then { z with ctl := .erasing } else z.beginNext := by
    cases x.current <;> rfl
  simp only [Store.programEnd, h]
  rw [← hnext]
  rfl

/-- What the end of a program leaves of the words, the flags and the running program. -/
theorem Store.programEnd_written {rep : ProgramReport} (h : x.running = some r) (hy : x.programEnd worn = some (rep, y)) :
    y.running = none ∧ y.mem = Memory.write x.mem r.addr.val (Memory.read x.mem r.addr.val &&& r.value) ∧
      y.flags = (x.written r rep.exceeded).flags := by
  rw [Store.programEnd_running h] at hy
  obtain ⟨rfl, rfl⟩ := Prod.mk.inj (Option.some.inj hy)
  split
  · split
    · exact ⟨rfl, rfl, rfl⟩
    · rw [Store.beginNext_only]
      exact ⟨rfl, rfl, rfl⟩
  · exact ⟨rfl, rfl, rfl⟩

end ProgramEnd

/-- Settles O20: the report and the written word, through the class and the settling, which leave words and flags. -/
theorem programEndLeavesOldAndNew : Obligations.ProgramEndLeavesOldAndNew := by
  intro worn s r hp hwf hr old new exceeded
  have hrun : exec (.programEnd worn) s = .next (storeProgramEnd worn s) := live_powered (storeProgramEnd worn) s hp
  obtain ⟨rep, y, hend⟩ : ∃ rep y, s.store.programEnd worn = some (rep, y) := ⟨_, _, Store.programEnd_running hr⟩
  have hrep : rep =
      { cls := r.cls, addr := r.addr, word := new, exceeded := programExceeds old r.value worn,
        cleared := ones old - ones new } := by
    have heq := Store.programEnd_running (worn := worn) hr
    rw [hend] at heq
    exact congrArg Prod.fst (Option.some.inj heq)
  obtain ⟨hrunning, hmem, hflags⟩ := Store.programEnd_written hr hend
  have hexceeded : rep.exceeded = true ↔ exceeded := by rw [hrep]; exact programExceeds_iff
  let u : State := if rep.exceeded then report (.programFailed rep.cls rep.addr) { s with store := y } else { s with store := y }
  have hu : u.store = y := by
    show State.store (if rep.exceeded then _ else _) = y
    split
    · exact report_store _ _
    · rfl
  have ht : storeProgramEnd worn s = settle (classProgramEnd rep u) := by simp only [storeProgramEnd, hend]; rfl
  have htmem : (storeProgramEnd worn s).store.mem = y.mem := by
    rw [ht, (settle_kept _).mem, classProgramEnd_store, hu]
  have htflags : (storeProgramEnd worn s).store.flags = (s.store.written r rep.exceeded).flags := by
    rw [ht, settle_flags, classProgramEnd_store, hu, hflags]
  have hsector (k : Fin 8) : (storeProgramEnd worn s).sector k = (s.store.written r rep.exceeded).flags[k] := by
    unfold State.sector
    rw [htflags]
  refine ⟨storeProgramEnd worn s, u, rep, hrun, ht, by rw [hu]; exact hend, by rw [hrep], by rw [hrep], by rw [hrep],
    hexceeded, by rw [hrep], by rw [hu]; exact hrunning, fun h => ?_, fun h => ?_, by rw [htmem, hu], ?_, fun a ha => ?_,
    by rw [htflags, hu, hflags], ?_, ?_, ?_, fun k hk => ?_⟩
  · exact (if_pos (hexceeded.mpr h)).trans (by rw [hrep, hu])
  · exact (if_neg (mt hexceeded.mp h)).trans (by rw [hu])
  · rw [htmem, hmem]
    exact Memory.read_write_same _ 0 _ _ hwf
  · rw [htmem, hmem]
    exact Memory.read_write_other _ 0 _ _ _ hwf ha
  · rw [hsector]
    unfold Store.written
    simp only [Fin.getElem_fin, Vector.getElem_set_self]
    rfl
  · rw [hsector, ← hexceeded]
    unfold Store.written
    simp only [Fin.getElem_fin, Vector.getElem_set_self]
    exact Iff.of_eq (Bool.or_eq_true _ _)
  · rw [hsector]
    unfold Store.written
    simp only [Fin.getElem_fin, Vector.getElem_set_self]
  · rw [hsector]
    unfold Store.written
    exact sectorFlags_set_other _ hk _

end Sys2Proof.Machine
end


section
/-! PROOF. The Store Controller (R66 to R71, R73): the sector begun, a step placed and taken, the ends of a program and of a
sector's erase, the read of a word, and what follows within an event. -/

namespace Sys2Proof.Machine

/-! ### Outcomes of a list of sectors -/

section Outcomes
variable {os ps : List (Fin 8 × EraseOutcome)} {k j : Fin 8}

theorem outcomeOf_append : outcomeOf (os ++ ps) j = (outcomeOf os j).or (outcomeOf ps j) := by
  unfold outcomeOf
  rw [List.find?_append]
  cases os.find? (fun o => o.1 = j) <;> rfl

theorem outcomeOf_map (f : Fin 8 → EraseOutcome) (ks : List (Fin 8)) (j : Fin 8) :
    outcomeOf (ks.map fun k => (k, f k)) j = if j ∈ ks then some (f j) else none := by
  induction ks with
  | nil => rfl
  | cons k ks ih =>
    unfold outcomeOf at ih ⊢
    by_cases hk : k = j
    · subst hk
      simp
    · rw [List.map_cons, List.find?_cons_of_neg (by simpa using hk), ih]
      simp [Ne.symm hk]

/-- Of a rising list the members before the first that fails a test. -/
theorem mem_takeWhile_iff {p : Fin 8 → Bool} {l : List (Fin 8)} (hl : l.Pairwise (· < ·)) :
    j ∈ l.takeWhile p ↔ j ∈ l ∧ ∀ k ∈ l, p k = false → j.val < k.val := by
  induction l with
  | nil => simp
  | cons a l ih =>
    obtain ⟨ha, hl⟩ := List.pairwise_cons.mp hl
    cases hp : p a with
    | false =>
      rw [List.takeWhile_cons_of_neg (by rw [hp]; exact Bool.false_ne_true)]
      refine iff_of_false List.not_mem_nil fun ⟨hj, hall⟩ => ?_
      have hlt := hall a List.mem_cons_self hp
      rcases List.mem_cons.mp hj with rfl | hj
      · exact Nat.lt_irrefl _ hlt
      · exact Nat.lt_asymm hlt (ha j hj)
    | true =>
      rw [List.takeWhile_cons_of_pos hp, List.mem_cons, ih hl]
      constructor
      · rintro (rfl | ⟨hj, hall⟩)
        · refine ⟨List.mem_cons_self, fun k hk hpk => ?_⟩
          rcases List.mem_cons.mp hk with rfl | hk
          · rw [hp] at hpk
            cases hpk
          · exact ha k hk
        · refine ⟨List.mem_cons_of_mem a hj, fun k hk hpk => ?_⟩
          rcases List.mem_cons.mp hk with rfl | hk
          · rw [hp] at hpk
            cases hpk
          · exact hall k hk hpk
      · rintro ⟨hj, hall⟩
        exact (List.mem_cons.mp hj).imp_right fun hj => ⟨hj, fun k hk => hall k (List.mem_cons_of_mem a hk)⟩

end Outcomes

/-! ### The sector begun (R70) -/

section Begin
variable {x : Store} {k j : Fin 8}

theorem Store.mem_todo : k ∈ x.todo ↔ x.eraseSet.getLsbD k.val = true ∧ outcomeOf x.outcomes k = none := by
  rw [Store.todo, List.mem_filter, mem_sectorsOf, Option.isNone_iff_eq_none]

theorem Store.todo_rises (x : Store) : x.todo.Pairwise (· < ·) :=
  ((List.pairwise_lt_finRange 8).filter _).filter _

/-- A sector is begun unless it is BAD, or ACTIVE in one of the sectors 0 to 5. -/
theorem Store.skip_eq_none : x.skip k = none ↔
    (x.flags[k]).bad = false ∧ ¬ (k.val < 6 ∧ sectorWord x.mem k 0 = 0x00FF) := by
  unfold Store.skip
  split
  · rename_i h
    exact iff_of_false nofun fun hk => Bool.false_ne_true (hk.1.symm.trans h)
  · rename_i hbad
    split
    · rename_i h
      exact iff_of_false nofun fun hk => hk.2 h
    · rename_i h
      exact iff_of_true rfl ⟨Bool.eq_false_iff.mpr hbad, h⟩

theorem Store.skip_some (h : x.skip k ≠ none) : x.skip k =
    some (if (x.flags[k]).bad = true then EraseOutcome.skippedBad else EraseOutcome.skippedActive) := by
  unfold Store.skip at h ⊢
  split
  · rfl
  · rw [if_neg ‹_›] at h
    split
    · rfl
    · rw [if_neg ‹_›] at h
      exact absurd rfl h

/-- The outcome of a sector that is passed over. -/
def Store.passed (x : Store) (k : Fin 8) : EraseOutcome :=
  if (x.flags[k]).bad = true then EraseOutcome.skippedBad else EraseOutcome.skippedActive

/-- The store with the leading sectors of a list passed over that are not erased. -/
def Store.passOver (x : Store) (ks : List (Fin 8)) : Store :=
  { x with outcomes := x.outcomes ++ (ks.takeWhile fun k => (x.skip k).isSome).map fun k => (k, x.passed k) }

theorem Store.beginFrom_eq (ks : List (Fin 8)) (x : Store) : Store.beginFrom ks x =
    match ks.find? (fun k => (x.skip k).isNone) with
    | none => { x.passOver ks with ctl := .ready, eraseSet := 0, current := none }
    | some k => { x.passOver ks with ctl := .erasing, current := some k } := by
  induction ks generalizing x with
  | nil =>
    have hnil : x.passOver [] = x := by
      unfold Store.passOver
      rw [List.takeWhile_nil, List.map_nil, List.append_nil]
    show _ = { x.passOver [] with ctl := .ready, eraseSet := 0, current := none }
    rw [hnil]
    rfl
  | cons k ks ih =>
    cases hk : x.skip k with
    | none =>
      have hnone : x.passOver (k :: ks) = x := by
        unfold Store.passOver
        rw [List.takeWhile_cons_of_neg (by rw [hk]; exact Bool.false_ne_true), List.map_nil, List.append_nil]
      rw [List.find?_cons_of_pos (by rw [hk]; rfl)]
      dsimp only
      rw [hnone]
      simp only [Store.beginFrom, hk]
    | some o =>
      have ho : o = x.passed k := by
        have h := Store.skip_some (x := x) (k := k) (by rw [hk]; nofun)
        rw [hk] at h
        exact Option.some.inj h
      have hpass : x.passOver (k :: ks) = ({ x with outcomes := x.outcomes ++ [(k, o)] } : Store).passOver ks := by
        unfold Store.passOver
        rw [List.takeWhile_cons_of_pos (by rw [hk]; rfl), List.map_cons, ho]
        simp only [List.append_assoc, List.singleton_append]
        rfl
      rw [List.find?_cons_of_neg (by rw [hk]; exact Bool.false_ne_true), hpass]
      simp only [Store.beginFrom, hk]
      exact ih { x with outcomes := x.outcomes ++ [(k, o)] }

theorem Store.beginNext_none (h : ∀ k ∈ x.todo, x.skip k ≠ none) : x.beginNext =
    { x.passOver x.todo with ctl := .ready, eraseSet := 0, current := none } := by
  have hfind : x.todo.find? (fun k => (x.skip k).isNone) = none := List.find?_eq_none.mpr fun k hk hnone =>
    h k hk (Option.isNone_iff_eq_none.mp hnone)
  unfold Store.beginNext
  rw [Store.beginFrom_eq, hfind]

theorem Store.beginNext_some (hk : k ∈ x.todo) (hs : x.skip k = none) (hlow : ∀ j ∈ x.todo, j.val < k.val → x.skip j ≠ none) :
    x.beginNext = { x.passOver x.todo with ctl := .erasing, current := some k } := by
  have hfind : x.todo.find? (fun k => (x.skip k).isNone) = some k := by
    obtain ⟨before, after, hsplit⟩ := List.append_of_mem hk
    rw [List.find?_eq_some_iff_append]
    refine ⟨by rw [hs]; rfl, before, after, hsplit, fun j hj => ?_⟩
    have hlt : j < k := by
      have hrises := x.todo_rises
      rw [hsplit, List.pairwise_append] at hrises
      exact hrises.2.2 j hj k List.mem_cons_self
    have hne := hlow j (by rw [hsplit]; exact List.mem_append_left _ hj) hlt
    rw [Option.isNone_eq_false_iff.mpr (Option.isSome_iff_ne_none.mpr hne)]
    rfl
  unfold Store.beginNext
  rw [Store.beginFrom_eq, hfind]

/-- The set is empty where no sector is left, and stays where one is begun. -/
theorem Store.beginNext_set (x : Store) :
    x.beginNext.eraseSet = if x.beginNext.ctl = .ready then 0 else x.eraseSet := by
  unfold Store.beginNext
  rw [Store.beginFrom_eq]
  split <;> rfl

/-- The outcomes after a sector is begun: those of the sectors passed over, and the former ones. -/
theorem Store.passOver_outcome (x : Store) (j : Fin 8) :
    let passed := j ∈ x.todo ∧ ∀ k ∈ x.todo, x.skip k = none → j.val < k.val
    (passed → outcomeOf (x.passOver x.todo).outcomes j =
      some (if (x.flags[j]).bad = true then EraseOutcome.skippedBad else EraseOutcome.skippedActive)) ∧
    (¬ passed → outcomeOf (x.passOver x.todo).outcomes j = outcomeOf x.outcomes j) := by
  have hmem : j ∈ x.todo.takeWhile (fun k => (x.skip k).isSome) ↔
      j ∈ x.todo ∧ ∀ k ∈ x.todo, x.skip k = none → j.val < k.val := by
    rw [mem_takeWhile_iff x.todo_rises]
    simp only [Option.isSome_eq_false_iff, Option.isNone_iff_eq_none]
  have hout : outcomeOf (x.passOver x.todo).outcomes j = (outcomeOf x.outcomes j).or
      (if j ∈ x.todo.takeWhile (fun k => (x.skip k).isSome) then some (x.passed j) else none) := by
    unfold Store.passOver
    rw [outcomeOf_append, outcomeOf_map]
  rw [hout]
  refine ⟨fun h => ?_, fun h => ?_⟩
  · rw [if_pos (hmem.mpr h), (Store.mem_todo.mp h.1).2]
    rfl
  · rw [if_neg (mt hmem.mp h), Option.or_none]

/-- A sector that the set may begin. -/
theorem Store.open_iff : x.eraseSet.getLsbD k.val = true ∧ outcomeOf x.outcomes k = none ∧
    (x.flags[k]).bad = false ∧ ¬ (k.val < 6 ∧ sectorWord x.mem k 0 = 0x00FF) ↔ k ∈ x.todo ∧ x.skip k = none := by
  rw [Store.mem_todo, Store.skip_eq_none, and_assoc]

/-- The first part of O21: the sector that is begun. -/
theorem beginNext_begins (x : Store) : (x.beginNext).mem = x.mem ∧ (x.beginNext).flags = x.flags ∧
    (let open' (k : Fin 8) : Prop := x.eraseSet.getLsbD k.val = true ∧ outcomeOf x.outcomes k = none ∧
       (x.flags[k]).bad = false ∧ ¬ (k.val < 6 ∧ sectorWord x.mem k 0 = 0x00FF)
     let passed (j : Fin 8) : Prop := x.eraseSet.getLsbD j.val = true ∧ outcomeOf x.outcomes j = none ∧
       ∀ k, open' k → j.val < k.val
     ((∀ k, ¬ open' k) → x.beginNext =
       { x with ctl := .ready, eraseSet := 0, current := none, outcomes := (x.beginNext).outcomes }) ∧
     (∀ k, open' k → (∀ j : Fin 8, j.val < k.val → ¬ open' j) →
       x.beginNext = { x with ctl := .erasing, current := some k, outcomes := (x.beginNext).outcomes }) ∧
     (∀ j, (passed j → outcomeOf (x.beginNext).outcomes j =
         some (if (x.flags[j]).bad = true then EraseOutcome.skippedBad else EraseOutcome.skippedActive)) ∧
       (¬ passed j → outcomeOf (x.beginNext).outcomes j = outcomeOf x.outcomes j))) := by
  refine ⟨x.beginNext_mem, x.beginNext_flags, ?_⟩
  intro open' passed
  have hopen (k : Fin 8) : open' k ↔ k ∈ x.todo ∧ x.skip k = none := Store.open_iff
  have hnone (h : ∀ k, ¬ open' k) := Store.beginNext_none (x := x) fun k hk hs => h k ((hopen k).mpr ⟨hk, hs⟩)
  have hsome {k : Fin 8} (hk : open' k) (hlow : ∀ j : Fin 8, j.val < k.val → ¬ open' j) :=
    Store.beginNext_some (x := x) ((hopen k).mp hk).1 ((hopen k).mp hk).2
      fun j hj hlt hs => hlow j hlt ((hopen j).mpr ⟨hj, hs⟩)
  have houtcomes : (x.beginNext).outcomes = (x.passOver x.todo).outcomes := by
    unfold Store.beginNext
    rw [Store.beginFrom_eq]
    split <;> rfl
  refine ⟨fun h => ?_, fun k hk hlow => ?_, fun j => ?_⟩
  · rw [houtcomes]
    exact hnone h
  · rw [houtcomes]
    exact hsome hk hlow
  · have hpassed : passed j ↔ j ∈ x.todo ∧ ∀ k ∈ x.todo, x.skip k = none → j.val < k.val := by
      rw [Store.mem_todo, and_assoc]
      refine and_congr_right fun _ => and_congr_right fun _ => forall_congr' fun k => ?_
      rw [hopen k, and_imp]
    rw [houtcomes, hpassed]
    exact x.passOver_outcome j

end Begin

/-! ### A step placed (R67, R69, R71) -/

section Place
variable {x : Store} {c : StoreClass} {a : Fin 256} {v : Word} {b : BitVec 8}

theorem Store.slot_of_setSlot (x : Store) (c d : StoreClass) (step : Option StoreStep) :
    (x.setSlot c step).slot d = if d = c then step else x.slot d := by
  cases c <;> cases d <;> rfl

theorem Store.place_erase_joins (h : x.ctl = .eraseWindow) : x.place c (.erase b) =
    { x.setSlot c none with eraseSet := x.eraseSet ||| b, joined := x.joined ++ [(c, b)] } := if_pos h

theorem Store.place_erase_waits (h : x.ctl ≠ .eraseWindow) : x.place c (.erase b) = x.setSlot c (some (.erase b)) := if_neg h

/-- An ODOMETER program suspends the erase. -/
def Store.suspendFor (x : Store) (c : StoreClass) : Store :=
  if c = .odometer ∧ x.ctl = .erasing then { x with ctl := .suspending } else x

theorem Store.suspendFor_erasing (h : x.ctl = .erasing) :
    x.suspendFor c = if c = .odometer then { x with ctl := .suspending } else x := by
  unfold Store.suspendFor
  simp only [h, and_true]

theorem Store.suspendFor_other (h : x.ctl ≠ .erasing) : x.suspendFor c = x := if_neg fun hc => h hc.2

theorem Store.place_program_closes (h : x.ctl = .eraseWindow) : x.place c (.program a v) =
    (({ x.setSlot c (some (.program a v)) with window := none } : Store).beginNext).suspendFor c := by
  unfold Store.place
  dsimp only
  rw [if_pos h]
  rfl

theorem Store.place_program_waits (h : x.ctl ≠ .eraseWindow) : x.place c (.program a v) =
    (x.setSlot c (some (.program a v))).suspendFor c := by
  unfold Store.place
  dsimp only
  rw [if_neg h]
  rfl

theorem Store.setSlot_ctl_eq (x : Store) (c : StoreClass) (step : Option StoreStep) : (x.setSlot c step).ctl = x.ctl :=
  (x.setSlot_ctl c step).1

end Place

/-! ### A step taken (R68, R69) -/

section Take
variable {x : Store} {c : StoreClass}

/-- The erase steps that wait in the slots of a list of classes, gathered into the window. -/
structure Gathered (cs : List StoreClass) (x y : Store) : Prop where
  only : y = { x with slotOdometer := y.slotOdometer, slotTrip := y.slotTrip, slotService := y.slotService,
                      slotExternal := y.slotExternal, eraseSet := y.eraseSet, joined := y.joined }
  leaves : ∀ d ∈ cs, ∀ e, x.slot d = some (.erase e) → y.slot d = none
  stays : ∀ d, (d ∈ cs → ∀ e, x.slot d ≠ some (.erase e)) → y.slot d = x.slot d
  joined : ∀ d e, (d, e) ∈ y.joined ↔ (d, e) ∈ x.joined ∨ (d ∈ cs ∧ x.slot d = some (.erase e))
  set : ∀ k : Fin 8, y.eraseSet.getLsbD k.val = true ↔
    x.eraseSet.getLsbD k.val = true ∨ ∃ d ∈ cs, ∃ e, x.slot d = some (.erase e) ∧ e.getLsbD k.val = true

theorem Store.gather_erase {b : BitVec 8} (h : x.slot c = some (.erase b)) : x.gather c = x.join c b := by
  simp only [Store.gather, h]

theorem Store.gather_other (h : ∀ b, x.slot c ≠ some (.erase b)) : x.gather c = x := by
  unfold Store.gather
  split
  · rename_i b hb
    exact absurd hb (h b)
  · rfl

theorem Store.join_only (x : Store) (c : StoreClass) (b : BitVec 8) : x.join c b =
    { x with slotOdometer := (x.join c b).slotOdometer, slotTrip := (x.join c b).slotTrip,
             slotService := (x.join c b).slotService, slotExternal := (x.join c b).slotExternal,
             eraseSet := x.eraseSet ||| b, joined := x.joined ++ [(c, b)] } := by
  cases c <;> rfl

theorem Store.join_slot (x : Store) (c d : StoreClass) (b : BitVec 8) :
    (x.join c b).slot d = if d = c then none else x.slot d := by
  cases c <;> cases d <;> rfl

/-- One class's erase step joins. -/
theorem Gathered.one (x : Store) (c : StoreClass) : Gathered [c] x (x.gather c) := by
  by_cases h : ∃ b, x.slot c = some (.erase b)
  · obtain ⟨b, hb⟩ := h
    rw [Store.gather_erase hb]
    have hone {P : StoreClass → Prop} : (∃ d ∈ [c], P d) ↔ P c := by simp
    refine ⟨?_, fun d hd e _ => ?_, fun d hd => ?_, fun d e => ?_, fun k => ?_⟩
    · exact (x.join_only c b).trans (by rw [x.join_only c b])
    · rw [Store.join_slot, if_pos (List.mem_singleton.mp hd)]
    · rw [Store.join_slot, if_neg]
      rintro rfl
      exact hd List.mem_cons_self b hb
    · rw [x.join_only c b, List.mem_append, List.mem_singleton, List.mem_singleton, Prod.mk.injEq]
      refine or_congr_right (and_congr_right ?_)
      rintro rfl
      rw [hb, Option.some.injEq, StoreStep.erase.injEq, eq_comm]
    · rw [x.join_only c b, BitVec.getLsbD_or, Bool.or_eq_true, hone]
      refine or_congr_right ⟨fun hk => ⟨b, hb, hk⟩, ?_⟩
      rintro ⟨e, he, hk⟩
      cases hb.symm.trans he
      exact hk
  · have hother (b : BitVec 8) : x.slot c ≠ some (.erase b) := fun hb => h ⟨b, hb⟩
    rw [Store.gather_other hother]
    refine ⟨rfl, fun d hd e he => ?_, fun _ _ => rfl, fun d e => ?_, fun k => ?_⟩
    · rw [List.mem_singleton.mp hd] at he
      exact absurd he (hother e)
    · refine (or_iff_left ?_).symm
      rintro ⟨hd, he⟩
      rw [List.mem_singleton.mp hd] at he
      exact hother e he
    · refine (or_iff_left ?_).symm
      rintro ⟨d, hd, e, he, _⟩
      rw [List.mem_singleton.mp hd] at he
      exact hother e he

/-- One class after another. -/
theorem Gathered.cons {cs : List StoreClass} {y z : Store} (hc : c ∉ cs) (h : Gathered [c] x y) (k : Gathered cs y z) :
    Gathered (c :: cs) x z := by
  have hslot (d : StoreClass) (hd : d ∈ cs) : y.slot d = x.slot d :=
    h.stays d fun hdc => absurd (List.mem_singleton.mp hdc ▸ hd) hc
  have hcy (e : BitVec 8) : y.slot c ≠ some (.erase e) := by
    intro he
    by_cases hx : ∃ b, x.slot c = some (.erase b)
    · obtain ⟨b, hb⟩ := hx
      rw [h.leaves c List.mem_cons_self b hb] at he
      cases he
    · rw [h.stays c fun _ b hb => hx ⟨b, hb⟩] at he
      exact hx ⟨e, he⟩
  have hcz : z.slot c = y.slot c := k.stays c fun hd => absurd hd hc
  have hsplit {P : StoreClass → Prop} : (∃ d ∈ c :: cs, P d) ↔ P c ∨ ∃ d ∈ cs, P d := List.exists_mem_cons_iff ..
  have hone {P : StoreClass → Prop} : (∃ d ∈ [c], P d) ↔ P c := by simp
  refine ⟨?_, fun d hd e he => ?_, fun d hd => ?_, fun d e => ?_, fun i => ?_⟩
  · refine k.only.trans ?_
    rw [h.only]
  · rcases List.mem_cons.mp hd with rfl | hd
    · rw [hcz, h.leaves d List.mem_cons_self e he]
    · exact k.leaves d hd e (by rw [hslot d hd, he])
  · by_cases hdc : d = c
    · subst hdc
      rw [hcz]
      exact h.stays d fun _ => hd List.mem_cons_self
    · have hy : y.slot d = x.slot d := h.stays d fun h' => absurd (List.mem_singleton.mp h') hdc
      rw [← hy]
      refine k.stays d fun hmem e => ?_
      rw [hy]
      exact hd (List.mem_cons_of_mem c hmem) e
  · rw [k.joined, h.joined, or_assoc, List.mem_singleton, List.mem_cons, or_and_right]
    refine or_congr_right (or_congr_right (and_congr_right fun hd => ?_))
    rw [hslot d hd]
  · rw [k.set, h.set, or_assoc, hone, hsplit]
    refine or_congr_right (or_congr_right (exists_congr fun d => and_congr_right fun hd => ?_))
    rw [hslot d hd]

theorem Gathered.foldl {cs : List StoreClass} (hn : cs.Nodup) (x : Store) : Gathered cs x (cs.foldl Store.gather x) := by
  induction cs generalizing x with
  | nil => exact ⟨rfl, fun _ => nofun, fun _ _ => rfl, fun _ _ => by simp, fun _ => by simp⟩
  | cons c cs ih =>
    obtain ⟨hc, hn⟩ := List.nodup_cons.mp hn
    exact .cons hc (.one x c) (ih hn _)

theorem mem_allClasses (c : StoreClass) : c ∈ allClasses := by cases c <;> decide

theorem Store.take_none (h : x.ctl ≠ .ready ∨ ∀ d, x.slot d = none) : x.take = none := by
  unfold Store.take
  split
  · have hslots := h.resolve_left (not_not.mpr ‹_›)
    have hfind : allClasses.find? (fun c => (x.slot c).isSome) = none := List.find?_eq_none.mpr fun c _ => by
      rw [hslots c]
      exact Bool.false_ne_true
    rw [hfind]
  · rfl

section Highest
variable {step : StoreStep} (hc : x.slot c = some step)
  (hlow : ∀ d : StoreClass, d.code < c.code → x.slot d = none)
include hc hlow

/-- The highest class whose slot holds a step. -/
theorem Store.find_highest : allClasses.find? (fun c => (x.slot c).isSome) = some c := by
  cases c with
  | odometer => simp only [allClasses, List.find?, hc, Option.isSome_some]
  | trip =>
    have ho := hlow .odometer (by decide)
    simp only [allClasses, List.find?, ho, hc, Option.isSome_none, Option.isSome_some]
  | service =>
    have ho := hlow .odometer (by decide)
    have ht := hlow .trip (by decide)
    simp only [allClasses, List.find?, ho, ht, hc, Option.isSome_none, Option.isSome_some]
  | external =>
    have ho := hlow .odometer (by decide)
    have ht := hlow .trip (by decide)
    have hv := hlow .service (by decide)
    simp only [allClasses, List.find?, ho, ht, hv, hc, Option.isSome_none, Option.isSome_some]

variable (hr : x.ctl = .ready)
include hr

theorem Store.take_program {a : Fin 256} {v : Word} (hs : step = .program a v) : x.take = some { x.setSlot c none with
    ctl := .programming, running := some { cls := c, addr := a, value := v } } := by
  subst hs
  unfold Store.take
  rw [if_pos hr, Store.find_highest hc hlow]
  dsimp only
  rw [hc]

theorem Store.take_erase {b : BitVec 8} (hs : step = .erase b) : ∃ y, x.take = some y ∧
    Gathered allClasses { x with ctl := .eraseWindow, window := some 10, outcomes := [] } y := by
  subst hs
  refine ⟨_, ?_, Gathered.foldl (by decide) _⟩
  unfold Store.take
  rw [if_pos hr, Store.find_highest hc hlow]
  dsimp only
  rw [hc]

end Highest

end Take

/-! ### The end of a sector's erase (R66, R70, R71) -/

section EraseEnd
variable {x : Store} {k : Fin 8} {failed : Bool} {raised : List Word}

/-- The store with a sector erased, before the controller goes on. -/
def Store.erasedAt (x : Store) (k : Fin 8) (failed : Bool) (raised : List Word) : Store :=
  let f := x.flags[k]
  { x with mem := eraseSector x.mem k failed raised, current := none,
           flags := x.flags.set k { f with bad := f.bad || failed, erasedKnown := !failed },
           outcomes := x.outcomes ++ [(k, if failed = true then EraseOutcome.exceeded else EraseOutcome.erased)] }

theorem Store.erasedAt_mem : (x.erasedAt k failed raised).mem = eraseSector x.mem k failed raised := by
  unfold Store.erasedAt
  dsimp only

theorem Store.erasedAt_flags : (x.erasedAt k failed raised).flags = x.flags.set k
    { x.flags[k] with bad := (x.flags[k]).bad || failed, erasedKnown := !failed } := by
  unfold Store.erasedAt
  dsimp only

theorem Store.erasedAt_only : x.erasedAt k failed raised =
    { x with mem := (x.erasedAt k failed raised).mem, flags := (x.erasedAt k failed raised).flags, current := none,
             outcomes := x.outcomes ++ [(k, if failed = true then EraseOutcome.exceeded else EraseOutcome.erased)] } := by
  unfold Store.erasedAt
  dsimp only

theorem Store.erasedAt_eraseSet : (x.erasedAt k failed raised).eraseSet = x.eraseSet := by
  unfold Store.erasedAt
  dsimp only

theorem Store.erasedAt_outcomes : (x.erasedAt k failed raised).outcomes =
    x.outcomes ++ [(k, if failed = true then EraseOutcome.exceeded else EraseOutcome.erased)] := by
  unfold Store.erasedAt
  dsimp only

theorem Store.erasedAt_slotOdometer : (x.erasedAt k failed raised).slotOdometer = x.slotOdometer := by
  unfold Store.erasedAt
  dsimp only

/-- The controller goes on after a sector's erase, which may have been suspending. -/
def Store.goOn (x : Store) (ctl : CtlState) : Store :=
  if ctl = .erasing then x.beginNext
  else if x.todo = [] then { x with ctl := .ready, eraseSet := 0 } else x.takeSuspending

theorem Store.eraseEnd_eq (hk : x.current = some k) (hc : x.ctl = .erasing ∨ x.ctl = .suspending) :
    x.eraseEnd failed raised = some (k, (x.erasedAt k failed raised).goOn x.ctl) := by
  unfold Store.eraseEnd
  rw [hk]
  exact if_pos hc

theorem Store.goOn_erasing (x : Store) : x.goOn .erasing = x.beginNext := if_pos rfl

theorem Store.goOn_all (hl : x.todo = []) : x.goOn .suspending = { x with ctl := .ready, eraseSet := 0 } :=
  (if_neg nofun).trans (if_pos hl)

theorem Store.goOn_left {a : Fin 256} {v : Word} (hl : x.todo ≠ []) (ho : x.slotOdometer = some (.program a v)) :
    x.goOn .suspending = { x with slotOdometer := none, ctl := .suspendedProgramming,
                                  running := some { cls := .odometer, addr := a, value := v } } := by
  refine (if_neg nofun).trans ((if_neg hl).trans ?_)
  simp only [Store.takeSuspending, ho]

theorem Store.goOn_flags (x : Store) (ctl : CtlState) : (x.goOn ctl).mem = x.mem ∧ (x.goOn ctl).flags = x.flags := by
  unfold Store.goOn
  split
  · exact ⟨x.beginNext_mem, x.beginNext_flags⟩
  · split
    · exact ⟨rfl, rfl⟩
    · unfold Store.takeSuspending
      split <;> exact ⟨rfl, rfl⟩

end EraseEnd

section EraseStep
variable {x : Store} {k : Fin 8} {failed : Bool} {raised : List Word}

/-- Sectors are left exactly with one of the set that has no outcome. -/
theorem Store.todo_ne_nil : x.todo ≠ [] ↔
    ∃ j : Fin 8, x.eraseSet.getLsbD j.val = true ∧ outcomeOf x.outcomes j = none := by
  constructor
  · intro h
    obtain ⟨j, hj⟩ := List.exists_mem_of_ne_nil _ h
    exact ⟨j, Store.mem_todo.mp hj⟩
  · rintro ⟨j, hj⟩
    exact List.ne_nil_of_mem (Store.mem_todo.mpr hj)

/-- The address of a word of a sector. -/
theorem wordAddr_parts {j : Fin 8} {w : Nat} (hw : w < 32) :
    ∃ a : Fin 256, a.val = wordAddr j w ∧ sectorOf a = j ∧ a.val % 32 = w := by
  have hj := j.isLt
  refine ⟨⟨wordAddr j w, by unfold wordAddr; omega⟩, rfl, Fin.ext ?_, ?_⟩
  · show wordAddr j w / 32 = j.val
    unfold wordAddr
    omega
  · show wordAddr j w % 32 = w
    unfold wordAddr
    omega

theorem sectorWord_eraseSector_same {m : List (Nat × Word)} {w : Nat} (hm : Memory.wf m = true) (hw : w < 32) :
    sectorWord (eraseSector m k failed raised) k w =
      if failed = true then sectorWord m k w ||| raised.getD w 0 else 0xFFFF := by
  obtain ⟨a, ha, hsector, hword⟩ := wordAddr_parts (j := k) hw
  have hread := Memory.read_mapSector_inside (a := a) (fun w old => if failed then old ||| raised.getD w 0 else Memory.erased) hm
  rw [hsector, hword, ha] at hread
  exact hread

theorem sectorWord_eraseSector_other {m : List (Nat × Word)} {j : Fin 8} {w : Nat} (hm : Memory.wf m = true) (hj : j ≠ k)
    (hw : w < 32) : sectorWord (eraseSector m k failed raised) j w = sectorWord m j w := by
  obtain ⟨a, ha, hsector, _⟩ := wordAddr_parts (j := j) hw
  have hread := Memory.read_mapSector_outside (a := a) (k := k)
    (fun w old => if failed then old ||| raised.getD w 0 else Memory.erased) hm (hsector.trans_ne hj)
  rw [ha] at hread
  exact hread

end EraseStep

/-! ### The read of a word (R73) -/

section Read
variable {x : Store} {a : Fin 256}

theorem Store.programs_iff : (match x.running with | some r => decide (r.addr = a) | none => false) = true ↔
    ∃ r, x.running = some r ∧ r.addr = a := by
  cases x.running with
  | none => exact iff_of_false Bool.false_ne_true (by rintro ⟨_, h, _⟩; cases h)
  | some r => exact decide_eq_true_iff.trans ⟨fun h => ⟨r, rfl, h⟩, fun ⟨_, h, ha⟩ => by cases h; exact ha⟩

/-- A read waits for an erase of its sector, a program of its word, and the scan. -/
def Store.readWaits (x : Store) (a : Fin 256) : Prop :=
  (x.eraseSet.getLsbD (sectorOf a).val = true ∧ outcomeOf x.outcomes (sectorOf a) = none) ∨
    (∃ r, x.running = some r ∧ r.addr = a) ∨ x.ctl = .scanning

theorem Store.readWord_waits (h : x.readWaits a) : x.readWord a = (.notReady, 0) := by
  by_cases hset : x.eraseSet.getLsbD (sectorOf a).val = true ∧ outcomeOf x.outcomes (sectorOf a) = none
  · exact if_pos hset
  · refine (if_neg hset).trans ?_
    by_cases hprogram : ∃ r, x.running = some r ∧ r.addr = a
    · exact if_pos (Store.programs_iff.mpr hprogram)
    · exact (if_neg (mt Store.programs_iff.mp hprogram)).trans (if_pos ((h.resolve_left hset).resolve_left hprogram))

theorem Store.readWord_free (h : ¬ x.readWaits a) : x.readWord a =
    if (x.flags[sectorOf a]).bad then (.failed, 0) else (.ok, Memory.read x.mem a.val) := by
  obtain ⟨hset, hrest⟩ := not_or.mp h
  obtain ⟨hprogram, hscan⟩ := not_or.mp hrest
  exact (if_neg hset).trans ((if_neg (mt Store.programs_iff.mp hprogram)).trans (if_neg hscan))

end Read

/-! ### The first finished erase step (R67, R70) -/

section Finished
variable {s : State}

/-- Every sector of an erase step has its outcome. -/
theorem finished_iff {x : Store} {b : BitVec 8} : (sectorsOf b).all (fun k => (outcomeOf x.outcomes k).isSome) = true ↔
    ∀ k : Fin 8, b.getLsbD k.val = true → outcomeOf x.outcomes k ≠ none := by
  rw [List.all_eq_true]
  simp only [mem_sectorsOf, Option.isSome_iff_ne_none]

theorem reportErase_none (h : ∀ j ∈ s.store.joined, ¬ ∀ k : Fin 8, j.2.getLsbD k.val = true → outcomeOf s.store.outcomes k ≠ none) :
    reportErase s = none :=
  reportErase_eq_none.mpr (List.find?_eq_none.mpr fun j hj hfinished => h j hj (finished_iff.mp hfinished))

theorem reportErase_first {before after : List (StoreClass × BitVec 8)} {j : StoreClass × BitVec 8}
    (hs : s.store.joined = before ++ j :: after)
    (hj : ∀ k : Fin 8, j.2.getLsbD k.val = true → outcomeOf s.store.outcomes k ≠ none)
    (hb : ∀ i ∈ before, ¬ ∀ k : Fin 8, i.2.getLsbD k.val = true → outcomeOf s.store.outcomes k ≠ none) :
    reportErase s = some (classEraseEnd j.1 j.2 s.store.outcomes { s with store :=
      { s.store with joined := before ++ after, outcomes := if before ++ after = [] then [] else s.store.outcomes } }) := by
  have hfind : s.store.finishedStep = some j := by
    rw [Store.finishedStep, List.find?_eq_some_iff_append]
    refine ⟨finished_iff.mpr hj, before, after, hs, fun i hi => ?_⟩
    exact congrArg Bool.not (Bool.eq_false_iff.mpr fun hf => hb i hi (finished_iff.mp hf))
  have herase : s.store.joined.erase j = before ++ after := by
    rw [hs, List.erase_append_right _ fun hmem => hb j hmem hj, List.erase_cons_head]
  simp only [reportErase, hfind, Store.dropStep, herase]

end Finished

/-- Settles O21: each part from its lemmas. -/
theorem erasingGoesSectorBySector : Obligations.ErasingGoesSectorBySector := by
  refine ⟨beginNext_begins, fun x c a v b => ?_, fun x y worn rep hend => ?_, fun x k failed raised hk => ?_,
    fun x a k hak => ?_, fun s => ?_, fun s hp => ⟨fun hc hw => ?_, fun k failed raised hwf hk hc => ?_, fun a v hc ho => ?_⟩⟩
  · intro waits suspends closed
    have hcloses (h : x.ctl = .eraseWindow) : x.place c (.program a v) = closed.suspendFor c :=
      Store.place_program_closes h
    have hwaits (h : x.ctl ≠ .eraseWindow) : x.place c (.program a v) = (waits (.program a v)).suspendFor c :=
      Store.place_program_waits h
    refine ⟨fun d step => x.slot_of_setSlot c d step, Store.place_erase_joins, Store.place_erase_waits, fun h hc => ?_,
      fun h hc => ?_, fun h => ?_, fun h h' => ?_, Store.take_none, fun step hr hc hlow => ⟨fun hs => ?_, fun hs => ?_⟩⟩
    · exact (hcloses h).trans (Store.suspendFor_erasing (x := closed) hc)
    · exact (hcloses h).trans (Store.suspendFor_other (x := closed) hc)
    · exact (hwaits (by rw [h]; nofun)).trans (Store.suspendFor_erasing (x := waits _) ((x.setSlot_ctl_eq c _).trans h))
    · exact (hwaits h).trans (Store.suspendFor_other (x := waits _) ((x.setSlot_ctl_eq c _).trans_ne h'))
    · exact Store.take_program hc hlow hr hs
    · obtain ⟨y, hy, hgathered⟩ := Store.take_erase hc hlow hr hs
      refine ⟨y, hy, hgathered.only, fun d e => hgathered.leaves d (mem_allClasses d) e,
        fun d h => hgathered.stays d fun _ => h, fun d e => ?_, fun k => ?_⟩
      · exact (hgathered.joined d e).trans (or_congr_right (and_iff_right (mem_allClasses d)))
      · refine (hgathered.set k).trans (or_congr_right (exists_congr fun d => ?_))
        exact (and_iff_right (mem_allClasses d))
  · intro z
    obtain ⟨r, hr⟩ : ∃ r, x.running = some r := by
      obtain ⟨r, hr, _⟩ := Store.programEnd_mem x y worn rep hend
      exact ⟨r, hr⟩
    obtain ⟨hrunning, hmem, hflags⟩ := Store.programEnd_written hr hend
    have hz : z = x.written r rep.exceeded := by
      show ({ x with mem := y.mem, flags := y.flags, running := none } : Store) = _
      rw [hmem, hflags]
      rfl
    have hy := Store.programEnd_running (worn := worn) hr
    rw [hend] at hy
    obtain ⟨hrep, hy⟩ := Prod.mk.inj (Option.some.inj hy)
    have hexceeded : programExceeds (Memory.read x.mem r.addr.val) r.value worn = rep.exceeded := by rw [hrep]
    rw [hexceeded, ← hz] at hy
    have hother (hc : x.ctl ≠ .suspendedProgramming) : y = { z with ctl := .ready } := hy.trans (if_neg hc)
    have hagain (hc : x.ctl = .suspendedProgramming) (hk : x.current.isSome = true) : y = { z with ctl := .erasing } :=
      hy.trans ((if_pos hc).trans (if_pos hk))
    have hnext (hc : x.ctl = .suspendedProgramming) (hk : x.current = none) : y = z.beginNext :=
      hy.trans ((if_pos hc).trans (if_neg (by rw [hk]; nofun)))
    refine ⟨?_, hother, fun k hc hk => hagain hc (by rw [hk]; rfl), hnext⟩
    by_cases hc : x.ctl = .suspendedProgramming
    · by_cases hk : x.current.isSome = true
      · rw [hagain hc hk]
        exact (if_neg (fun h => nomatch h.1)).symm
      · rw [hnext hc (Option.not_isSome_iff_eq_none.mp hk), Store.beginNext_set]
        simp only [hc, and_true]
        rfl
    · rw [hother hc]
      exact (if_neg fun h => hc h.2).symm
  · intro outcomes left
    have hend (hc : x.ctl = .erasing ∨ x.ctl = .suspending) :
        x.eraseEnd failed raised = some (k, (x.erasedAt k failed raised).goOn x.ctl) := Store.eraseEnd_eq hk hc
    have hleft : (x.erasedAt k failed raised).todo ≠ [] ↔ left := by
      rw [Store.todo_ne_nil, Store.erasedAt_eraseSet, Store.erasedAt_outcomes]
    refine ⟨x.erasedAt k failed raised, Store.erasedAt_only, fun hc => ?_, fun hc hl => ?_, fun a v hc hl ho => ?_⟩
    · rw [hend (.inl hc), hc, Store.goOn_erasing]
    · rw [hend (.inr hc), hc, Store.goOn_all (not_not.mp (mt hleft.mp hl))]
    · rw [hend (.inr hc), hc, Store.goOn_left (hleft.mpr hl) (Store.erasedAt_slotOdometer.trans ho)]
  · have hsector : sectorOf a = k := Fin.ext hak
    subst hsector
    refine ⟨Store.readWord_waits, fun h hb => ?_, fun h hb => ?_⟩
    · exact (Store.readWord_free h).trans (if_pos hb)
    · exact (Store.readWord_free h).trans (if_neg (Bool.eq_false_iff.mp hb))
  · intro ended finished
    refine ⟨reportSave .trip s, reportSave .service s, reportErase s, rfl, ⟨reportSave_eq_none.mpr, fun ok hok => ?_⟩,
      ⟨reportSave_eq_none.mpr, fun ok hok => ?_⟩, reportErase_none, fun before j after hs hj hb => reportErase_first hs hj hb,
      fun hfresh => ⟨settle_of_none, fun t ht => settle_next s t hfresh ht, settle_done s hfresh⟩⟩
    · simp only [reportSave, hok]
    · simp only [reportSave, hok]
  · have hrun : exec .eraseWindowExpiry s = .next (eraseWindowExpiry s) := live_powered eraseWindowExpiry s hp
    have hexpiry : s.store.windowExpiry = ({ s.store with window := none } : Store).beginNext := if_pos ⟨hc, hw⟩
    rw [hrun, eraseWindowExpiry, hexpiry]
  · have hrun : exec (.sectorEraseEnd failed raised) s = .next (sectorEraseEnd failed raised s) :=
      live_powered (sectorEraseEnd failed raised) s hp
    have hend := Store.eraseEnd_eq (failed := failed) (raised := raised) hk hc
    obtain ⟨hmem, hflags⟩ := (s.store.erasedAt k failed raised).goOn_flags s.store.ctl
    generalize (s.store.erasedAt k failed raised).goOn s.store.ctl = y at hend hmem hflags
    let u : State := if failed = true then report (.sectorBad k) { s with store := y } else { s with store := y }
    have hu : u.store = y := by
      show State.store (if failed = true then _ else _) = y
      split
      · exact report_store _ _
      · rfl
    have ht : sectorEraseEnd failed raised s = settle u := by
      simp only [sectorEraseEnd, hend]
      rfl
    have htmem : (sectorEraseEnd failed raised s).store.mem = eraseSector s.store.mem k failed raised := by
      rw [ht, (settle_kept _).mem, hu, hmem, Store.erasedAt_mem]
    have htflags : (sectorEraseEnd failed raised s).store.flags = s.store.flags.set k
        { s.sector k with bad := (s.sector k).bad || failed, erasedKnown := !failed } := by
      rw [ht, settle_flags, hu, hflags, Store.erasedAt_flags]
      rfl
    have hsame : (sectorEraseEnd failed raised s).sector k =
        { s.sector k with bad := (s.sector k).bad || failed, erasedKnown := !failed } := by
      unfold State.sector
      rw [htflags]
      exact sectorFlags_set_same s.store.flags k _
    refine ⟨sectorEraseEnd failed raised s, u, hrun, ht, by rw [hu]; exact hend, by rw [htmem, hu, hmem, Store.erasedAt_mem],
      by rw [htflags, hu, hflags, Store.erasedAt_flags]; rfl, fun h => (if_pos h).trans (by rw [hu]), fun h => (if_neg (by rw [h]; nofun)).trans (by rw [hu]),
      fun w hw => ?_, fun j w hj hw => ?_, by rw [hsame], by rw [hsame], by rw [hsame], fun j hj => ?_⟩
    · rw [htmem]
      exact sectorWord_eraseSector_same hwf hw
    · rw [htmem]
      exact sectorWord_eraseSector_other hwf hj hw
    · unfold State.sector
      rw [htflags]
      exact sectorFlags_set_other s.store.flags hj _
  · have hrun : exec .suspensionReached s = .next (suspensionReached s) := live_powered suspensionReached s hp
    rw [hrun]
    simp only [suspensionReached, Store.suspensionReached, Store.takeSuspending, hc, ho, if_true]

end Sys2Proof.Machine
end


section
/-! PROOF. SET ODOMETER (R87, R89): its checks, its steps and their ends. -/

namespace Sys2Proof.Machine

/-! ### The next ODOMETER step, case by case (R80, R81, R87, R89) -/

section Pump
variable {s : State}

theorem odometerPump_held (h : s.store.ctl = .scanning ∨ s.store.slotOdometer.isSome ∨ s.odometer.work.isSome) :
    odometerPump s = none := if_pos h

theorem odometerPump_setErasing (ho : s.odometer.eraseOut = true) (hg : s.odometer.setting.isSome = true) :
    odometerPump s = none := by
  by_cases hheld : s.store.ctl = .scanning ∨ s.store.slotOdometer.isSome ∨ s.odometer.work.isSome
  · exact odometerPump_held hheld
  · exact (if_neg hheld).trans ((if_pos ho).trans (if_pos hg))

/-- No other ODOMETER step is out. -/
def State.odometerFree (s : State) : Prop :=
  s.store.ctl ≠ .scanning ∧ s.store.slotOdometer = none ∧ s.odometer.work = none

variable (hfree : s.odometerFree)
include hfree

theorem State.odometerFree.not_held :
    ¬ (s.store.ctl = .scanning ∨ s.store.slotOdometer.isSome ∨ s.odometer.work.isSome) := by
  obtain ⟨hc, hs, hw⟩ := hfree
  rw [hs, hw]
  exact fun h => h.elim hc (fun h => h.elim nofun nofun)

/-- While the spare erase is out an increment program may be placed. -/
theorem odometerPump_erasing (ho : s.odometer.eraseOut = true) (hg : s.odometer.setting = none) : odometerPump s =
    s.incrementStep.map fun st => placeOdometer st { s.odometer with work := some .increment } s := by
  unfold odometerPump
  dsimp only
  rw [if_neg hfree.not_held, if_pos ho, hg]
  rfl

variable (ho : s.odometer.eraseOut = false)
include ho

theorem odometerPump_recovery {k : Fin 8} {rest : List (Fin 8)} (hr : s.odometer.recovery = k :: rest) : odometerPump s =
    some (placeOdometer (.program (storeAddr k 0) statusObsolete) { s.odometer with work := some .recovery } s) := by
  unfold odometerPump
  dsimp only
  rw [if_neg hfree.not_held, if_neg (Bool.eq_false_iff.mp ho)]
  simp only [hr]

variable (hr : s.odometer.recovery = [])
include hr

/-- A program of a SET ODOMETER. -/
theorem odometerPump_setProgram {g : Setting} {a : Fin 256} {v : Word} {phase : SetPhase} (hg : s.odometer.setting = some g)
    (hs : s.settingStep g = (.program a v, phase)) : odometerPump s = some (placeOdometer (.program a v)
      { s.odometer with setting := some { g with phase := phase }, work := some .setting } s) := by
  unfold odometerPump
  dsimp only
  rw [if_neg hfree.not_held, if_neg (Bool.eq_false_iff.mp ho)]
  simp only [hr, hg, hs]

/-- The erase of a SET ODOMETER. -/
theorem odometerPump_setErase {g : Setting} {b : BitVec 8} {phase : SetPhase} (hg : s.odometer.setting = some g)
    (hs : s.settingStep g = (.erase b, phase)) : odometerPump s = some (placeOdometer (.erase b)
      { s.odometer with setting := some { g with phase := phase }, eraseOut := true } s) := by
  unfold odometerPump
  dsimp only
  rw [if_neg hfree.not_held, if_neg (Bool.eq_false_iff.mp ho)]
  simp only [hr, hg, hs]

variable (hg : s.odometer.setting = none)
include hg

theorem odometerPump_rotation {r : Rotation} (hn : s.rotationNow = some r) : odometerPump s = some (placeOdometer
    (s.rotationStep r) { s.odometer with rotation := some r, work := some .rotation } s) := by
  unfold odometerPump
  dsimp only
  rw [if_neg hfree.not_held, if_neg (Bool.eq_false_iff.mp ho)]
  simp only [hr, hg, hn]

/-- With no rotation ahead the spare is erased where it is needed, and else the increments go on. -/
theorem odometerPump_increments (hn : s.rotationNow = none) : odometerPump s =
    if s.spareEraseNeeded then some (placeOdometer (.erase (oneSector s.spare)) { s.odometer with eraseOut := true } s)
    else s.incrementStep.map fun st => placeOdometer st { s.odometer with work := some .increment } s := by
  unfold odometerPump
  dsimp only
  rw [if_neg hfree.not_held, if_neg (Bool.eq_false_iff.mp ho)]
  simp only [hr, hg, hn]

end Pump

/-! ### The steps of a SET ODOMETER (R89) -/

section Setting
variable {s : State} {g : Setting}

/-- A sector of the odometer pair that is to be made OBSOLETE. -/
def State.setActive (s : State) (k : Fin 8) : Prop := (s.sector k).bad = false ∧ sectorWord s.store.mem k 0 = 0x00FF

theorem State.setActive_iff {k : Fin 8} :
    (!(s.sector k).bad && sectorWord s.store.mem k 0 == statusActive) = true ↔ s.setActive k := by
  rw [Bool.and_eq_true, Bool.not_eq_true', beq_iff_eq]
  rfl

theorem find_firstTwo (p : Fin 8 → Bool) :
    ([0, 1] : List (Fin 8)).find? p = if p 0 then some 0 else if p 1 then some 1 else none := by
  cases h0 : p 0 <;> cases h1 : p 1 <;> simp [List.find?, h0, h1]

theorem State.toObsolete_eq (s : State) : s.toObsolete =
    if !(s.sector 0).bad && sectorWord s.store.mem 0 0 == statusActive then some 0
    else if !(s.sector 1).bad && sectorWord s.store.mem 1 0 == statusActive then some 1 else none :=
  find_firstTwo _

theorem State.toObsolete_first (h : s.setActive 0) : s.toObsolete = some 0 :=
  s.toObsolete_eq.trans (if_pos (State.setActive_iff.mpr h))

theorem State.toObsolete_second (h0 : ¬ s.setActive 0) (h1 : s.setActive 1) : s.toObsolete = some 1 :=
  s.toObsolete_eq.trans ((if_neg (mt State.setActive_iff.mp h0)).trans (if_pos (State.setActive_iff.mpr h1)))

theorem State.toObsolete_none (h0 : ¬ s.setActive 0) (h1 : ¬ s.setActive 1) : s.toObsolete = none :=
  s.toObsolete_eq.trans ((if_neg (mt State.setActive_iff.mp h0)).trans (if_neg (mt State.setActive_iff.mp h1)))

theorem State.setErase_bit (s : State) (k : Fin 8) :
    s.setErase.getLsbD k.val = true ↔ k.val < 2 ∧ (s.sector k).bad = false := by
  unfold State.setErase
  rw [BitVec.getLsbD_or, Bool.or_eq_true]
  by_cases h0 : k = 0
  · subst h0
    cases (s.sector 0).bad <;> cases (s.sector 1).bad <;> decide
  · by_cases h1 : k = 1
    · subst h1
      cases (s.sector 0).bad <;> cases (s.sector 1).bad <;> decide
    · have hk : ¬ k.val < 2 := by
        have hv0 : k.val ≠ 0 := fun h => h0 (Fin.ext h)
        have hv1 : k.val ≠ 1 := fun h => h1 (Fin.ext h)
        omega
      refine iff_of_false ?_ fun h => hk h.1
      clear h0 h1
      cases (s.sector 0).bad <;> cases (s.sector 1).bad <;> revert k <;> decide

theorem State.settingStep_obsolete {k : Fin 8} (hp : g.phase = .obsolete) (h : s.toObsolete = some k) :
    s.settingStep g = (.program (storeAddr k 0) 0x0000, .obsolete) := by
  simp only [State.settingStep, hp, h]
  rfl

theorem State.settingStep_erase (hp : g.phase = .obsolete) (h : s.toObsolete = none) :
    s.settingStep g = (.erase s.setErase, .erase) := by
  simp only [State.settingStep, hp, h]

theorem State.settingStep_word {t : Fin 8} {n : Nat} (hp : g.phase = .word t n) :
    s.settingStep g = (.program (storeAddr t n) (baseWord g.value n), g.phase) := by
  simp only [State.settingStep, hp]

theorem State.settingStep_status {t : Fin 8} (hp : g.phase = .status t) :
    s.settingStep g = (.program (storeAddr t 0) 0x00FF, g.phase) := by
  simp only [State.settingStep, hp]
  rfl

/-! ### The ends of its steps -/

theorem answerSetting_forgotten {st : Status} (h : s.handler.setRequester = none) : answerSetting st s =
    { s with handler := { s.handler with setRequester := none }, odometer := { s.odometer with setting := none } } := by
  simp only [answerSetting, h]

theorem answerSetting_remembered {st : Status} {r : Requester} (h : s.handler.setRequester = some r) :
    answerSetting st s = holdResponse (responseFrame { node := r.node, seq := r.seq } r.code st [] s)
      { s with handler := { s.handler with setRequester := none }, odometer := { s.odometer with setting := none },
               loop := { s.loop with overrun := false } } := by
  simp only [answerSetting, h]
  rfl

/-- A sector that a SET ODOMETER may take as its target. -/
def State.setFit (s : State) (os : List (Fin 8 × EraseOutcome)) (k : Fin 8) : Prop :=
  outcomeOf os k = some .erased ∧ (s.sector k).worn = false

theorem State.setFit_iff {os : List (Fin 8 × EraseOutcome)} {k : Fin 8} :
    (decide (outcomeOf os k = some .erased) && !(s.sector k).worn) = true ↔ s.setFit os k := by
  rw [Bool.and_eq_true, Bool.not_eq_true', decide_eq_true_eq]
  rfl

section Target
variable {os : List (Fin 8 × EraseOutcome)}

theorem State.settingTarget_eq (s : State) (os : List (Fin 8 × EraseOutcome)) : s.settingTarget os =
    if decide (outcomeOf os 0 = some .erased) && !(s.sector 0).worn then some 0
    else if decide (outcomeOf os 1 = some .erased) && !(s.sector 1).worn then some 1 else none :=
  find_firstTwo _

theorem State.settingTarget_first (h : s.setFit os 0) : s.settingTarget os = some 0 :=
  (s.settingTarget_eq os).trans (if_pos (State.setFit_iff.mpr h))

theorem State.settingTarget_second (h0 : ¬ s.setFit os 0) (h1 : s.setFit os 1) : s.settingTarget os = some 1 :=
  (s.settingTarget_eq os).trans ((if_neg (mt State.setFit_iff.mp h0)).trans (if_pos (State.setFit_iff.mpr h1)))

theorem State.settingTarget_none (h0 : ¬ s.setFit os 0) (h1 : ¬ s.setFit os 1) : s.settingTarget os = none :=
  (s.settingTarget_eq os).trans ((if_neg (mt State.setFit_iff.mp h0)).trans (if_neg (mt State.setFit_iff.mp h1)))

variable (hg : s.odometer.setting = some g)
include hg

theorem odometerEraseEnd_setting : odometerEraseEnd os s =
    match s.settingTarget os with
    | some t => { s with odometer := { s.odometer with eraseOut := false, setting := some { g with phase := .word t 1 } } }
    | none => answerSetting .failed { s with odometer := { s.odometer with eraseOut := false } } := by
  unfold odometerEraseEnd
  dsimp only
  split
  · rename_i hnone
    cases hnone.symm.trans hg
  · rename_i g' hg'
    cases hg'.symm.trans hg
    rfl

theorem odometerEraseEnd_target {t : Fin 8} (h : s.settingTarget os = some t) : odometerEraseEnd os s =
    { s with odometer := { s.odometer with eraseOut := false, setting := some { g with phase := .word t 1 } } } := by
  rw [odometerEraseEnd_setting hg, h]

theorem odometerEraseEnd_failed (h : s.settingTarget os = none) : odometerEraseEnd os s =
    answerSetting .failed { s with odometer := { s.odometer with eraseOut := false } } := by
  rw [odometerEraseEnd_setting hg, h]

variable {r : ProgramReport} (hw : s.odometer.work = some .setting)
include hw

theorem odometerProgramEnd_setting : odometerProgramEnd r s =
    checkOdoFault (settingEnd g r.exceeded { s with odometer := { s.odometer with work := none } }) := by
  unfold odometerProgramEnd
  dsimp only
  rw [hw]
  dsimp only
  split
  · rename_i g' hg'
    cases hg'.symm.trans hg
    rfl
  · rename_i hnone
    cases hnone.symm.trans hg

end Target

section Ends
variable {e : Bool} {t : Fin 8} {k : Nat}

theorem settingEnd_obsolete (hp : g.phase = .obsolete) : settingEnd g e s = s := by simp only [settingEnd, hp]

theorem settingEnd_failed (hp : g.phase = .word t k) (he : e = true) : settingEnd g e s = answerSetting .failed s := by
  simp only [settingEnd, hp, he, if_true]

theorem settingEnd_goes (hp : g.phase = .word t k) (he : e = false) : settingEnd g e s =
    { s with odometer := { s.odometer with
      setting := some { g with phase := if k < 3 then .word t (k + 1) else .status t } } } := by
  simp only [settingEnd, hp, he, Bool.false_eq_true, if_false]

theorem settingEnd_status (hp : g.phase = .status t) : settingEnd g e s = finishSetting t g.value s := by
  simp only [settingEnd, hp]

/-- With increments waiting for nothing the fault is not set. -/
theorem checkOdoFault_calm_pending {s : State} (h : s.odometer.pending = 0) : checkOdoFault s = s :=
  if_neg fun hc => absurd h (Nat.ne_of_gt hc.2.1)

theorem setOdoFault_odometer (b : Bool) (s : State) :
    (setOdoFault b s).odometer = { s.odometer with fault := b } := by
  by_cases h : s.odometer.fault = b
  · rw [setOdoFault, if_pos h, ← h]
  · rw [setOdoFault, if_neg h, (setSys_frame .odometerFault b _).apart.odometer]
    exact congrArg State.odometer (report_frame _ _).rest

/-- A finished SET ODOMETER at the odometer (R89). -/
theorem finishSetting_odometer (t : Fin 8) (value : Nat) (s : State) : (finishSetting t value s).odometer =
    { s.odometer with valid := true, active := t, stored := value, cleared := 0, residue := 0, pending := 0,
                      fault := false, setting := none } := by
  obtain ⟨-, -, -, -, -, hanswer⟩ := answerSetting_same .ok (shownNotice (setOdoFault false { s with odometer :=
    { s.odometer with valid := true, active := t, stored := value, cleared := 0, residue := 0, pending := 0 } }))
  refine hanswer.trans ?_
  rw [(shownNotice_apart _).odometer, setOdoFault_odometer]

end Ends

/-! ### The checks of the request (R89) -/

section Request
variable {h : Head} {value : BitVec 24}

theorem reqSetOdometer_outside (hv : 9999999 < value.toNat) : reqSetOdometer h value s = refuse .badArgument s := if_pos hv

variable (hv : value.toNat ≤ 9999999)
include hv

theorem reqSetOdometer_valid (hvalid : s.odometer.valid = true) : reqSetOdometer h value s = refuse .invalidState s :=
  (if_neg (Nat.not_lt.mpr hv)).trans (if_pos hvalid)

variable (hvalid : s.odometer.valid = false)
include hvalid

theorem reqSetOdometer_busy (hs : s.odometer.setting.isSome = true) : reqSetOdometer h value s = refuse .busy s :=
  (if_neg (Nat.not_lt.mpr hv)).trans ((if_neg (Bool.eq_false_iff.mp hvalid)).trans (if_pos hs))

variable (hs : s.odometer.setting = none)
include hs

theorem reqSetOdometer_free : reqSetOdometer h value s =
    if (s.sector 0).bad ∧ (s.sector 1).bad then refuse .failed s
    else (settle { s with
      handler := { s.handler with setRequester := some { node := h.node, code := 0x44, seq := h.seq } },
      odometer := { s.odometer with setting := some { value := value.toNat, phase := .obsolete } } }, .later) :=
  (if_neg (Nat.not_lt.mpr hv)).trans ((if_neg (Bool.eq_false_iff.mp hvalid)).trans (if_neg (by rw [hs]; nofun)))

end Request

end Setting

/-- Settles O24: the checks, the next step by phase, the answer, and each end by phase. -/
theorem setOdometerByItsChecks : Obligations.SetOdometerByItsChecks := by
  refine ⟨fun h value s ht => ?_, fun s hc hslot hwork hout => ⟨fun k rest hr => ?_, fun g hr hg => ?_⟩, fun st s =>
    ⟨answerSetting_forgotten, fun r => answerSetting_remembered⟩, fun s g r os hg => ⟨fun hw => ?_, fun h => ?_,
    fun h0 h1 => ?_, fun h0 h1 => ?_⟩⟩
  · have hrun : exec (.setOdometer h value) s = .next (respond h 0x44 false (reqSetOdometer h value s)) :=
      exec_taken nofun rfl ht
    refine ⟨fun hv => taken_refused hrun (reqSetOdometer_outside hv),
      fun hv hvalid => taken_refused hrun (reqSetOdometer_valid hv hvalid),
      fun hv hvalid hs => taken_refused hrun (reqSetOdometer_busy hv hvalid hs), fun hv hvalid hs h0 h1 => ?_,
      fun hv hvalid hs hgood => ?_⟩
    · exact taken_refused hrun ((reqSetOdometer_free hv hvalid hs).trans (if_pos ⟨h0, h1⟩))
    · rw [hrun, reqSetOdometer_free hv hvalid hs, if_neg hgood, respond_later]
  · exact odometerPump_recovery ⟨hc, hslot, hwork⟩ hout hr
  · intro active high low goes
    have hfree : s.odometerFree := ⟨hc, hslot, hwork⟩
    have hgoes {phase : SetPhase} {a : Fin 256} {v : Word} (h : s.settingStep g = (.program a v, phase)) : goes phase a v :=
      odometerPump_setProgram hfree hout hr hg h
    refine ⟨fun hp h0 => hgoes (State.settingStep_obsolete hp (State.toObsolete_first h0)),
      fun hp h0 h1 => hgoes (State.settingStep_obsolete hp (State.toObsolete_second h0 h1)), fun hp h0 h1 => ?_,
      fun t hp => hgoes (State.settingStep_word hp), fun t hp => hgoes (State.settingStep_word hp),
      fun t hp => hgoes (State.settingStep_word hp), fun t hp => hgoes (State.settingStep_status hp)⟩
    exact ⟨s.setErase, s.setErase_bit,
      odometerPump_setErase hfree hout hr hg (State.settingStep_erase hp (State.toObsolete_none h0 h1))⟩
  · have hend := odometerProgramEnd_setting (r := r) hg hw
    refine ⟨fun hp => ?_, fun t k hp => ⟨fun he => ?_, fun he hk => ?_, fun he hk => ?_⟩, fun t hp => ?_⟩
    · rw [hend, settingEnd_obsolete hp]
      refine congrArg (fun x : Option Setting => checkOdoFault { s with odometer :=
        { s.odometer with work := none, setting := x } }) (hg.trans ?_)
      rw [← hp]
    · rw [hend, settingEnd_failed hp he]
    · rw [hend, settingEnd_goes hp he, if_pos hk]
    · rw [hend, settingEnd_goes hp he, if_neg (Nat.not_lt.mpr hk)]
    · rw [settingEnd_status hp] at hend
      refine ⟨hend, ?_⟩
      have hodometer := finishSetting_odometer t g.value { s with odometer := { s.odometer with work := none } }
      rw [hend, checkOdoFault_calm_pending (by rw [hodometer]), hodometer]
  · exact odometerEraseEnd_target hg (State.settingTarget_first h)
  · exact odometerEraseEnd_target hg (State.settingTarget_second h0 h1)
  · exact odometerEraseEnd_failed hg (State.settingTarget_none h0 h1)

end Sys2Proof.Machine
end


section
/-! PROOF. The odometer's metres, increments, spare erase and rotation (R79 to R82). -/

namespace Sys2Proof.Machine

/-! ### The clearing order within a word (R80) -/

section Clear
variable {w : Word} {i j n : Nat}

/-- The 1 bits of a word below a bit. -/
def onesBelow (w : Word) (i : Nat) : Nat := (List.range i).countP fun j => w.getLsbD j

theorem ones_eq (w : Word) : ones w = onesBelow w 16 := rfl

theorem onesBelow_succ (w : Word) (i : Nat) : onesBelow w (i + 1) = onesBelow w i + if w.getLsbD i then 1 else 0 := by
  unfold onesBelow
  rw [List.range_succ, List.countP_append, List.countP_singleton]

theorem onesBelow_congr {v : Word} (h : ∀ j, j < i → v.getLsbD j = w.getLsbD j) : onesBelow v i = onesBelow w i :=
  List.countP_congr fun j hj => by rw [h j (List.mem_range.mp hj)]

/-- The word with one bit cleared. -/
def cleared1 (w : Word) (i : Nat) : Word := w &&& ~~~(BitVec.ofNat 16 (2 ^ i))

theorem cleared1_bit (hj : j < 16) : (cleared1 w i).getLsbD j = (w.getLsbD j && decide (j ≠ i)) := by
  have hbit : (BitVec.ofNat 16 (2 ^ i)).getLsbD j = decide (i = j) := by
    rw [BitVec.getLsbD_ofNat, Nat.testBit_two_pow]
    simp [hj]
  rw [cleared1, BitVec.getLsbD_and, BitVec.getLsbD_not, hbit]
  simp [hj, eq_comm]

theorem onesBelow_cleared1 (hi : i < n) (hn : n ≤ 16) (hw : w.getLsbD i = true) :
    onesBelow (cleared1 w i) n + 1 = onesBelow w n := by
  induction n with
  | zero => cases hi
  | succ n ih =>
    have hbit : (cleared1 w i).getLsbD n = (w.getLsbD n && decide (n ≠ i)) := cleared1_bit (by omega)
    rw [onesBelow_succ, onesBelow_succ, hbit]
    rcases Nat.lt_or_eq_of_le (Nat.lt_succ_iff.mp hi) with hlt | rfl
    · have hne : n ≠ i := Nat.ne_of_gt hlt
      have := ih hlt (by omega)
      simp only [hne, ne_eq, not_false_iff, decide_true, Bool.and_true]
      omega
    · have hsame : onesBelow (cleared1 w i) i = onesBelow w i := onesBelow_congr fun j hj => by
        rw [cleared1_bit (by omega)]
        simp [Nat.ne_of_lt hj]
      simp [hsame, hw]

/-- What clearing the first `n` of the 1 bits below `i` does: it clears bits only, below `i` only, as many as there are up
to `n`, and from the top down. -/
theorem clearFrom_clears (hi : i ≤ 16) :
    (∀ j, (clearFrom w i n).getLsbD j = true → w.getLsbD j = true) ∧
    (∀ j, i ≤ j → j < 16 → (clearFrom w i n).getLsbD j = w.getLsbD j) ∧
    ones (clearFrom w i n) = ones w - min n (onesBelow w i) ∧
    (∀ p q, p < q → q < i → (clearFrom w i n).getLsbD q = true → w.getLsbD p = true →
      (clearFrom w i n).getLsbD p = true) := by
  induction i generalizing w n with
  | zero => exact ⟨fun _ => id, fun _ _ _ => rfl, by simp [clearFrom, onesBelow], fun p q _ hq => absurd hq (Nat.not_lt_zero q)⟩
  | succ i ih =>
    cases n with
    | zero => exact ⟨fun _ => id, fun _ _ _ => rfl, by simp [clearFrom], fun p q _ _ _ hp => hp⟩
    | succ n =>
      cases hw : w.getLsbD i with
      | true =>
        have hstep : clearFrom w (i + 1) (n + 1) = clearFrom (cleared1 w i) i n := by
          rw [clearFrom, if_pos hw]
          rfl
        obtain ⟨honly, habove, hcount, horder⟩ := ih (w := cleared1 w i) (n := n) (by omega)
        have hbit {j : Nat} (hj : j < 16) : (cleared1 w i).getLsbD j = (w.getLsbD j && decide (j ≠ i)) :=
          cleared1_bit hj
        rw [hstep]
        refine ⟨fun j hj => ?_, fun j hij hj => ?_, ?_, fun p q hpq hq hv hp => ?_⟩
        · have := honly j hj
          rw [cleared1, BitVec.getLsbD_and, Bool.and_eq_true] at this
          exact this.1
        · rw [habove j (by omega) hj, hbit hj]
          simp [show j ≠ i by omega]
        · have hsame : onesBelow (cleared1 w i) i = onesBelow w i := onesBelow_congr fun j hj => by
            rw [hbit (by omega)]
            simp [Nat.ne_of_lt hj]
          have hone : onesBelow (cleared1 w i) 16 + 1 = onesBelow w 16 := onesBelow_cleared1 (by omega) (by omega) hw
          rw [hcount, onesBelow_succ, hw, hsame, ones_eq, ones_eq]
          simp only [if_true]
          omega
        · have hqi : q ≠ i := by
            rintro rfl
            rw [habove q (Nat.le_refl q) (by omega), hbit (by omega)] at hv
            simp at hv
          exact horder p q hpq (by omega) hv (by rw [hbit (by omega), hp]; simp [show p ≠ i by omega])
      | false =>
        have hstep : clearFrom w (i + 1) (n + 1) = clearFrom w i (n + 1) := by
          rw [clearFrom, if_neg (by rw [hw]; exact Bool.false_ne_true)]
        obtain ⟨honly, habove, hcount, horder⟩ := ih (w := w) (n := n + 1) (by omega)
        rw [hstep]
        refine ⟨honly, fun j hij hj => habove j (by omega) hj, ?_, fun p q hpq hq hv hp => ?_⟩
        · rw [hcount, onesBelow_succ, hw]
          simp
        · have hqi : q ≠ i := by
            rintro rfl
            rw [habove q (Nat.le_refl q) (by omega), hw] at hv
            cases hv
          exact horder p q hpq (by omega) hv hp

/-- An increment's value: bits of the word, as many cleared as are asked for and there are, from the top down. -/
theorem clearFrom_word (w : Word) (n : Nat) : clearFrom w 16 n &&& w = clearFrom w 16 n ∧
    ones (clearFrom w 16 n) = ones w - min n (ones w) ∧
    ∀ i j : Nat, i < j → j < 16 → (clearFrom w 16 n).getLsbD j = true → w.getLsbD i = true →
      (clearFrom w 16 n).getLsbD i = true := by
  obtain ⟨honly, -, hcount, horder⟩ := clearFrom_clears (w := w) (n := n) (Nat.le_refl 16)
  refine ⟨BitVec.eq_of_getLsbD_eq fun i hi => ?_, hcount, horder⟩
  rw [BitVec.getLsbD_and]
  cases hv : (clearFrom w 16 n).getLsbD i with
  | false => rfl
  | true => rw [honly i hv]; rfl

end Clear

/-! ### The increment program (R80) -/

section Increment
variable {s : State}

theorem firstOpen_eq_some {m : List (Nat × Word)} {k : Fin 8} {w : Nat} : firstOpen m k = some w ↔
    4 ≤ w ∧ w < 32 ∧ sectorWord m k w ≠ 0 ∧ ∀ u, 4 ≤ u → u < w → sectorWord m k u = 0 := by
  unfold firstOpen
  rw [List.find?_map, Option.map_eq_some_iff]
  constructor
  · rintro ⟨i, hi, rfl⟩
    obtain ⟨hp, hmem, hlow⟩ := List.find?_range_eq_some.mp hi
    refine ⟨by omega, by have := List.mem_range.mp hmem; omega, of_decide_eq_true hp, fun u hu hui => ?_⟩
    have := hlow (u - 4) (by omega)
    simpa [Nat.sub_add_cancel hu] using this
  · rintro ⟨h4, h32, hp, hlow⟩
    refine ⟨w - 4, List.find?_range_eq_some.mpr ⟨?_, List.mem_range.mpr (by omega), fun u hu => ?_⟩, Nat.sub_add_cancel h4⟩
    · simpa [Nat.sub_add_cancel h4] using hp
    · simpa using hlow (u + 4) (by omega) (by omega)

theorem firstOpen_eq_none {m : List (Nat × Word)} {k : Fin 8} :
    firstOpen m k = none ↔ ¬ ∃ w, 4 ≤ w ∧ w < 32 ∧ sectorWord m k w ≠ 0 := by
  unfold firstOpen
  rw [List.find?_eq_none]
  simp only [List.mem_map, List.mem_range, decide_eq_true_eq, not_exists, not_and, not_not]
  constructor
  · intro h w h4 h32
    exact h w ⟨w - 4, by omega, Nat.sub_add_cancel h4⟩
  · rintro h w ⟨i, hi, rfl⟩
    exact h _ (by omega) (by omega)

theorem State.incrementStep_eq (h : s.odometer.valid = true ∧ 0 < s.odometer.pending ∧ ¬ s.fieldDone = true) :
    s.incrementStep = (firstOpen s.store.mem s.odometer.active).map fun w =>
      .program (storeAddr s.odometer.active w)
        (clearFrom (sectorWord s.store.mem s.odometer.active w) 16 s.odometer.pending) := if_pos h

theorem State.incrementStep_none (h : ¬ (s.odometer.valid = true ∧ 0 < s.odometer.pending ∧ ¬ s.fieldDone = true)) :
    s.incrementStep = none := if_neg h

theorem storeAddr_val {k : Fin 8} {w : Nat} (hw : w < 32) : (storeAddr k w).val = 32 * k.val + w := by
  have := k.isLt
  show wordAddr k w % 256 = _
  unfold wordAddr
  omega

theorem State.fieldDone_iff : s.fieldDone = true ↔
    448 ≤ s.odometer.cleared ∨ (s.sector s.odometer.active).worn = true := by
  rw [State.fieldDone, Bool.or_eq_true, decide_eq_true_eq]

/-- The increment program that applies. -/
theorem State.incrementStep_program {a : Fin 256} {v : Word} (h : s.incrementStep = some (.program a v)) :
    let old := Memory.read s.store.mem a.val
    s.odometer.valid = true ∧ s.odometer.cleared < 448 ∧ (s.sector s.odometer.active).worn = false ∧ old ≠ 0 ∧
    (∃ w, 4 ≤ w ∧ w < 32 ∧ a.val = 32 * s.odometer.active.val + w ∧
      ∀ u, 4 ≤ u → u < w → sectorWord s.store.mem s.odometer.active u = 0) ∧
    v &&& old = v ∧ ones v = ones old - min s.odometer.pending (ones old) ∧
    (∀ i j : Nat, i < j → j < 16 → v.getLsbD j = true → old.getLsbD i = true → v.getLsbD i = true) := by
  by_cases hc : s.odometer.valid = true ∧ 0 < s.odometer.pending ∧ ¬ s.fieldDone = true
  · rw [State.incrementStep_eq hc] at h
    obtain ⟨w, hw, hstep⟩ := Option.map_eq_some_iff.mp h
    obtain ⟨h4, h32, hne, hlow⟩ := firstOpen_eq_some.mp hw
    obtain ⟨ha, hv⟩ := StoreStep.program.inj hstep
    have haddr : a.val = 32 * s.odometer.active.val + w := by rw [← ha, storeAddr_val h32]
    have hread : Memory.read s.store.mem a.val = sectorWord s.store.mem s.odometer.active w :=
      congrArg (Memory.read s.store.mem) haddr
    obtain ⟨hvalid, -, hdone⟩ := hc
    obtain ⟨hcleared, hworn⟩ := not_or.mp (mt State.fieldDone_iff.mpr hdone)
    intro old
    have hold : old = sectorWord s.store.mem s.odometer.active w := hread
    rw [hold, ← hv]
    exact ⟨hvalid, Nat.lt_of_not_le hcleared, Bool.eq_false_iff.mpr hworn, hne, ⟨w, h4, h32, haddr, hlow⟩,
      clearFrom_word _ _⟩
  · rw [State.incrementStep_none hc] at h
    cases h

/-- With increments to take and a bit left for them there is an increment program. -/
theorem State.incrementStep_exists (h : s.odometer.valid = true ∧ 0 < s.odometer.pending ∧ ¬ s.fieldDone = true)
    (ho : ∃ w, 4 ≤ w ∧ w < 32 ∧ sectorWord s.store.mem s.odometer.active w ≠ 0) :
    ∃ a v, s.incrementStep = some (.program a v) := by
  cases hf : firstOpen s.store.mem s.odometer.active with
  | none => exact absurd ho (firstOpen_eq_none.mp hf)
  | some w =>
    rw [State.incrementStep_eq h, hf]
    exact ⟨_, _, rfl⟩

theorem State.incrementStep_closed (ho : ¬ ∃ w, 4 ≤ w ∧ w < 32 ∧ sectorWord s.store.mem s.odometer.active w ≠ 0) :
    s.incrementStep = none := by
  by_cases h : s.odometer.valid = true ∧ 0 < s.odometer.pending ∧ ¬ s.fieldDone = true
  · rw [State.incrementStep_eq h, firstOpen_eq_none.mpr ho]
    rfl
  · exact State.incrementStep_none h

end Increment

/-! ### Metres and the ends of programs (R79 to R82) -/

section Metres
variable {s : State}

/-- The test of the fault changes the fault only. -/
theorem checkOdoFault_odometer (s : State) :
    (checkOdoFault s).odometer = { s.odometer with fault := (checkOdoFault s).odometer.fault } := by
  unfold checkOdoFault
  split
  · rw [setOdoFault_odometer]
  · rfl

theorem State.shown_eq (s : State) : s.shown =
    if s.odometer.valid then some (min 9999999 (s.odometer.stored + s.odometer.pending)) else none := rfl

theorem addMetres_none {metres : Nat} (h : s.shown = none) : addMetres metres s = s := by
  simp only [addMetres, h]

theorem addMetres_full {metres : Nat} (h : s.shown = some 9999999) : addMetres metres s = s := by
  simp only [addMetres, h]
  rfl

theorem addMetres_counts {metres v : Nat} (h : s.shown = some v) (hv : v < 9999999) : addMetres metres s =
    checkOdoFault (shownNotice { s with odometer := s.odometer.addMetres metres }) := by
  simp only [addMetres, h]
  exact if_pos hv

/-- The increments of a quantity, by what is shown. -/
theorem Odometer.addMetres_eq {o : Odometer} {v metres : Nat} (hv : v = min 9999999 (o.stored + o.pending)) (h : v < 9999999) :
    o.addMetres metres = { o with
      residue := (o.residue + metres) % 100,
      pending := o.pending + min ((o.residue + metres) / 100) (min (9999999 - v) (65535 - o.pending)) } := by
  have hsum : v = o.stored + o.pending := by omega
  rw [hsum]
  rfl

theorem incrementEnd_odometer (r : ProgramReport) (s : State) : (incrementEnd r s).odometer =
    { s.odometer with pending := s.odometer.pending - r.cleared, cleared := s.odometer.cleared + r.cleared,
                      stored := min 9999999 (s.odometer.stored + r.cleared),
                      fault := if r.exceeded then s.odometer.fault else false } := by
  unfold incrementEnd
  dsimp only
  split
  · rfl
  · rw [setOdoFault_odometer]
    rfl

end Metres

/-! ### The spare and the rotation (R81) -/

section Rotation
variable {s : State}

theorem State.spareReady_iff : s.spareReady = true ↔
    (s.sector s.spare).erasedKnown = true ∧ (s.sector s.spare).worn = false ∧ (s.sector s.spare).bad = false := by
  rw [State.spareReady, Bool.and_eq_true, State.usable, Bool.and_eq_true, Bool.not_eq_true', Bool.not_eq_true']
  exact and_congr_right fun _ => and_comm

/-- A rotation begins. -/
def State.rotationBegins (s : State) : Prop :=
  s.odometer.valid = true ∧ 0 < s.odometer.pending ∧ s.fieldDone = true ∧ s.spareReady = true

theorem State.rotationNow_iff {r : Rotation} : s.rotationNow = some r ↔
    s.odometer.rotation = some r ∨
      (s.odometer.rotation = none ∧ s.rotationBegins ∧ r = { base := s.odometer.stored, step := 1 }) := by
  unfold State.rotationNow
  cases hrot : s.odometer.rotation with
  | some r' => simp
  | none =>
    simp only [reduceCtorEq, false_or, true_and]
    by_cases hb : s.rotationBegins
    · refine (iff_of_eq (congrArg (· = some r) (if_pos hb))).trans ?_
      rw [Option.some.injEq, eq_comm]
      exact (and_iff_right hb).symm
    · refine (iff_of_eq (congrArg (· = some r) (if_neg hb))).trans ?_
      exact iff_of_false nofun fun h => hb h.1

theorem State.rotationNow_none (hrot : s.odometer.rotation = none) (hb : ¬ s.rotationBegins) : s.rotationNow = none := by
  rw [Option.eq_none_iff_forall_ne_some]
  intro r h
  rcases State.rotationNow_iff.mp h with h | ⟨_, h, _⟩
  · rw [hrot] at h
    cases h
  · exact hb h

theorem State.spareEraseNeeded_iff : s.spareEraseNeeded = true ↔ s.odometer.valid = true ∧
    (224 ≤ s.odometer.cleared ∨ (s.sector s.odometer.active).worn = true) ∧ (s.sector s.spare).erasedKnown = false ∧
    (s.sector s.spare).bad = false ∧ (s.sector s.spare).worn = false ∧ s.odometer.eraseOut = false := by
  simp only [State.spareEraseNeeded, State.usable, Bool.and_eq_true, Bool.or_eq_true, Bool.not_eq_true', decide_eq_true_eq,
    and_assoc]

/-- The step of a rotation, by its number. -/
theorem State.rotationStep_eq {r : Rotation} (h1 : 1 ≤ r.step) (h5 : r.step ≤ 5) :
    let high : Word := BitVec.ofNat 16 (r.base / 65536)
    let low : Word := BitVec.ofNat 16 r.base
    ∃ (a : Fin 256) (v : Word), s.rotationStep r = .program a v ∧
      (r.step = 1 → a.val = 32 * s.spare.val + 1 ∧ v = high) ∧ (r.step = 2 → a.val = 32 * s.spare.val + 2 ∧ v = low) ∧
      (r.step = 3 → a.val = 32 * s.spare.val + 3 ∧ v = ~~~(high + low)) ∧
      (r.step = 4 → a.val = 32 * s.spare.val ∧ v = 0x00FF) ∧ (r.step = 5 → a.val = 32 * s.odometer.active.val ∧ v = 0x0000) := by
  have haddr (k : Fin 8) {w : Nat} (hw : w < 32) : (storeAddr k w).val = 32 * k.val + w := storeAddr_val hw
  obtain ⟨base, step⟩ := r
  dsimp only at h1 h5 ⊢
  have hstep : step = 1 ∨ step = 2 ∨ step = 3 ∨ step = 4 ∨ step = 5 := by omega
  rcases hstep with rfl | rfl | rfl | rfl | rfl
  · exact ⟨_, _, rfl, fun _ => ⟨haddr _ (by decide), rfl⟩, nofun, nofun, nofun, nofun⟩
  · exact ⟨_, _, rfl, nofun, fun _ => ⟨haddr _ (by decide), rfl⟩, nofun, nofun, nofun⟩
  · exact ⟨_, _, rfl, nofun, nofun, fun _ => ⟨haddr _ (by decide), rfl⟩, nofun, nofun⟩
  · exact ⟨_, _, rfl, nofun, nofun, nofun, fun _ => ⟨haddr _ (by decide), rfl⟩, nofun⟩
  · exact ⟨_, _, rfl, nofun, nofun, nofun, nofun, fun _ => ⟨haddr _ (by decide), rfl⟩⟩

theorem State.rotationBegins_iff : s.rotationBegins ↔ s.odometer.valid = true ∧ 0 < s.odometer.pending ∧
    (448 ≤ s.odometer.cleared ∨ (s.sector s.odometer.active).worn = true) ∧
    (s.sector s.spare).erasedKnown = true ∧ (s.sector s.spare).worn = false ∧ (s.sector s.spare).bad = false := by
  unfold State.rotationBegins
  rw [State.fieldDone_iff, State.spareReady_iff]

theorem oneSector_spare (s : State) : oneSector s.spare = if s.odometer.active = 0 then 2 else 1 := by
  unfold State.spare otherOdometer
  split <;> rfl

section Placed
variable (hfree : s.odometerFree) (hg : s.odometer.setting = none)
include hfree hg

/-- With nothing of the odometer ahead of them, the increments are next. -/
theorem odometerPump_increment (hahead : (s.odometer.eraseOut = false ∧ s.odometer.recovery = [] ∧ s.rotationNow = none ∧
      ¬ s.spareEraseNeeded = true) ∨ s.odometer.eraseOut = true) : odometerPump s =
    s.incrementStep.map fun st => placeOdometer st { s.odometer with work := some .increment } s := by
  rcases hahead with ⟨ho, hr, hn, he⟩ | ho
  · exact (odometerPump_increments hfree ho hr hg hn).trans (if_neg he)
  · exact odometerPump_erasing hfree ho hg

theorem odometerPump_spare (ho : s.odometer.eraseOut = false) (hr : s.odometer.recovery = []) (hn : s.rotationNow = none)
    (he : s.spareEraseNeeded = true) : odometerPump s = some { s with
      odometer := { s.odometer with eraseOut := true },
      store := s.store.place .odometer (.erase (if s.odometer.active = 0 then 2 else 1)) } := by
  rw [← oneSector_spare]
  exact (odometerPump_increments hfree ho hr hg hn).trans (if_pos he)

end Placed

/-! ### The ends of its steps -/

section Ends
variable {r : ProgramReport}

theorem odometerEraseEnd_spare {os : List (Fin 8 × EraseOutcome)} (hg : s.odometer.setting = none) :
    odometerEraseEnd os s = checkOdoFault { s with odometer := { s.odometer with eraseOut := false } } := by
  unfold odometerEraseEnd
  dsimp only
  split
  · rfl
  · rename_i g hsome
    cases hsome.symm.trans hg

theorem odometerProgramEnd_increment (hw : s.odometer.work = some .increment) : odometerProgramEnd r s =
    checkOdoFault (incrementEnd r { s with odometer := { s.odometer with work := none } }) := by
  unfold odometerProgramEnd
  dsimp only
  rw [hw]

theorem odometerProgramEnd_recovery (hw : s.odometer.work = some .recovery) : odometerProgramEnd r s =
    checkOdoFault { s with odometer := { s.odometer with work := none, recovery := s.odometer.recovery.drop 1 } } := by
  unfold odometerProgramEnd
  dsimp only
  rw [hw]

theorem odometerProgramEnd_rotation {rot : Rotation} (hw : s.odometer.work = some .rotation)
    (hrot : s.odometer.rotation = some rot) : odometerProgramEnd r s =
    checkOdoFault (rotationEnd rot r.exceeded { s with odometer := { s.odometer with work := none } }) := by
  unfold odometerProgramEnd
  dsimp only
  rw [hw]
  dsimp only
  split
  · rename_i rot' hsome
    cases hsome.symm.trans hrot
    rfl
  · rename_i hnone
    cases hnone.symm.trans hrot

variable {rot : Rotation} {e : Bool}

theorem rotationEnd_abandons (h3 : rot.step ≤ 3) (he : e = true) : rotationEnd rot e s =
    setOdoFault true { s with odometer := { s.odometer with rotation := none } } := if_pos ⟨h3, he⟩

theorem rotationEnd_goes (h5 : rot.step < 5) (he : ¬ (rot.step ≤ 3 ∧ e = true)) : rotationEnd rot e s =
    { s with odometer := { s.odometer with rotation := some { rot with step := rot.step + 1 } } } :=
  (if_neg he).trans (if_pos h5)

theorem rotationEnd_done (h5 : rot.step = 5) : rotationEnd rot e s =
    { s with odometer := { s.odometer with rotation := none, active := s.spare, cleared := 0 } } :=
  (if_neg fun h => by omega).trans (if_neg (Nat.not_lt.mpr (Nat.le_of_eq h5.symm)))

/-- Increments wait, the field takes none and no rotation can begin (R82). -/
theorem State.stuck_iff : (s.odometer.valid = true ∧ 0 < s.odometer.pending ∧ s.fieldDone = true ∧
      s.odometer.rotation = none ∧ ¬ s.spareReady = true) ↔
    s.odometer.valid = true ∧ 0 < s.odometer.pending ∧
      (448 ≤ s.odometer.cleared ∨ (s.sector s.odometer.active).worn = true) ∧ s.odometer.rotation = none ∧
      ¬ ((s.sector s.spare).erasedKnown = true ∧ (s.sector s.spare).worn = false ∧ (s.sector s.spare).bad = false) := by
  rw [State.fieldDone_iff, State.spareReady_iff]

end Ends

end Rotation

/-- The shown value of an increment's end (R80). -/
theorem incrementEnd_shown {r : ProgramReport} {s : State} (hv : s.odometer.valid = true)
    (hr : r.cleared ≤ s.odometer.pending) : (incrementEnd r s).shown = s.shown := by
  rw [State.shown_eq, State.shown_eq, incrementEnd_odometer]
  dsimp only
  rw [hv, if_pos rfl, if_pos rfl]
  congr 1
  omega

/-- Settles O25: metres, the increment program and its end, the rotation, the spare's erase, and the fault. -/
theorem metresBecomeIncrements : Obligations.MetresBecomeIncrements := by
  refine ⟨fun metres s => ⟨addMetres_none, addMetres_full, fun v hshown hv => ?_⟩,
    fun s a v => State.incrementStep_program,
    fun r s hvalid hr => ⟨incrementEnd_shown hvalid hr, by rw [incrementEnd_odometer], by rw [incrementEnd_odometer]⟩,
    fun r s => ⟨fun he => by rw [incrementEnd_odometer, he]; rfl, fun he => by rw [incrementEnd_odometer, he]; rfl⟩,
    fun s => ⟨fun r => ?_, fun r hn h1 h5 hc hslot hwork hout hr hg => ?_, ?_,
      fun r rep hw hrot h1 h5 => ⟨_, odometerProgramEnd_rotation hw hrot, fun h3 he => rotationEnd_abandons h3 he,
        fun h3 he => ?_, fun h4 => ?_, fun h5 => rotationEnd_done h5⟩, fun b => ⟨fun h => if_pos h, fun h => if_neg h⟩,
      fun hstuck => if_pos (State.stuck_iff.mpr hstuck), fun hcalm => if_neg (mt State.stuck_iff.mp hcalm)⟩⟩
  · have hvalid : s.odometer.valid = true ∧ v = min 9999999 (s.odometer.stored + s.odometer.pending) := by
      rw [State.shown_eq] at hshown
      split at hshown
      · next h => exact ⟨h, (Option.some.inj hshown).symm⟩
      · cases hshown
    have hcounts := addMetres_counts (metres := metres) hshown hv
    rw [Odometer.addMetres_eq hvalid.2 hv] at hcounts
    have hodometer : (addMetres metres s).odometer = { s.odometer with
        residue := (s.odometer.residue + metres) % 100,
        pending := s.odometer.pending + min ((s.odometer.residue + metres) / 100)
          (min (9999999 - v) (65535 - s.odometer.pending)),
        fault := (addMetres metres s).odometer.fault } := by
      rw [hcounts, checkOdoFault_odometer, (shownNotice_apart _).odometer]
    intro o n
    have hresidue : o.residue = (s.odometer.residue + metres) % 100 := congrArg Odometer.residue hodometer
    have hpending : o.pending = s.odometer.pending + min n (min (9999999 - v) (65535 - s.odometer.pending)) :=
      congrArg Odometer.pending hodometer
    refine ⟨hresidue, (congrArg Odometer.stored hodometer :), (congrArg Odometer.cleared hodometer :),
      (congrArg Odometer.active hodometer :), (congrArg Odometer.valid hodometer).trans hvalid.1, hpending, ?_⟩
    rw [hresidue, hpending]
    exact hcounts
  · rw [State.rotationNow_iff, State.rotationBegins_iff]
    rfl
  · obtain ⟨a, v, hstep, hwords⟩ := State.rotationStep_eq (s := s) h1 h5
    refine ⟨a, v, ?_, hwords⟩
    rw [← hstep]
    exact odometerPump_rotation ⟨hc, hslot, hwork⟩ hout hr hg hn
  · intro needed open' increments free calm placed
    have hneeded : s.spareEraseNeeded = true ↔ needed := State.spareEraseNeeded_iff
    have hnow (hcalm : calm) : s.rotationNow = none := by
      obtain ⟨-, -, -, hrot, hb⟩ := hcalm
      exact State.rotationNow_none hrot (mt State.rotationBegins_iff.mp hb)
    have hpump (hcase : (calm ∧ ¬ needed) ∨ (free ∧ s.odometer.eraseOut = true)) : odometerPump s =
        s.incrementStep.map fun st => placeOdometer st { s.odometer with work := some .increment } s := by
      rcases hcase with ⟨hcalm, hn⟩ | ⟨⟨hc, hslot, hwork, hg⟩, ho⟩
      · have hnone := hnow hcalm
        obtain ⟨⟨hc, hslot, hwork, hg⟩, ho, hr, -⟩ := hcalm
        exact odometerPump_increment ⟨hc, hslot, hwork⟩ hg (.inl ⟨ho, hr, hnone, mt hneeded.mp hn⟩)
      · exact odometerPump_increment ⟨hc, hslot, hwork⟩ hg (.inr ho)
    refine ⟨fun hcalm hn => ?_, fun hinc hcase => ?_, fun hinc => ?_, fun hheld => ?_, fun os => odometerEraseEnd_spare,
      fun rep => odometerProgramEnd_increment, fun rep => odometerProgramEnd_recovery⟩
    · have hnone := hnow hcalm
      obtain ⟨⟨hc, hslot, hwork, hg⟩, ho, hr, -⟩ := hcalm
      exact odometerPump_spare ⟨hc, hslot, hwork⟩ hg ho hr hnone (hneeded.mpr hn)
    · obtain ⟨hvalid, hpend, hdone, hopen⟩ := hinc
      obtain ⟨a, v, hstep⟩ := State.incrementStep_exists ⟨hvalid, hpend, mt State.fieldDone_iff.mp hdone⟩ hopen
      refine ⟨a, v, hstep, ?_⟩
      show odometerPump s = _
      rw [hpump hcase, hstep]
      rfl
    · have hstep : s.incrementStep = none := by
        by_cases hopen : open'
        · exact State.incrementStep_none fun ⟨hvalid, hpend, hdone⟩ =>
            hinc ⟨hvalid, hpend, mt State.fieldDone_iff.mpr hdone, hopen⟩
        · exact State.incrementStep_closed hopen
      exact ⟨hstep, fun hcase => by rw [hpump hcase, hstep]; rfl⟩
    · rcases hheld with hc | hslot | hwork | ⟨ho, hg⟩
      · exact odometerPump_held (.inl hc)
      · exact odometerPump_held (.inr (.inl (Option.isSome_iff_ne_none.mpr hslot)))
      · exact odometerPump_held (.inr (.inr (Option.isSome_iff_ne_none.mpr hwork)))
      · exact odometerPump_setErasing ho (Option.isSome_iff_ne_none.mpr hg)
  · exact rotationEnd_goes (by omega) fun h => by rw [he] at h; exact Bool.false_ne_true h.2
  · refine (rotationEnd_goes (by omega) fun h => by omega).trans ?_
    rw [h4]

end Sys2Proof.Machine
end


section
/-! PROOF. Key events at the Gauge Drive (R35 to R37). -/

namespace Sys2Proof.Machine

/-! ### What a key event may do to a gauge -/

/-- A gauge moved to another state in place: it stays where it is, and its target is the source's as it enters TRACKING
and else as it was (R29). -/
structure GaugeMoves (s : State) (x y : Gauge) : Prop where
  position : y.position = x.position
  setup : y.setup = x.setup
  enabled : y.enabled = x.enabled
  written : y.written = x.written
  sine : y.sine = x.sine
  cosine : y.cosine = x.cosine
  entered : y.state = .tracking → x.state ≠ .tracking → s.sourceLive x.setup.source = true ∧
    ∀ v, (s.channels[x.setup.source]).value = some v → y.target = some (s.mapTarget x.setup v)
  kept : y.state ≠ .tracking ∨ x.state = .tracking → y.target = x.target

section Moves
variable {s : State} {x : Gauge}

namespace GaugeMoves

/-- Another pending flag alone. -/
theorem pending (p : Bool) : GaugeMoves s x { x with pending := p } :=
  ⟨rfl, rfl, rfl, rfl, rfl, rfl, fun hy hx => absurd hy hx, fun _ => rfl⟩

theorem refl : GaugeMoves s x x := pending x.pending

/-- Any state but TRACKING, whatever becomes of the timer and the pending flag. -/
theorem state {st : GaugeState} {timer : Option Nat} {p : Bool} (hst : st ≠ .tracking) :
    GaugeMoves s x { x with state := st, timer := timer, pending := p } :=
  ⟨rfl, rfl, rfl, rfl, rfl, rfl, fun hy => absurd hy hst, fun _ => rfl⟩

theorem toPark (p : Bool) : GaugeMoves s x ({ x with pending := p }).toPark := by
  unfold Gauge.toPark
  split
  · exact state nofun
  · exact state nofun

theorem track (p : Bool) (hl : s.sourceLive x.setup.source = true) (hx : x.state ≠ .tracking) :
    GaugeMoves s x (s.track { x with pending := p }) := by
  rw [State.track_eq]
  refine ⟨rfl, rfl, rfl, rfl, rfl, rfl, fun _ _ => ⟨hl, fun v hv => ?_⟩, fun h => ?_⟩
  · have htarget : s.sourceTarget x.setup = some (s.mapTarget x.setup v) := State.sourceTarget_live hl hv
    exact congrArg (Option.or · x.target) htarget
  · exact absurd h (not_or.mpr ⟨not_not.mpr rfl, hx⟩)

end GaugeMoves

/-! ### KEY events row by row -/

/-- A gauge at rest: PARKED or on its way there. -/
def Gauge.rests (x : Gauge) : Prop := x.state = .parked ∨ x.state = .returning

theorem Gauge.rests.not_tracking (h : x.rests) : x.state ≠ .tracking := by
  rcases h with h | h <;> rw [h] <;> nofun

section KeyOn
variable {new : KeyState}

theorem gaugeKeyOn_rests (h : x.rests) : gaugeKeyOn s new x =
    if x.setup.sweep then ({ x with pending := x.pending || x.setup.fastSettle }).running .sweepUp
    else if new = .run then
      (if s.sourceLive x.setup.source then s.track { x with pending := x.pending || x.setup.fastSettle }
       else if x.setup.stalePark then { x with pending := x.pending || x.setup.fastSettle }
       else ({ x with pending := x.pending || x.setup.fastSettle }).running .holding)
    else { x with pending := x.pending || x.setup.fastSettle } := by
  rcases h with h | h <;> simp only [gaugeKeyOn, h]

theorem gaugeKeyOn_moves (s : State) (new : KeyState) (x : Gauge) : GaugeMoves s x (gaugeKeyOn s new x) := by
  by_cases h : x.rests
  · rw [gaugeKeyOn_rests h]
    split
    · exact .state nofun
    split
    · split
      · next hl => exact .track _ hl h.not_tracking
      split
      · exact .pending _
      · exact .state nofun
    · exact .pending _
  · have hsame : gaugeKeyOn s new x = x := by
      obtain ⟨hp, hr⟩ := not_or.mp h
      cases hx : x.state <;> simp_all [gaugeKeyOn]
    rw [hsame]
    exact .refl

end KeyOn

/-! KEY_RUN out of CRANK. -/

theorem gaugeRunFromCrank_holding (h : x.state = .holding) : gaugeRunFromCrank s x =
    if s.sourceLive x.setup.source then s.track x else if x.setup.stalePark then x.toPark else x := by
  simp only [gaugeRunFromCrank, h]

theorem gaugeRunFromCrank_rests (h : x.rests) : gaugeRunFromCrank s x =
    if s.sourceLive x.setup.source then s.track x else x := by
  rcases h with h | h <;> simp only [gaugeRunFromCrank, h]

theorem gaugeRunFromCrank_other (h : x.state = .sweepUp ∨ x.state = .sweepDown ∨ x.state = .tracking) :
    gaugeRunFromCrank s x = x := by
  rcases h with h | h | h <;> simp only [gaugeRunFromCrank, h]

theorem gaugeRunFromCrank_moves (s : State) (x : Gauge) : GaugeMoves s x (gaugeRunFromCrank s x) ∧
    (gaugeRunFromCrank s x).pending = x.pending := by
  have htrack (hl : s.sourceLive x.setup.source = true) (hx : x.state ≠ .tracking) :
      GaugeMoves s x (s.track x) ∧ (s.track x).pending = x.pending :=
    ⟨.track x.pending hl hx, by rw [State.track_eq]; rfl⟩
  have hpark : x.toPark.pending = x.pending := by
    unfold Gauge.toPark
    split <;> rfl
  cases hx : x.state with
  | holding =>
    rw [gaugeRunFromCrank_holding hx]
    split
    · next hl => exact htrack hl (by rw [hx]; nofun)
    split
    · exact ⟨.toPark x.pending, hpark⟩
    · exact ⟨.refl, rfl⟩
  | returning | parked =>
    have hrests : x.rests := by
      unfold Gauge.rests
      rw [hx]
      decide
    rw [gaugeRunFromCrank_rests hrests]
    split
    · next hl => exact htrack hl hrests.not_tracking
    · exact ⟨.refl, rfl⟩
  | sweepUp | sweepDown | tracking =>
    rw [gaugeRunFromCrank_other (by rw [hx]; decide)]
    exact ⟨.refl, rfl⟩

/-! KEY_CRANK, KEY_OFF and KEY_ACC. -/

theorem gaugeCrank_moves (s : State) (x : Gauge) : GaugeMoves s x (gaugeCrank x) := by
  unfold gaugeCrank
  split
  · exact .state nofun
  · exact .refl

theorem gaugeKeyDown_moves (s : State) (x : Gauge) : GaugeMoves s x (gaugeKeyDown x) := by
  unfold gaugeKeyDown
  dsimp only
  split
  · exact .pending _
  · exact .toPark _

/-- What going to park makes of a gauge. -/
theorem Gauge.toPark_parks (x : Gauge) : if x.position = x.setup.park then x.toPark.state = .parked ∧ x.toPark.timer = none
    else x.toPark.state = .returning ∧ x.toPark.timer.isSome = true := by
  unfold Gauge.toPark
  split
  · exact ⟨rfl, rfl⟩
  · exact ⟨rfl, rfl⟩

theorem gaugeKeyTakes_moves (old new : KeyState) (s : State) (x : Gauge) : GaugeMoves s x (gaugeKeyTakes old new s x) := by
  unfold gaugeKeyTakes
  split
  · exact gaugeKeyOn_moves s new x
  · cases new
    · exact gaugeKeyDown_moves s x
    · exact gaugeKeyDown_moves s x
    · exact (gaugeRunFromCrank_moves s x).1
    · exact gaugeCrank_moves s x

theorem gaugeKeyTakes_keyOn {old new : KeyState} (h : (old = .off ∨ old = .acc) ∧ (new = .run ∨ new = .crank)) :
    gaugeKeyTakes old new s x = gaugeKeyOn s new x := if_pos (isKeyOn_iff.mpr h)

end Moves

/-! ### All gauges -/

theorem gaugeKey_get (old new : KeyState) (s : State) (g : Fin 6) : (gaugeKey old new s).gauges[g] =
    if (s.gauges[g]).enabled then gaugeKeyTakes old new s (s.gauges[g]) else s.gauges[g] := by
  show (s.gauges.map _)[g.val] = _
  rw [Vector.getElem_map]
  rfl

theorem gaugeKey_enabled {old new : KeyState} {s : State} {g : Fin 6} (h : (s.gauges[g]).enabled = true) :
    (gaugeKey old new s).gauges[g] = gaugeKeyTakes old new s (s.gauges[g]) := (gaugeKey_get old new s g).trans (if_pos h)

theorem gaugeKey_moves (old new : KeyState) (s : State) (g : Fin 6) :
    GaugeMoves s (s.gauges[g]) ((gaugeKey old new s).gauges[g]) := by
  rw [gaugeKey_get]
  split
  · exact gaugeKeyTakes_moves old new s _
  · exact .refl

section Rows
variable {s : State} {x : Gauge}

/-- The key-on row (R35). -/
theorem gaugeKeyOn_row {new : KeyState} (hrests : x.rests) {y : Gauge} (hy : y = gaugeKeyOn s new x) :
    y.pending = (x.pending || x.setup.fastSettle) ∧
    (x.setup.sweep = true → y.state = .sweepUp ∧ y.timer.isSome = true) ∧
    (x.setup.sweep = false → new = .run → s.sourceLive x.setup.source = true → y.state = .tracking ∧ y.timer.isSome = true) ∧
    (x.setup.sweep = false → new = .run → ¬ s.sourceLive x.setup.source = true → x.setup.stalePark = false →
      y.state = .holding ∧ y.timer.isSome = true) ∧
    (x.setup.sweep = false → new = .run → ¬ s.sourceLive x.setup.source = true → x.setup.stalePark = true →
      y.state = x.state ∧ y.timer = x.timer) ∧
    (x.setup.sweep = false → new = .crank → y.state = x.state ∧ y.timer = x.timer) := by
  rw [gaugeKeyOn_rests hrests, State.track_eq] at hy
  refine ⟨?_, fun hs => ?_, fun hs hn hl => ?_, fun hs hn hl hp => ?_, fun hs hn hl hp => ?_, fun hs hn => ?_⟩
  · rw [hy]
    split
    · rfl
    split
    · split
      · rfl
      split <;> rfl
    · rfl
  · rw [hy, if_pos hs]
    exact ⟨rfl, rfl⟩
  · rw [hy, if_neg (Bool.eq_false_iff.mp hs), if_pos hn, if_pos hl]
    exact ⟨rfl, rfl⟩
  · rw [hy, if_neg (Bool.eq_false_iff.mp hs), if_pos hn, if_neg hl, if_neg (Bool.eq_false_iff.mp hp)]
    exact ⟨rfl, rfl⟩
  · rw [hy, if_neg (Bool.eq_false_iff.mp hs), if_pos hn, if_neg hl, if_pos hp]
    exact ⟨rfl, rfl⟩
  · rw [hy, if_neg (Bool.eq_false_iff.mp hs), if_neg (by rw [hn]; nofun)]
    exact ⟨rfl, rfl⟩

/-- The row of KEY_OFF and KEY_ACC (R37). -/
theorem gaugeKeyDown_row (x : Gauge) : (gaugeKeyDown x).pending = false ∧
    (x.state = .parked → (gaugeKeyDown x).state = .parked) ∧
    (x.state ≠ .parked → if x.position = x.setup.park then (gaugeKeyDown x).state = .parked ∧ (gaugeKeyDown x).timer = none
      else (gaugeKeyDown x).state = .returning ∧ (gaugeKeyDown x).timer.isSome = true) := by
  have hparked (h : x.state = .parked) : gaugeKeyDown x = { x with pending := false } := if_pos h
  have hmoves (h : x.state ≠ .parked) : gaugeKeyDown x = ({ x with pending := false }).toPark := if_neg h
  refine ⟨?_, fun h => by rw [hparked h]; exact h, fun h => ?_⟩
  · by_cases h : x.state = .parked
    · rw [hparked h]
    · rw [hmoves h, Gauge.toPark]
      split <;> rfl
  · rw [hmoves h]
    exact Gauge.toPark_parks { x with pending := false }

end Rows

/-- Settles O12: what every key event keeps of a gauge, and the table row by row. -/
theorem gaugeKeyEventsByTheTable : Obligations.GaugeKeyEventsByTheTable := by
  refine fun old new s => ⟨⟨_, rfl⟩, fun g => ?_⟩
  intro x y live keyOn rest parks
  have hlive : s.sourceLive x.setup.source = true ↔ live := s.sourceLive_iff _
  have hmoves : GaugeMoves s x y := gaugeKey_moves old new s g
  have htakes (he : x.enabled = true) : y = gaugeKeyTakes old new s x := gaugeKey_enabled he
  refine ⟨fun he => (gaugeKey_get old new s g).trans (if_neg (Bool.eq_false_iff.mp he)), hmoves.position, hmoves.setup,
    hmoves.enabled, hmoves.written, hmoves.sine, hmoves.cosine, fun hy hx => ?_, hmoves.kept, fun he hon hr => ?_,
    fun he ho hn => ?_, fun he ho hn => ?_, fun he hn => ?_⟩
  · obtain ⟨hl, htarget⟩ := hmoves.entered hy hx
    exact ⟨hlive.mp hl, htarget⟩
  · rw [← hlive]
    exact gaugeKeyOn_row hr ((htakes he).trans (gaugeKeyTakes_keyOn hon))
  · have hy : y = gaugeCrank x := by
      rw [htakes he, ho, hn]
      rfl
    rw [hy]
    unfold gaugeCrank
    split
    · exact ⟨rfl, rfl⟩
    · exact ⟨rfl, rfl⟩
  · have hy : y = gaugeRunFromCrank s x := by
      rw [htakes he, ho, hn]
      rfl
    have htrack : (s.track x).state = .tracking ∧ (s.track x).timer.isSome = true := by
      rw [State.track_eq]
      exact ⟨rfl, rfl⟩
    refine ⟨by rw [hy]; exact (gaugeRunFromCrank_moves s x).2, fun hl hx => ?_, fun hl hx hp => ?_, fun hl hx hp => ?_,
      fun hl hx => ?_, fun hx => ?_⟩
    · rcases hx with hx | hx
      · rw [hy, gaugeRunFromCrank_holding hx, if_pos (hlive.mpr hl)]
        exact htrack
      · rw [hy, gaugeRunFromCrank_rests hx, if_pos (hlive.mpr hl)]
        exact htrack
    · rw [hy, gaugeRunFromCrank_holding hx, if_neg (mt hlive.mp hl), if_neg (Bool.eq_false_iff.mp hp)]
      exact hx
    · have hpark : y = x.toPark := by
        rw [hy, gaugeRunFromCrank_holding hx, if_neg (mt hlive.mp hl), if_pos hp]
      show if x.position = x.setup.park then y.state = _ ∧ y.timer = _ else y.state = _ ∧ _
      rw [hpark]
      exact x.toPark_parks
    · rw [hy, gaugeRunFromCrank_rests hx, if_neg (mt hlive.mp hl)]
    · rw [hy, gaugeRunFromCrank_other (hx.elim .inl fun h => .inr (.inl h))]
  · have hy : y = gaugeKeyDown x := by
      rw [htakes he]
      rcases hn with rfl | rfl <;> cases old <;> rfl
    show y.pending = _ ∧ (_ → y.state = _) ∧ (_ → if x.position = x.setup.park then y.state = _ ∧ y.timer = _ else
      y.state = _ ∧ _)
    rw [hy]
    exact gaugeKeyDown_row x

end Sys2Proof.Machine
end


section
/-! PROOF. Requests and the frames that carry them (section 10.5.2, R180; log entry 5). -/

namespace Sys2Proof.Machine

/-! ### Numbers of several bytes -/

theorem be2_bytes (w : Word) : be2 (BitVec.ofNat 8 (w.toNat / 256)) (BitVec.ofNat 8 w.toNat) = w := by
  have := w.isLt
  refine BitVec.eq_of_toNat_eq ?_
  simp only [be2, BitVec.toNat_ofNat]
  omega

theorem be3_bytes (x : BitVec 24) : be3 (BitVec.ofNat 8 (x.toNat / 65536)) (BitVec.ofNat 8 (x.toNat / 256))
    (BitVec.ofNat 8 x.toNat) = x := by
  have := x.isLt
  refine BitVec.eq_of_toNat_eq ?_
  simp only [be3, BitVec.toNat_ofNat]
  omega

theorem encWord_be2 (a b : Byte) : encWord (be2 a b) = [a, b] := by
  have ha := a.isLt
  have hb := b.isLt
  have hw : (be2 a b).toNat = a.toNat * 256 + b.toNat := Nat.mod_eq_of_lt (by omega)
  rw [encWord, hw, enc2, List.cons.injEq, List.cons.injEq]
  refine ⟨BitVec.eq_of_toNat_eq ?_, BitVec.eq_of_toNat_eq ?_, rfl⟩
  · rw [BitVec.toNat_ofNat]; omega
  · rw [BitVec.toNat_ofNat]; omega

theorem encTriple_be3 (a b c : Byte) : encTriple (be3 a b c) = [a, b, c] := by
  have ha := a.isLt
  have hb := b.isLt
  have hc := c.isLt
  have hw : (be3 a b c).toNat = a.toNat * 65536 + b.toNat * 256 + c.toNat := Nat.mod_eq_of_lt (by omega)
  rw [encTriple, hw, enc3, List.cons.injEq, List.cons.injEq, List.cons.injEq]
  refine ⟨BitVec.eq_of_toNat_eq ?_, BitVec.eq_of_toNat_eq ?_, BitVec.eq_of_toNat_eq ?_, rfl⟩
  · rw [BitVec.toNat_ofNat]; omega
  · rw [BitVec.toNat_ofNat]; omega
  · rw [BitVec.toNat_ofNat]; omega

theorem vector_ten (v : Vector Byte 10) :
    v = #v[v[0], v[1], v[2], v[3], v[4], v[5], v[6], v[7], v[8], v[9]] := by
  refine Vector.ext fun i hi => ?_
  interval_cases i <;> rfl

/-! ### A request row and its frame -/

/-- A request row's frame: from its requester, its code and sequence byte before at most 13 argument bytes, which decode
to the row. -/
theorem encodeRequest_decodes {i : Instr} {n : Node} {p : List Byte} (hi : ∀ m q, i ≠ .unknownRequest m q)
    (he : encodeRequest i = some (n, p)) : ∃ (h : Head) (code : Byte) (args : List Byte), n = h.node ∧
      p = code :: h.seq :: args ∧ args.length ≤ 13 ∧ decodeArgs code.toNat h args = some i := by
  cases i with
  | unknownRequest n p => exact absurd rfl (hi n p)
  | writeChannel h ch tag origin kind offset bit curve timeout shift debounce | enableChannel h ch
  | disableChannel h ch | commitCurve h curve count | enableGauge h g | disableGauge h g | snapshotTrip h r
  | readTrip h r | resetTrip h r | storeErase h sectors | enableServiceItem h item | disableServiceItem h item
  | serviceReset h item | writeWarningAction h w priority latch chime message lamp routing present remind
  | enableWarning h w | disableWarning h w | maskWarning h w | unmaskWarning h w
  | writeChimePattern h p repeats segments | writeChimeSetup h tickChannel tickPattern answerPattern | assertHold h
  | clearHold h | events h set | restart h | dumpAbort h | dumpResume h =>
    cases he
    exact ⟨h, _, _, rfl, rfl, Nat.le_of_ble_eq_true rfl, rfl⟩
  | readChannelSetup h ch part | readChannel h ch part | readCurve h curve slot part | readGaugeSetup h g part
  | readGauge h g part | readTripSetup h part | readTripFigures h r part | readStore h addr part
  | readOdometer h part | readServiceItem h item part | readWarningSetup h w part | readWarning h w part
  | readLamps h part | readChimePattern h p slot part | readChimeSetup h part | readChimes h part
  | readMessage h message part | readDisplaySetup h part | readDisplay h part | readLoop h part | readStatus h part
  | readClock h part =>
    cases he
    refine ⟨h, _, _, rfl, rfl, ?_, ?_⟩ <;> cases part
    · exact Nat.le_of_ble_eq_true rfl
    · exact Nat.le_of_ble_eq_true rfl
    · rfl
    · rfl
  | curvePoint h curve slot x y | writeGauge h g source curve damping slew park flags dial
  | writeTripSetup h distance fuel speed level pulses units maxDelta gapDefault | storeProgram h addr value
  | setOdometer h value | writeServiceItem h item message intervalKm intervalDays advanceKm overdueKm advOverDays
  | writeWarningCondition h w kind subject threshold hysteresis counts keyGate speedGate staleAction minStage
  | writeChimeSegment h p slot divisor on off
  | writeDisplaySetup h button temperature offDelay idleTime mcBrightness rpBrightness | storeDump h start count
  | setClock h seconds day =>
    cases he
    refine ⟨h, _, _, rfl, rfl, Nat.le_of_ble_eq_true rfl, ?_⟩
    simp only [encWord, enc2, encTriple, enc3, List.cons_append, List.nil_append]
    refine (rfl : decodeArgs _ h _ = some (_)).trans ?_
    simp only [be2_bytes, be3_bytes]
  | writeMessage h message chunk chars =>
    cases he
    rw [vector_ten chars]
    exact ⟨h, _, _, rfl, rfl, Nat.le_of_ble_eq_true rfl, rfl⟩
  | _ => cases he

/-- What the arguments of a code decode to is sent as that code and those arguments. -/
theorem decodeArgs_encodes {code : Nat} {h : Head} {args : List Byte} {i : Instr} (hd : decodeArgs code h args = some i) :
    encodeRequest i = some (h.node, BitVec.ofNat 8 code :: h.seq :: args) := by
  unfold decodeArgs at hd
  split at hd <;> (try split at hd) <;> cases hd <;>
    simp only [encodeRequest, reqPayload, encWord_be2, encTriple_be3] <;> rfl

theorem decodeRequest_row {i : Instr} {n : Node} {p : List Byte} (hi : ∀ m q, i ≠ .unknownRequest m q)
    (he : encodeRequest i = some (n, p)) : decodeRequest n p = i ∧ 2 ≤ p.length ∧ p.length ≤ 15 := by
  obtain ⟨h, code, args, rfl, rfl, hlen, hd⟩ := encodeRequest_decodes hi he
  refine ⟨?_, ?_, ?_⟩
  · show (decodeArgs code.toNat h args).getD _ = i
    rw [hd]
    rfl
  · rw [List.length_cons, List.length_cons]
    omega
  · rw [List.length_cons, List.length_cons]
    omega

/-- Decoding a payload loses none of it. -/
theorem encodeRequest_decodeRequest (n : Node) (p : List Byte) : encodeRequest (decodeRequest n p) = some (n, p) := by
  match p with
  | [] => rfl
  | [_] => rfl
  | code :: seq :: args =>
    show encodeRequest ((decodeArgs code.toNat ⟨n, seq⟩ args).getD _) = _
    cases hd : decodeArgs code.toNat ⟨n, seq⟩ args with
    | none => rfl
    | some i =>
      refine (decodeArgs_encodes hd).trans ?_
      rw [BitVec.ofNat_toNat, BitVec.setWidth_eq]

/-- A payload that no request of the table has is answered BAD_REQUEST. -/
theorem exec_unknown {n : Node} {p : List Byte} {s : State} (ht : s.takes { node := n, seq := p.getD 1 0 } = true)
    (hd : decodeRequest n p = .unknownRequest n p) : exec (.unknownRequest n p) s =
      .next (answered { node := n, seq := p.getD 1 0 } (p.getD 0 0) .badRequest [] s) := by
  obtain ⟨hp, hn, hq, hf⟩ := (State.takes_iff s _).mp ht
  have hrun : exec (.unknownRequest n p) s = live (arrive (decodeRequest n p)) s := rfl
  rw [hrun, hd, live_powered _ _ hp, arrive_taken rfl hn hq hf]
  exact congrArg Host.Outcome.next (respond_refuse _ _ _ s)

/-- Settles O57: both directions of the table, row by row. -/
theorem requestFramesDecodeToTheirRequests : Obligations.RequestFramesDecodeToTheirRequests := by
  refine ⟨fun i h code hr => ?_, fun i hr hi => ?_, fun i n p => decodeRequest_row, encodeRequest_decodeRequest,
    fun n p s => exec_unknown⟩
  · have hcode : ∃ args, encodeRequest i = some (h.node, code :: h.seq :: args) := by
      cases i <;> cases hr <;> exact ⟨_, rfl⟩
    have hi : ∀ m q, i ≠ .unknownRequest m q := by
      rintro m q rfl
      cases hr
    obtain ⟨args, he⟩ := hcode
    exact ⟨args, he, (decodeRequest_row hi he).1⟩
  · cases i with
    | unknownRequest n p => exact absurd rfl (hi n p)
    | _ => simp_all [encodeRequest]

/-! ### The frame that carries a payload (R164, R165) -/

section Carried
variable {tag : Byte} {n : Node} {p : List Byte}

theorem mkFrame_second (tag : Byte) (n : Node) (p : List Byte) :
    (mkFrame tag n p).getD 1 0 = n ++ BitVec.ofNat 4 p.length := rfl

theorem frameOrigin_mkFrame (tag : Byte) (n : Node) (p : List Byte) : frameOrigin (mkFrame tag n p) = n := by
  rw [frameOrigin, mkFrame_second]
  generalize BitVec.ofNat 4 p.length = l
  revert n l
  decide

variable (hp : p.length ≤ 15)
include hp

theorem frameLength_mkFrame : frameLength (mkFrame tag n p) = p.length := by
  have hlow : ∀ (n l : BitVec 4), (n ++ l).extractLsb' 0 4 = l := by decide
  rw [frameLength, mkFrame_second, hlow, BitVec.toNat_ofNat]
  omega

theorem framePayload_mkFrame : framePayload (mkFrame tag n p) = p := by
  rw [framePayload, frameLength_mkFrame hp]
  exact List.take_left

theorem frameIntact_mkFrame : frameIntact (mkFrame tag n p) false false = true := by
  have hlen : (mkFrame tag n p).length = p.length + 3 := by
    simp [mkFrame, withCheck]
  exact frameIntact_iff.mpr ⟨by omega, by rw [hlen, frameLength_mkFrame hp], rfl, rfl, byteSum_withCheck _⟩

/-- A request's frame that finds the handler free is carried out. -/
theorem frameReceived_carried {s : State} (hn : n ≠ s.loop.node) (hq : s.loop.requestQ = []) (hf : s.handlerFree = true) :
    frameReceived (mkFrame (nodeTag s.loop.node) n p) false false s = serve (decodeRequest n p) s := by
  have hother : frameOrigin (mkFrame (nodeTag s.loop.node) n p) ≠ s.loop.node := by
    rw [frameOrigin_mkFrame]
    exact hn
  have htreat := treatFrame_queued (f := mkFrame (nodeTag s.loop.node) n p) hother rfl (by rw [hq]; decide)
  rw [hq, List.nil_append] at htreat
  have hback : { s with loop := { s.loop with requestQ := [] } } = s := by rw [← hq]
  have hserve : pump { s with loop := { s.loop with requestQ := [mkFrame (nodeTag s.loop.node) n p] } } =
      serve (decodeRequest (frameOrigin (mkFrame (nodeTag s.loop.node) n p))
        (framePayload (mkFrame (nodeTag s.loop.node) n p))) { s with loop := { s.loop with requestQ := [] } } := if_pos hf
  rw [frameReceived, if_pos (frameIntact_mkFrame hp), htreat, hserve, frameOrigin_mkFrame, framePayload_mkFrame hp, hback]

/-- A request's arrival is the arrival of its frame. -/
theorem arrive_carried {i : Instr} (he : encodeRequest i = some (n, p)) (hd : decodeRequest n p = i) (s : State) :
    arrive i s = frameReceived (mkFrame (nodeTag s.loop.node) n p) false false s := by
  by_cases htaken : n ≠ s.loop.node ∧ s.loop.requestQ = [] ∧ s.handlerFree = true
  · obtain ⟨hn, hq, hf⟩ := htaken
    rw [arrive_taken he hn hq hf, frameReceived_carried hp hn hq hf, hd]
  · unfold arrive
    rw [he]
    exact if_neg htaken

end Carried

/-- Settles O58: each row arrives as its frame does, taken or not, with the supply or without it. -/
theorem requestRowsAreTheArrivalOfTheirFrames : Obligations.RequestRowsAreTheArrivalOfTheirFrames := by
  intro i n p s hwell he _
  have harrival {j : Instr} (hp : p.length ≤ 15) (hj : encodeRequest j = some (n, p)) (hd : decodeRequest n p = j) :
      live (arrive j) s = exec (.loopFrameReceived (mkFrame (nodeTag s.loop.node) n p) false false) s := by
    show _ = live (frameReceived _ false false) s
    cases hpow : s.powered with
    | false => rw [live_unpowered _ _ hpow, live_unpowered _ _ hpow]
    | true => rw [live_powered _ _ hpow, live_powered _ _ hpow, arrive_carried hp hj hd]
  by_cases hi : ∀ m q, i ≠ .unknownRequest m q
  · obtain ⟨hd, -, hp⟩ := decodeRequest_row hi he
    rw [exec_request s hi he]
    exact harrival hp he hd
  · obtain ⟨m, hi⟩ := not_forall.mp hi
    obtain ⟨q, hi⟩ := not_forall_not.mp hi
    subst hi
    cases he
    exact harrival (of_decide_eq_true hwell) (encodeRequest_decodeRequest n p) rfl

end Sys2Proof.Machine
end


section
/-! PROOF. The paged reads (R9, R28, R42, R56, R74, R83, R95, R113, R126, R133, R144, R145, R162, R178, R181, R183,
R197). -/

namespace Sys2Proof.Machine

/-! ### A part of a content -/

section Reads
variable {i : Instr} {h : Head} {code : Byte} {part : Option Byte} {s : State} {content : List Byte}

/-- A read of a content answers the part asked for, or refuses a part above the last. -/
theorem read_answers {found : List Byte} (hrun : exec i s = .next (respond h code false (paged part found s)))
    (hc : found = content) :
    ((content.length - 1) / 11 < (part.getD 0).toNat → exec i s = .next (answered h code .badArgument [] s)) ∧
    ((part.getD 0).toNat ≤ (content.length - 1) / 11 → exec i s = .next (answered h code .ok
      (BitVec.ofNat 8 (16 * (part.getD 0).toNat + (content.length - 1) / 11) ::
        (content.drop (11 * (part.getD 0).toNat)).take 11) s)) := by
  rw [hc, paged] at hrun
  refine ⟨fun hp => ?_, fun hp => ?_⟩
  · rw [hrun, pageOf_above hp, respond_now]
  · rw [hrun, pageOf_within hp, respond_now]

section Indexed
variable {n : Nat} {idx : Option (Fin n)} {f : Fin n → List Byte}
  (hrun : exec i s = .next (respond h code false (pagedAt part idx f s)))
include hrun

/-- A read of a numbered record, of a number in the table. -/
theorem readAt_answers {k : Fin n} (hk : idx = some k) (hc : f k = content) :
    ((content.length - 1) / 11 < (part.getD 0).toNat → exec i s = .next (answered h code .badArgument [] s)) ∧
    ((part.getD 0).toNat ≤ (content.length - 1) / 11 → exec i s = .next (answered h code .ok
      (BitVec.ofNat 8 (16 * (part.getD 0).toNat + (content.length - 1) / 11) ::
        (content.drop (11 * (part.getD 0).toNat)).take 11) s)) := by
  rw [hk] at hrun
  exact read_answers hrun hc

theorem readAt_bad (hk : idx = none) : exec i s = .next (answered h code .badArgument [] s) := by
  rw [hk, pagedAt_none] at hrun
  exact taken_refused hrun rfl

end Indexed

/-! The reads of one of several slots of a record. -/

theorem reqReadCurve_slot {b slot : Byte} {k : Fin 12} (hs : slot.toNat = k.val + 1) : reqReadCurve b slot part s =
    pagedAt part (fin? 16 b.toNat) (fun c => (s.curves[c]).content k) s := by
  have hne : slot ≠ 0 := by
    rintro rfl
    simp at hs
  unfold reqReadCurve
  rw [fin?_some k (by omega)]
  exact if_neg hne

theorem reqReadCurve_bad {b slot : Byte} (hs : 16 ≤ b.toNat ∨ slot = 0 ∨ 12 < slot.toNat) :
    reqReadCurve b slot part s = refuse .badArgument s := by
  unfold reqReadCurve
  rcases hs with hb | hs | hs
  · rw [fin?_none hb]
    split
    · split <;> rfl
    · rfl
  · rw [hs]
    rfl
  · rw [fin?_none (by omega)]

theorem reqReadChimePattern_slot {b slot : Byte} {k : Fin 6} (hs : slot.toNat = k.val + 1) :
    reqReadChimePattern b slot part s = pagedAt part (fin? 16 b.toNat) (fun c => s.patternContent c k) s := by
  have hne : slot ≠ 0 := by
    rintro rfl
    simp at hs
  unfold reqReadChimePattern
  rw [fin?_some k (by omega)]
  exact if_neg hne

theorem reqReadChimePattern_bad {b slot : Byte} (hs : 16 ≤ b.toNat ∨ slot = 0 ∨ 6 < slot.toNat) :
    reqReadChimePattern b slot part s = refuse .badArgument s := by
  unfold reqReadChimePattern
  rcases hs with hb | hs | hs
  · rw [fin?_none hb]
    split
    · split <;> rfl
    · rfl
  · rw [hs]
    rfl
  · rw [fin?_none (by omega)]

end Reads

/-! ### The encodings of R190 -/

theorem encMarked_eq {α : Type} (width : Nat) (enc : α → List Byte) (o : Option α) : encMarked width enc o =
    match o.map enc with
    | some bytes => 0 :: bytes
    | none => 1 :: List.replicate width 0 := by
  cases o <;> rfl

theorem enc2i_eq (v : Int) : enc2i v = enc2 (v % 65536).toNat := by
  rw [enc2i, BitVec.toNat_ofInt]
  rfl

theorem enc3i_eq (v : Int) : enc3i v = enc3 (v % 16777216).toNat := by
  rw [enc3i, BitVec.toNat_ofInt]
  rfl

theorem encChoice_val {n : Nat} (o : Option (Fin n)) : encChoice (o.map Fin.val) =
    [match o with | some k => BitVec.ofNat 8 k.val | none => 0xFF] := by
  cases o <;> rfl

theorem ofNat_flag (b : Bool) : BitVec.ofNat 8 (if b then 1 else 0) = if b = true then (1 : Byte) else 0 := by
  cases b <;> rfl

theorem ofNat_unflag (b : Bool) : BitVec.ofNat 8 (if b then 0 else 1) = if (!b) = true then (1 : Byte) else 0 := by
  cases b <;> rfl

theorem ofNat_twoFlags (a b : Bool) : BitVec.ofNat 8 ((if a then 1 else 0) + (if b then 2 else 0)) =
    (if a = true then (1 : Byte) else 0) + 2 * (if b = true then (1 : Byte) else 0) := by
  cases a <;> cases b <;> rfl

theorem ofNat_threeFlags (a b c : Bool) :
    BitVec.ofNat 8 ((if a then 1 else 0) + (if b then 2 else 0) + (if c then 4 else 0)) =
    (if a = true then (1 : Byte) else 0) + 2 * (if b = true then (1 : Byte) else 0) +
      4 * (if c = true then (1 : Byte) else 0) := by
  cases a <;> cases b <;> cases c <;> rfl

theorem tenthsLeft_eq (ms : Nat) : tenthsLeft ms =
    if ms % 100 = 0 ∨ Config.tenthsRoundUp ms = false then ms / 100 else ms / 100 + 1 := by
  unfold tenthsLeft
  by_cases hm : ms % 100 = 0
  · rw [if_pos hm, if_pos (.inl hm)]
  · cases hr : Config.tenthsRoundUp ms <;> simp [hm]

/-- Settles O55: the part that each read answers, and its content from the fields in order. -/
theorem pagedReadsAnswerInPartsAndChangeNothing : Obligations.PagedReadsAnswerInPartsAndChangeNothing := by
  intro h part s ht p answers bad yes one two three four signed2 signed3 choice marked tenths left
  have hone (n : Nat) : enc1 n = [one n] := rfl
  have hyes (b : Bool) : encBool b = [yes b] := rfl
  have hflag (b : Bool) : one (if b then 1 else 0) = yes b := ofNat_flag b
  have hunflag (b : Bool) : one (if b then 0 else 1) = yes (!b) := ofNat_unflag b
  have hflags (a b : Bool) : one ((if a then 1 else 0) + (if b then 2 else 0)) = yes a + 2 * yes b := ofNat_twoFlags a b
  have htwo : enc2 = two := rfl
  have hword : encWord = fun w => two w.toNat := rfl
  have hthree : enc3 = three := rfl
  have hfour : enc4 = four := rfl
  have hsigned2 : enc2i = signed2 := funext enc2i_eq
  have hsigned3 : enc3i = signed3 := funext enc3i_eq
  have hchoice (n : Nat) (o : Option (Fin n)) : encChoice (o.map Fin.val) = [choice n o] := encChoice_val o
  have hmarked {α : Type} (width : Nat) (enc : α → List Byte) (o : Option α) :
      encMarked width enc o = marked width (o.map enc) := encMarked_eq width enc o
  have htenths : tenthsLeft = tenths := funext tenthsLeft_eq
  have htimer : encTimer = left := by
    funext t
    rw [encTimer, hmarked, htenths]
    rfl
  have hnot (b : Bool) : encTrueFalse b = [yes (!b)] := by cases b <;> rfl
  refine ⟨fun b c hb => ⟨fun hs => ?_, fun f hs => ?_, ?_⟩, fun b hb => ⟨?_, ?_⟩, fun b slot k i hb hs => ?_,
    fun b slot hbad => ?_, fun b g hb => ⟨?_, ?_⟩, fun b hb => ⟨?_, ?_⟩, fun hs => ?_, fun f hs => ?_, fun b r hb => ?_,
    fun b hb => ?_, fun b a k hb hk => ?_, ⟨fun v hv => ?_, fun hv => ?_, ?_⟩, fun b i hb => ?_, fun b hb => ?_,
    fun b w hb => ⟨⟨conditionContent (s.warnings.entries[w]).condition, actionContent (s.warnings.entries[w]).action, ?_,
      fun hc => ?_, fun c hc => ?_, fun ha => ?_, fun a ha => ?_⟩, ?_⟩, fun b hb => ⟨?_, ?_⟩, ?_,
    ⟨fun b slot k i hb hs => ?_, fun b slot hbad => ?_, ?_, ?_⟩, fun b m hb => ?_, fun b hb => ?_,
    ⟨fun hs => ?_, fun f hs => ?_, ?_⟩, ?_, ?_, ?_⟩
  · refine readAt_answers (exec_taken nofun rfl ht) (fin?_some c hb) ?_
    rw [Channel.setupContent, hs]
    rfl
  · refine readAt_answers (exec_taken nofun rfl ht) (fin?_some c hb) ?_
    rw [Channel.setupContent, hs]
    cases horigin : f.origin <;> simp only [*, List.append_assoc, List.cons_append, List.nil_append] <;> rfl
  · refine readAt_answers (exec_taken nofun rfl ht) (fin?_some c hb) ?_
    simp only [Channel.content, *, List.append_assoc, List.cons_append, List.nil_append]
  · exact readAt_bad (exec_taken nofun rfl ht) (fin?_none hb)
  · exact readAt_bad (exec_taken nofun rfl ht) (fin?_none hb)
  · have hrun : exec (.readCurve h b slot part) s = .next (respond h 0x17 false (reqReadCurve b slot part s)) :=
      exec_taken nofun rfl ht
    rw [reqReadCurve_slot hs] at hrun
    refine readAt_answers hrun (fin?_some k hb) ?_
    simp only [Curve.content, *, List.cons_append, List.nil_append]
  · exact taken_refused (exec_taken nofun rfl ht) (reqReadCurve_bad hbad)
  · refine readAt_answers (exec_taken nofun rfl ht) (fin?_some g hb) ?_
    simp only [Gauge.setupContent, *, List.append_assoc, List.cons_append, List.nil_append]
  · refine readAt_answers (exec_taken nofun rfl ht) (fin?_some g hb) ?_
    simp only [Gauge.content, *, List.append_assoc, List.cons_append, List.nil_append]
  · exact readAt_bad (exec_taken nofun rfl ht) (fin?_none hb)
  · exact readAt_bad (exec_taken nofun rfl ht) (fin?_none hb)
  · refine read_answers (exec_taken nofun rfl ht) ?_
    rw [Trip.setupContent, hs]
    rfl
  · refine read_answers (exec_taken nofun rfl ht) ?_
    rw [Trip.setupContent, hs]
    simp only [*, List.append_assoc, List.cons_append, List.nil_append]
    rfl
  · refine readAt_answers (exec_taken nofun rfl ht) (fin?_some r hb) ?_
    simp only [State.figuresContent, *, List.append_assoc, List.cons_append, List.nil_append]
  · exact readAt_bad (exec_taken nofun rfl ht) (fin?_none hb)
  · refine read_answers (exec_taken nofun rfl ht) ?_
    have haddr : addrOf b = a := Fin.ext hb
    have hsector : sectorOf a = k := Fin.ext hk
    rw [State.storeContent, haddr, hsector]
    simp only [State.sector, hone, hyes, hword, hmarked, Option.map_if, List.append_assoc, List.cons_append,
      List.nil_append]
  · refine read_answers (exec_taken nofun rfl ht) ?_
    have hvalid : s.odometer.valid = true := by
      rw [State.shown_eq] at hv
      split at hv
      · next h => exact h
      · cases hv
    simp only [State.odometerContent, State.odometerBytes, *, if_true, List.append_assoc, List.cons_append, List.nil_append]
    rfl
  · refine read_answers (exec_taken nofun rfl ht) ?_
    have hvalid : s.odometer.valid = false := by
      rw [State.shown_eq] at hv
      split at hv
      · cases hv
      · next h => exact Bool.eq_false_iff.mpr h
    simp only [State.odometerContent, State.odometerBytes, *, List.append_assoc, List.cons_append, List.nil_append]
    rfl
  · rw [State.shown_eq]
    split
    · next hv => exact iff_of_false nofun (ne_false_of_eq_true hv)
    · next hv => exact iff_of_true rfl (Bool.eq_false_iff.mpr hv)
  · refine readAt_answers (exec_taken nofun rfl ht) (fin?_some i hb) ?_
    simp only [ServiceItem.content, *, List.append_assoc, List.cons_append, List.nil_append]
  · exact readAt_bad (exec_taken nofun rfl ht) (fin?_none hb)
  · refine readAt_answers (exec_taken nofun rfl ht) (fin?_some w hb) ?_
    simp only [Warning.setupContent, *, List.cons_append, List.nil_append]
  · rw [hc]
    rfl
  · rw [hc, conditionContent]
    simp only [*, List.append_assoc, List.cons_append, List.nil_append]
  · rw [ha]
    rfl
  · rw [ha, actionContent]
    simp only [*, List.cons_append, List.nil_append]
  · refine readAt_answers (exec_taken nofun rfl ht) (fin?_some w hb) ?_
    simp only [Warning.content, *, List.cons_append, List.nil_append]
  · exact readAt_bad (exec_taken nofun rfl ht) (fin?_none hb)
  · exact readAt_bad (exec_taken nofun rfl ht) (fin?_none hb)
  · exact read_answers (exec_taken nofun rfl ht) s.lampsContent_eq
  · have hrun : exec (.readChimePattern h b slot part) s =
        .next (respond h 0x73 false (reqReadChimePattern b slot part s)) := exec_taken nofun rfl ht
    rw [reqReadChimePattern_slot hs] at hrun
    refine readAt_answers hrun (fin?_some k hb) ?_
    simp only [State.patternContent, *, List.append_assoc, List.cons_append, List.nil_append]
    rfl
  · exact taken_refused (exec_taken nofun rfl ht) (reqReadChimePattern_bad hbad)
  · refine read_answers (exec_taken nofun rfl ht) ?_
    simp only [ChimeSetup.content, *, List.cons_append, List.nil_append]
  · intro request player
    refine read_answers (exec_taken nofun rfl ht) ?_
    have hrequest : s.chime.requestContent = request := by
      funext r
      obtain ⟨origin, zone, pattern, rank, repeatsLeft, released⟩ := r
      cases origin <;> cases zone <;> cases repeatsLeft <;> rfl
    have hplayer (z : Zone) : s.chime.playerContent z = player z := by
      have hsegment : encMarked 1 enc1 (if (s.chime.player z).state = .silent then none else some (s.chime.player z).segment) =
          if (s.chime.player z).state = .silent then [1, 0] else [0, one (s.chime.player z).segment] := by
        split <;> rfl
      unfold Chime.playerContent
      dsimp only
      rw [hsegment]
      cases hcurrent : (s.chime.player z).current <;> simp only [player, *] <;> rfl
    simp only [Chime.content, *, List.append_assoc, List.cons_append, List.nil_append]
  · exact readAt_answers (exec_taken nofun rfl ht) (fin?_some m hb) rfl
  · exact readAt_bad (exec_taken nofun rfl ht) (fin?_none hb)
  · refine read_answers (exec_taken nofun rfl ht) ?_
    rw [State.displaySetupContent, State.displaySetup, hs]
    rfl
  · refine read_answers (exec_taken nofun rfl ht) ?_
    simp only [State.displaySetupContent, State.displaySetup, *, Option.getD_some, Option.isSome_some, List.append_assoc,
      List.cons_append, List.nil_append]
    rfl
  · intro transmitter hold packet o m
    refine read_answers (exec_taken nofun rfl ht) ?_
    have htransmitter : one s.display.tx.code = transmitter := by
      dsimp only [transmitter]
      cases s.display.tx <;> rfl
    have hpacket : Packet.content = packet := by
      funext q
      cases q with
      | item i => cases i <;> rfl
      | poll => rfl
      | answered => rfl
    have hhold (t : Timer) : encMarked 2 (fun ms => encWord (Config.pressTimerLeft ms)) t = hold t := hmarked _ _ t
    have hpress : Press.content = fun x => [one x.page, one x.state.code] ++ hold x.timer2 ++ hold x.timer5 := by
      funext x
      simp only [Press.content, hone, hhold, List.cons_append, List.nil_append]
    simp only [Display.content, allItems, List.flatMap_cons, List.flatMap_nil, *, List.append_nil, List.append_assoc,
      List.cons_append, List.nil_append]
    rfl
  · refine read_answers (exec_taken nofun rfl ht) ?_
    simp only [LoopPort.content, *, Option.map_map, List.append_assoc, List.cons_append, List.nil_append]
    rfl
  · intro count masked
    refine read_answers (exec_taken nofun rfl ht) ?_
    have hdump : one s.handler.dump.code =
        match s.handler.dump with | .idle => 0 | .streaming _ => 1 | .aborted _ => 2 := by
      cases s.handler.dump <;> rfl
    have hmasked : one s.maskedStanding = masked := by
      refine congrArg (fun f : Warning → Bool => one (s.warnings.entries.toList.countP f)) (funext fun e => ?_)
      rw [Warning.stands, Bool.and_right_comm]
      refine congrArg ((e.enabled && e.masked) && ·) ?_
      cases e.state <;> rfl
    simp only [State.statusContent, *, List.cons_append, List.nil_append]
    rfl
  · intro k stamp
    refine read_answers (exec_taken nofun rfl ht) ?_
    have hlines (l : Lines) : one ((if l.acc then 1 else 0) + (if l.ign then 2 else 0) + (if l.start then 4 else 0)) =
        yes l.acc + 2 * yes l.ign + 4 * yes l.start := ofNat_threeFlags _ _ _
    have hstamp (t : Option Stamp) : stampContent t = stamp t := by
      rw [stampContent, hmarked, htwo, hthree]
    simp only [KeyClock.content, *, List.append_assoc, List.cons_append, List.nil_append]
    rfl

end Sys2Proof.Machine
end


section
/-! PROOF. The messages, the display setup and the images that a rebuild gives (R144 to R149). -/

namespace Sys2Proof.Machine

/-! ### WRITE MESSAGE and WRITE DISPLAY SETUP (R144, R145) -/

section WriteMessage
variable {message chunk : Byte} {chars : Vector Byte 10} {s : State}

theorem goodChars_iff : chars.toList.all goodChar = true ↔ ∀ b ∈ chars.toList, 0x20 ≤ b.toNat ∧ b.toNat ≤ 0x5F := by
  simp only [List.all_eq_true, goodChar, Bool.and_eq_true, decide_eq_true_eq]

theorem reqWriteMessage_bad (h : 64 ≤ message.toNat ∨ 1 < chunk.toNat ∨
    ¬ ∀ b ∈ chars.toList, 0x20 ≤ b.toNat ∧ b.toNat ≤ 0x5F) : reqWriteMessage message chunk chars s = refuse .badArgument s := by
  unfold reqWriteMessage
  rcases h with hm | h
  · rw [fin?_none hm]
  · split
    · rfl
    · exact if_pos (h.imp_right (mt goodChars_iff.mp))

theorem reqWriteMessage_good {m : Fin 64} (hm : message.toNat = m.val) (hc : chunk.toNat ≤ 1)
    (hgood : ∀ b ∈ chars.toList, 0x20 ≤ b.toNat ∧ b.toNat ≤ 0x5F) : reqWriteMessage message chunk chars s =
    (rebuild
      { s with display :=
        { s.display with
          messages := s.display.messages.set m (replaceChunk s.display.messages[m] chunk chars.toList) } }, .done) := by
  unfold reqWriteMessage
  rw [fin?_some m hm]
  exact if_neg (not_or.mpr ⟨Nat.not_lt.mpr hc, not_not.mpr (goodChars_iff.mpr hgood)⟩)

end WriteMessage

section WriteSetup
variable {button temperature offDelay mc rp : Byte} {idleTime : Word} {s : State}

/-- The fields of WRITE DISPLAY SETUP within their ranges (R145). -/
def DisplayFieldsInRange (button temperature offDelay : Byte) (idleTime : Word) (mc rp : Byte) : Prop :=
  (button = 0xFF ∨ button.toNat ≤ 47) ∧ (temperature = 0xFF ∨ temperature.toNat ≤ 47) ∧
    offDelay.toNat ≤ 120 ∧ 10 ≤ idleTime.toNat ∧ idleTime.toNat ≤ 600 ∧ mc.toNat ≤ 3 ∧ rp.toNat ≤ 3

theorem reqWriteDisplaySetup_bad (h : ¬ DisplayFieldsInRange button temperature offDelay idleTime mc rp) :
    reqWriteDisplaySetup button temperature offDelay idleTime mc rp s = refuse .badArgument s := by
  unfold reqWriteDisplaySetup
  split
  · next b t hb ht =>
    exact if_neg fun hrest => h ⟨choice?_exists_le.mp ⟨b, hb⟩, choice?_exists_le.mp ⟨t, ht⟩, hrest⟩
  · rfl

theorem State.displaySetup_button (s : State) : s.displaySetup.button = s.display.setup.bind DisplaySetup.button := by
  unfold State.displaySetup
  cases s.display.setup <;> rfl

theorem reqWriteDisplaySetup_good (h : DisplayFieldsInRange button temperature offDelay idleTime mc rp) :
    ∃ f : DisplaySetup, encChoice (f.button.map Fin.val) = [button] ∧
      encChoice (f.temperature.map Fin.val) = [temperature] ∧ f.offDelay = offDelay.toNat ∧
      f.idleTime = idleTime.toNat ∧ f.mcBrightness = mc.toNat ∧ f.rpBrightness = rp.toNat ∧
      reqWriteDisplaySetup button temperature offDelay idleTime mc rp s = (rebuild { s with display :=
        { s.display with setup := some f,
                         press := if s.display.setup.bind DisplaySetup.button = f.button then s.display.press
                                  else none } }, .done) := by
  obtain ⟨hbutton, htemperature, hrest⟩ := h
  obtain ⟨b, hb⟩ := choice?_exists_le.mpr hbutton
  obtain ⟨t, ht⟩ := choice?_exists_le.mpr htemperature
  refine ⟨{ button := b, temperature := t, offDelay := offDelay.toNat, idleTime := idleTime.toNat,
            mcBrightness := mc.toNat, rpBrightness := rp.toNat }, encChoice_of_choice? hb, encChoice_of_choice? ht,
    rfl, rfl, rfl, rfl, ?_⟩
  simp only [reqWriteDisplaySetup, hb, ht]
  rw [if_pos hrest, ← State.displaySetup_button]
  rfl

end WriteSetup

/-! ### What a rebuild changes (R146) -/

section Rebuild
variable {s : State}

theorem rebuild_images (s : State) : (rebuild s).display.images = buildImages s :=
  congrArg Display.images (Display.foldl_itemChanged_only (allItems.filter (Images.differ s.display.images (buildImages s)))
    { s.display with images := buildImages s })

/-- The content of an item differs between two images. -/
def Images.Differs (a b : Images) : Item → Prop
  | .mcText => a.mcText ≠ b.mcText
  | .mcAttr => a.mcFlash ≠ b.mcFlash ∨ a.mcBrightness ≠ b.mcBrightness
  | .rp1Text => a.rp1Text ≠ b.rp1Text
  | .rp1Attr => a.rp1Flash ≠ b.rp1Flash ∨ a.rp1Brightness ≠ b.rp1Brightness
  | .rp2Text => a.rp2Text ≠ b.rp2Text
  | .rp2Attr => a.rp2Flash ≠ b.rp2Flash ∨ a.rp2Brightness ≠ b.rp2Brightness
  | .rpClock => a.clock ≠ b.clock

theorem Images.differ_iff {a b : Images} (i : Item) : a.differ b i = true ↔ a.Differs b i := by
  cases i <;> simp only [Images.differ, Images.Differs, Bool.or_eq_true, bne_iff_ne]

theorem Display.foldl_itemChanged_get {is : List Item} {d : Display} {i : Item} (h : i ∉ is) :
    (is.foldl Display.itemChanged d).outstanding.get i = d.outstanding.get i := by
  induction is generalizing d with
  | nil => rfl
  | cons j is ih =>
    obtain ⟨hne, hrest⟩ := List.ne_and_not_mem_of_not_mem_cons h
    rw [List.foldl_cons, ih hrest]
    unfold Display.itemChanged
    split
    · rfl
    · split <;> exact (Outstanding.get_put _ _ _ _).trans (if_neg (Ne.symm hne))

/-- An item whose content does not differ is left alone. -/
theorem rebuild_same {i : Item} (h : ¬ s.display.images.Differs (buildImages s) i) :
    (rebuild s).display.outstanding.get i = s.display.outstanding.get i ∧
    (.item i ∈ (rebuild s).display.queue ↔ .item i ∈ s.display.queue) := by
  have hout : i ∉ allItems.filter (Images.differ s.display.images (buildImages s)) := fun hmem =>
    h ((Images.differ_iff i).mp (List.mem_filter.mp hmem).2)
  refine ⟨Display.foldl_itemChanged_get (d := { s.display with images := buildImages s }) hout,
    Display.mem_foldl_itemChanged (d := { s.display with images := buildImages s }) fun j hj hij => ?_⟩
  cases hij
  exact hout hj

end Rebuild

/-! ### The images (R147, R149) -/

section Images
variable {s : State}

theorem buildImages_warned {k : Fin 64} {f : Bool} (h : s.display.mcWarning = some (k, f)) :
    (buildImages s).mcText = s.display.messages[k] ∧ (buildImages s).mcFlash = f := by
  simp only [buildImages, h, and_self]

section Unwarned
variable (h : s.display.mcWarning = none)
include h

theorem buildImages_unwarned : (buildImages s).mcFlash = false ∧ (buildImages s).mcText =
    if s.display.blanked then spaces 20 else if s.display.naTimer.isSome then txtNotAvailable ++ spaces 7 else pageText s := by
  simp only [buildImages, h, and_self]

theorem buildImages_blanked (hb : s.display.blanked = true) : (buildImages s).mcText = spaces 20 :=
  (buildImages_unwarned h).2.trans (if_pos hb)

theorem buildImages_notAvailable (hb : s.display.blanked = false) (hn : s.display.naTimer.isSome = true) :
    (buildImages s).mcText = txtNotAvailable ++ spaces 7 :=
  (buildImages_unwarned h).2.trans ((if_neg (Bool.eq_false_iff.mp hb)).trans (if_pos hn))

theorem buildImages_page (hb : s.display.blanked = false) (hn : s.display.naTimer = none) :
    (buildImages s).mcText = pageText s :=
  (buildImages_unwarned h).2.trans ((if_neg (Bool.eq_false_iff.mp hb)).trans (if_neg (by rw [hn]; nofun)))

end Unwarned

theorem buildImages_rear {k : Fin 64} (h : s.display.rearWarning = some k) :
    (buildImages s).rp2Text = (s.display.messages[k]).take 16 ∧ (buildImages s).rp2Flash = true := by
  simp only [buildImages, h, Option.isSome_some, and_self]

theorem buildImages_journey (h : s.display.rearWarning = none) : (buildImages s).rp2Flash = false ∧
    (buildImages s).rp2Text = rearJourneyText s.trip.rear s.trip.records[3] := by
  simp only [buildImages, h, Option.isSome_none, and_self]

theorem State.displaySetup_unwritten (h : s.display.setup = none) : s.displaySetup.temperature = none ∧
    s.displaySetup.mcBrightness = 3 ∧ s.displaySetup.rpBrightness = 3 := by
  rw [State.displaySetup, h]
  exact ⟨rfl, rfl, rfl⟩

theorem State.displaySetup_written {f : DisplaySetup} (h : s.display.setup = some f) : s.displaySetup = f := by
  rw [State.displaySetup, h]
  rfl

/-- The outside temperature, where it is known. -/
def State.outside (s : State) : Option Int :=
  match s.displaySetup.temperature with
  | some c => s.freshValue c
  | none => none

theorem State.outside_eq_some {v : Int} : s.outside = some v ↔ ∃ f c, s.display.setup = some f ∧ f.temperature = some c ∧
    (s.channels[c]).state = .fresh ∧ (s.channels[c]).value = some v := by
  unfold State.outside
  cases hsetup : s.display.setup with
  | none =>
    rw [(State.displaySetup_unwritten hsetup).1]
    exact iff_of_false nofun fun ⟨_, _, h, _⟩ => nomatch h
  | some f =>
    rw [State.displaySetup_written hsetup]
    cases htemperature : f.temperature with
    | none =>
      refine iff_of_false nofun fun ⟨g, c, hg, hc, _⟩ => ?_
      cases hg
      cases hc.symm.trans htemperature
    | some c =>
      refine State.freshValue_eq_some.trans ⟨fun h => ⟨f, c, rfl, htemperature, h⟩, fun ⟨g, k, hg, hk, h⟩ => ?_⟩
      cases hg
      cases hk.symm.trans htemperature
      exact h

theorem buildImages_outside (s : State) : (buildImages s).rp1Text = outsideText s.outside := rfl

end Images

/-! ### Numbers in decimal (R148) -/

/-- The number that a row of digits spells. -/
def figureOf (t : List Byte) : Nat := t.foldl (fun x d => 10 * x + (d.toNat - 0x30)) 0

section Digits
variable {fuel n : Nat}

theorem digitChar_toNat (h : n < 10) : (digitChar n).toNat = 0x30 + n := by
  rw [digitChar, BitVec.toNat_ofNat]
  omega

theorem digits_small (h : n < 10) : digits (fuel + 1) n = [digitChar n] := if_pos h

theorem digits_large (h : ¬ n < 10) : digits (fuel + 1) n = digits fuel (n / 10) ++ [digitChar (n % 10)] := if_neg h

theorem figureOf_digits (h : n < 10 ^ fuel) : figureOf (digits fuel n) = n := by
  induction fuel generalizing n with
  | zero => exact (Nat.lt_one_iff.mp h).symm
  | succ fuel ih =>
    by_cases hn : n < 10
    · rw [digits_small hn]
      show 10 * 0 + ((digitChar n).toNat - 0x30) = n
      rw [digitChar_toNat hn]
      omega
    · have hdigit : n % 10 < 10 := Nat.mod_lt n (by decide)
      have hrest : n / 10 < 10 ^ fuel := by
        rw [Nat.div_lt_iff_lt_mul (by decide)]
        exact h
      have hlast : figureOf (digits fuel (n / 10) ++ [digitChar (n % 10)]) =
          10 * figureOf (digits fuel (n / 10)) + ((digitChar (n % 10)).toNat - 0x30) := by
        rw [figureOf, List.foldl_append]
        rfl
      rw [digits_large hn, hlast, ih hrest, digitChar_toNat hdigit]
      omega

theorem digits_ne_nil : digits (fuel + 1) n ≠ [] := by
  by_cases hn : n < 10
  · rw [digits_small hn]
    nofun
  · rw [digits_large hn]
    exact List.append_ne_nil_of_right_ne_nil _ nofun

theorem digits_are_digits : ∀ d ∈ digits fuel n, 0x30 ≤ d.toNat ∧ d.toNat ≤ 0x39 := by
  have hone {k : Nat} (hk : k < 10) : 0x30 ≤ (digitChar k).toNat ∧ (digitChar k).toNat ≤ 0x39 := by
    rw [digitChar_toNat hk]
    omega
  induction fuel generalizing n with
  | zero => exact fun d hd => absurd hd List.not_mem_nil
  | succ fuel ih =>
    by_cases hn : n < 10
    · rw [digits_small hn]
      intro d hd
      rw [List.mem_singleton.mp hd]
      exact hone hn
    · rw [digits_large hn]
      intro d hd
      rcases List.mem_append.mp hd with hd | hd
      · exact ih d hd
      · rw [List.mem_singleton.mp hd]
        exact hone (Nat.mod_lt n (by decide))

/-- There is no leading zero. -/
theorem digits_head (h : n < 10 ^ fuel) (h0 : (digits fuel n).head? = some 0x30) : n = 0 := by
  induction fuel generalizing n with
  | zero => exact Nat.lt_one_iff.mp h
  | succ fuel ih =>
    by_cases hn : n < 10
    · rw [digits_small hn] at h0
      have hval : (digitChar n).toNat = 0x30 := congrArg BitVec.toNat (Option.some.inj h0)
      rw [digitChar_toNat hn] at hval
      omega
    · cases fuel with
      | zero => omega
      | succ fuel =>
        rw [digits_large hn, List.head?_append_of_ne_nil _ digits_ne_nil] at h0
        have hrest : n / 10 < 10 ^ (fuel + 1) := by
          rw [Nat.div_lt_iff_lt_mul (by decide)]
          exact h
        have := ih hrest h0
        omega

end Digits

/-! ### The texts (R148, R149) -/

theorem distanceText_eq (c : Counter) (plus : Bool) : distanceText c plus = padLeft 7 (decimalTenths (c.value / 100)) ++
    [if plus = true ∧ c.overflow = true then 0x2B else 0x20, 0x4B, 0x4D] := by
  unfold distanceText
  cases plus <;> cases c.overflow <;> rfl

theorem rearJourneyText_begun {st : JourneyState} (h : st ≠ .idle) (x : TripRecord) : rearJourneyText st x =
    padLeft 5 (hoursMinutes x.elapsed.value) ++ [0x20] ++ distanceText x.distance false := by
  cases st with
  | idle => exact absurd rfl h
  | running => rfl
  | ended => rfl

theorem signedDecimal_eq (v : Int) : signedDecimal v = (if v < 0 then [0x2D] else []) ++ decimal v.natAbs := by
  unfold signedDecimal
  split <;> rfl

theorem rangePage_eq (s : State) : rangePage s =
    (match s.range with | some r => padLeft 4 (decimal r) | none => txtDashes4) ++
      ([0x20, 0x4B, 0x4D, 0x20, 0x4F, 0x44, 0x4F] : List Byte) ++ spaces 2 ++
      padLeft 7 (match s.shown with | some v => decimal (v / 10) | none => txtDashes6) := by
  rw [rangePage, List.append_assoc _ txtKm, List.append_assoc _ (txtKm ++ spaces 1)]
  rfl

section Pages
variable {s : State} {i : Fin 8}

theorem pageText_service (h : s.display.page = 6) : pageText s = servicePage s := by
  rw [pageText, h]
  rfl

theorem servicePage_message {m : Fin 64} (hi : s.mostUrgent = some i) (hm : (s.service.items[i]).message = some m) :
    servicePage s = s.display.messages[m] := by
  simp only [servicePage, hi, hm]

theorem servicePage_stage (hi : s.mostUrgent = some i) (hm : (s.service.items[i]).message = none) :
    servicePage s = txtService ++ [digitChar i.val] ++ padLeft 11 (stageText (s.service.items[i]).stage) := by
  simp only [servicePage, hi, hm]

end Pages

/-- Settles O42: the two requests, what a rebuild changes, the images, the numbers and the pages. -/
theorem writtenContentIsRebuiltIntoTheImages : Obligations.WrittenContentIsRebuiltIntoTheImages := by
  refine ⟨fun h s ht => ⟨fun message chunk chars => ⟨fun hbad => ?_, fun m hm hgood => ⟨fun hc => ?_, fun hc => ?_⟩⟩,
    fun button temperature offDelay idleTime mc rp => ⟨fun hbad => ?_, fun hgood => ?_⟩⟩, fun s => ?_, fun n hn =>
    ⟨figureOf_digits hn, digits_ne_nil, digits_are_digits, digits_head hn⟩, fun s => ⟨fun hp => ?_, fun hp => ?_,
    fun hp => ?_, fun hp => ?_, fun hp => ?_, fun i hi => ⟨fun m hm hp => ?_, fun hm hp => ?_⟩,
    ⟨fun v hv => ?_, fun hv => ?_⟩, fun x => ⟨rfl, fun st hst => ?_⟩⟩⟩
  · exact taken_refused (exec_taken nofun rfl ht) (reqWriteMessage_bad hbad)
  · exact taken_done (exec_taken nofun rfl ht) ((reqWriteMessage_good (chunk := chunk) hm (by rw [hc]; decide) hgood).trans
      (by rw [hc]; rfl))
  · exact taken_done (exec_taken nofun rfl ht) ((reqWriteMessage_good (chunk := chunk) hm (by rw [hc]; decide) hgood).trans
      (by rw [hc]; rfl))
  · exact taken_refused (exec_taken nofun rfl ht) (reqWriteDisplaySetup_bad hbad)
  · obtain ⟨f, hb, htemp, hoff, hidle, hmc, hrp, hreq⟩ := reqWriteDisplaySetup_good (s := s) hgood
    exact ⟨f, hb, htemp, hoff, hidle, hmc, hrp, taken_done (exec_taken nofun rfl ht) hreq⟩
  · intro m d
    have hm : m = buildImages s := rebuild_images s
    refine ⟨rebuild_only s, ⟨⟨Images.differ d.images m, Images.differ_iff, ?_⟩, ?_⟩, ?_⟩
    · rw [hm]
      rfl
    · rw [hm]
      exact fun i hi => rebuild_same hi
    · rw [hm]
      exact ⟨fun k f => buildImages_warned, fun h => ⟨(buildImages_unwarned h).1, buildImages_blanked h,
        buildImages_notAvailable h, buildImages_page h⟩, fun k => buildImages_rear, buildImages_journey, rfl, rfl,
        fun h => ⟨(State.displaySetup_unwritten h).2.1, (State.displaySetup_unwritten h).2.2,
          (State.displaySetup_unwritten h).2.2⟩,
        fun f h => by rw [← State.displaySetup_written h]; exact ⟨rfl, rfl, rfl⟩⟩
  · rw [pageText, hp]
    exact congrArg (txtTripA ++ spaces 4 ++ ·) (distanceText_eq _ true)
  · rw [pageText, hp]
    rfl
  · rw [pageText, hp]
    exact congrArg (txtTripB ++ spaces 4 ++ ·) (distanceText_eq _ true)
  · rw [pageText, hp]
    rfl
  · rw [pageText, hp]
    exact rangePage_eq s
  · exact (pageText_service hp).trans (servicePage_message hi hm)
  · refine (pageText_service hp).trans ((servicePage_stage hi hm).trans ?_)
    cases (s.service.items[i]).stage <;> rfl
  · intro w
    show (rebuild s).display.images.rp1Text = _
    rw [rebuild_images, buildImages_outside, State.outside_eq_some.mpr hv]
    exact congrArg (fun t => txtOutside ++ spaces 2 ++ padLeft 5 t ++ txtC) (signedDecimal_eq w)
  · have hnone : s.outside = none := Option.eq_none_iff_forall_ne_some.mpr fun v h => hv v (State.outside_eq_some.mp h)
    show (rebuild s).display.images.rp1Text = _
    rw [rebuild_images, buildImages_outside, hnone]
    rfl
  · rw [rearJourneyText_begun hst, distanceText_eq]
    rfl

end Sys2Proof.Machine
end


section
/-! PROOF. The coil levels are the rounded sine and cosine (R38): the fixed-point sine is near the real one, and the real
one is never near the middle of two levels but at 30 degrees. -/

namespace Sys2Proof.Machine

/-! ### The sine series, nested -/

section Series

/-- The nested tail of the sine series over the reals. -/
noncomputable def realTail (y : ℝ) : ℕ → ℕ → ℝ
  | 0, _ => 1
  | n + 1, k => 1 - y * realTail y n (k + 1) / (2 * k * (2 * k + 1))

theorem realTail_eq_sum (y : ℝ) (n i : ℕ) : realTail y n (i + 1) / (2 * i + 1).factorial =
    ∑ j ∈ Finset.range (n + 1), (-y) ^ j / (2 * (i + j) + 1).factorial := by
  induction n generalizing i with
  | zero => simp [realTail]
  | succ n ih =>
    have hfact : ((2 * (i + 1) + 1).factorial : ℝ) = (2 * i + 3) * ((2 * i + 2) * (2 * i + 1).factorial) := by
      rw [show 2 * (i + 1) + 1 = (2 * i + 1) + 1 + 1 by ring, Nat.factorial_succ, Nat.factorial_succ]
      push_cast
      ring
    have hpos : ((2 * i + 1).factorial : ℝ) ≠ 0 := Nat.cast_ne_zero.mpr (Nat.factorial_ne_zero _)
    have hstep : realTail y (n + 1) (i + 1) / (2 * i + 1).factorial =
        1 / (2 * i + 1).factorial + -y * (realTail y n (i + 1 + 1) / (2 * (i + 1) + 1).factorial) := by
      rw [realTail, hfact]
      push_cast
      have h2 : (2 * (i : ℝ) + 2) ≠ 0 := by positivity
      have h3 : (2 * (i : ℝ) + 3) ≠ 0 := by positivity
      have h4 : 2 * ((i : ℝ) + 1) ≠ 0 := by positivity
      have h5 : 2 * ((i : ℝ) + 1) + 1 ≠ 0 := by positivity
      field_simp
      ring
    rw [hstep, ih, Finset.sum_range_succ' _ (n + 1), Finset.mul_sum, add_comm]
    congr 1
    refine Finset.sum_congr rfl fun j _ => ?_
    rw [show i + (j + 1) = i + 1 + j by ring, pow_succ]
    ring

/-- The odd part of the exponential's sum on the imaginary axis. -/
theorem im_expSum (x : ℝ) (n : ℕ) :
    (∑ m ∈ Finset.range (2 * n), ((x : ℂ) * Complex.I) ^ m / (m.factorial : ℂ)).im =
    ∑ j ∈ Finset.range n, x * ((-(x ^ 2)) ^ j / ((2 * j + 1).factorial : ℝ)) := by
  have hsquare : ((x : ℂ) * Complex.I) ^ 2 = ((-(x ^ 2) : ℝ) : ℂ) := by
    rw [mul_pow, Complex.I_sq]
    push_cast
    ring
  induction n with
  | zero => simp
  | succ n ih =>
    have heven : ((x : ℂ) * Complex.I) ^ (2 * n) / ((2 * n).factorial : ℂ) =
        (((-(x ^ 2)) ^ n / (2 * n).factorial : ℝ) : ℂ) := by
      rw [pow_mul, hsquare]
      push_cast
      ring
    have hodd : ((x : ℂ) * Complex.I) ^ (2 * n + 1) / ((2 * n + 1).factorial : ℂ) =
        ((x * ((-(x ^ 2)) ^ n / (2 * n + 1).factorial) : ℝ) : ℂ) * Complex.I := by
      rw [pow_succ, pow_mul, hsquare]
      push_cast
      ring
    rw [show 2 * (n + 1) = 2 * n + 1 + 1 by ring, Finset.sum_range_succ, Finset.sum_range_succ, Complex.add_im,
      Complex.add_im, ih, heven, hodd, Complex.ofReal_im, Complex.im_ofReal_mul, Complex.I_im, Finset.sum_range_succ]
    ring

/-- The nested series of 15 terms is near the sine. -/
theorem sin_near_series {x : ℝ} (h0 : 0 ≤ x) (h2 : x ≤ 2) : |Real.sin x - x * realTail (x ^ 2) 14 1| ≤ 1 / 10 ^ 20 := by
  have hsum : x * realTail (x ^ 2) 14 1 =
      (∑ m ∈ Finset.range (2 * 15), ((x : ℂ) * Complex.I) ^ m / (m.factorial : ℂ)).im := by
    have htail := realTail_eq_sum (x ^ 2) 14 0
    norm_num at htail
    rw [im_expSum, ← Finset.mul_sum, htail]
  have hnorm : ‖(x : ℂ) * Complex.I‖ = x := by
    rw [norm_mul, Complex.norm_I, mul_one, Complex.norm_real, Real.norm_of_nonneg h0]
  have hbound := Complex.exp_bound' (x := (x : ℂ) * Complex.I) (n := 2 * 15) (by
    rw [hnorm, div_le_iff₀ (by positivity)]
    norm_num
    linarith)
  have him := (Complex.abs_im_le_norm _).trans hbound
  rw [Complex.sub_im, Complex.exp_ofReal_mul_I_im, ← hsum, hnorm] at him
  refine him.trans ?_
  have hpow : x ^ (2 * 15) ≤ 2 ^ (2 * 15) := pow_le_pow_left₀ h0 h2 _
  calc x ^ (2 * 15) / ((2 * 15).factorial : ℝ) * 2 ≤ 2 ^ (2 * 15) / ((2 * 15).factorial : ℝ) * 2 := by gcongr
    _ ≤ 1 / 10 ^ 20 := by
      norm_num [Nat.factorial]

end Series

/-! ### The fixed-point sine -/

section Fixed

theorem natDiv_near (a : ℕ) {b : ℕ} (hb : 0 < b) : (a : ℝ) / b - 1 ≤ ((a / b : ℕ) : ℝ) ∧ ((a / b : ℕ) : ℝ) ≤ a / b := by
  have hpos : (0 : ℝ) < b := Nat.cast_pos.mpr hb
  refine ⟨?_, Nat.cast_div_le⟩
  rw [sub_le_iff_le_add, div_le_iff₀ hpos]
  exact_mod_cast (Nat.lt_div_mul_add hb (a := a)).le.trans_eq (by ring)

theorem trigUnit_pos : (0 : ℝ) < trigUnit := Nat.cast_pos.mpr (by decide)

/-- One step of the nested tail in fixed point. -/
theorem tailStep_near {U y x T τ c q : ℝ} (hU : 1 ≤ U) (h0 : 0 ≤ y) (h3 : y ≤ 3) (hx : |x - U * y| ≤ 1) (hT0 : 0 ≤ T)
    (hTU : T ≤ U) (hnear : |T - U * τ| ≤ 3) (hc : 6 ≤ c) (hlow : x * T / (U * c) - 1 ≤ q) (hhigh : q ≤ x * T / (U * c)) :
    q ≤ U ∧ |U - q - U * (1 - y * τ / c)| ≤ 3 := by
  have hUc : 0 < U * c := by positivity
  have hxle : x ≤ 4 * U := by
    have := (abs_le.mp hx).2
    nlinarith
  have hsplit : x * T / (U * c) - U * (y * τ / c) = ((x - U * y) * T + U * y * (T - U * τ)) / (U * c) := by
    have hU0 : U ≠ 0 := by positivity
    have hc0 : c ≠ 0 := by positivity
    field_simp
    ring
  have hnum : |(x - U * y) * T + U * y * (T - U * τ)| ≤ 10 * U := by
    calc |(x - U * y) * T + U * y * (T - U * τ)|
        ≤ |x - U * y| * |T| + U * y * |T - U * τ| := by
          refine (abs_add_le _ _).trans_eq ?_
          rw [abs_mul, abs_mul, abs_of_nonneg (mul_nonneg (zero_le_one.trans hU) h0)]
      _ ≤ 1 * U + U * 3 * 3 := by
          rw [abs_of_nonneg hT0]
          gcongr
      _ = 10 * U := by ring
  have hgap : |x * T / (U * c) - U * (y * τ / c)| ≤ 2 := by
    rw [hsplit, abs_div, abs_of_pos hUc, div_le_iff₀ hUc]
    nlinarith
  obtain ⟨hgaplow, hgaphigh⟩ := abs_le.mp hgap
  have hdist : U * (1 - y * τ / c) = U - U * (y * τ / c) := by ring
  refine ⟨hhigh.trans ?_, ?_⟩
  · rw [div_le_iff₀ hUc]
    calc x * T ≤ 4 * U * U := mul_le_mul hxle hTU hT0 (by positivity)
      _ ≤ U * (U * c) := by nlinarith [mul_pos (zero_lt_one.trans_le hU) (zero_lt_one.trans_le hU)]
  · rw [hdist, abs_le]
    exact ⟨by linarith, by linarith⟩

/-- The nested tail in fixed point is within 3 units of the real one. -/
theorem sinTail_near {x2 : ℕ} {y : ℝ} (h0 : 0 ≤ y) (h3 : y ≤ 3) (hx : |(x2 : ℝ) - trigUnit * y| ≤ 1) (n k : ℕ) (hk : 1 ≤ k) :
    sinTail x2 n k ≤ trigUnit ∧ |(sinTail x2 n k : ℝ) - trigUnit * realTail y n k| ≤ 3 := by
  have hU : (1 : ℝ) ≤ trigUnit := Nat.one_le_cast.mpr (by decide)
  induction n generalizing k with
  | zero => exact ⟨le_rfl, by simp [sinTail, realTail]⟩
  | succ n ih =>
    obtain ⟨hle, hnear⟩ := ih (k + 1) (by omega)
    have hk' : (1 : ℝ) ≤ k := Nat.one_le_cast.mpr hk
    have hc : (6 : ℝ) ≤ 2 * k * (2 * k + 1) := by nlinarith
    have hden : 0 < trigUnit * (2 * k * (2 * k + 1)) := by
      have : 0 < trigUnit := by decide
      positivity
    obtain ⟨hlow, hhigh⟩ := natDiv_near (x2 * sinTail x2 n (k + 1)) hden
    have hstep := tailStep_near (q := ((x2 * sinTail x2 n (k + 1) / (trigUnit * (2 * k * (2 * k + 1))) : ℕ) : ℝ))
      hU h0 h3 hx (Nat.cast_nonneg _) (Nat.cast_le.mpr hle) hnear hc
      (by exact_mod_cast hlow) (by exact_mod_cast hhigh)
    have hrec : sinTail x2 (n + 1) k =
        trigUnit - x2 * sinTail x2 n (k + 1) / (trigUnit * (2 * k * (2 * k + 1))) := rfl
    have hqle : x2 * sinTail x2 n (k + 1) / (trigUnit * (2 * k * (2 * k + 1))) ≤ trigUnit := by exact_mod_cast hstep.1
    refine ⟨Nat.sub_le _ _, ?_⟩
    rw [hrec, Nat.cast_sub hqle]
    exact hstep.2

/-- The fixed-point sine of an angle of `r` / 1023 degrees. -/
def fixedSine (r : Nat) : Nat :=
  let x := r * trigPi / 184140
  x * sinTail (x * x / trigUnit) 14 1 / trigUnit

/-- The angle of `r` / 1023 degrees in radians. -/
noncomputable def radians (r : Nat) : ℝ := r * (Real.pi / 184140)

/-- The angle in fixed point is near the angle. -/
theorem fixedAngle_near {r : Nat} (hr : r ≤ 92070) : ((r * trigPi / 184140 : ℕ) : ℝ) / trigUnit ≤ 8 / 5 ∧
    |((r * trigPi / 184140 : ℕ) : ℝ) / trigUnit - radians r| ≤ 1 / 10 ^ 17 := by
  have hU := trigUnit_pos
  have hUval : (trigUnit : ℝ) = 10 ^ 30 := by norm_num [trigUnit]
  obtain ⟨hlow, hhigh⟩ := natDiv_near (r * trigPi) (b := 184140) (by decide)
  have hpi : (trigPi : ℝ) = 3141592653589793238462643383279 := by norm_num [trigPi]
  push_cast at hlow hhigh
  rw [hpi] at hlow hhigh
  have hrle : (r : ℝ) ≤ 92070 := by exact_mod_cast hr
  have hr0 : (0 : ℝ) ≤ r := Nat.cast_nonneg r
  have hpilow := Real.pi_gt_d20
  have hpihigh := Real.pi_lt_d20
  generalize ((r * trigPi / 184140 : ℕ) : ℝ) = x at hlow hhigh ⊢
  have herror : |(r : ℝ) * (Real.pi - 3141592653589793238462643383279 / 10 ^ 30)| ≤ 92070 * (1 / 10 ^ 19) := by
    rw [abs_mul, abs_of_nonneg hr0]
    refine mul_le_mul hrle (abs_le.mpr ⟨?_, ?_⟩) (abs_nonneg _) (by norm_num)
    · norm_num at hpilow ⊢
      linarith
    · norm_num at hpihigh ⊢
      linarith
  obtain ⟨helow, hehigh⟩ := abs_le.mp herror
  rw [radians, hUval]
  refine ⟨?_, abs_le.mpr ⟨?_, ?_⟩⟩
  · rw [div_le_iff₀ (by positivity)]
    linarith
  · linarith
  · linarith

/-- The fixed-point sine is within 10⁻¹⁵ of the sine. -/
theorem fixedSine_near {r : Nat} (hr : r ≤ 92070) :
    |(fixedSine r : ℝ) / trigUnit - Real.sin (radians r)| ≤ 1 / 10 ^ 15 := by
  have hU := trigUnit_pos
  have hUval : (trigUnit : ℝ) = 10 ^ 30 := by norm_num [trigUnit]
  obtain ⟨hX2, hangle⟩ := fixedAngle_near hr
  unfold fixedSine
  dsimp only
  generalize r * trigPi / 184140 = x at hX2 hangle ⊢
  have hX0 : (0 : ℝ) ≤ x / trigUnit := by positivity
  have hsquare : |((x * x / trigUnit : ℕ) : ℝ) - trigUnit * ((x : ℝ) / trigUnit) ^ 2| ≤ 1 := by
    obtain ⟨hlow, hhigh⟩ := natDiv_near (x * x) (b := trigUnit) (by decide)
    have heq : (trigUnit : ℝ) * ((x : ℝ) / trigUnit) ^ 2 = ((x * x : ℕ) : ℝ) / trigUnit := by
      push_cast
      field_simp
    rw [heq, abs_le]
    exact ⟨by linarith, by linarith⟩
  have hy3 : ((x : ℝ) / trigUnit) ^ 2 ≤ 3 := by nlinarith
  have htail := (sinTail_near (sq_nonneg _) hy3 hsquare 14 1 le_rfl).2
  obtain ⟨hlow, hhigh⟩ := natDiv_near (x * sinTail (x * x / trigUnit) 14 1) (b := trigUnit) (by decide)
  have hseries := sin_near_series hX0 (hX2.trans (by norm_num))
  have hsin := Real.abs_sin_sub_sin_le ((x : ℝ) / trigUnit) (radians r)
  generalize ((x * sinTail (x * x / trigUnit) 14 1 / trigUnit : ℕ) : ℝ) = S at hlow hhigh ⊢
  push_cast at hlow hhigh
  generalize (sinTail (x * x / trigUnit) 14 1 : ℝ) = T at htail hlow hhigh
  rw [mul_div_right_comm] at hlow hhigh
  generalize (x : ℝ) / trigUnit = X at *
  generalize realTail (X ^ 2) 14 1 = τ at *
  have hfixed : |S / trigUnit - X * τ| ≤ 10 / 10 ^ 30 := by
    have hsplit : S / trigUnit - X * τ = ((S - X * T) + X * (T - trigUnit * τ)) / trigUnit := by
      field_simp
      ring
    rw [hsplit, abs_div, abs_of_pos hU, hUval]
    gcongr
    calc |S - X * T + X * (T - 10 ^ 30 * τ)| ≤ |S - X * T| + |X| * |T - 10 ^ 30 * τ| := by
          rw [← abs_mul]
          exact abs_add_le _ _
      _ ≤ 1 + 2 * 3 := by
          rw [← hUval]
          gcongr
          · exact abs_le.mpr ⟨by linarith, by linarith⟩
          · rw [abs_of_nonneg hX0]
            linarith
      _ ≤ 10 := by norm_num
  calc |S / trigUnit - Real.sin (radians r)|
      ≤ |S / trigUnit - X * τ| + |X * τ - Real.sin X| + |Real.sin X - Real.sin (radians r)| := by
        refine le_trans ?_ (add_le_add_left (abs_add_le _ _) _)
        refine le_trans (le_of_eq ?_) (abs_add_le _ _)
        ring_nf
    _ ≤ 10 / 10 ^ 30 + 1 / 10 ^ 20 + 1 / 10 ^ 17 := by
        rw [abs_sub_comm (X * τ)]
        gcongr
        exact hsin.trans hangle
    _ ≤ 1 / 10 ^ 15 := by norm_num

end Fixed

/-! ### The steps between the levels -/

/-- The last angle at which each level's upper middle is not yet reached, in 1/1023 of a degree. -/
def levelEnds : List Nat :=
  [114, 344, 574, 804, 1034, 1264, 1494, 1724, 1954, 2184, 2414, 2644, 2874, 3104, 3334, 3564, 3795, 4025, 4256,
   4486, 4717, 4947, 5178, 5409, 5640, 5871, 6102, 6333, 6564, 6796, 7027, 7259, 7490, 7722, 7954, 8186, 8418, 8651,
   8883, 9116, 9348, 9581, 9814, 10047, 10281, 10514, 10748, 10982, 11216, 11450, 11685, 11919, 12154, 12389, 12624,
   12860, 13095, 13331, 13567, 13803, 14040, 14276, 14513, 14751, 14988, 15226, 15464, 15702, 15941, 16179, 16418,
   16658, 16897, 17137, 17377, 17618, 17859, 18100, 18341, 18583, 18825, 19067, 19310, 19553, 19797, 20041, 20285,
   20529, 20774, 21019, 21265, 21511, 21758, 22004, 22252, 22499, 22747, 22996, 23245, 23494, 23744, 23995, 24245,
   24497, 24748, 25001, 25253, 25507, 25760, 26015, 26269, 26525, 26781, 27037, 27294, 27551, 27810, 28068, 28328,
   28587, 28848, 29109, 29371, 29633, 29896, 30160, 30424, 30689, 30955, 31222, 31489, 31757, 32025, 32295, 32565,
   32836, 33108, 33380, 33654, 33928, 34203, 34479, 34755, 35033, 35312, 35591, 35871, 36153, 36435, 36718, 37002,
   37288, 37574, 37861, 38150, 38439, 38730, 39021, 39314, 39608, 39903, 40200, 40497, 40796, 41097, 41398, 41701,
   42005, 42310, 42617, 42926, 43236, 43547, 43860, 44174, 44490, 44808, 45127, 45448, 45771, 46096, 46422, 46750,
   47080, 47412, 47746, 48082, 48420, 48760, 49103, 49447, 49794, 50144, 50495, 50850, 51206, 51566, 51928, 52292,
   52660, 53030, 53404, 53781, 54160, 54544, 54930, 55320, 55714, 56111, 56512, 56917, 57327, 57740, 58158, 58581,
   59009, 59441, 59879, 60322, 60771, 61225, 61686, 62153, 62627, 63108, 63597, 64093, 64597, 65111, 65633, 66166,
   66708, 67262, 67828, 68406, 68998, 69605, 70228, 70869, 71528, 72208, 72912, 73641, 74399, 75191, 76020, 76893,
   77819, 78807, 79874, 81042, 82347, 83855, 85709, 88398]

/-- Level `k`'s upper middle lies between the angle and the next one, but for 30 degrees, which lies on one. -/
def levelEnd (k r : Nat) : Bool :=
  decide (r ≤ 92000) && decide (510 * fixedSine r + 10 ^ 21 ≤ (2 * k + 1) * trigUnit) &&
    decide ((2 * k + 1) * trigUnit + 10 ^ 21 ≤ 510 * fixedSine (if r = 30689 then r + 2 else r + 1))

theorem levelEnds_ends : levelEnds.length = 255 ∧ levelEnds.zipIdx.all (fun x => levelEnd x.2 x.1) = true := by
  decide +kernel

section Levels
variable {r k : Nat}

theorem levelEnds_get (hk : k < 255) : ∃ e, levelEnd k e = true := by
  obtain ⟨hlen, hall⟩ := levelEnds_ends
  generalize levelEnds = ends at hlen hall
  have hk' : k < ends.length := by omega
  have hmem : (ends[k], k) ∈ ends.zipIdx := List.mk_mem_zipIdx_iff_getElem?.mpr (List.getElem?_eq_getElem hk')
  exact ⟨ends[k], List.all_eq_true.mp hall (ends[k], k) hmem⟩

theorem levelEnd_iff {e : Nat} : levelEnd k e = true ↔ e ≤ 92000 ∧ 510 * fixedSine e + 10 ^ 21 ≤ (2 * k + 1) * trigUnit ∧
    (2 * k + 1) * trigUnit + 10 ^ 21 ≤ 510 * fixedSine (if e = 30689 then e + 2 else e + 1) := by
  simp only [levelEnd, Bool.and_eq_true, decide_eq_true_eq, and_assoc]

theorem radians_add (m n : Nat) : radians (m + n) = radians m + radians n := by
  unfold radians
  push_cast
  ring

theorem radians_right : radians 92070 = Real.pi / 2 := by
  rw [radians, Nat.cast_ofNat]
  ring

theorem radians_nonneg (r : Nat) : 0 ≤ radians r := mul_nonneg (Nat.cast_nonneg r) (by positivity)

theorem radians_le {m n : Nat} (h : m ≤ n) : radians m ≤ radians n :=
  mul_le_mul_of_nonneg_right (Nat.cast_le.mpr h) (by positivity)

theorem sine_le_sine {m n : Nat} (h : m ≤ n) (hn : n ≤ 92070) : Real.sin (radians m) ≤ Real.sin (radians n) := by
  have hright : radians n ≤ Real.pi / 2 := (radians_le hn).trans_eq radians_right
  refine Real.sin_le_sin_of_le_of_le_pi_div_two ?_ hright (radians_le h)
  have := radians_nonneg m
  have := Real.pi_pos
  linarith

/-- Within a right angle, only 30 degrees lie near the middle of two levels. -/
theorem sine_off_middle (hr : r ≤ 92070) (hne : r ≠ 30690) (hk : k < 255) :
    510 * Real.sin (radians r) < 2 * k + 1 - 1 / 10 ^ 10 ∨ 2 * k + 1 + 1 / 10 ^ 10 < 510 * Real.sin (radians r) := by
  obtain ⟨e, he⟩ := levelEnds_get hk
  obtain ⟨hle, hbelow, habove⟩ := levelEnd_iff.mp he
  have hU := trigUnit_pos
  have hUval : (trigUnit : ℝ) = 10 ^ 30 := by norm_num [trigUnit]
  by_cases hre : r ≤ e
  · have hnear := (abs_le.mp (fixedSine_near (r := e) (by omega))).1
    have hcheck : 510 * ((fixedSine e : ℝ) / trigUnit) + 1 / 10 ^ 9 ≤ 2 * k + 1 := by
      have hcast : (510 * fixedSine e + 10 ^ 21 : ℝ) ≤ (2 * k + 1) * trigUnit := by exact_mod_cast hbelow
      rw [← mul_div_assoc, hUval, div_add_div _ _ (by positivity) (by positivity), div_le_iff₀ (by positivity)]
      rw [hUval] at hcast
      linarith
    have hmono := sine_le_sine hre (by omega)
    exact .inl (by linarith)
  · generalize hnext : (if e = 30689 then e + 2 else e + 1) = e' at habove
    have hbound : e' ≤ r ∧ e' ≤ 92070 := by
      split at hnext <;> omega
    have hnear := (abs_le.mp (fixedSine_near hbound.2)).2
    have hcheck : 2 * k + 1 + 1 / 10 ^ 9 ≤ 510 * ((fixedSine e' : ℝ) / trigUnit) := by
      have hcast : ((2 * k + 1) * trigUnit + 10 ^ 21 : ℝ) ≤ 510 * fixedSine e' := by exact_mod_cast habove
      rw [← mul_div_assoc, hUval, le_div_iff₀ (by positivity)]
      rw [hUval] at hcast
      linarith
    have hmono := sine_le_sine hbound.1 hr
    exact .inr (by linarith)

end Levels

/-! ### The rounding -/

/-- The nearest integer, and of two the one away from zero. -/
def Nearest (v : ℝ) (k : Int) : Prop := |(k : ℝ) - v| ≤ 1 / 2 ∧ (|(k : ℝ) - v| = 1 / 2 → |v| < |(k : ℝ)|)

theorem Nearest.neg {v : ℝ} {k : Int} (h : Nearest v k) : Nearest (-v) (-k) := by
  have hflip : |((-k : Int) : ℝ) - -v| = |(k : ℝ) - v| := by
    rw [← abs_neg]
    push_cast
    ring_nf
  have habs : |((-k : Int) : ℝ)| = |(k : ℝ)| := by
    push_cast
    exact abs_neg _
  rw [Nearest, hflip, abs_neg, habs]
  exact h

theorem quarterSine_eq {r : Nat} (h : r ≠ 30690) : quarterSine r = (510 * fixedSine r + trigUnit) / (2 * trigUnit) := if_neg h

theorem quarterSine_nearest {r : Nat} (hr : r ≤ 92070) : Nearest (255 * Real.sin (radians r)) (quarterSine r) := by
  by_cases hne : r = 30690
  · have hsixth : radians r = Real.pi / 6 := by
      rw [hne, radians]
      push_cast
      ring
    have hlevel : quarterSine r = 128 := if_pos hne
    rw [hsixth, Real.sin_pi_div_six, hlevel]
    norm_num [Nearest, abs_of_pos]
  · have hU := trigUnit_pos
    obtain ⟨hlow, hhigh⟩ := natDiv_near (510 * fixedSine r + trigUnit) (b := 2 * trigUnit) (by decide)
    rw [← quarterSine_eq hne] at hlow hhigh
    have hratio : (((510 * fixedSine r + trigUnit : ℕ) : ℝ)) / ((2 * trigUnit : ℕ) : ℝ) =
        255 * ((fixedSine r : ℝ) / trigUnit) + 1 / 2 := by
      push_cast
      field_simp
      ring
    obtain ⟨hnearlow, hnearhigh⟩ := abs_le.mp (fixedSine_near hr)
    rw [hratio] at hlow hhigh
    have hsin1 := Real.sin_le_one (radians r)
    have hsin0 : 0 ≤ Real.sin (radians r) := by
      have := sine_le_sine (Nat.zero_le r) hr
      simpa [radians] using this
    have hlevel : quarterSine r ≤ 255 := by
      have : (quarterSine r : ℝ) < 256 := by linarith
      exact Nat.lt_succ_iff.mp (by exact_mod_cast this)
    generalize quarterSine r = q at *
    have habove : 2 * (q : ℝ) - 1 < 510 * Real.sin (radians r) := by
      cases q with
      | zero => norm_num; linarith
      | succ k =>
        push_cast at *
        rcases sine_off_middle hr hne (k := k) (by omega) with h | h <;> linarith
    have hbelow : 510 * Real.sin (radians r) < 2 * (q : ℝ) + 1 := by
      rcases Nat.lt_or_eq_of_le hlevel with hq | rfl
      · rcases sine_off_middle hr hne hq with h | h <;> linarith
      · push_cast
        linarith
    have hstrict : |((q : Int) : ℝ) - 255 * Real.sin (radians r)| < 1 / 2 := by
      push_cast
      exact abs_lt.mpr ⟨by linarith, by linarith⟩
    exact ⟨hstrict.le, fun h => absurd h (ne_of_lt hstrict)⟩

/-! ### The four quadrants -/

theorem radians_turns (m : Nat) : radians (92070 * (4 * m)) = m * (2 * Real.pi) := by
  unfold radians
  push_cast
  ring

theorem radians_rest {r : Nat} (hr : r ≤ 92070) : radians (92070 - r) = Real.pi / 2 - radians r := by
  have h := radians_add (92070 - r) r
  rw [Nat.sub_add_cancel hr, radians_right] at h
  linarith

theorem sineLevel_nearest (n : Nat) : Nearest (255 * Real.sin (radians n)) (sineLevel n) := by
  have hr : n % 92070 ≤ 92070 := (Nat.mod_lt n (by decide)).le
  have hparts : n = 92070 * (4 * (n / 92070 / 4)) + (92070 * (n / 92070 % 4) + n % 92070) := by omega
  have hsin : Real.sin (radians n) = Real.sin (radians (92070 * (n / 92070 % 4)) + radians (n % 92070)) := by
    conv_lhs => rw [hparts]
    rw [radians_add, radians_add, radians_turns, add_comm, Real.sin_add_nat_mul_two_pi]
  have hcos : Real.cos (radians (n % 92070)) = Real.sin (radians (92070 - n % 92070)) := by
    rw [radians_rest hr, Real.sin_pi_div_two_sub]
  have hquarter := quarterSine_nearest hr
  have hrest := quarterSine_nearest (Nat.sub_le 92070 (n % 92070))
  rw [← hcos] at hrest
  have hj : n / 92070 % 4 < 4 := Nat.mod_lt _ (by decide)
  rw [hsin]
  unfold sineLevel
  dsimp only
  generalize n / 92070 % 4 = j at hj ⊢
  have hright : radians (92070 * j) = j * (Real.pi / 2) := by
    unfold radians
    push_cast
    ring
  rw [hright]
  interval_cases j
  · simpa using hquarter
  · have : Real.sin (((1 : ℕ) : ℝ) * (Real.pi / 2) + radians (n % 92070)) = Real.cos (radians (n % 92070)) := by
      rw [Nat.cast_one, one_mul, add_comm, Real.sin_add_pi_div_two]
    rw [this]
    exact hrest
  · have : Real.sin (((2 : ℕ) : ℝ) * (Real.pi / 2) + radians (n % 92070)) = -Real.sin (radians (n % 92070)) := by
      rw [show ((2 : ℕ) : ℝ) * (Real.pi / 2) + radians (n % 92070) = radians (n % 92070) + Real.pi by push_cast; ring,
        Real.sin_add_pi]
    rw [this, mul_neg]
    exact hquarter.neg
  · have : Real.sin (((3 : ℕ) : ℝ) * (Real.pi / 2) + radians (n % 92070)) = -Real.cos (radians (n % 92070)) := by
      rw [show ((3 : ℕ) : ℝ) * (Real.pi / 2) + radians (n % 92070) = radians (n % 92070) + Real.pi / 2 + Real.pi by
        push_cast; ring, Real.sin_add_pi, Real.sin_add_pi_div_two]
    rw [this, mul_neg]
    exact hrest.neg

theorem cosineLevel_nearest (n : Nat) : Nearest (255 * Real.cos (radians n)) (cosineLevel n) := by
  have h := sineLevel_nearest (n + 92070)
  rw [radians_add, radians_right, Real.sin_add_pi_div_two] at h
  exact h

/-- Settles O2: the two levels of a written record, each the rounded function of the angle. -/
theorem coilLevelsAreTheRoundedSineAndCosine : Obligations.CoilLevelsAreTheRoundedSineAndCosine := by
  intro f position angle
  have hangle : angle = radians (position * f.dial) := by
    show (position : ℝ) * f.dial / 1023 * (Real.pi / 180) = _
    rw [radians]
    push_cast
    ring
  refine ⟨rfl, sineLevel (position * f.dial), cosineLevel (position * f.dial), ?_, ?_, rfl⟩
  · rw [hangle]
    exact sineLevel_nearest _
  · rw [hangle]
    exact cosineLevel_nearest _

end Sys2Proof.Machine
end


section
/-! PROOF. The save pairs: what a sector reads back, the steps of a save, and the recovery (R84, R85, R88). -/

namespace Sys2Proof.Machine

/-! ### What a pair sector holds (R84) -/

theorem wordSum_append (a b : List Word) : wordSum (a ++ b) = wordSum a + wordSum b := by
  induction a with
  | nil => simp [wordSum]
  | cons w ws ih => rw [List.cons_append, wordSum, ih, wordSum, BitVec.add_assoc]

theorem pairImage_sum (number : Word) (data : List Word) : wordSum (pairImage number data) = 0 := by
  simp [pairImage, wordSum, wordSum_append]

section ReadBack
variable {m : List (Nat × Word)} {k : Fin 8}

/-- A field of a trip record reads back from its two words. -/
theorem Counter.ofWords_words {c : Counter} (h : c.value < 2 ^ 31) :
    Counter.ofWords (c.words.getD 0 0) (c.words.getD 1 0) = c := by
  obtain ⟨value, overflow⟩ := c
  have hhigh : value / 65536 < 2 ^ 15 := by
    dsimp only at h
    omega
  have hclear : (BitVec.ofNat 16 (value / 65536)).getLsbD 15 = false := by
    rw [BitVec.getLsbD_ofNat, Nat.testBit_lt_two_pow hhigh]
    rfl
  have hmask (f : Word) (hf : f = 0x8000 ∨ f = 0) :
      (BitVec.ofNat 16 (value / 65536) ||| f) &&& 0x7FFF = BitVec.ofNat 16 (value / 65536) := by
    refine BitVec.eq_of_getLsbD_eq fun i hi => ?_
    rw [BitVec.getLsbD_and, BitVec.getLsbD_or]
    by_cases h15 : i = 15
    · rw [h15, hclear]
      exact Bool.and_false _
    · have hlow : i < 15 := by omega
      have hone : (0x7FFF : Word).getLsbD i = true := by
        revert hlow
        revert i
        decide
      have hzero : f.getLsbD i = false := by
        rcases hf with rfl | rfl
        · revert hlow
          revert i
          decide
        · exact BitVec.getLsbD_zero
      rw [hone, hzero, Bool.or_false, Bool.and_true]
  show Counter.ofWords (BitVec.ofNat 16 (value / 65536) ||| if overflow then 0x8000 else 0) (BitVec.ofNat 16 value) = _
  have hvalue : ((BitVec.ofNat 16 (value / 65536) ||| if overflow then 0x8000 else 0) &&& 0x7FFF).toNat * 65536 +
      (BitVec.ofNat 16 value).toNat = value := by
    rw [hmask _ (by cases overflow <;> simp), BitVec.toNat_ofNat, BitVec.toNat_ofNat]
    omega
  have hflag : (BitVec.ofNat 16 (value / 65536) ||| if overflow then 0x8000 else 0).getLsbD 15 = overflow := by
    rw [BitVec.getLsbD_or, hclear, Bool.false_or]
    cases overflow <;> rfl
  rw [Counter.ofWords, hvalue, hflag]

theorem TripRecord.inRange_iff {r : TripRecord} : r.inRange = true ↔ r.distance.value ≤ 9999999 ∧ r.fuel.value ≤ 9999999 ∧
    r.elapsed.value ≤ 359999 ∧ r.moving.value ≤ 359999 := by
  simp only [TripRecord.inRange, Bool.and_eq_true, decide_eq_true_eq, and_assoc]
  exact Iff.rfl

/-- A trip record reads back from its eight words. -/
theorem tripRecordAt_words {w : Nat} {r : TripRecord} (hr : r.inRange = true)
    (h : ∀ i, i < 8 → sectorWord m k (w + i) = r.words.getD i 0) : tripRecordAt m k w = r := by
  obtain ⟨hd, hf, he, hm⟩ := TripRecord.inRange_iff.mp hr
  have hdistance : Counter.ofWords (sectorWord m k (w + 0)) (sectorWord m k (w + 0 + 1)) = r.distance := by
    rw [h 0 (by decide), Nat.add_assoc, h 1 (by decide)]
    exact Counter.ofWords_words (by omega)
  have hfuel : Counter.ofWords (sectorWord m k (w + 2)) (sectorWord m k (w + 2 + 1)) = r.fuel := by
    rw [h 2 (by decide), Nat.add_assoc, h 3 (by decide)]
    exact Counter.ofWords_words (by omega)
  have helapsed : Counter.ofWords (sectorWord m k (w + 4)) (sectorWord m k (w + 4 + 1)) = r.elapsed := by
    rw [h 4 (by decide), Nat.add_assoc, h 5 (by decide)]
    exact Counter.ofWords_words (by omega)
  have hmoving : Counter.ofWords (sectorWord m k (w + 6)) (sectorWord m k (w + 6 + 1)) = r.moving := by
    rw [h 6 (by decide), Nat.add_assoc, h 7 (by decide)]
    exact Counter.ofWords_words (by omega)
  unfold tripRecordAt
  dsimp only
  rw [hdistance, hfuel, helapsed, hmoving]

theorem captureAt_words {c : Capture} (ha : c.tripA.inRange = true) (hb : c.tripB.inRange = true)
    (h : ∀ i, i < 16 → sectorWord m k (2 + i) = c.words.getD i 0) : captureAt m k = c := by
  have hlen : c.tripA.words.length = 8 := rfl
  have hA : tripRecordAt m k 2 = c.tripA := tripRecordAt_words ha fun i hi => by
    rw [h i (by omega), Capture.words, List.getD_append _ _ _ _ (by omega)]
  have hB : tripRecordAt m k 10 = c.tripB := tripRecordAt_words hb fun i hi => by
    have hi' := h (i + 8) (by omega)
    rw [Capture.words, List.getD_append_right _ _ _ _ (by omega), hlen, Nat.add_sub_cancel] at hi'
    rw [← hi']
    congr 1
    omega
  rw [captureAt, hA, hB]

theorem recordWords_length (r : Option (Nat × Nat)) : (recordWords r).length = 3 := by
  cases r <;> rfl

theorem getD_flatMap_three {α : Type} {f : α → List Word} (hf : ∀ a, (f a).length = 3) (l : List α) (i t : Nat)
    (hi : i < l.length) (ht : t < 3) : (l.flatMap f).getD (3 * i + t) 0 = (f l[i]).getD t 0 := by
  induction l generalizing i with
  | nil => cases hi
  | cons a l ih =>
    rw [List.flatMap_cons]
    cases i with
    | zero =>
      rw [Nat.mul_zero, Nat.zero_add]
      exact List.getD_append _ _ _ _ (by rw [hf a]; omega)
    | succ i =>
      rw [List.getD_append_right _ _ _ _ (by rw [hf a]; omega), hf a, List.getElem_cons_succ,
        show 3 * (i + 1) + t - 3 = 3 * i + t by omega]
      exact ih i (Nat.lt_of_succ_lt_succ hi)

theorem recordAt_eq (m : List (Nat × Word)) (k : Fin 8) (i : Nat) : recordAt m k i =
    if (sectorWord m k (2 + 3 * i)).getLsbD 15 then none
    else some ((sectorWord m k (2 + 3 * i)).toNat * 65536 + (sectorWord m k (3 + 3 * i)).toNat,
      (sectorWord m k (4 + 3 * i)).toNat) := rfl

/-- A last-service record reads back from its three words. -/
theorem recordAt_words {i : Nat} {r : Option (Nat × Nat)} (hr : ∀ o d, r = some (o, d) → o ≤ 9999999 ∧ d < 65536)
    (h : ∀ t, t < 3 → sectorWord m k (2 + (3 * i + t)) = (recordWords r).getD t 0) : recordAt m k i = r := by
  have h0 := h 0 (by decide)
  have h1 := h 1 (by decide)
  have h2 := h 2 (by decide)
  rw [show 2 + (3 * i + 0) = 2 + 3 * i by omega] at h0
  rw [show 2 + (3 * i + 1) = 3 + 3 * i by omega] at h1
  rw [show 2 + (3 * i + 2) = 4 + 3 * i by omega] at h2
  rw [recordAt_eq, h0, h1, h2]
  cases r with
  | none => rfl
  | some x =>
    obtain ⟨o, d⟩ := x
    obtain ⟨ho, hd⟩ := hr o d rfl
    have hhigh : o / 65536 < 2 ^ 15 := by omega
    have hclear : (BitVec.ofNat 16 (o / 65536)).getLsbD 15 = false := by
      rw [BitVec.getLsbD_ofNat, Nat.testBit_lt_two_pow hhigh]
      rfl
    show (if (BitVec.ofNat 16 (o / 65536)).getLsbD 15 then none else some ((BitVec.ofNat 16 (o / 65536)).toNat * 65536 +
      (BitVec.ofNat 16 o).toNat, (BitVec.ofNat 16 d).toNat)) = _
    rw [hclear, if_neg Bool.false_ne_true, BitVec.toNat_ofNat, BitVec.toNat_ofNat, BitVec.toNat_ofNat, Option.some.injEq,
      Prod.mk.injEq]
    omega

end ReadBack

theorem newer_iff {a b : Word} : newer a b = true ↔ ∃ d, 1 ≤ d ∧ d ≤ 32767 ∧ (b.toNat + d) % 65536 = a.toNat := by
  have ha := a.isLt
  have hb := b.isLt
  have hd : (a - b).toNat = (65536 - b.toNat + a.toNat) % 65536 := BitVec.toNat_sub a b
  simp only [newer, Bool.and_eq_true, decide_eq_true_eq, hd]
  constructor
  · exact fun h => ⟨_, h.1, h.2, by omega⟩
  · rintro ⟨d, h1, h2, hsum⟩
    omega

theorem newer_asymm {a b : Word} : ¬ (newer a b = true ∧ newer b a = true) := by
  rintro ⟨hab, hba⟩
  obtain ⟨d, h1, h2, hsum⟩ := newer_iff.mp hab
  obtain ⟨e, h3, h4, hsum'⟩ := newer_iff.mp hba
  omega

/-! ### The steps of a save (R85) -/

section Save
variable {p : PairId} {s : State} {data : List Word}

theorem State.setPair_setPair (p : PairId) (x y : Pair) (s : State) : (s.setPair p x).setPair p y = s.setPair p y := by
  cases p <;> rfl

theorem failSave_setPair (p : PairId) (x : Pair) (s : State) : failSave p (s.setPair p x) =
    report (.saveFailed p) (s.setPair p { x with state := .idle, job := none, ended := some false }) := by
  rw [failSave, State.pair_setPair, State.setPair_setPair]

theorem beginSave_none (h : s.saveTarget p = none) : beginSave p data s = report (.saveFailed p) (s.setPair p
    { s.pair p with state := .idle, job := none, ended := some false }) := by
  unfold beginSave
  dsimp only
  rw [h]
  rfl

theorem beginSave_some {k : Fin 8} (h : s.saveTarget p = some k) : beginSave p data s = s.setPair p
    { s.pair p with
      state := .saving,
      job := some { target := k, image := pairImage ((s.pair p).lastNumber + 1) data, old := (s.pair p).active,
                    phase := .erase, allOk := true } } := by
  unfold beginSave
  dsimp only
  rw [h]

theorem requestSave_begins (hi : (s.pair p).state = .idle) (hr : (s.pair p).recovered = true) :
    requestSave p data s = beginSave p data s := if_pos ⟨hi, hr⟩

theorem requestSave_holds (h : (s.pair p).state ≠ .idle ∨ (s.pair p).recovered = false) :
    requestSave p data s = s.setPair p { s.pair p with held := some data } :=
  if_neg fun ⟨hi, hr⟩ => h.elim (· hi) fun h => Bool.false_ne_true (h.symm.trans hr)

theorem beginHeld_none {x : Pair} (h : x.held = none) : beginHeld p (s.setPair p x) = s.setPair p x := by
  unfold beginHeld
  dsimp only
  rw [State.pair_setPair, h]

theorem beginHeld_some {x : Pair} {d : List Word} (h : x.held = some d) : beginHeld p (s.setPair p x) =
    beginSave p d (s.setPair p { x with held := none }) := by
  unfold beginHeld
  dsimp only
  rw [State.pair_setPair, h]
  dsimp only
  rw [State.setPair_setPair]

/-! The target. -/

theorem PairId.low_ne_high (p : PairId) : p.low ≠ p.high := by
  cases p <;> decide

theorem State.usable_iff {k : Fin 8} : s.usable k = true ↔ (s.sector k).bad = false ∧ (s.sector k).worn = false := by
  rw [State.usable, Bool.and_eq_true, Bool.not_eq_true', Bool.not_eq_true']

/-- The sector that a save of a pair goes to. -/
def State.savesTo (s : State) (p : PairId) (k : Fin 8) : Prop :=
  ((s.sector k).bad = false ∧ (s.sector k).worn = false) ∧ (k = p.low ∨ k = p.high) ∧
    ((s.pair p).active = some p.low → k = p.high) ∧ ((s.pair p).active = some p.high → k = p.low) ∧
    ((s.pair p).active = none →
      k = p.low ∨ (k = p.high ∧ ¬ ((s.sector p.low).bad = false ∧ (s.sector p.low).worn = false)))

theorem PairId.other_low (p : PairId) : p.other p.low = p.high := if_pos rfl

theorem PairId.other_high (p : PairId) : p.other p.high = p.low := if_neg (Ne.symm p.low_ne_high)

theorem State.saveTarget_eq_some (hknown : (s.pair p).active = none ∨ (s.pair p).active = some p.low ∨
    (s.pair p).active = some p.high) {k : Fin 8} : s.saveTarget p = some k ↔ s.savesTo p k := by
  have hne := p.low_ne_high
  unfold State.saveTarget State.savesTo
  rcases hknown with ha | ha | ha <;> simp only [ha, PairId.other_low, PairId.other_high, ← State.usable_iff]
  · by_cases hl : s.usable p.low = true
    · rw [if_pos hl]
      constructor
      · intro h
        cases h
        exact ⟨hl, .inl rfl, nofun, nofun, fun _ => .inl rfl⟩
      · rintro ⟨-, -, -, -, h⟩
        rcases h trivial with rfl | ⟨-, h⟩
        · rfl
        · exact absurd hl h
    · rw [if_neg hl]
      constructor
      · intro h
        obtain ⟨hh, h⟩ := Option.ite_none_right_eq_some.mp h
        cases h
        exact ⟨hh, .inr rfl, nofun, nofun, fun _ => .inr ⟨rfl, hl⟩⟩
      · rintro ⟨hk, -, -, -, h⟩
        rcases h trivial with rfl | ⟨rfl, -⟩
        · exact absurd hk hl
        · exact if_pos hk
  · constructor
    · intro h
      obtain ⟨hh, h⟩ := Option.ite_none_right_eq_some.mp h
      cases h
      exact ⟨hh, .inr rfl, fun _ => rfl, fun h => absurd (Option.some.inj h) hne, nofun⟩
    · rintro ⟨hk, -, h, -⟩
      cases h trivial
      exact if_pos hk
  · constructor
    · intro h
      obtain ⟨hh, h⟩ := Option.ite_none_right_eq_some.mp h
      cases h
      exact ⟨hh, .inl rfl, fun h => absurd (Option.some.inj h).symm hne, fun _ => rfl, nofun⟩
    · rintro ⟨hk, -, -, h, -⟩
      cases h trivial
      exact if_pos hk

theorem State.saveTarget_none (hknown : (s.pair p).active = none ∨ (s.pair p).active = some p.low ∨
    (s.pair p).active = some p.high) (hl : ¬ s.savesTo p p.low) (hh : ¬ s.savesTo p p.high) : s.saveTarget p = none := by
  rw [Option.eq_none_iff_forall_ne_some]
  intro k hk
  have hto := (State.saveTarget_eq_some hknown).mp hk
  rcases hto.2.1 with rfl | rfl
  · exact hl hto
  · exact hh hto

/-! The next step. -/

theorem pairPump_out (h : (s.pair p).out = true) : pairPump p s = none := by
  have hstep : s.pairStep p = none := if_pos h
  rw [pairPump, hstep]

theorem pairPump_step {step : StoreStep} {job : Option SaveJob} (h : s.pairStep p = some (step, job)) : pairPump p s =
    some { s.setPair p { s.pair p with out := true, job := job } with store := s.store.place p.cls step } := by
  rw [pairPump, h]

section Step
variable (hout : (s.pair p).out = false)
include hout

theorem State.pairStep_recovery {k : Fin 8} {rest : List (Fin 8)} (hr : (s.pair p).recovery = k :: rest) :
    s.pairStep p = some (.program (storeAddr k 0) 0x0000, (s.pair p).job) := by
  unfold State.pairStep
  dsimp only
  rw [hout, if_neg Bool.false_ne_true, hr]
  rfl

variable (hr : (s.pair p).recovery = [])
include hr

theorem State.pairStep_tidy {k : Fin 8} (hj : (s.pair p).job = none) (ht : (s.pair p).tidy = some k) :
    s.pairStep p = some (.erase (oneSector k), none) := by
  unfold State.pairStep
  dsimp only
  rw [hout, if_neg Bool.false_ne_true, hr, hj, ht]
  rfl

variable {j : SaveJob} (hj : (s.pair p).job = some j)
include hj

theorem State.pairStep_job : s.pairStep p =
    match j.phase with
    | .erase =>
      if (s.sector j.target).erasedKnown then
        some (.program (storeAddr j.target 1) (j.image.getD 0 0), some { j with phase := .word 1 })
      else some (.erase (oneSector j.target), some j)
    | .word k => some (.program (storeAddr j.target k) (j.image.getD (k - 1) 0), some j)
    | .status => some (.program (storeAddr j.target 0) statusActive, some j)
    | .obsolete => some (.program (storeAddr (j.old.getD j.target) 0) statusObsolete, some j) := by
  unfold State.pairStep
  dsimp only
  rw [hout, if_neg Bool.false_ne_true, hr, hj]
  all_goals rfl

theorem State.pairStep_erased (hp : j.phase = .erase) (he : (s.sector j.target).erasedKnown = true) : s.pairStep p =
    some (.program (storeAddr j.target 1) (j.image.getD 0 0), some { j with phase := .word 1 }) := by
  rw [State.pairStep_job hout hr hj, hp]
  exact if_pos he

theorem State.pairStep_erase (hp : j.phase = .erase) (he : (s.sector j.target).erasedKnown = false) : s.pairStep p =
    some (.erase (oneSector j.target), some { j with phase := .erase }) := by
  rw [State.pairStep_job hout hr hj]
  cases j
  cases hp
  exact if_neg (Bool.eq_false_iff.mp he)

theorem State.pairStep_word {n : Nat} (hp : j.phase = .word n) : s.pairStep p =
    some (.program (storeAddr j.target n) (j.image.getD (n - 1) 0), some { j with phase := .word n }) := by
  rw [State.pairStep_job hout hr hj]
  cases j
  cases hp
  rfl

theorem State.pairStep_status (hp : j.phase = .status) : s.pairStep p =
    some (.program (storeAddr j.target 0) 0x00FF, some { j with phase := .status }) := by
  rw [State.pairStep_job hout hr hj]
  cases j
  cases hp
  rfl

theorem State.pairStep_obsolete {k : Fin 8} (hp : j.phase = .obsolete) (ho : j.old = some k) : s.pairStep p =
    some (.program (storeAddr k 0) 0x0000, some { j with phase := .obsolete }) := by
  rw [State.pairStep_job hout hr hj]
  cases j
  cases hp
  cases ho
  rfl

end Step

/-! The end of a step. -/

/-- A save that is through, with whether every step was OK. -/
def State.saved (s : State) (p : PairId) (j : SaveJob) (ok : Bool) : State :=
  let u := s.setPair p { s.pair p with
    out := false, active := some j.target, lastNumber := j.image.getD 0 0, job := none, tidy := j.old,
    state := if j.old = none then .idle else .tidying, ended := some ok }
  if ok = true then u else report (.saveFailed p) u

theorem finishSave_setPair (j : SaveJob) (s : State) :
    finishSave p j (s.setPair p { s.pair p with out := false }) = s.saved p j j.allOk := by
  unfold finishSave State.saved
  dsimp only
  rw [State.pair_setPair, State.setPair_setPair]
  cases j.old <;> rfl

section ProgramEnd
variable {e : Bool}

theorem pairProgramEnd_recovery {k : Fin 8} {rest : List (Fin 8)} (hr : (s.pair p).recovery = k :: rest) :
    pairProgramEnd p e s =
    if rest.isEmpty then
      beginHeld p (s.setPair p { s.pair p with out := false, recovery := rest, recovered := rest.isEmpty })
    else s.setPair p { s.pair p with out := false, recovery := rest, recovered := rest.isEmpty } := by
  unfold pairProgramEnd
  dsimp only
  split
  · rename_i l hl
    cases hl.symm.trans hr
    rfl
  · rename_i hnil
    cases hnil.symm.trans hr

variable (hr : (s.pair p).recovery = []) {j : SaveJob} (hj : (s.pair p).job = some j)
include hr hj

theorem pairProgramEnd_job : pairProgramEnd p e s =
    match j.phase with
    | .erase => s.setPair p { s.pair p with out := false }
    | .word k =>
      if e then failSave p (s.setPair p { s.pair p with out := false })
      else s.setPair p { s.pair p with
        out := false, job := some { j with phase := if k < j.image.length then .word (k + 1) else .status } }
    | .status =>
      if j.old.isSome then
        s.setPair p { s.pair p with out := false, job := some { j with allOk := j.allOk && !e, phase := .obsolete } }
      else finishSave p { j with allOk := j.allOk && !e, phase := .obsolete } (s.setPair p { s.pair p with out := false })
    | .obsolete => finishSave p { j with allOk := j.allOk && !e } (s.setPair p { s.pair p with out := false }) := by
  unfold pairProgramEnd
  dsimp only
  split
  · rename_i hcons
    cases hcons.symm.trans hr
  · split
    · rename_i hnone
      cases hnone.symm.trans hj
    · rename_i j' hj'
      cases hj'.symm.trans hj
      rfl

theorem pairProgramEnd_failed {n : Nat} (hp : j.phase = .word n) (he : e = true) : pairProgramEnd p e s =
    report (.saveFailed p) (s.setPair p
      { s.pair p with out := false, state := .idle, job := none, ended := some false }) := by
  rw [pairProgramEnd_job hr hj, hp, he]
  exact failSave_setPair p { s.pair p with out := false } s

theorem pairProgramEnd_word {n : Nat} (hp : j.phase = .word n) (he : e = false) : pairProgramEnd p e s =
    s.setPair p { s.pair p with
      out := false, job := some { j with phase := if n < j.image.length then .word (n + 1) else .status } } := by
  rw [pairProgramEnd_job hr hj, hp, he]
  rfl

theorem pairProgramEnd_status_old (hp : j.phase = .status) (ho : j.old ≠ none) : pairProgramEnd p e s =
    s.setPair p { s.pair p with out := false, job := some { j with phase := .obsolete, allOk := j.allOk && !e } } := by
  rw [pairProgramEnd_job hr hj, hp]
  exact if_pos (Option.isSome_iff_ne_none.mpr ho)

theorem pairProgramEnd_status_new (hp : j.phase = .status) (ho : j.old = none) : pairProgramEnd p e s =
    s.saved p j (j.allOk && !e) := by
  rw [pairProgramEnd_job hr hj, hp]
  refine (if_neg (by rw [ho]; nofun)).trans ?_
  exact finishSave_setPair { j with allOk := j.allOk && !e, phase := .obsolete } s

theorem pairProgramEnd_obsolete (hp : j.phase = .obsolete) : pairProgramEnd p e s = s.saved p j (j.allOk && !e) := by
  rw [pairProgramEnd_job hr hj, hp]
  exact finishSave_setPair { j with allOk := j.allOk && !e } s

end ProgramEnd

section EraseEnd
variable {outcome : Option EraseOutcome}

theorem pairEraseEnd_erased {j : SaveJob} (hj : (s.pair p).job = some j) : pairEraseEnd p (some .erased) s =
    s.setPair p { s.pair p with out := false, job := some { j with phase := .word 1 } } := by
  unfold pairEraseEnd
  dsimp only
  split
  · rename_i j' hj'
    cases hj'.symm.trans hj
    rfl
  · rename_i hnone
    cases hnone.symm.trans hj

theorem pairEraseEnd_failed {j : SaveJob} (hj : (s.pair p).job = some j) (ho : outcome ≠ some .erased) :
    pairEraseEnd p outcome s = report (.saveFailed p) (s.setPair p
      { s.pair p with out := false, state := .idle, job := none, ended := some false }) := by
  unfold pairEraseEnd
  dsimp only
  split
  · exact (if_neg ho).trans (failSave_setPair p { s.pair p with out := false } s)
  · rename_i hnone
    cases hnone.symm.trans hj

theorem pairEraseEnd_tidy (hj : (s.pair p).job = none) : pairEraseEnd p outcome s =
    beginHeld p (s.setPair p { s.pair p with out := false, tidy := none, state := .idle }) := by
  unfold pairEraseEnd
  dsimp only
  split
  · rename_i j' hj'
    cases hj'.symm.trans hj
  · rfl

end EraseEnd

end Save

/-! ### The recovery of a pair (R88) -/

section Recovery
variable {p : PairId} {s : State} {m : List (Nat × Word)} {k : Fin 8}

/-- A pair sector whose code is ACTIVE_OK. -/
def pairGood (m : List (Nat × Word)) (p : PairId) (k : Fin 8) : Prop :=
  sectorWord m k 0 = 0x00FF ∧ wordSum ((List.range (p.dataWords + 2)).map (fun i => sectorWord m k (i + 1))) = 0 ∧
    pairInRange m p k = true

theorem pairGood_iff : (decide (sectorWord m k 0 = statusActive) && pairCheck m p k) = true ↔ pairGood m p k := by
  rw [Bool.and_eq_true, decide_eq_true_eq, pairCheck, Bool.and_eq_true, beq_iff_eq]
  rfl

/-- What a pair chooses of its good sectors. -/
theorem pairChoice_eq (m : List (Nat × Word)) (p : PairId) [Decidable (pairGood m p p.low)] [Decidable (pairGood m p p.high)] :
    pairChoice m p =
    if pairGood m p p.low then
      if pairGood m p p.high then
        if newer (sectorWord m p.high 1) (sectorWord m p.low 1) then some p.high else some p.low
      else some p.low
    else if pairGood m p p.high then some p.high else none := by
  unfold pairChoice pairActives
  by_cases hl : pairGood m p p.low <;> by_cases hh : pairGood m p p.high
  · simp only [List.filter, pairGood_iff.mpr hl, pairGood_iff.mpr hh, hl, hh, if_true]
  · simp only [List.filter, pairGood_iff.mpr hl, Bool.eq_false_iff.mpr (mt pairGood_iff.mp hh), hl, hh, if_true, if_false]
  · simp only [List.filter, pairGood_iff.mpr hh, Bool.eq_false_iff.mpr (mt pairGood_iff.mp hl), hl, hh, if_true, if_false]
  · simp only [List.filter, Bool.eq_false_iff.mpr (mt pairGood_iff.mp hh), Bool.eq_false_iff.mpr (mt pairGood_iff.mp hl), hl,
      hh, if_false]

/-- The newer of two good sectors, or the only good one. -/
theorem pairChoice_chosen (hin : k = p.low ∨ k = p.high) (hgood : pairGood m p k)
    (hlow : k = p.low → pairGood m p p.high → ¬ newer (sectorWord m p.high 1) (sectorWord m p.low 1) = true)
    (hhigh : k = p.high → pairGood m p p.low → newer (sectorWord m p.high 1) (sectorWord m p.low 1) = true) :
    pairChoice m p = some k := by
  classical
  rw [pairChoice_eq]
  rcases hin with rfl | rfl
  · rw [if_pos hgood]
    split
    · next hh => exact if_neg (hlow rfl hh)
    · rfl
  · rw [if_pos hgood]
    split
    · next hl => exact if_pos (hhigh rfl hl)
    · rfl

theorem pairChoice_none (h : ∀ k, k = p.low ∨ k = p.high → ¬ pairGood m p k) : pairChoice m p = none := by
  classical
  rw [pairChoice_eq, if_neg (h _ (.inl rfl)), if_neg (h _ (.inr rfl))]

theorem mem_pairLosers {j : Fin 8} : j ∈ pairLosers m p ↔
    (j = p.low ∨ j = p.high) ∧ pairChoice m p ≠ some j ∧ sectorWord m j 0 = 0x00FF := by
  rw [pairLosers, List.mem_filter, Bool.and_eq_true, decide_eq_true_eq, decide_eq_true_eq, and_comm (b := _ ≠ _)]
  exact and_congr_left' (by simp)

/-- The save number of the sector that a pair takes. -/
def numberOf (m : List (Nat × Word)) : Option (Fin 8) → Word
  | some k => sectorWord m k 1
  | none => 0xFFFF

/-- The pair as the recovery leaves it, before a held save begins. -/
def State.recoveredPair (s : State) (p : PairId) (c : Option (Fin 8)) (rest : List (Fin 8)) : Pair :=
  { s.pair p with active := c, lastNumber := numberOf s.store.mem c, recovery := rest, recovered := rest.isEmpty }

theorem recoverPair_eq {c : Option (Fin 8)} (hc : pairChoice s.store.mem p = c) : recoverPair p s =
    if (pairLosers s.store.mem p).isEmpty then
      beginHeld p (s.setPair p (s.recoveredPair p c (pairLosers s.store.mem p)))
    else s.setPair p (s.recoveredPair p c (pairLosers s.store.mem p)) := by
  rw [← hc]
  unfold recoverPair State.recoveredPair numberOf
  rfl

/-- The pair takes its choice: the losers are to be made OBSOLETE before a held save begins. -/
theorem recoverPair_takes {c : Option (Fin 8)} (hc : pairChoice s.store.mem p = c) :
    ∃ rest : List (Fin 8),
      (∀ j : Fin 8, j ∈ rest ↔ (j = p.low ∨ j = p.high) ∧ c ≠ some j ∧ sectorWord s.store.mem j 0 = 0x00FF) ∧
      (rest ≠ [] ∨ (s.pair p).held = none → recoverPair p s = s.setPair p (s.recoveredPair p c rest)) ∧
      (∀ d, rest = [] → (s.pair p).held = some d →
        recoverPair p s = beginSave p d (s.setPair p { s.recoveredPair p c rest with held := none })) := by
  have heq := recoverPair_eq hc
  refine ⟨pairLosers s.store.mem p, fun j => by rw [mem_pairLosers, hc], fun h => ?_, fun d hd hheld => ?_⟩
  · rw [heq]
    split
    · next hempty =>
      have hnil := List.isEmpty_iff.mp hempty
      exact beginHeld_none (h.resolve_left (not_not.mpr hnil))
    · rfl
  · rw [heq, if_pos (List.isEmpty_iff.mpr hd)]
    exact beginHeld_some hheld

end Recovery

theorem recoverTrips_some {s : State} {k : Fin 8} (h : s.tripPair.active = some k) : recoverTrips s =
    { s with trip := { s.trip with
      records := (s.trip.records.set 0 (captureAt s.store.mem k).tripA).set 1 (captureAt s.store.mem k).tripB,
      savedCopy := some (captureAt s.store.mem k) } } := by
  unfold recoverTrips
  rw [h]

theorem recoverTrips_none {s : State} (h : s.tripPair.active = none) : recoverTrips s =
    { s with trip := { s.trip with
      records := (s.trip.records.set 0 .zero).set 1 .zero, savedCopy := none } } := by
  unfold recoverTrips
  rw [h]

theorem recoverRecords_get (s : State) (i : Fin 8) : (recoverRecords s).service.items[i] = { s.service.items[i] with
    record := match s.servicePair.active with | some k => recordAt s.store.mem k i.val | none => none } := by
  unfold recoverRecords
  cases s.servicePair.active with
  | none =>
    show (s.service.items.map _)[i.val] = _
    rw [Vector.getElem_map]
    rfl
  | some k =>
    show (s.service.items.mapFinIdx _)[i.val] = _
    rw [Vector.getElem_mapFinIdx]
    rfl

theorem PairId.low_eq (p : PairId) : (if p = .trip then (2 : Fin 8) else 4) = p.low := by
  cases p <;> rfl

theorem PairId.high_eq (p : PairId) : (if p = .trip then (3 : Fin 8) else 5) = p.high := by
  cases p <;> rfl

/-- Settles O28: the image, what a sector reads back, the steps of a save and their ends, and the recovery. -/
theorem pairDataReadBackAsSaved : Obligations.PairDataReadBackAsSaved := by
  refine ⟨fun number data => ⟨pairImage_sum number data, by simp [pairImage], rfl, by simp [pairImage]⟩,
    fun m k c ha hb h => ?_, fun m k records hr h => ?_, fun a b => ⟨newer_iff, newer_asymm⟩, fun p data s => ?_,
    fun p s => ?_, fun p s k rest hr => ⟨fun hout => pairPump_step (State.pairStep_recovery hout hr), fun e =>
      ⟨fun hne => ?_, fun hnil hheld => ?_, fun d hnil hheld => ?_⟩⟩,
    fun s => ⟨fun k => recoverTrips_some, recoverTrips_none, recoverRecords_get s⟩⟩
  · have hcapture := captureAt_words ha hb h
    refine ⟨hcapture, ?_⟩
    show ((captureAt m k).tripA.inRange && (captureAt m k).tripB.inRange) = true
    rw [hcapture, ha, hb]
    rfl
  · have hrecord (i : Fin 8) : recordAt m k i.val = records[i] := recordAt_words (hr i) fun t ht => by
      rw [h _ (by omega), getD_flatMap_three recordWords_length _ _ _ (by simp) ht]
      simp
    refine ⟨hrecord, List.all_eq_true.mpr fun i hi => ?_⟩
    have hi8 : i < 8 := List.mem_range.mp hi
    rw [hrecord ⟨i, hi8⟩]
    cases hx : records[(⟨i, hi8⟩ : Fin 8)] with
    | none => rfl
    | some x => exact decide_eq_true (hr ⟨i, hi8⟩ x.1 x.2 hx).1
  · intro low high x usable target failed known hknown
    have hlow : low = p.low := p.low_eq
    have hhigh : high = p.high := p.high_eq
    have hactive : x.active = none ∨ x.active = some p.low ∨ x.active = some p.high := by
      rw [← hlow, ← hhigh]
      exact hknown
    have htarget (k : Fin 8) : target k ↔ s.savesTo p k := by
      show _ ↔ s.savesTo p k
      unfold State.savesTo
      rw [← hlow, ← hhigh]
    refine ⟨requestSave_begins, requestSave_holds, fun k hk =>
      beginSave_some ((State.saveTarget_eq_some hactive).mpr ((htarget k).mp hk)), fun hl hh => ?_, fun j hr hj => ?_,
      fun hj hr => ⟨fun k hout ht =>
        pairPump_step ((State.pairStep_tidy hout hr hj ht).trans (by rw [show x.job = none from hj])), fun outcome => ?_⟩⟩
    · rw [htarget, hlow] at hl
      rw [htarget, hhigh] at hh
      exact beginSave_none (State.saveTarget_none hactive hl hh)
    · intro placed back finished
      refine ⟨pairPump_out, fun hout => ⟨fun hp he => pairPump_step (State.pairStep_erased hout hr hj hp he),
          fun hp he => pairPump_step (State.pairStep_erase hout hr hj hp he),
          fun n hp => pairPump_step (State.pairStep_word hout hr hj hp),
          fun hp => pairPump_step (State.pairStep_status hout hr hj hp),
          fun k hp ho => pairPump_step (State.pairStep_obsolete hout hr hj hp ho)⟩,
        fun e => ⟨fun n hp => ⟨pairProgramEnd_failed hr hj hp, fun he hn => ?_, fun he hn => ?_⟩,
          pairProgramEnd_status_old hr hj, pairProgramEnd_status_new hr hj, pairProgramEnd_obsolete hr hj⟩,
        pairEraseEnd_erased hj, fun outcome => pairEraseEnd_failed hj⟩
      · rw [pairProgramEnd_word hr hj hp he, if_pos hn]
      · rw [pairProgramEnd_word hr hj hp he, if_neg (Nat.not_lt.mpr hn)]
    · intro ended'
      rw [pairEraseEnd_tidy hj]
      exact ⟨fun hheld => beginHeld_none hheld, fun d hheld => beginHeld_some hheld⟩
  · intro low high x m length good higher chosen takes
    have hlow : low = p.low := p.low_eq
    have hhigh : high = p.high := p.high_eq
    have hlength : length = p.dataWords + 2 := by
      show (if p = .trip then 18 else 26) = _
      cases p <;> rfl
    have hgood (k : Fin 8) : good k ↔ (k = p.low ∨ k = p.high) ∧ pairGood m p k := by
      show (k = low ∨ k = high) ∧ _ ∧ wordSum ((List.range length).map _) = 0 ∧ _ ↔ _
      rw [hlow, hhigh, hlength]
      rfl
    have htakes (c : Option (Fin 8)) (hc : pairChoice m p = c) : takes c (numberOf m c) := by
      show ∃ rest : List (Fin 8), (∀ j : Fin 8, j ∈ rest ↔ (j = low ∨ j = high) ∧ _) ∧ _
      rw [hlow, hhigh]
      exact recoverPair_takes hc
    refine ⟨fun k hk => htakes (some k) ?_, fun hnone => htakes none (pairChoice_none fun k hin hk =>
      hnone k ((hgood k).mpr ⟨hin, hk⟩))⟩
    obtain ⟨hkgood, hkl, hkh⟩ := hk
    obtain ⟨hin, hkgood⟩ := (hgood k).mp hkgood
    have hhigher : higher ↔ newer (sectorWord m p.high 1) (sectorWord m p.low 1) = true := by
      show newer (sectorWord m high 1) (sectorWord m low 1) = true ↔ _
      rw [hlow, hhigh]
    refine pairChoice_chosen hin hkgood (fun hk hg => ?_) fun hk hg => ?_
    · rw [← hhigher]
      exact hkl (hk.trans hlow.symm) ((hgood _).mpr ⟨.inr hhigh, by rw [hhigh]; exact hg⟩)
    · rw [← hhigher]
      exact hkh (hk.trans hhigh.symm) ((hgood _).mpr ⟨.inl hlow, by rw [hlow]; exact hg⟩)
  · rw [pairProgramEnd_recovery hr]
    cases rest with
    | nil => exact absurd rfl hne
    | cons k rest => rfl
  · rw [pairProgramEnd_recovery hr, hnil]
    exact beginHeld_none hheld
  · rw [pairProgramEnd_recovery hr, hnil]
    exact beginHeld_some hheld

end Sys2Proof.Machine
end


section
/-! PROOF. What the end of the scan leaves to the loop and the handler (R186), and the scan's codes and the recovery of the
Odometer (R86, R87). -/

namespace Sys2Proof.Machine

/-! ### What follows within an event only appends frames -/

/-- The held start-up report stays, frames are only appended to the insert queue, no scan begins, and no press record
appears. -/
structure Appends (s t : State) : Prop where
  startUp : t.handler.startUp = s.handler.startUp
  frames : s.loop.insertQ <+: t.loop.insertQ
  scan : t.store.ctl = .scanning → s.store.ctl = .scanning
  press : s.display.press = none → t.display.press = none

section Appends
variable {s t : State}

/-- What `Appends` speaks of. -/
def State.appended (s : State) : Option (List ScanCode) × List Inserted × CtlState × Option Press :=
  (s.handler.startUp, s.loop.insertQ, s.store.ctl, s.display.press)

theorem Appends.of_parts (h : t.appended = s.appended) : Appends s t := by
  obtain ⟨hstart, hrest⟩ := Prod.mk.inj h
  obtain ⟨hframes, hrest⟩ := Prod.mk.inj hrest
  obtain ⟨hctl, hpress⟩ := Prod.mk.inj hrest
  exact ⟨hstart, by rw [hframes], by rw [hctl]; exact id, by rw [hpress]; exact id⟩

theorem Appends.refl (s : State) : Appends s s := .of_parts rfl

theorem Appends.trans {u : State} (h : Appends s t) (k : Appends t u) : Appends s u :=
  ⟨k.startUp.trans h.startUp, h.frames.trans k.frames, h.scan ∘ k.scan, k.press ∘ h.press⟩

/-- Behind a change of another block. -/
theorem Appends.behind {r : State} (k : Appends r t) (h : r.appended = s.appended) : Appends s t :=
  (Appends.of_parts h).trans k

theorem Appends.ite {p : Prop} [Decidable p] {u : State} (ht : Appends s t) (hu : Appends s u) :
    Appends s (if p then t else u) := by
  split
  · exact ht
  · exact hu

theorem Appends.foldl {α : Type} {f : State → α → State} (h : ∀ s a, Appends s (f s a)) (l : List α) (s : State) :
    Appends s (l.foldl f s) := by
  induction l generalizing s with
  | nil => exact .refl s
  | cons a l ih => exact (h s a).trans (ih _)

theorem report_appends (e : Event) (s : State) : Appends s (report e s) := by
  refine ⟨by rw [report_eq], ?_, by rw [report_store]; exact id, by rw [report_display]; exact id⟩
  rcases report_cases e s with ⟨_, h⟩ | ⟨_, _, h⟩ | ⟨_, _, _, h⟩ | ⟨_, _, _, first, rest, _, h⟩
  · rw [h]
  · rw [h]
  · rw [h]
  · rw [h]
    exact List.prefix_append _ _

/-! ### The warnings and the display -/

theorem rebuild_appends (s : State) : Appends s (rebuild s) := by
  rw [rebuild_only]
  exact .of_parts rfl

theorem checkShutdown_appends (s : State) : Appends s (checkShutdown s) := .ite (.of_parts rfl) (.refl s)

theorem State.noticed_press (ms : Nat) (mc : Option (Fin 64 × Bool)) (rear : Option (Fin 64)) (entered : Bool) (s : State)
    (h : s.display.press = none) : (s.noticed ms mc rear entered).press = none := by
  show (if entered then s.display.press.map Press.cancel else s.display.press) = none
  rw [h, Option.map_none, ite_self]

theorem Display.wake_press (d : Display) : d.wake.press = d.press := by
  unfold Display.wake
  split <;> rfl

theorem contentNotice_appends (mc : Option (Fin 64 × Bool)) (rear : Option (Fin 64)) (entered : Bool) (s : State) :
    Appends s (contentNotice mc rear entered s) := by
  have hset {d : Display} (hd : s.display.press = none → d.press = none) : Appends s { s with display := d } :=
    ⟨rfl, List.prefix_rfl, id, hd⟩
  have hshown {d : Display} (hd : s.display.press = none → d.press = none) :
      Appends s (checkShutdown (rebuild { s with display := d })) :=
    ((hset hd).trans (rebuild_appends _)).trans (checkShutdown_appends _)
  by_cases h : s.display.mcWarning ≠ mc ∨ s.display.rearWarning ≠ rear ∨ entered = true
  · rw [contentNotice_new h]
    refine hshown fun hpress => ?_
    split
    · exact (Display.wake_press _).trans (State.noticed_press s.idleMs mc rear entered s hpress)
    · exact State.noticed_press s.idleMs mc rear entered s hpress
  · obtain ⟨hmc, hrest⟩ := not_or.mp h
    obtain ⟨hrear, he⟩ := not_or.mp hrest
    rw [contentNotice_same (not_not.mp hmc) (not_not.mp hrear) (Bool.eq_false_iff.mpr he)]
    exact .refl s

theorem notifyDisplay_appends (entered : Bool) (s : State) : Appends s (notifyDisplay entered s) :=
  contentNotice_appends _ _ entered s

theorem changeState_appends (w : Fin 32) (new : WarnState) (cause : WarnCause) (s : State) :
    Appends s (changeState w new cause s) := (report_appends _ _).behind rfl

theorem requestChimes_appends (w : Fin 32) (s : State) : Appends s (requestChimes w s) := by
  unfold requestChimes
  dsimp only
  split
  · exact .of_parts rfl
  · split <;> exact .of_parts rfl

theorem presentWarning_appends (w : Fin 32) (s : State) : Appends s (presentWarning w s) :=
  (changeState_appends w .presented .present s).trans
    (((requestChimes_appends w _).trans (notifyDisplay_appends true _)).behind rfl)

theorem displaceWarning_appends (w : Fin 32) (s : State) : Appends s (displaceWarning w s) :=
  (changeState_appends w .pending .displaced s).trans (.of_parts rfl)

theorem select_appends (s : State) : Appends s (select s) := by
  unfold select
  split
  · exact notifyDisplay_appends false s
  · split
    · exact presentWarning_appends _ s
    · exact .ite ((displaceWarning_appends _ s).trans (presentWarning_appends _ _)) (notifyDisplay_appends false s)

theorem endWarning_appends (w : Fin 32) (cause : WarnCause) (s : State) : Appends s (endWarning w cause s) := by
  have hended : Appends s (releaseChimes w (stopTimers w (changeState w .idle cause s))) :=
    (changeState_appends w .idle cause s).trans (.of_parts rfl)
  exact .ite (hended.trans (select_appends _)) (hended.trans (notifyDisplay_appends false _))

theorem becameTrue_appends (w : Fin 32) (s : State) : Appends s (becameTrue w s) :=
  .ite ((changeState_appends w .pending .qualify s).trans (select_appends _)) (.refl s)

theorem becameFalse_appends (w : Fin 32) (s : State) : Appends s (becameFalse w s) := by
  have hended := endWarning_appends w .clear s
  unfold becameFalse
  dsimp only
  split
  · exact .refl s
  · exact .refl s
  · exact hended
  · exact hended
  · exact .refl s
  · exact hended

theorem setCondition_appends (w : Fin 32) (b : Bool) (s : State) : Appends s (setCondition w b s) :=
  .ite (.refl s) (.ite ((becameTrue_appends w _).behind rfl) ((becameFalse_appends w _).behind rfl))

theorem testGate_appends (w : Fin 32) (s : State) : Appends s (testGate w s) := by
  unfold testGate
  dsimp only
  split
  · refine .ite (.refl s) (.ite ((setCondition_appends w _ _).behind rfl) ?_)
    have hended (x : Warning) : Appends s (endWarning w .gate (s.setWarning w x)) :=
      (endWarning_appends w .gate _).behind rfl
    have hshut (x : Warning) : Appends s (s.setWarning w x) := .of_parts rfl
    split
    · exact hshut _
    · exact .ite (hshut _) (hended _)
    · exact .ite (hshut _) (hended _)
    · exact hended _
  · exact .refl s

theorem warnSubject_appends (kind : WarnKind) (subject : Nat) (w : Fin 32) (s : State) :
    Appends s (warnSubject kind subject w s) := by
  have htested := testGate_appends w s
  unfold warnSubject
  dsimp only
  split
  · exact .ite (.ite (htested.trans (setCondition_appends w _ _)) htested) (.refl s)
  · exact .refl s

theorem setSys_appends (k : SysCond) (b : Bool) (s : State) : Appends s (setSys k b s) := by
  refine .ite (.refl s) (Appends.behind (.foldl (fun t w => ?_) _ _) rfl)
  exact warnSubject_appends .system k.code w t

/-! ### The Service Reminder, the Trip Computer and the save pairs -/

theorem refreshStoreFault_appends (s : State) : Appends s (refreshStoreFault s) := setSys_appends _ _ s

theorem stageNotice_appends (s : State) : Appends s (stageNotice s) := by
  have hturned : Appends s { s with display :=
      if s.display.page = 6 ∧ s.mostUrgent = none then { s.display with page := 1 } else s.display } := by
    split <;> exact .of_parts rfl
  exact hturned.trans (rebuild_appends _)

theorem noteStage_appends (i : Fin 8) (old new : Stage) (s : State) : Appends s (noteStage i old new s) := by
  have hwarned (t : State) : Appends t (warnStage i t) := .foldl (fun u w => warnSubject_appends .service i.val w u) _ t
  exact .ite (.refl s) (((report_appends _ s).trans (hwarned _)).trans (stageNotice_appends _))

theorem evaluateItem_appends (i : Fin 8) (s : State) : Appends s (evaluateItem i s) :=
  .ite ((noteStage_appends i _ _ _).behind rfl) (.refl s)

theorem evaluateAll_appends (s : State) : Appends s (evaluateAll s) := .foldl (fun t i => evaluateItem_appends i t) _ s

theorem shownNotice_appends (s : State) : Appends s (shownNotice s) :=
  .ite (.refl s) ((evaluateAll_appends _).behind rfl)

theorem setPair_appends (p : PairId) (x : Pair) (s : State) : Appends s (s.setPair p x) := by
  cases p <;> exact .of_parts rfl

theorem failSave_appends (p : PairId) (s : State) : Appends s (failSave p s) :=
  (setPair_appends p _ s).trans (report_appends _ _)

theorem beginSave_appends (p : PairId) (data : List Word) (s : State) : Appends s (beginSave p data s) := by
  unfold beginSave
  dsimp only
  split
  · exact failSave_appends p s
  · exact setPair_appends p _ s

theorem requestSave_appends (p : PairId) (data : List Word) (s : State) : Appends s (requestSave p data s) :=
  .ite (beginSave_appends p data s) (setPair_appends p _ s)

theorem beginHeld_appends (p : PairId) (s : State) : Appends s (beginHeld p s) := by
  unfold beginHeld
  dsimp only
  split
  · exact (setPair_appends p _ s).trans (beginSave_appends p _ _)
  · exact .refl s

theorem pairEraseEnd_appends (p : PairId) (o : Option EraseOutcome) (s : State) : Appends s (pairEraseEnd p o s) := by
  have hset (x : Pair) := setPair_appends p x s
  have hheld (x : Pair) := (hset x).trans (beginHeld_appends p _)
  have hfailed (x : Pair) := (hset x).trans (failSave_appends p _)
  unfold pairEraseEnd
  dsimp only
  split
  · split
    · exact hset _
    · exact hfailed _
  · exact hheld _

theorem serviceSaveEnd_appends (ok : Bool) (s : State) : Appends s (serviceSaveEnd ok s) := by
  have hfault : Appends s (refreshStoreFault { s with service := { s.service with saveFault := !ok } }) :=
    (refreshStoreFault_appends _).behind rfl
  exact .ite (hfault.trans ((requestSave_appends _ _ _).behind rfl)) (hfault.trans (.of_parts rfl))

theorem tripSaveEnd_appends (ok : Bool) (s : State) : Appends s (tripSaveEnd ok s) := by
  have hfault (x : Trip) : Appends s (refreshStoreFault { s with trip := x }) :=
    (refreshStoreFault_appends _).behind rfl
  have hpending (t : State) (h : Appends s t) : Appends s (match t.trip.pendingCapture with
      | none => { t with trip := { t.trip with saving := false } }
      | some c =>
        let t2 := { t with trip := { t.trip with pendingCapture := none } }
        if t2.trip.savedCopy = some c then { t2 with trip := { t2.trip with saving := false } }
        else requestSave .trip c.words t2) := by
    refine h.trans ?_
    split
    · exact .of_parts rfl
    · exact .ite (.of_parts rfl) ((requestSave_appends _ _ _).behind rfl)
  exact hpending _ (hfault _)

/-! ### The Odometer and the answers -/

theorem setOdoFault_appends (b : Bool) (s : State) : Appends s (setOdoFault b s) :=
  .ite (.refl s) (((report_appends _ _).trans (setSys_appends _ _ _)).behind rfl)

theorem checkOdoFault_appends (s : State) : Appends s (checkOdoFault s) := .ite (setOdoFault_appends true s) (.refl s)

theorem holdResponse_appends (f : Frame) (s : State) : Appends s (holdResponse f s) := by
  by_cases h : s.handler.held = [] ∧ s.loop.insertQ.length < 8
  · rw [holdResponse_places h.1 h.2]
    exact ⟨rfl, List.prefix_append _ _, id, id⟩
  · rw [holdResponse_waits (by rw [← Nat.not_lt]; exact not_and_or.mp h)]
    exact .of_parts rfl

theorem answerSetting_appends (st : Status) (s : State) : Appends s (answerSetting st s) := by
  unfold answerSetting
  dsimp only
  split
  · exact .of_parts rfl
  · exact (holdResponse_appends _ _).behind rfl

theorem odometerEraseEnd_appends (os : List (Fin 8 × EraseOutcome)) (s : State) : Appends s (odometerEraseEnd os s) := by
  unfold odometerEraseEnd
  dsimp only
  split
  · exact (checkOdoFault_appends _).behind rfl
  · split
    · exact .of_parts rfl
    · exact (answerSetting_appends .failed _).behind rfl

theorem externalEraseEnd_appends (b : BitVec 8) (os : List (Fin 8 × EraseOutcome)) (s : State) :
    Appends s (externalEraseEnd b os s) := by
  unfold externalEraseEnd answerExternal
  split
  · dsimp only
    split
    · exact .of_parts rfl
    · exact (holdResponse_appends _ _).behind rfl
  · exact .refl s

/-! ### Settling -/

theorem settleOnce_appends (h : settleOnce s = some t) : Appends s t := by
  have hplaced (x : State) (c : StoreClass) (step : StoreStep) :
      Appends x { x with store := x.store.place c step } := ⟨rfl, List.prefix_rfl, Store.place_ctl, id⟩
  have hsave {p : PairId} (h : reportSave p s = some t) : Appends s t := by
    unfold reportSave at h
    split at h
    · cases h
    · cases h
      cases p
      · exact (setPair_appends _ _ s).trans (tripSaveEnd_appends _ _)
      · exact (setPair_appends _ _ s).trans (serviceSaveEnd_appends _ _)
  have hpair {p : PairId} (h : pairPump p s = some t) : Appends s t := by
    unfold pairPump at h
    split at h
    · cases h
    · cases h
      refine (setPair_appends p _ s).trans ⟨rfl, List.prefix_rfl, fun hc => ?_, id⟩
      cases p <;> exact Store.place_ctl hc
  unfold settleOnce at h
  rcases orElse_some h with h | h
  · exact hsave h
  rcases orElse_some h with h | h
  · exact hsave h
  rcases orElse_some h with h | h
  · unfold reportErase at h
    split at h
    · cases h
    · rename_i j _
      cases h
      refine Appends.trans (t := { s with store := s.store.dropStep j }) ⟨rfl, List.prefix_rfl, id, id⟩ ?_
      unfold classEraseEnd
      dsimp only
      split
      · exact odometerEraseEnd_appends _ _
      · exact pairEraseEnd_appends _ _ _
      · exact pairEraseEnd_appends _ _ _
      · exact externalEraseEnd_appends _ _ _
  rcases orElse_some h with h | h
  · rw [odometerPump_eq] at h
    obtain ⟨x, _, rfl⟩ := Option.map_eq_some_iff.mp h
    exact (hplaced { s with odometer := x.2 } _ _).behind rfl
  rcases orElse_some h with h | h
  · exact hpair h
  rcases orElse_some h with h | h
  · exact hpair h
  · obtain ⟨x, hx, rfl⟩ := Option.map_eq_some_iff.mp h
    exact ⟨rfl, List.prefix_rfl, fun hc => absurd hc (Store.take_ctl hx), id⟩

theorem settleFor_appends (n : Nat) (s : State) : Appends s (settleFor n s) := by
  induction n generalizing s with
  | zero => exact .refl s
  | succ n ih =>
    unfold settleFor
    split
    · exact (settleOnce_appends ‹_›).trans (ih _)
    · exact .refl s

/-- What follows within an event only appends frames. -/
theorem settle_appends (s : State) : Appends s (settle s) := settleFor_appends s.settleBound s

/-! ### The recoveries (R87, R88) -/

theorem recoverOdometer_appends (s : State) : Appends s (recoverOdometer s) := by
  unfold recoverOdometer
  dsimp only
  split
  · exact (shownNotice_appends _).behind rfl
  · exact ((shownNotice_appends _).trans (setOdoFault_appends true _)).behind rfl

theorem recoverPair_appends (p : PairId) (s : State) : Appends s (recoverPair p s) :=
  .ite ((setPair_appends p _ s).trans (beginHeld_appends p _)) (setPair_appends p _ s)

theorem recoverTrips_appends (s : State) : Appends s (recoverTrips s) := by
  unfold recoverTrips
  split <;> exact .of_parts rfl

theorem recoverRecords_appends (s : State) : Appends s (recoverRecords s) := by
  unfold recoverRecords
  split <;> exact .of_parts rfl

end Appends

/-! ### The values of the odometer sectors (R87) -/

section OdometerChoice
variable {m : List (Nat × Word)} {k : Fin 8}

theorem zeros_add_ones (w : Word) : (List.range 16).countP (fun j => !w.getLsbD j) = 16 - ones w := by
  have h := List.length_eq_countP_add_countP (fun j => w.getLsbD j) (l := List.range 16)
  simp only [List.length_range, Bool.not_eq_true, Bool.decide_eq_false] at h
  rw [ones_eq, onesBelow]
  omega

/-- The 0 bits of a field, counted word by word or bit by bit. -/
theorem foldl_zeros (word : Nat → Word) (n : Nat) :
    (List.range n).foldl (fun a i => a + (16 - ones (word i))) 0 =
      (List.range (16 * n)).countP (fun i => !(word (i / 16)).getLsbD (i % 16)) := by
  induction n with
  | zero => rfl
  | succ n ih =>
    have hlast : (List.range 16).countP ((fun i => !(word (i / 16)).getLsbD (i % 16)) ∘ fun j => 16 * n + j) =
        (List.range 16).countP (fun j => !(word n).getLsbD j) := by
      refine List.countP_congr fun j hj => ?_
      have hlt := List.mem_range.mp hj
      rw [Function.comp_apply, show (16 * n + j) / 16 = n by omega, show (16 * n + j) % 16 = j by omega]
    rw [List.range_succ, List.foldl_append, ih, Nat.mul_succ, List.range_add, List.countP_append, List.countP_map, hlast,
      zeros_add_ones]
    rfl

theorem clearedAt_eq : clearedAt m k =
    (List.range 448).countP (fun n => !(sectorWord m k (4 + n / 16)).getLsbD (n % 16)) := by
  refine (foldl_zeros (fun i => sectorWord m k (i + 4)) 28).trans ?_
  simp only [Nat.add_comm 4]

/-- An odometer sector whose code is ACTIVE_OK. -/
def odometerHolds (m : List (Nat × Word)) (k : Fin 8) : Prop :=
  sectorWord m k 0 = 0x00FF ∧ sectorWord m k 3 = ~~~(sectorWord m k 1 + sectorWord m k 2) ∧ baseAt m k ≤ 9999999

theorem odometerGood_iff : odometerGood m k = true ↔
    sectorWord m k 3 = ~~~(sectorWord m k 1 + sectorWord m k 2) ∧ baseAt m k ≤ 9999999 := by
  rw [odometerGood, Bool.and_eq_true, beq_iff_eq, decide_eq_true_eq]
  rfl

theorem odometerHolds_iff : (sectorWord m k 0 == statusActive && odometerGood m k) = true ↔ odometerHolds m k := by
  rw [Bool.and_eq_true, beq_iff_eq, odometerGood_iff]
  rfl

/-- Sector 1 is taken before sector 0. -/
def odometerSecond (m : List (Nat × Word)) : Prop :=
  valueAt m 0 < valueAt m 1 ∨ (valueAt m 0 = valueAt m 1 ∧ baseAt m 0 < baseAt m 1)

theorem odometerChoice_eq (m : List (Nat × Word)) [Decidable (odometerHolds m 0)] [Decidable (odometerHolds m 1)]
    [Decidable (odometerSecond m)] : odometerChoice m =
    if odometerHolds m 0 then
      if odometerHolds m 1 then if odometerSecond m then some 1 else some 0
      else some 0
    else if odometerHolds m 1 then some 1 else none := by
  have hsecond : (if valueAt m 0 < valueAt m 1 then some (1 : Fin 8)
      else if valueAt m 0 = valueAt m 1 ∧ baseAt m 0 < baseAt m 1 then some 1 else some 0) =
      if odometerSecond m then some 1 else some 0 := by
    unfold odometerSecond
    split
    · next h => exact (if_pos (.inl h)).symm
    · next h => simp only [h, false_or]
  unfold odometerChoice odometerActives
  by_cases h0 : odometerHolds m 0 <;> by_cases h1 : odometerHolds m 1
  · simp only [List.filter, odometerHolds_iff.mpr h0, odometerHolds_iff.mpr h1, h0, h1, if_true]
    exact hsecond
  · simp only [List.filter, odometerHolds_iff.mpr h0, Bool.eq_false_iff.mpr (mt odometerHolds_iff.mp h1), h0, h1, if_true,
      if_false]
  · simp only [List.filter, odometerHolds_iff.mpr h1, Bool.eq_false_iff.mpr (mt odometerHolds_iff.mp h0), h0, h1, if_true,
      if_false]
  · simp only [List.filter, Bool.eq_false_iff.mpr (mt odometerHolds_iff.mp h0),
      Bool.eq_false_iff.mpr (mt odometerHolds_iff.mp h1), h0, h1, if_false]

/-- The sector of the greatest value, then of the greater base, then sector 0. -/
theorem odometerChoice_chosen (hin : k = 0 ∨ k = 1) (hgood : odometerHolds m k)
    (hbest : ∀ j, j = 0 ∨ j = 1 → odometerHolds m j → j ≠ k → valueAt m j < valueAt m k ∨ (valueAt m j = valueAt m k ∧
      (baseAt m j < baseAt m k ∨ (baseAt m j = baseAt m k ∧ k = 0)))) : odometerChoice m = some k := by
  classical
  rw [odometerChoice_eq]
  rcases hin with rfl | rfl
  · rw [if_pos hgood]
    split
    · next h1 =>
      refine if_neg fun hsecond => ?_
      have h := hbest 1 (.inr rfl) h1 (by decide)
      unfold odometerSecond at hsecond
      omega
    · rfl
  · rw [if_pos hgood]
    split
    · next h0 =>
      refine if_pos ?_
      have h := hbest 0 (.inl rfl) h0 (by decide)
      unfold odometerSecond
      have hne : (1 : Fin 8) ≠ 0 := by decide
      simp only [hne, and_false, or_false] at h
      exact h
    · rfl

theorem odometerChoice_none (h : ∀ j : Fin 8, j = 0 ∨ j = 1 → ¬ odometerHolds m j) : odometerChoice m = none := by
  classical
  rw [odometerChoice_eq, if_neg (h _ (.inl rfl)), if_neg (h _ (.inr rfl))]

theorem mem_odometerLosers {c : Option (Fin 8)} {j : Fin 8} : j ∈ odometerLosers m c ↔
    j.val < 2 ∧ c ≠ some j ∧ sectorWord m j 0 = 0x00FF := by
  have hin : j ∈ ([0, 1] : List (Fin 8)) ↔ j.val < 2 := by
    revert j
    decide
  rw [odometerLosers, List.mem_filter, Bool.and_eq_true, beq_iff_eq, bne_iff_ne, hin, and_comm (b := c ≠ _)]
  rfl

end OdometerChoice

/-! ### The recovery of the Odometer (R87) -/

section RecoverOdometer
variable {s : State} {k : Fin 8}

/-- The Odometer as its recovery begins. -/
def State.odometerBegun (s : State) (c : Option (Fin 8)) : Odometer :=
  { s.odometer with recovery := odometerLosers s.store.mem c, rotation := none, residue := 0, pending := 0 }

theorem recoverOdometer_takes (hs : s.odometer.setting = none) (hk : odometerChoice s.store.mem = some k) :
    (recoverOdometer s).odometer =
      { s.odometerBegun (some k) with
        valid := true, active := k, stored := valueAt s.store.mem k, cleared := clearedAt s.store.mem k } := by
  simp only [recoverOdometer, hs, Option.isSome_none, Bool.false_eq_true, if_false, hk]
  rw [(shownNotice_apart _).odometer, State.odometerBegun, hs]

theorem recoverOdometer_invalid (h : s.odometer.setting ≠ none ∨ odometerChoice s.store.mem = none) :
    (recoverOdometer s).odometer = { s.odometerBegun none with valid := false, fault := true } := by
  have hc : (if s.odometer.setting.isSome then none else odometerChoice s.store.mem) = none := by
    rcases h with h | h
    · exact if_pos (Option.isSome_iff_ne_none.mpr h)
    · rw [h, ite_self]
  simp only [recoverOdometer, hc]
  rw [setOdoFault_odometer, (shownNotice_apart _).odometer]
  rfl

/-- What either recovery leaves. -/
theorem recoverOdometer_begun (s : State) : (recoverOdometer s).odometer.rotation = none ∧
    (recoverOdometer s).odometer.residue = 0 ∧ (recoverOdometer s).odometer.pending = 0 ∧
    (recoverOdometer s).odometer.setting = s.odometer.setting := by
  by_cases hs : s.odometer.setting = none
  · cases hk : odometerChoice s.store.mem with
    | none =>
      rw [recoverOdometer_invalid (.inr hk)]
      exact ⟨rfl, rfl, rfl, rfl⟩
    | some k =>
      rw [recoverOdometer_takes hs hk]
      exact ⟨rfl, rfl, rfl, rfl⟩
  · rw [recoverOdometer_invalid (.inl hs)]
    exact ⟨rfl, rfl, rfl, rfl⟩

end RecoverOdometer

/-! ### The codes of the scan (R86) -/

section ScanCodes
variable {m : List (Nat × Word)} {k : Fin 8}

theorem allErasedWords_iff : allErasedWords m k = true ↔ ∀ w, w < 32 → sectorWord m k w = 0xFFFF := by
  simp only [allErasedWords, List.all_eq_true, List.mem_range, decide_eq_true_eq]
  rfl

/-- The check of the sector's own pair. -/
def scanGood (m : List (Nat × Word)) (k : Fin 8) : Bool :=
  if k.val < 2 then odometerGood m k else if k.val < 4 then pairCheck m .trip k else pairCheck m .service k

theorem scanGood_iff : scanGood m k = true ↔
    if k.val < 2 then
      sectorWord m k 3 = ~~~(sectorWord m k 1 + sectorWord m k 2) ∧
        (sectorWord m k 1).toNat * 65536 + (sectorWord m k 2).toNat ≤ 9999999
    else if k.val < 4 then
      wordSum ((List.range 18).map (fun i => sectorWord m k (i + 1))) = 0 ∧ pairInRange m .trip k = true
    else wordSum ((List.range 26).map (fun i => sectorWord m k (i + 1))) = 0 ∧ pairInRange m .service k = true := by
  have hpair (p : PairId) : pairCheck m p k = true ↔
      wordSum ((List.range (p.dataWords + 2)).map (fun i => sectorWord m k (i + 1))) = 0 ∧ pairInRange m p k = true := by
    rw [pairCheck, Bool.and_eq_true, beq_iff_eq]
  unfold scanGood
  split
  · exact odometerGood_iff
  · split
    · exact hpair .trip
    · exact hpair .service

/-- The one code of a sector: open, or by what its words hold, an erased one first. -/
theorem scanCode_cases (m : List (Nat × Word)) (k : Fin 8) :
    (6 ≤ k.val → scanCode m k = .openSector) ∧
    (k.val < 6 → allErasedWords m k = true → scanCode m k = .erased) ∧
    (k.val < 6 → ¬ allErasedWords m k = true →
      (sectorWord m k 0 = 0x00FF → scanGood m k = true → scanCode m k = .activeOk) ∧
      (sectorWord m k 0 = 0x00FF → ¬ scanGood m k = true → scanCode m k = .checkFail) ∧
      (sectorWord m k 0 = 0x0000 → scanCode m k = .obsolete) ∧
      (sectorWord m k 0 ≠ 0x00FF → sectorWord m k 0 ≠ 0x0000 → scanCode m k = .corrupt)) := by
  have hcode : scanCode m k = if 6 ≤ k.val then .openSector else if allErasedWords m k then .erased
      else if sectorWord m k 0 = 0x00FF then (if scanGood m k then .activeOk else .checkFail)
      else if sectorWord m k 0 = 0x0000 then .obsolete else .corrupt := rfl
  refine ⟨fun h => if_pos h, fun h he => ?_, fun h he => ?_⟩
  · rw [hcode, if_neg (Nat.not_le.mpr h), if_pos he]
  · rw [hcode, if_neg (Nat.not_le.mpr h), if_neg he]
    refine ⟨fun h0 hg => ?_, fun h0 hg => ?_, fun h0 => ?_, fun h0 h1 => ?_⟩
    · rw [if_pos h0, if_pos hg]
    · rw [if_pos h0, if_neg hg]
    · rw [if_neg (by rw [h0]; decide), if_pos h0]
    · rw [if_neg h0, if_neg h1]

theorem scanCodes_get : (scanCodes m)[k.val]? = some (scanCode m k) := by
  unfold scanCodes
  rw [List.getElem?_map, List.getElem?_eq_getElem (by simp)]
  simp

end ScanCodes

/-! ### The end of the scan -/

section ScanEnd
variable {s : State}

/-- The state at the end of the scan, with its report held. -/
def State.scanned (s : State) : State :=
  { s with store := { s.store with ctl := .ready, flags := scanFlags s.store.mem s.store.flags },
           handler := { s.handler with startUp := some (scanCodes s.store.mem) } }

/-- The recoveries of the scan's end, in their order. -/
def State.scanRecovered (u : State) : State :=
  recoverRecords (recoverPair .service (recoverTrips (recoverPair .trip (recoverOdometer u))))

theorem scanComplete_scanned (h : s.store.ctl = .scanning) :
    scanComplete s = settle (buildStartUp s.scanned).scanRecovered := if_pos h

/-- Placing the start-up report changes the handler and the loop only. -/
theorem buildStartUp_scanned (s : State) :
    ∃ h l, buildStartUp s.scanned = { s with store := s.scanned.store, handler := h, loop := l } := by
  by_cases hroom : s.loop.insertQ.length < 6
  · exact ⟨_, _, buildStartUp_places (s := s.scanned) rfl hroom⟩
  · exact ⟨_, _, buildStartUp_waits (s := s.scanned) (.inr (Nat.le_of_not_lt hroom))⟩

theorem scanRecovered_appends (u : State) : Appends u u.scanRecovered :=
  (recoverOdometer_appends u).trans ((recoverPair_appends .trip _).trans ((recoverTrips_appends _).trans
    ((recoverPair_appends .service _).trans (recoverRecords_appends _))))

theorem recoverOdometer_kept (s : State) : Kept s (recoverOdometer s) := by
  unfold recoverOdometer
  dsimp only
  split
  · exact (kept_odometer _ s).trans (shownNotice_kept _)
  · exact ((kept_odometer _ s).trans (shownNotice_kept _)).trans (setOdoFault_kept true _)

theorem recoverPair_kept (p : PairId) (s : State) : Kept s (recoverPair p s) := by
  unfold recoverPair
  dsimp only
  split
  · exact (kept_setPair p _ s).trans (beginHeld_kept p _)
  · exact kept_setPair p _ s

theorem scanRecovered_kept (u : State) : Kept u u.scanRecovered := by
  have htrips (s : State) : Kept s (recoverTrips s) := by
    unfold recoverTrips
    split <;> exact kept_trip _ s
  have hrecords (s : State) : Kept s (recoverRecords s) := by
    unfold recoverRecords
    split <;> exact kept_service _ s
  exact (recoverOdometer_kept u).trans ((recoverPair_kept .trip _).trans ((htrips _).trans
    ((recoverPair_kept .service _).trans (hrecords _))))

end ScanEnd

/-- Settles O23: the report as it is placed or held, through recoveries and settling, which change no word and only append
frames; the codes by their cases; the Odometer by its choice. -/
theorem scanGivesOneCodePerSector : Obligations.ScanGivesOneCodePerSector := by
  refine ⟨fun s hp hscan => ?_, fun s => ?_⟩
  · have hrun : exec .scanComplete s = .next (scanComplete s) := live_powered scanComplete s hp
    let u := buildStartUp s.scanned
    have ht : scanComplete s = settle u.scanRecovered := scanComplete_scanned hscan
    have hkept : Kept u (scanComplete s) := by
      rw [ht]
      exact (scanRecovered_kept u).trans (settle_kept _)
    have happends : Appends u (scanComplete s) := by
      rw [ht]
      exact (scanRecovered_appends u).trans (settle_appends _)
    obtain ⟨handler, loop, hreport⟩ := buildStartUp_scanned s
    have hu : u = { s with store := s.scanned.store, handler := u.handler, loop := u.loop } := by
      show buildStartUp s.scanned = { s with
        store := s.scanned.store, handler := (buildStartUp s.scanned).handler, loop := (buildStartUp s.scanned).loop }
      rw [hreport]
    have hstore : u.store = s.scanned.store := by rw [hu]
    refine ⟨scanComplete s, u, scanCodes s.store.mem, hrun, by simp [scanCodes], fun hc => ?_, ?_, ?_, ?_, ?_, ht, ?_,
      fun hroom => ?_, fun hfull => ?_, fun k => ?_⟩
    · have := happends.scan hc
      rw [hstore] at this
      cases this
    · rw [hkept.mem, hstore]
      rfl
    · rw [hkept.key, hu]
    · rw [hkept.channels, hu]
    · rw [hkept.curves, hu]
    · rw [hstore]
      exact hu
    · have hplaced : u = placeEvent (startUpPayload (scanCodes s.store.mem))
          { s.scanned with handler := { s.scanned.handler with startUp := none } } :=
        buildStartUp_places (s := s.scanned) rfl hroom
      refine ⟨by rw [happends.startUp, hplaced]; rfl, ?_, ?_⟩
      · rw [hplaced]
        cases h : s.handler.eventsLost <;> simp [State.scanned, startUpPayload, encBool, h]
      · obtain ⟨more, hmore⟩ := happends.frames
        exact ⟨more, hmore.symm⟩
    · have hheld : u = s.scanned := buildStartUp_waits (s := s.scanned) (.inr hfull)
      rw [happends.startUp, hheld]
      rfl
    · intro m code erased good
      obtain ⟨hopen, herased, helse⟩ := scanCode_cases m k
      have hcode : code = some (scanCode m k) := scanCodes_get
      have he : allErasedWords m k = true ↔ erased := allErasedWords_iff
      have hg : scanGood m k = true ↔ good := scanGood_iff
      have hnot {v : Word} (hv : v ≠ 0xFFFF) (h0 : sectorWord m k 0 = v) : ¬ allErasedWords m k = true := fun h =>
        hv (h0.symm.trans (he.mp h 0 (by decide)))
      have hactive := hnot (v := 0x00FF) (by decide)
      rw [hcode]
      refine ⟨?_, fun h => congrArg some (hopen h), fun h hall => congrArg some (herased h (he.mpr hall)),
        fun h h0 hgood => congrArg some ((helse h (hactive h0)).1 h0 (hg.mpr hgood)),
        fun h h0 hbad => congrArg some ((helse h (hactive h0)).2.1 h0 (mt hg.mp hbad)),
        fun h h0 => congrArg some ((helse h (hnot (by decide) h0)).2.2.1 h0),
        fun h hall h0 h1 => congrArg some ((helse h (mt he.mp hall)).2.2.2 h0 h1)⟩
      rw [← he, State.sector, hstore]
      simp only [State.scanned, scanFlags, Fin.getElem_fin, Vector.getElem_mapFinIdx]
      exact Iff.rfl
  · intro m base zeros value good chosen o
    obtain ⟨hrotation, hresidue, hpending, hsetting⟩ := recoverOdometer_begun s
    have hzeros (k : Fin 8) : clearedAt m k = zeros k := clearedAt_eq
    have hvalue (k : Fin 8) : valueAt m k = value k := by
      rw [valueAt, hzeros]
      rfl
    have htwo {k : Fin 8} : k.val < 2 ↔ k = 0 ∨ k = 1 := by
      revert k
      decide
    have hgood (k : Fin 8) (hk : k = 0 ∨ k = 1) : odometerHolds m k ↔ good k :=
      ⟨fun h => ⟨htwo.mpr hk, h⟩, fun h => h.2⟩
    refine ⟨hrotation, hresidue, hpending, hsetting, fun k hs hk => ?_, fun h => ?_⟩
    · have hchoice : odometerChoice m = some k := by
        refine odometerChoice_chosen (htwo.mp hk.1.1) hk.1.2 fun j hj hjgood hne => ?_
        rw [hvalue, hvalue]
        exact hk.2 j ((hgood j hj).mp hjgood) hne
      have ho : o = _ := recoverOdometer_takes hs hchoice
      rw [ho]
      refine ⟨rfl, rfl, hvalue k, hzeros k, rfl, fun j => mem_odometerLosers.trans ?_⟩
      rw [ne_eq, Option.some.injEq, eq_comm]
    · have hnone : s.odometer.setting ≠ none ∨ odometerChoice m = none :=
        h.imp id fun h => odometerChoice_none fun j hj hholds => h j ((hgood j hj).mp hholds)
      have ho : o = _ := recoverOdometer_invalid hnone
      rw [ho]
      refine ⟨rfl, rfl, fun j => mem_odometerLosers.trans ?_⟩
      simp only [ne_eq, reduceCtorEq, not_false_eq_true, true_and]
      exact Iff.rfl

end Sys2Proof.Machine
end


section
/-! PROOF. The delivery of a notice and the silent channel (R6, R19, R20), and the take of a tapped frame (R10, R11, R16,
R18). -/

namespace Sys2Proof.Machine

/-! ### A delivery changes no channel, curve, word, key or clock field (R20) -/

/-- Channels, curves, words, key and clock stay, and the Loop Port but for its insert queue and the overrun flag. -/
structure TableKept (s t : State) : Prop where
  channels : t.channels = s.channels
  curves : t.curves = s.curves
  mem : t.store.mem = s.store.mem
  key : t.key = s.key
  loop : t.loop = { s.loop with overrun := t.loop.overrun, insertQ := t.loop.insertQ }

section Tables
variable {s t : State}

theorem Kept.tables (h : Kept s t) : TableKept s t := ⟨h.channels, h.curves, h.mem, h.key, h.loop⟩

theorem WarnFrame.tables (h : WarnFrame s t) : TableKept s t := h.kept.tables

theorem TableKept.refl (s : State) : TableKept s s := ⟨rfl, rfl, rfl, rfl, rfl⟩

theorem TableKept.trans {u : State} (h : TableKept s t) (k : TableKept t u) : TableKept s u where
  channels := k.channels.trans h.channels
  curves := k.curves.trans h.curves
  mem := k.mem.trans h.mem
  key := k.key.trans h.key
  loop := by
    refine k.loop.trans ?_
    rw [h.loop]

theorem TableKept.ite {p : Prop} [Decidable p] {u : State} (ht : TableKept s t) (hu : TableKept s u) :
    TableKept s (if p then t else u) := by
  split
  · exact ht
  · exact hu

theorem TableKept.foldl {α : Type} {f : State → α → State} (h : ∀ s a, TableKept s (f s a)) (l : List α) (s : State) :
    TableKept s (l.foldl f s) := by
  induction l generalizing s with
  | nil => exact .refl s
  | cons a l ih => exact (h s a).trans (ih _)

/-- A change of the warnings, the chimes or the display. -/
theorem tables_shown (w : Warnings) (c : Chime) (d : Display) (s : State) :
    TableKept s { s with warnings := w, chime := c, display := d } := ⟨rfl, rfl, rfl, rfl, rfl⟩

theorem acknowledge_tables (w : Fin 32) (s : State) : TableKept s (acknowledge w s) := by
  have hleft (new : WarnState) : TableKept s (stopTimers w (changeState w new .acknowledge s)) :=
    ((changeState_frame w new .acknowledge s).trans (stopTimers_frame w _)).tables
  have hacknowledged : TableKept s (toAcknowledged w .acknowledge s) :=
    ((hleft .acknowledged).trans (tables_shown _ _ _ _)).trans (releaseChimes_frame w _).tables
  have hended : TableKept s (releaseChimes w (stopTimers w (changeState w .idle .acknowledge s))) :=
    (hleft .idle).trans (releaseChimes_frame w _).tables
  have hends := TableKept.ite (p := (s.warnings.entries[w]).holds = true) hacknowledged hended
  exact (TableKept.ite (hends.trans (tables_shown _ _ _ _)) hends).trans (select_frame _).tables

theorem buttonNotice_tables (n : Notice) (s : State) : TableKept s (buttonNotice n s) := by
  have hshown (d : Display) : TableKept s { s with display := d } := tables_shown s.warnings s.chime d s
  have hpress : TableKept s (pressEdge s) := by
    unfold pressEdge
    split
    · exact acknowledge_tables _ s
    · exact .ite (hshown _) (hshown _)
  have hrelease : TableKept s (releaseEdge s) := by
    unfold releaseEdge
    dsimp only
    split
    · exact .refl s
    · exact .ite ((hshown _).trans (rebuild_frame _).tables) (hshown _)
  unfold buttonNotice
  split
  · exact hpress
  · exact hrelease
  · exact .refl s
  · exact .refl s
  · exact .refl s
  · exact hshown _

theorem displayNotice_tables (c : Fin 48) (n : Notice) (s : State) : TableKept s (displayNotice c n s) := by
  have hbutton := fun p [Decidable p] => TableKept.ite (p := p) (buttonNotice_tables n s) (.refl s)
  unfold displayNotice
  split
  · exact .refl s
  · exact .ite ((hbutton _).trans (rebuild_frame _).tables) (hbutton _)

theorem chimeNotice_tables (c : Fin 48) (n : Notice) (s : State) : TableKept s (chimeNotice c n s) := by
  unfold chimeNotice
  split
  · split <;> exact tables_shown _ _ _ s
  · exact .refl s

theorem deliver_tables (c : Fin 48) (n : Notice) (s : State) : TableKept s (deliver c n s) := by
  have hwarned := (kept_gauges (gaugeNotice c n s).gauges s).tables.trans (warnChannel_frame c n (gaugeNotice c n s)).tables
  have htrip := (hwarned.trans (tripNotice_kept c n _).tables).trans (settle_kept _).tables
  exact (htrip.trans (displayNotice_tables c n _)).trans (chimeNotice_tables c n _)

end Tables

/-! ### The users of a notice (R20) -/

section Users
variable {c : Fin 48} {n : Notice} {s : State}

theorem WarnCondition.channel_eq_some_iff {k : WarnCondition} :
    k.channel = some c ↔ k.kind ≠ .service ∧ k.kind ≠ .system ∧ k.subject = c.val := by
  have hsubject : fin? 48 k.subject = some c ↔ k.subject = c.val := by
    refine ⟨fun h => ?_, fun h => fin?_some c h⟩
    unfold fin? at h
    split at h
    · cases h
      rfl
    · cases h
  unfold WarnCondition.channel
  cases k.kind <;> simp [hsubject]

/-- What one warning takes of a channel's notice, as its entry stands. -/
def warnTakes (c : Fin 48) (n : Notice) (t : State) (w : Fin 32) : State :=
  let e := t.warnings.entries[w]
  match e.enabled, e.condition with
  | true, some k => if k.channel = some c then warnNotice n w t else t
  | _, _ => t

theorem warnTakes_watching {w : Fin 32} {k : WarnCondition} (he : (s.warnings.entries[w]).enabled = true)
    (hk : (s.warnings.entries[w]).condition = some k) (hc : k.channel = some c) : warnTakes c n s w = warnNotice n w s := by
  simp only [warnTakes, he, hk]
  exact if_pos hc

theorem warnTakes_other {w : Fin 32} (h : ¬ ((s.warnings.entries[w]).enabled = true ∧
    ∃ k, (s.warnings.entries[w]).condition = some k ∧ k.channel = some c)) : warnTakes c n s w = s := by
  unfold warnTakes
  dsimp only
  split
  · next k he hk => exact if_neg fun hc => h ⟨he, k, hk, hc⟩
  · rfl

theorem warnChannel_eq : warnChannel c n s = (List.finRange 32).foldl (warnTakes c n) s := rfl

theorem gaugeNotice_get (g : Fin 6) : (gaugeNotice c n s).gauges[g] =
    if (s.gauges[g]).enabled = true ∧ (s.gauges[g]).setup.source = c then s.gaugeTakes s.gauges[g] n else s.gauges[g] := by
  unfold gaugeNotice forGauges
  simp only [Fin.getElem_fin, Vector.getElem_map, Bool.and_eq_true, decide_eq_true_eq]

theorem chimeNotice_edge {level up seeded : Bool} (hw : s.chime.setup.written = true)
    (hc : s.chime.setup.tickChannel = some c) :
    chimeNotice c (.sample (.discrete level (some up)) seeded) s = { s with chime := s.chime.tick } := if_pos ⟨hw, hc⟩

theorem chimeNotice_other (h : ¬ (s.chime.setup.written = true ∧ s.chime.setup.tickChannel = some c ∧
    ∃ level up seeded, n = .sample (.discrete level (some up)) seeded)) : chimeNotice c n s = s := by
  unfold chimeNotice
  split
  · next hc =>
    split
    · exact absurd ⟨hc.1, hc.2, _, _, _, rfl⟩ h
    · rfl
  · rfl

theorem setChannel_other {d : Fin 48} (x : Channel) (h : d ≠ c) : (s.setChannel c x).channels[d] = s.channels[d] :=
  Vector.getElem_set_ne c.isLt d.isLt fun hc => h (Fin.ext hc.symm)

/-- A delivery after a change of one channel's entry. -/
theorem deliver_setChannel (n : Notice) (x : Channel) (s : State) :
    let t := deliver c n (s.setChannel c x)
    t.channels[c] = x ∧ (∀ d : Fin 48, d ≠ c → t.channels[d] = s.channels[d]) ∧ t.curves = s.curves ∧
      t.store.mem = s.store.mem ∧ t.key = s.key := by
  intro t
  have h : TableKept (s.setChannel c x) t := deliver_tables c n _
  refine ⟨?_, fun d hd => ?_, h.curves, h.mem, h.key⟩
  · rw [h.channels]
    exact Vector.getElem_set_self c.isLt
  · rw [h.channels]
    exact setChannel_other x hd

end Users

/-- Settles O3: each user of a notice by its own function, and the two silent ends over the frame of a delivery. -/
theorem silentChannelTellsItsUsers : Obligations.SilentChannelTellsItsUsers := by
  refine ⟨fun c n s => ⟨rfl, ⟨(gaugeNotice c n s).gauges, rfl, fun g => ?_⟩,
    ⟨warnTakes c n, fun t w => ?_, warnChannel_eq⟩, fun h => ?_, fun t ht => ?_, fun h => ?_, fun f hf => ?_, ?_⟩,
    fun c s => ⟨fun h ch ht => ?_, fun hp ht => ?_⟩⟩
  · rw [gaugeNotice_get]
    exact ⟨fun he hs => if_pos ⟨he, hs⟩, fun h => if_neg fun hb => h.elim (Bool.eq_false_iff.mp · hb.1) (· hb.2)⟩
  · have hwatches : (∃ k, (t.warnings.entries[w]).condition = some k ∧ k.channel = some c) ↔
        ∃ k, (t.warnings.entries[w]).condition = some k ∧ k.kind ≠ .service ∧ k.kind ≠ .system ∧ k.subject = c.val :=
      exists_congr fun k => and_congr_right fun _ => WarnCondition.channel_eq_some_iff
    refine ⟨fun h => ?_, fun h => warnTakes_other (by rw [hwatches]; exact h)⟩
    obtain ⟨k, hk, hc⟩ := hwatches.mpr h.2
    exact warnTakes_watching h.1 hk hc
  · simp only [tripNotice, h]
  · simp only [tripNotice, ht]
  · simp only [displayNotice, h]
  · simp only [displayNotice, hf]
  · refine ⟨fun hedge => ?_, chimeNotice_other⟩
    obtain ⟨hw, hc, level, up, seeded, rfl⟩ := hedge
    exact chimeNotice_edge hw hc
  · have hrun : exec (.disableChannel h ch) s = .next (respond h 0x12 false (reqDisableChannel ch s)) :=
      exec_taken nofun rfl ht
    refine ⟨fun hch => taken_refused hrun (by rw [reqDisableChannel, fin?_none hch]), fun hch he => ?_, fun hch he => ?_⟩
    · refine taken_done hrun ?_
      simp only [reqDisableChannel, fin?_some c hch]
      exact if_neg (Bool.eq_false_iff.mp he)
    · obtain ⟨_, hother, hcurves, hmem, hkey⟩ :=
        deliver_setChannel (c := c) .stale { (s.channels[c]).never with enabled := false } s
      refine ⟨(s.channels[c]).candLevel, _, rfl, taken_done hrun ?_, hother, hcurves, hmem, hkey⟩
      simp only [reqDisableChannel, fin?_some c hch]
      exact if_pos he
  · have hrun : exec (.freshnessExpiry c) s = .next (freshnessExpiry c s) := live_powered (freshnessExpiry c) s hp
    obtain ⟨ms, hms⟩ := Option.isSome_iff_exists.mp ht
    have hexpired : freshnessExpiry c s = deliver c .stale (s.setChannel c { s.channels[c] with state := .stale, timer := none }) := by
      simp only [freshnessExpiry, hms]
    exact ⟨_, hrun.trans (congrArg Host.Outcome.next hexpired), rfl, deliver_setChannel .stale _ s⟩

/-! ### The field and the sample of a frame (R11, R16 to R18) -/

section Field
variable {f : ChanSetup} {p : List Byte}

theorem rawField_beyond (h : p.length ≤ f.offset ∨
    (f.kind = .analogU16 ∨ f.kind = .analogS16 ∨ f.kind = .rolling) ∧ p.length ≤ f.offset + 1) : rawField f p = none := by
  unfold rawField
  rcases h with h | ⟨hkind, h⟩
  · have hnone : p[f.offset]? = none := List.getElem?_eq_none h
    cases f.kind <;> simp only [hnone, Option.map_none]
  · have hnone : p[f.offset + 1]? = none := List.getElem?_eq_none h
    rcases hkind with hk | hk | hk <;> simp only [hk, hnone] <;> cases p[f.offset]? <;> rfl

theorem byte_toInt (b : Byte) : b.toInt = if b.toNat < 128 then (b.toNat : Int) else (b.toNat : Int) - 256 := by
  rw [BitVec.toInt_eq_toNat_cond]
  have := b.isLt
  split <;> split <;> omega

theorem word_toInt (a b : Byte) : (BitVec.ofNat 16 (a.toNat * 256 + b.toNat)).toInt =
    if (256 * a.toNat + b.toNat : Int) < 32768 then (256 * a.toNat + b.toNat : Int)
    else (256 * a.toNat + b.toNat : Int) - 65536 := by
  have ha := a.isLt
  have hb := b.isLt
  have hsmall : (a.toNat * 256 + b.toNat) % 2 ^ 16 = a.toNat * 256 + b.toNat := Nat.mod_eq_of_lt (by omega)
  rw [BitVec.toInt_eq_toNat_cond, BitVec.toNat_ofNat, hsmall]
  split <;> split <;> omega

end Field

/-- A DISCRETE sample's entry, but for the value and the count of the debounce. -/
theorem sampleDiscrete_entry (f : ChanSetup) (b : Bool) (ch : Channel) : (sampleDiscrete f b ch).1 =
    { ch with state := .fresh, value := (sampleDiscrete f b ch).1.value, candLevel := b,
              candCount := (sampleDiscrete f b ch).1.candCount, timer := freshTimer f } := by
  unfold sampleDiscrete
  dsimp only
  generalize (if b = true then (1 : Int) else 0) = level
  split
  · split
    · rfl
    · split <;> rfl
  · rfl

/-! ### The take (R10) -/

section Take
variable {s : State} {fr : Frame} {ch : Channel}

/-- A channel takes a sample of a frame: it references the frame and its field lies within the payload. -/
def Channel.takesSample (ch : Channel) (fr : Frame) (f : ChanSetup) (x : Int) : Prop :=
  ch.enabled = true ∧ ch.setup = some f ∧ f.tag = fr.getD 0 0 ∧ (f.origin = none ∨ f.origin = some (frameOrigin fr)) ∧
    rawField f (framePayload fr) = some x

theorem State.updateFrom_takes {f : ChanSetup} {x : Int} (h : ch.takesSample fr f x) :
    s.updateFrom fr ch = some ((s.sampleOf f x ch).1, .sample (s.sampleOf f x ch).2 (decide (ch.state ≠ .fresh))) := by
  obtain ⟨he, hf, htag, horigin, hx⟩ := h
  have hr : ch.references fr = true := (ch.references_iff fr).mpr ⟨he, f, hf, htag, horigin⟩
  have hseeded : (ch.state != .fresh) = decide (ch.state ≠ .fresh) := by cases ch.state <;> rfl
  simp only [State.updateFrom, hf, hr, if_true, hx, Option.map_some, hseeded]

theorem State.updateFrom_none (h : ∀ f x, ¬ ch.takesSample fr f x) : s.updateFrom fr ch = none := by
  unfold State.updateFrom
  split
  · rfl
  · next f hf =>
    split
    · next hr =>
      obtain ⟨he, g, hg, htag, horigin⟩ := (ch.references_iff fr).mp hr
      cases hf.symm.trans hg
      cases hx : rawField f (framePayload fr) with
      | none => rfl
      | some x => exact absurd ⟨he, hf, htag, horigin, hx⟩ (h f x)
    · rfl

theorem State.updateFrom_cases (s : State) (fr : Frame) (ch : Channel) :
    (∃ f x, ch.takesSample fr f x) ∨ s.updateFrom fr ch = none := by
  by_cases h : ∃ f x, ch.takesSample fr f x
  · exact .inl h
  · exact .inr (State.updateFrom_none fun f x hx => h ⟨f, x, hx⟩)

theorem State.mem_noticesOf {c : Fin 48} {n : Notice} : (c, n) ∈ s.noticesOf fr ↔
    ∃ f x, (s.channels[c]).takesSample fr f x ∧
      n = .sample (s.sampleOf f x s.channels[c]).2 (decide ((s.channels[c]).state ≠ .fresh)) := by
  unfold State.noticesOf
  simp only [List.mem_filterMap, List.mem_finRange, true_and, Option.map_eq_some_iff, Prod.mk.injEq]
  constructor
  · rintro ⟨i, r, hr, rfl, rfl⟩
    rcases s.updateFrom_cases fr s.channels[i] with ⟨f, x, hx⟩ | hnone
    · rw [State.updateFrom_takes hx] at hr
      cases hr
      exact ⟨f, x, hx, rfl⟩
    · rw [hnone] at hr
      cases hr
  · rintro ⟨f, x, hx, rfl⟩
    exact ⟨c, _, State.updateFrom_takes hx, rfl, rfl⟩

theorem State.noticesOf_sorted (s : State) (fr : Frame) : (s.noticesOf fr).Pairwise (fun m n => m.1.val < n.1.val) := by
  refine List.Pairwise.filterMap _ (fun i j hij m hm n hn => ?_) (List.pairwise_lt_finRange 48)
  obtain ⟨_, _, rfl⟩ := Option.map_eq_some_iff.mp hm
  obtain ⟨_, _, rfl⟩ := Option.map_eq_some_iff.mp hn
  exact hij

theorem updateStage_takes {c : Fin 48} {r : Channel × Notice} (h : s.updateFrom fr s.channels[c] = some r) :
    (updateStage fr s).channels[c] = r.1 := by
  simp only [Fin.getElem_fin] at h
  simp only [updateStage, Fin.getElem_fin, Vector.getElem_map, h]

theorem updateStage_other {c : Fin 48} (h : s.updateFrom fr s.channels[c] = none) :
    (updateStage fr s).channels[c] = s.channels[c] := by
  simp only [Fin.getElem_fin] at h
  simp only [updateStage, Fin.getElem_fin, Vector.getElem_map, h]

theorem LoopPort.holdTake_queues (l : LoopPort) :
    l.holdTake.tapQ = l.tapQ ∧ l.holdTake.forwardQ = l.forwardQ ∧ l.holdTake.requestQ = l.requestQ := by
  unfold LoopPort.holdTake LoopPort.releaseNow
  dsimp only
  split <;> split <;> exact ⟨rfl, rfl, rfl⟩

end Take

/-- Settles O7: the field and the sample by the kind, the update stage channel by channel, and the notices, whose
deliveries change no channel. -/
theorem takeSamplesEveryReferencingChannel : Obligations.TakeSamplesEveryReferencingChannel := by
  refine ⟨fun f p => ⟨rawField_beyond, fun a ha => ⟨fun hk => ?_, fun hk => ?_, fun hk => ?_,
      fun b hb => ⟨fun hk => ?_, fun hk => ?_⟩⟩⟩, fun s f x ch => ⟨fun hk => ?_, fun hk => ?_, fun hk => ?_⟩, fun s fr rest hp hq => ?_⟩
  · simp only [rawField, hk, ha, Option.map_some]
  · simp only [rawField, hk, ha, Option.map_some, byte_toInt]
  · simp only [rawField, hk, ha, Option.map_some]
  · have hboth : ((a.toNat * 256 + b.toNat : Nat) : Int) = 256 * a.toNat + b.toNat := by omega
    rcases hk with hk | hk <;> simp only [rawField, hk, ha, hb, hboth]
  · simp only [rawField, hk, ha, hb, word_toInt]
  · have hr : s.sampleOf f x ch = sampleAnalog f (s.convert f x).1 (s.convert f x).2 ch := by
      unfold State.sampleOf
      revert hk
      cases f.kind <;> intro hk <;> cases hk <;> rfl
    refine ⟨hr, ?_⟩
    rw [hr]
    exact ⟨_, rfl, rfl⟩
  · have hr : s.sampleOf f x ch = sampleDiscrete f (decide (x = 1)) ch := by
      unfold State.sampleOf
      rw [hk]
    refine ⟨hr, ?_⟩
    rw [hr]
    exact sampleDiscrete_entry f _ ch
  · unfold State.sampleOf
    rw [hk]
    rfl
  · intro sampled
    have hrun : exec .channelTake s = .next (channelTake s) := live_powered channelTake s hp
    let s1 := { s with loop := ({ s.loop with tapQ := rest }).holdTake }
    let u := updateStage fr s1
    have ht : channelTake s = (s1.noticesOf fr).foldl (fun t n => deliver n.1 n.2 t) u := by
      unfold channelTake
      rw [hq]
    have hkept : TableKept u (channelTake s) := by
      rw [ht]
      exact TableKept.foldl (f := fun t (n : Fin 48 × Notice) => deliver n.1 n.2 t) (fun t n => deliver_tables n.1 n.2 t) _ u
    obtain ⟨htap, hforward, hrequest⟩ := LoopPort.holdTake_queues { s.loop with tapQ := rest }
    refine ⟨channelTake s, u.channels, s1.noticesOf fr, hrun, ht, fun c n => State.mem_noticesOf,
      State.noticesOf_sorted s1 fr, hkept.channels, ?_, ?_, ?_, hkept.curves, hkept.mem, hkept.key,
      fun c => ⟨fun h => ?_, fun f x h => ?_⟩⟩
    · rw [hkept.loop]
      exact htap
    · rw [hkept.loop]
      exact hforward
    · rw [hkept.loop]
      exact hrequest
    · exact updateStage_other (State.updateFrom_none h)
    · exact updateStage_takes (State.updateFrom_takes h)

end Sys2Proof.Machine
end


section
/-! PROOF. What an evaluation of the service items can change (R99), and the key lines and the clock by their timers (R192
to R197). -/

namespace Sys2Proof.Machine

/-! ### What an evaluation can change (R99) -/

/-- What an evaluation of the service items leaves as it was: every block but stages and figures, what the Warning
Controller's notices change, and the display's page. -/
structure Evaluated (s t : State) : Prop where
  rest : t = { s with
    service := { s.service with items := t.service.items }, warnings := t.warnings, chime := t.chime, display := t.display,
    loop := { s.loop with insertQ := t.loop.insertQ },
    handler := { s.handler with events := t.handler.events, eventsLost := t.handler.eventsLost } }
  items : ∀ i : Fin 8, t.service.items[i] = { s.service.items[i] with
    stage := (t.service.items[i]).stage, remainingKm := (t.service.items[i]).remainingKm,
    remainingDays := (t.service.items[i]).remainingDays }
  loaded : ∀ w : Fin 32, (t.warnings.entries[w]).condition = (s.warnings.entries[w]).condition ∧
    (t.warnings.entries[w]).action = (s.warnings.entries[w]).action ∧
    (t.warnings.entries[w]).enabled = (s.warnings.entries[w]).enabled ∧
    (t.warnings.entries[w]).masked = (s.warnings.entries[w]).masked
  conds : t.warnings = { s.warnings with entries := t.warnings.entries }
  patterns : t.chime.patterns = s.chime.patterns
  setup : t.chime.setup = s.chime.setup
  display : t.display = { s.display.contentOf t.display with page := t.display.page }
  places : t.loop.insertQ.length ≤ max s.loop.insertQ.length 6

section Evaluated
variable {s t : State}

theorem Evaluated.trans {u : State} (h : Evaluated s t) (k : Evaluated t u) : Evaluated s u where
  rest := by
    refine k.rest.trans ?_
    rw [h.rest]
  items i := by
    refine (k.items i).trans ?_
    rw [h.items i]
  loaded w := by
    obtain ⟨hc, ha, he, hm⟩ := h.loaded w
    obtain ⟨kc, ka, ke, km⟩ := k.loaded w
    exact ⟨kc.trans hc, ka.trans ha, ke.trans he, km.trans hm⟩
  conds := by
    refine k.conds.trans ?_
    rw [h.conds]
  patterns := k.patterns.trans h.patterns
  setup := k.setup.trans h.setup
  display := by
    refine k.display.trans ?_
    rw [h.display]
    rfl
  places := by
    have := h.places
    have := k.places
    omega

theorem WarnFrame.evaluated (h : WarnFrame s t) : Evaluated s t where
  rest := by
    refine h.rest.trans ?_
    rw [h.rest]
  items i := by rw [h.rest]
  loaded := h.loaded
  conds := h.conds
  patterns := h.patterns
  setup := h.setup
  display := by
    refine h.display.trans ?_
    rw [h.display]
    rfl
  places := h.places

theorem Evaluated.refl (s : State) : Evaluated s s := (WarnFrame.refl s).evaluated

/-- New figures and a new stage of one item. -/
theorem setItem_evaluated (i : Fin 8) (stage : Stage) (km days : Option Int) (s : State) :
    Evaluated s (s.setItem i { s.service.items[i] with stage := stage, remainingKm := km, remainingDays := days }) where
  rest := rfl
  items j := by
    by_cases h : j = i
    · subst h
      simp [State.setItem]
    · have hne : i.val ≠ j.val := fun hv => h (Fin.ext hv.symm)
      simp [State.setItem, hne]
  loaded _ := ⟨rfl, rfl, rfl, rfl⟩
  conds := rfl
  patterns := rfl
  setup := rfl
  display := rfl
  places := Nat.le_max_left _ _

theorem stageNotice_evaluated (s : State) : Evaluated s (stageNotice s) := by
  have hpage (p : Nat) : Evaluated s { s with display := { s.display with page := p } } :=
    ⟨rfl, fun _ => rfl, fun _ => ⟨rfl, rfl, rfl, rfl⟩, rfl, rfl, rfl, rfl, Nat.le_max_left _ _⟩
  have hturned : Evaluated s { s with display :=
      if s.display.page = 6 ∧ s.mostUrgent = none then { s.display with page := 1 } else s.display } := by
    split
    · exact hpage 1
    · exact .refl s
  exact hturned.trans (rebuild_frame _).evaluated

theorem noteStage_evaluated (i : Fin 8) (old new : Stage) (s : State) : Evaluated s (noteStage i old new s) := by
  unfold noteStage
  split
  · exact .refl s
  · exact ((report_frame _ s).trans (warnStage_frame i _)).evaluated.trans (stageNotice_evaluated _)

theorem evaluateItem_evaluated (i : Fin 8) (s : State) : Evaluated s (evaluateItem i s) := by
  unfold evaluateItem
  dsimp only
  split
  · exact (setItem_evaluated i _ _ _ s).trans (noteStage_evaluated i _ _ _)
  · exact .refl s

theorem foldl_evaluated {α : Type} {f : State → α → State} (h : ∀ s a, Evaluated s (f s a)) (l : List α) (s : State) :
    Evaluated s (l.foldl f s) := by
  induction l generalizing s with
  | nil => exact .refl s
  | cons a l ih => exact (h s a).trans (ih _)

theorem evaluateAll_evaluated (s : State) : Evaluated s (evaluateAll s) :=
  foldl_evaluated (fun t i => evaluateItem_evaluated i t) _ s

end Evaluated

/-! ### The key lines (R192, R193) -/

section Sample
variable {s : State} {k : KeyClock} {found : Lines}

theorem KeyClock.sample_settled (h : found = k.debounced) :
    k.sample found = ({ k with sampleTimer := some 10, candCount := 0 }, false) := if_pos h

theorem KeyClock.sample_other (hd : found ≠ k.debounced) (hc : found ≠ k.candidate) :
    k.sample found = ({ k with sampleTimer := some 10, candidate := found, candCount := 1 }, false) := by
  rw [KeyClock.sample, if_neg hd, if_neg fun h => hc h.1]

theorem KeyClock.sample_again (hd : found ≠ k.debounced) (hc : found = k.candidate) (h : k.candCount < 2) :
    k.sample found = ({ k with sampleTimer := some 10, candCount := k.candCount + 1 }, false) := by
  rw [KeyClock.sample, if_neg hd]
  by_cases h0 : k.candCount = 0
  · rw [if_neg (by omega), hc, h0]
  · rw [if_pos ⟨hc, by omega⟩, if_neg (by omega)]

theorem KeyClock.sample_third (hd : found ≠ k.debounced) (hc : found = k.candidate) (h : k.candCount = 2) :
    k.sample found = ({ k with sampleTimer := some 10, debounced := found, candCount := 0 }, true) := by
  rw [KeyClock.sample, if_neg hd, if_pos ⟨hc, by omega⟩, if_pos (by omega)]

/-- A sample whose combination is not newly debounced only moves the counter. -/
theorem keySample_counts {x : KeyClock} (h : s.key.sample found = (x, false)) : keySample found s = { s with key := x } := by
  simp only [keySample, h, Bool.false_eq_true, false_and, if_false]

theorem keySample_same {x : KeyClock} (h : s.key.sample found = (x, true)) (hk : keyOf found = s.key.state) :
    keySample found s = { s with key := x } := by
  simp only [keySample, h, hk, ne_eq, not_true_eq_false, and_false, if_false]

theorem keySample_event {x : KeyClock} (h : s.key.sample found = (x, true)) (hk : keyOf found ≠ s.key.state) :
    keySample found s = keyEvent (keyOf found) { s with key := x } := by
  simp only [keySample, h, true_and]
  exact if_pos hk

theorem displayKey_tables (new : KeyState) (s : State) : TableKept s (displayKey new s) :=
  (tables_shown s.warnings s.chime _ s).trans ((rebuild_frame _).trans (checkShutdown_frame _)).tables

/-- A key event records the key state and the stamps; its blocks change no channel, word, key or clock field. -/
theorem keyEvent_tables (new : KeyState) (s : State) :
    TableKept { s with key := s.key.record new } (keyEvent new s) := by
  have hservice (t : State) : TableKept t (serviceKey new t) := .ite (evaluateAll_kept t).tables (.refl t)
  have hwarning (t : State) : TableKept t (warningKey s.key.state new t) :=
    (tables_shown _ t.chime t.display t).trans (testGates_frame _).tables
  have hgauge (t : State) : TableKept t (gaugeKey s.key.state new t) := (kept_gauges _ t).tables
  have htold := (report_kept (.keyChange s.key.state new) { s with key := s.key.record new }).tables
  have hstored := ((htold.trans (hgauge _)).trans (tripKey_kept s.key.state new _).tables).trans (settle_kept _).tables
  exact ((hstored.trans (hservice _)).trans (hwarning _)).trans (displayKey_tables new _)

/-- What SET CLOCK records stays through what follows (R197). -/
theorem setClock_kept (seconds day : Nat) (s : State) :
    Kept { s with key := { s.key with valid := true, seconds := seconds, day := day } } (setClock seconds day s) :=
  (setSys_kept .clockInvalid false _).trans ((evaluateAll_kept _).trans (rebuild_frame _).kept)

theorem evaluateAll_clockInvalid (s : State) : (evaluateAll s).warnings.clockInvalid = s.warnings.clockInvalid := by
  rw [(evaluateAll_evaluated s).conds]

theorem setClock_valid (seconds day : Nat) (s : State) : (setClock seconds day s).warnings.clockInvalid = false := by
  have hcleared (t : State) : (setSys .clockInvalid false t).warnings.clockInvalid = false :=
    setSys_sys .clockInvalid false t
  have hrebuilt (t : State) : (rebuild t).warnings = t.warnings := by rw [rebuild_only]
  rw [setClock, hrebuilt, evaluateAll_clockInvalid, hcleared]

end Sample

/-- Settles O54: the sample by its counter, the key event and the timers as they are carried out. -/
theorem keyLinesAndClockByTheirTimers : Obligations.KeyLinesAndClockByTheirTimers := by
  refine ⟨fun l => ⟨fun h => ?_, fun h => ?_⟩, fun s hp => ?_, fun h seconds day s ht => ?_⟩
  · rw [keyOf, h]
    rfl
  · rw [keyOf, if_pos h]
  · refine ⟨fun acc ign start hcount => ?_, rfl, fun ht => ?_, fun ht => ?_, fun hv => ?_, fun hv hs => ?_, fun hv hs => ?_⟩
    · intro found run kept
      have hrun : run = .next (keySample found s) := live_powered (keySample found) s hp
      refine ⟨fun hd => ?_, fun hd hc => ?_, fun hd hc hlt => ?_, fun hd hc heq => ?_⟩
      · rw [hrun, keySample_counts (KeyClock.sample_settled hd)]
      · rw [hrun, keySample_counts (KeyClock.sample_other hd hc)]
      · rw [hrun, keySample_counts (KeyClock.sample_again hd hc hlt)]
      · intro y
        have hthird := KeyClock.sample_third hd hc heq
        refine ⟨fun hk => by rw [hrun, keySample_same hthird hk], fun hk => ?_⟩
        have hkept := keyEvent_tables (keyOf found) (kept y)
        refine ⟨keyEvent (keyOf found) (kept y), by rw [hrun, keySample_event hthird hk], rfl, ⟨?_, fun u => ⟨_, rfl⟩⟩,
          hkept.channels, hkept.mem, fun hnew => ?_, fun hnew => ?_, fun hnew => ?_⟩
        · rw [hkept.key]
          rfl
        · rw [hkept.key, hnew]
          rfl
        · rw [hkept.key, hnew]
          rfl
        · rw [hkept.key]
          rcases hnew with hnew | hnew <;> rw [hnew] <;> rfl
    · refine (live_powered settleTimerExpiry s hp).trans (congrArg Host.Outcome.next ?_)
      simp only [settleTimerExpiry, ht]
    · obtain ⟨ms, hms⟩ := Option.isSome_iff_exists.mp ht
      refine (live_powered settleTimerExpiry s hp).trans (congrArg Host.Outcome.next ?_)
      simp only [settleTimerExpiry, hms]
    all_goals
      have hrun : exec .secondsEvent s = .next (secondsEvent s) := live_powered secondsEvent s hp
    · rw [hrun, secondsEvent, KeyClock.advance, if_neg (Bool.eq_false_iff.mp hv)]
      rfl
    · rw [hrun, secondsEvent, KeyClock.advance, if_pos hv, if_pos hs]
      rfl
    · refine ⟨fun hd => ?_, fun hd => ?_⟩
      · rw [hrun, secondsEvent, KeyClock.advance, if_pos hv, if_neg (by omega), if_pos hd]
        rfl
      · rw [hrun, secondsEvent, KeyClock.advance, if_pos hv, if_neg (by omega), if_neg (by omega)]
        rfl
  · have hrun : exec (.setClock h seconds day) s = .next (respond h 0xB0 false (reqSetClock seconds day s)) :=
      exec_taken nofun rfl ht
    refine ⟨fun hbig => taken_refused hrun (if_pos hbig), fun hsmall =>
      ⟨setClock seconds.toNat day.toNat s, taken_done hrun (if_neg (Nat.not_lt.mpr hsmall)), rfl, ?_, ?_⟩⟩
    · exact (setClock_kept seconds.toNat day.toNat s).key
    · exact setClock_valid seconds.toNat day.toNat s

end Sys2Proof.Machine
end


section
/-! PROOF. RESTART, pending until its response has left LOOP_OUT (R184), with every block's restart effect. -/

namespace Sys2Proof.Machine

section Restart
variable {s : State} {f : Frame}

/-- A restart response takes the place that a take finds free. -/
theorem respond_restart {h : Head} {code : Byte} {t : State} (hq : t.loop.insertQ.length < 8) :
    respond h code true (t, .now .ok []) = { t with loop := { t.loop with
      overrun := false, insertQ := t.loop.insertQ ++ [{ frame := responseFrame h code .ok [] t, restart := true }] } } :=
  placeResponse_places (s := { t with loop := { t.loop with overrun := false } }) _ true hq

/-- The part with every block's restart effect, while the RESTART response is the frame being sent. -/
theorem restartBlocks_eq (h : s.loop.tx = .inserted { frame := f, restart := true }) :
    restartBlocks { s with loop := s.loop.sent } =
      { s with
        channels := s.channels.map Channel.never, gauges := s.gauges.map (gaugeRestarts s),
        trip := { s.trip with snapshots := Vector.replicate 4 none, distanceBase := none, fuelBase := none },
        warnings := { s.warnings with entries := s.warnings.entries.map Warning.restarted, bulbCheck := none },
        chime := { s.chime with queue := [], front := .silent, rear := .silent },
        display := (displayRestart s).display,
        loop := { s.loop with
          tx := .idle, awaiting := s.loop.awaiting ++ [{ frame := f, left := 100 }], tapQ := [], requestQ := [],
          insertQ := [], overrun := false, force := false, asserted := false, refresh := none, critical := 0,
          flow := if s.loop.holdSent = true then .release else .empty },
        handler := s.handler.restart } := by
  have hsent : s.loop.sent = { s.loop with tx := .idle, awaiting := s.loop.awaiting ++ [{ frame := f, left := 100 }] } := by
    simp only [LoopPort.sent, h]
  rw [hsent]
  rfl

/-- The start-up report that RESTART places first. -/
def State.reportFrames (s : State) : List Inserted :=
  match s.handler.startUp with
  | some codes =>
    [{ frame := mkFrame 0xE1 s.loop.node ([0, 0, 0] ++ codes.map (fun c => BitVec.ofNat 8 c.code)), restart := false }]
  | none => []

theorem State.reportFrames_length (s : State) : s.reportFrames.length ≤ 1 := by
  unfold State.reportFrames
  split
  · exact Nat.le_refl 1
  · exact Nat.zero_le 1

theorem buildStartUp_reported (hq : s.loop.insertQ = []) (hl : s.handler.eventsLost = false) : buildStartUp s =
    { s with handler := { s.handler with startUp := none }, loop := { s.loop with insertQ := s.reportFrames } } := by
  cases h : s.handler.startUp with
  | none =>
    have hframes : s.reportFrames = s.loop.insertQ := by simp only [State.reportFrames, h, hq]
    rw [buildStartUp_waits (.inl h), hframes, ← h]
  | some codes =>
    rw [buildStartUp_places h (by rw [hq]; decide), State.reportFrames, h]
    simp only [placeEvent, insertFrame, hq, hl, startUpPayload, encBool, List.nil_append, List.cons_append, Bool.false_eq_true,
      if_false]

/-! ### The take-ups that follow the restart effects (R102, R128, R163) -/

/-- The display's records that no take-up changes. -/
structure DisplayKept (d e : Display) : Prop where
  messages : e.messages = d.messages
  setup : e.setup = d.setup
  present : e.present = d.present
  missed : e.missed = d.missed
  call : e.call = d.call
  journey : e.journey = d.journey
  blanked : e.blanked = d.blanked
  naTimer : e.naTimer = d.naTimer
  offTimer : e.offTimer = d.offTimer
  headMark : e.headMark = d.headMark

theorem DisplayKept.trans {d e f : Display} (h : DisplayKept d e) (k : DisplayKept e f) : DisplayKept d f :=
  ⟨k.messages.trans h.messages, k.setup.trans h.setup, k.present.trans h.present, k.missed.trans h.missed,
    k.call.trans h.call, k.journey.trans h.journey, k.blanked.trans h.blanked, k.naTimer.trans h.naTimer,
    k.offTimer.trans h.offTimer, k.headMark.trans h.headMark⟩

theorem DisplayKept.of_content {d e : Display} (h : e = { d.contentOf e with page := e.page }) : DisplayKept d e := by
  constructor <;> rw [h] <;> rfl

theorem fillWants_displayKept (d : Display) : DisplayKept d d.fillWants := by
  rw [Display.fillWants_only]
  exact ⟨rfl, rfl, rfl, rfl, rfl, rfl, rfl, rfl, rfl, rfl⟩

/-- The refill and the shutdown conditions (R161, R163). -/
def State.refilled (v : State) : State := checkShutdown { v with display := v.display.fillWants }

theorem checkShutdown_only (s : State) : checkShutdown s = { s with display := (checkShutdown s).display } := by
  by_cases h : s.mayShutDown = true
  · rw [checkShutdown_shuts h]
  · rw [checkShutdown_stays h]

/-- A refill changes the display only. -/
theorem State.refilled_only (v : State) : v.refilled = { v with display := v.refilled.display } := by
  unfold State.refilled
  generalize v.display.fillWants = d
  exact checkShutdown_only { v with display := d }

theorem State.refilled_display (v : State) :
    DisplayKept v.display v.refilled.display ∧ v.refilled.display.press = v.display.press := by
  have hfilled := fillWants_displayKept v.display
  have hpress : v.display.fillWants.press = v.display.press := by rw [Display.fillWants_only]
  unfold State.refilled checkShutdown
  generalize v.display.fillWants = d at hfilled hpress ⊢
  obtain ⟨h1, h2, h3, h4, h5, h6, h7, h8, h9, h10⟩ := hfilled
  split <;> exact ⟨⟨h1, h2, h3, h4, h5, h6, h7, h8, h9, h10⟩, hpress⟩

/-- The evaluation, the gate tests with their notice, and the rebuild. -/
def restartRebuilt (u : State) : State := rebuild (notifyDisplay false (testGates (evaluateAll u)))

theorem restartRebuilt_evaluated (u : State) : Evaluated u (restartRebuilt u) :=
  (evaluateAll_evaluated u).trans
    ((testGates_frame _).trans ((notifyDisplay_frame false _).trans (rebuild_frame _))).evaluated

theorem restartRebuilt_appends (u : State) : Appends u (restartRebuilt u) := by
  have htested (t : State) : Appends t (testGates t) := .foldl (fun v w => testGate_appends w v) _ t
  exact (evaluateAll_appends u).trans ((htested _).trans ((notifyDisplay_appends false _).trans (rebuild_appends _)))

/-- What the take-ups leave: an evaluation's frame, appended frames, and the display's own records. -/
structure TakenUp (u t : State) : Prop where
  rest : t = { u with
    service := { u.service with items := t.service.items }, warnings := t.warnings, chime := t.chime, display := t.display,
    loop := { u.loop with insertQ := t.loop.insertQ },
    handler := { u.handler with events := t.handler.events, eventsLost := t.handler.eventsLost } }
  items : ∀ i : Fin 8, t.service.items[i] = { u.service.items[i] with
    stage := (t.service.items[i]).stage, remainingKm := (t.service.items[i]).remainingKm,
    remainingDays := (t.service.items[i]).remainingDays }
  loaded : ∀ w : Fin 32, (t.warnings.entries[w]).condition = (u.warnings.entries[w]).condition ∧
    (t.warnings.entries[w]).action = (u.warnings.entries[w]).action ∧
    (t.warnings.entries[w]).enabled = (u.warnings.entries[w]).enabled ∧
    (t.warnings.entries[w]).masked = (u.warnings.entries[w]).masked
  patterns : t.chime.patterns = u.chime.patterns
  setup : t.chime.setup = u.chime.setup
  frames : u.loop.insertQ <+: t.loop.insertQ
  places : t.loop.insertQ.length ≤ max u.loop.insertQ.length 6
  display : DisplayKept u.display t.display
  press : u.display.press = none → t.display.press = none

theorem refilled_takenUp (u : State) : TakenUp u (restartRebuilt u).refilled := by
  have hev := restartRebuilt_evaluated u
  have happ := restartRebuilt_appends u
  generalize restartRebuilt u = v at hev happ
  obtain ⟨hdisplay, hpress⟩ := v.refilled_display
  have honly := v.refilled_only
  generalize v.refilled = t at hdisplay hpress honly
  have hrest : t = { u with
      service := { u.service with items := v.service.items }, warnings := v.warnings, chime := v.chime, display := t.display,
      loop := { u.loop with insertQ := v.loop.insertQ },
      handler := { u.handler with events := v.handler.events, eventsLost := v.handler.eventsLost } } := by
    refine honly.trans ?_
    generalize t.display = d
    rw [hev.rest]
  have hitems : t.service.items = v.service.items := by rw [honly]
  have hwarnings : t.warnings = v.warnings := by rw [honly]
  have hchime : t.chime = v.chime := by rw [honly]
  have hloop : t.loop = v.loop := by rw [honly]
  have hhandler : t.handler = v.handler := by rw [honly]
  refine ⟨?_, ?_, ?_, ?_, ?_, ?_, ?_, ?_, ?_⟩
  · rw [hitems, hwarnings, hchime, hloop, hhandler]
    exact hrest
  · rw [hitems]
    exact hev.items
  · rw [hwarnings]
    exact hev.loaded
  · rw [hchime]
    exact hev.patterns
  · rw [hchime]
    exact hev.setup
  · rw [hloop]
    exact happ.frames
  · rw [hloop]
    exact hev.places
  · exact (DisplayKept.of_content hev.display).trans hdisplay
  · exact fun h => hpress.trans (happ.press h)

theorem displayRestart_display (s : State) : (displayRestart s).display = { s.display with
    queue := [], pollWant := false, answerWant := false, outstanding := .all,
    tx := if s.display.tx = .listening then .idle else s.display.tx, replyWindow := none, press := none,
    naTimer := none } := by
  unfold displayRestart
  dsimp only
  cases s.display.tx <;> rfl

/-- The part with every block's restart effect and the held start-up report placed. -/
def State.restartReported (s : State) (f : Frame) : State :=
  { s with
    channels := s.channels.map Channel.never, gauges := s.gauges.map (gaugeRestarts s),
    trip := { s.trip with snapshots := Vector.replicate 4 none, distanceBase := none, fuelBase := none },
    warnings := { s.warnings with entries := s.warnings.entries.map Warning.restarted, bulbCheck := none },
    chime := { s.chime with queue := [], front := .silent, rear := .silent },
    display := (displayRestart s).display,
    loop := { s.loop with
      tx := .idle, awaiting := s.loop.awaiting ++ [{ frame := f, left := 100 }], tapQ := [], requestQ := [],
      insertQ := s.reportFrames, overrun := false, force := false, asserted := false, refresh := none, critical := 0,
      flow := if s.loop.holdSent = true then .release else .empty },
    handler := { s.handler.restart with startUp := none } }

theorem restartNow_takes (h : s.loop.tx = .inserted { frame := f, restart := true }) :
    restartNow { s with loop := s.loop.sent } = (restartRebuilt (s.restartReported f)).refilled := by
  have hreported : buildStartUp (restartBlocks { s with loop := s.loop.sent }) = s.restartReported f := by
    rw [restartBlocks_eq h, buildStartUp_reported rfl rfl]
    rfl
  rw [← hreported]
  rfl

theorem gaugeRestarts_off {g : Gauge} (h : g.enabled = false) : gaugeRestarts s g = { g with target := none } :=
  if_neg (Bool.eq_false_iff.mp h)

theorem gaugeRestarts_run {g : Gauge} (h : g.enabled = true) (hk : s.key.state = .run) : gaugeRestarts s g =
    { g with target := none, state := .tracking, timer := some (g.timer.getD 20), pending := g.setup.fastSettle } := by
  rw [gaugeRestarts, if_pos h, if_pos hk]
  rfl

theorem gaugeRestarts_parked {g : Gauge} (h : g.enabled = true) (hk : s.key.state ≠ .run) (hp : g.position = g.setup.park) :
    gaugeRestarts s g = { g with target := none, state := .parked, timer := none, pending := false } := by
  rw [gaugeRestarts, if_pos h, if_neg hk]
  exact if_pos hp

theorem gaugeRestarts_returning {g : Gauge} (h : g.enabled = true) (hk : s.key.state ≠ .run)
    (hp : g.position ≠ g.setup.park) : gaugeRestarts s g =
      { g with target := none, state := .returning, timer := some (g.timer.getD 20), pending := false } := by
  rw [gaugeRestarts, if_pos h, if_neg hk]
  exact if_neg hp

/-- Of a gauge RESTART keeps the setup, the enabled field and the position, and clears the target. -/
theorem gaugeRestarts_keeps (g : Gauge) : (gaugeRestarts s g).written = g.written ∧ (gaugeRestarts s g).setup = g.setup ∧
    (gaugeRestarts s g).enabled = g.enabled ∧ (gaugeRestarts s g).position = g.position ∧
    (gaugeRestarts s g).target = none := by
  cases he : g.enabled with
  | false =>
    rw [gaugeRestarts_off he]
    exact ⟨rfl, rfl, he, rfl, rfl⟩
  | true =>
    by_cases hk : s.key.state = .run
    · rw [gaugeRestarts_run he hk]
      exact ⟨rfl, rfl, he, rfl, rfl⟩
    · by_cases hp : g.position = g.setup.park
      · rw [gaugeRestarts_parked he hk hp]
        exact ⟨rfl, rfl, he, rfl, rfl⟩
      · rw [gaugeRestarts_returning he hk hp]
        exact ⟨rfl, rfl, he, rfl, rfl⟩

end Restart

/-- Settles O53: the request as it is answered, and the restart effects with the take-ups that follow them. -/
theorem restartWaitsForItsResponse : Obligations.RestartWaitsForItsResponse := by
  refine ⟨fun h s ht => ?_, fun s hp => ⟨fun hno => ?_, fun f hf => ?_⟩⟩
  · have hrun : exec (.restart h) s = .next (respond h 0xA2 true (reqRestart s)) := exec_taken nofun rfl ht
    have hroom : s.loop.insertQ.length < 8 := State.takes_room ht
    have hresponse := respond_restart (h := h) (code := 0xA2)
      (t := { s with handler := { s.handler with restartPending := true } }) hroom
    refine ⟨_, hrun.trans (congrArg Host.Outcome.next hresponse), ?_, rfl⟩
    refine Bool.eq_false_iff.mpr fun hfree => ?_
    cases ((State.handlerFree_iff _).mp hfree).2.1
  · have hplain : s.loop.sendingRestart = false := by
      unfold LoopPort.sendingRestart
      split
      · next x hx =>
        refine Bool.eq_false_iff.mpr fun hr => hno x.frame ?_
        rw [hx, ← hr]
      · rfl
    exact (live_powered restartSent s hp).trans (congrArg Host.Outcome.next (if_neg (Bool.eq_false_iff.mp hplain)))
  · have hsending : s.loop.sendingRestart = true := by simp only [LoopPort.sendingRestart, hf]
    have hsent : frameSent s = (restartRebuilt (s.restartReported f)).refilled :=
      (if_pos hsending).trans (restartNow_takes hf)
    have hrestart : restartSent s = (restartRebuilt (s.restartReported f)).refilled := (if_pos hsending).trans hsent
    have htaken := refilled_takenUp (s.restartReported f)
    obtain ⟨t, ht⟩ : ∃ t, t = (restartRebuilt (s.restartReported f)).refilled := ⟨_, rfl⟩
    rw [← ht] at hsent hrestart htaken
    obtain ⟨hrest, hitems, hloaded, hpatterns, hsetup, hframes, hplaces, hdisplay, hpress⟩ := htaken
    have hchannels : t.channels = s.channels.map Channel.never := by rw [hrest]; rfl
    have hgauges : t.gauges = s.gauges.map (gaugeRestarts s) := by rw [hrest]; rfl
    have hgauge (g : Fin 6) : t.gauges[g] = gaugeRestarts s s.gauges[g] := by
      rw [hgauges]
      exact Vector.getElem_map _ g.isLt
    have hhandler : t.handler = { s.handler.restart with
        startUp := none, events := t.handler.events, eventsLost := t.handler.eventsLost } := by rw [hrest]; rfl
    refine ⟨t, (live_powered restartSent s hp).trans (congrArg Host.Outcome.next hrestart),
      (live_powered frameSent s hp).trans (congrArg Host.Outcome.next hsent), by rw [hrest]; rfl, by rw [hrest]; rfl,
      by rw [hrest]; rfl, by rw [hrest]; rfl, by rw [hrest]; rfl, by rw [hrest]; rfl, ?_, fun c => ?_, by rw [hrest]; rfl,
      hitems, hdisplay.offTimer, hdisplay.headMark, fun g => ?_, by rw [hrest]; rfl, fun i => ?_, fun w => ?_, hpatterns,
      hsetup, hdisplay.messages, hdisplay.setup, hdisplay.present, hdisplay.missed, hdisplay.call, hdisplay.journey,
      hdisplay.blanked, hpress rfl, hdisplay.naTimer, by rw [hrest]; rfl, ?_, ?_, ?_, ?_, ?_, ?_, ?_, ?_, ?_, ?_⟩
    · intro silent cleared reported rebuilt
      have hreported : reported = s.restartReported f := by
        show State.mk _ _ t.channels _ t.gauges _ _ _ _ _ _ _ _ _ _ _ _ = _
        rw [hchannels, hgauges, State.restartReported, displayRestart_display]
        rfl
      rw [ht, ← hreported]
      rfl
    · have hc : t.channels[c] = (s.channels[c]).never := by
        rw [hchannels]
        exact Vector.getElem_map _ c.isLt
      rw [hc]
      rfl
    · rw [hgauge]
      obtain ⟨hwritten, hset, henabled, hposition, htarget⟩ := gaugeRestarts_keeps (s := s) s.gauges[g]
      exact ⟨hwritten, hset, henabled, hposition, htarget, gaugeRestarts_off, gaugeRestarts_run, gaugeRestarts_parked,
        gaugeRestarts_returning⟩
    · rw [hitems]
      exact ⟨rfl, rfl⟩
    · have hw : (s.restartReported f).warnings.entries[w] = (s.warnings.entries[w]).restarted :=
        Vector.getElem_map _ w.isLt
      have hkept := hloaded w
      rw [hw] at hkept
      exact hkept
    · obtain ⟨more, hmore⟩ := hframes
      exact ⟨more, hmore.symm⟩
    · rw [hhandler]
      rfl
    · rw [hhandler]
      rfl
    · rw [hhandler]
      rfl
    · rw [hhandler]
      rfl
    · rw [hhandler]
      rfl
    · rw [hhandler]
      rfl
    · rw [hhandler]
    · rw [hhandler]
      rfl
    · refine (State.handlerFree_iff t).mpr ⟨?_, by rw [hhandler]; rfl, by rw [hhandler]; rfl⟩
      have hreport : (s.restartReported f).loop.insertQ.length ≤ 1 := s.reportFrames_length
      omega

end Sys2Proof.Machine
end


section
/-! PROOF. The producers of the insert queue (R171, R172, R182, R185, R186, R188). -/

namespace Sys2Proof.Machine

section Producers
variable {s : State}

/-! ### The words of a dump frame (R188) -/

theorem dumpWords_ok {x : Store} {n a : Nat} {b : Fin 256} (hb : b.val = a) (h : (x.readWord b).1 = .ok) :
    dumpWords x (n + 1) a = ((x.readWord b).2 :: (dumpWords x n (a + 1)).1, (dumpWords x n (a + 1)).2) := by
  subst hb
  rw [dumpWords, dif_pos b.isLt]
  exact if_pos h

theorem dumpWords_fails {x : Store} {n a : Nat} {b : Fin 256} (hb : b.val = a) (h : (x.readWord b).1 ≠ .ok) :
    dumpWords x (n + 1) a = ([], some (b.val, (x.readWord b).1)) := by
  subst hb
  rw [dumpWords, dif_pos b.isLt]
  exact if_neg h

/-- The words read are those that read normally from the address on, all of them, or those before the first that does
not. -/
theorem dumpWords_reads (x : Store) {n a : Nat} (h : a + n ≤ 256) :
    (∀ (i : Nat) (b : Fin 256) (w : Word), (dumpWords x n a).1[i]? = some w → b.val = a + i → x.readWord b = (.ok, w)) ∧
    (((dumpWords x n a).1.length = n ∧ (dumpWords x n a).2 = none) ∨
      ((dumpWords x n a).1.length < n ∧ ∀ b : Fin 256, b.val = a + (dumpWords x n a).1.length →
        (x.readWord b).1 ≠ .ok ∧ (dumpWords x n a).2 = some (b.val, (x.readWord b).1))) := by
  induction n generalizing a with
  | zero => exact ⟨fun i b w hw => (nomatch hw), .inl ⟨rfl, rfl⟩⟩
  | succ n ih =>
    obtain ⟨c, hc⟩ : ∃ c : Fin 256, c.val = a := ⟨⟨a, by omega⟩, rfl⟩
    by_cases hok : (x.readWord c).1 = .ok
    · obtain ⟨hwords, hend⟩ := ih (a := a + 1) (by omega)
      rw [dumpWords_ok hc hok]
      refine ⟨fun i b w hw hb => ?_, ?_⟩
      · cases i with
        | zero =>
          cases hw
          cases (Fin.ext (hb.trans hc.symm) : b = c)
          exact Prod.ext hok rfl
        | succ i => exact hwords i b w hw (by omega)
      · rcases hend with ⟨hlen, hnone⟩ | ⟨hlen, hfailed⟩
        · exact .inl ⟨congrArg (· + 1) hlen, hnone⟩
        · refine .inr ⟨Nat.succ_lt_succ hlen, fun b hb => hfailed b ?_⟩
          rw [List.length_cons] at hb
          omega
    · rw [dumpWords_fails hc hok]
      refine ⟨fun i b w hw => (nomatch hw), .inr ⟨Nat.succ_pos n, fun b hb => ?_⟩⟩
      cases (Fin.ext (hb.trans hc.symm) : b = c)
      exact ⟨hok, rfl⟩

/-- The dump once it has sent some words, ended by a failed one or by the last. -/
def DumpContext.after (c : DumpContext) (words : List Word) (failed : Option (Nat × Status)) : DumpState :=
  if failed.isSome ∨ c.remaining - words.length = 0 then .idle
  else .streaming { c with next := c.next + words.length, remaining := c.remaining - words.length }

/-- What a streaming dump makes of the words that it reads. -/
def State.dumpPlaced (s : State) (c : DumpContext) (words : List Word) (failed : Option (Nat × Status)) : State :=
  insertFrame (mkFrame (nodeTag c.recipient) s.loop.node (dumpPayload c words failed)) false
    { s with handler := { s.handler with dump := c.after words failed } }

theorem DumpContext.after_more {c : DumpContext} {words : List Word} (h : 0 < c.remaining - words.length) :
    c.after words none =
      .streaming { c with next := c.next + words.length, remaining := c.remaining - words.length } :=
  if_neg (by simp only [Option.isSome_none, Bool.false_eq_true, false_or]; omega)

theorem DumpContext.after_last {c : DumpContext} {words : List Word} (h : c.remaining - words.length = 0) :
    c.after words none = .idle := if_pos (.inr h)

theorem dumpPayload_more {c : DumpContext} {words : List Word} (h : 0 < c.remaining - words.length) :
    dumpPayload c words none = [0xA3, c.seq, 0, BitVec.ofNat 8 c.next] ++ words.flatMap encWord ++ [] := by
  have hcode : dumpCode none (c.remaining - words.length) = 0 := if_neg (Nat.ne_of_gt h)
  rw [dumpPayload, hcode]

theorem dumpPayload_last {c : DumpContext} {words : List Word} (h : c.remaining - words.length = 0) :
    dumpPayload c words none = [0xA3, c.seq, 1, BitVec.ofNat 8 c.next] ++ words.flatMap encWord ++ [] := by
  have hcode : dumpCode none (c.remaining - words.length) = 1 := if_pos h
  rw [dumpPayload, hcode]

theorem buildDump_places {c : DumpContext} (h : s.handler.dump = .streaming c) (hroom : s.loop.insertQ.length < 6) :
    buildDump s = s.dumpPlaced c (dumpWords s.store (min 5 c.remaining) c.next).1
      (dumpWords s.store (min 5 c.remaining) c.next).2 := by
  simp only [buildDump, h, (State.streamRoom_iff s).mpr hroom, if_true]
  rfl

/-! ### The offers (R171) -/

theorem State.producerWaits_iff (s : State) : s.producerWaits = true ↔
    (s.loop.insertQ.length < 8 ∧ (s.handler.held ≠ [] ∨ (s.handler.restartPending = false ∧ s.loop.requestQ ≠ []))) ∨
    (s.loop.insertQ.length < 6 ∧
      (s.handler.startUp ≠ none ∨ s.handler.events ≠ [] ∨ ∃ c, s.handler.dump = .streaming c)) := by
  have hstreams : s.handler.dump.isStreaming = true ↔ ∃ c, s.handler.dump = .streaming c := by
    cases s.handler.dump <;> simp [DumpState.isStreaming]
  unfold State.producerWaits
  simp only [Bool.or_eq_true, Bool.and_eq_true, decide_eq_true_eq, State.freePlaces_pos, State.streamRoom_iff,
    Bool.not_eq_true', List.isEmpty_eq_false_iff, Option.isSome_iff_ne_none, hstreams, or_assoc]

theorem offerFor_rounds (n : Nat) (s : State) : ∃ k, offerFor n s = Nat.iterate offerRound k s ∧
    ∀ m, m < k → (Nat.iterate offerRound m s).producerWaits = true := by
  induction n generalizing s with
  | zero => exact ⟨0, rfl, nofun⟩
  | succ n ih =>
    by_cases hwaits : s.producerWaits = true
    · obtain ⟨k, hk, hall⟩ := ih (offerRound s)
      refine ⟨k + 1, (if_pos hwaits).trans hk, fun m hm => ?_⟩
      cases m with
      | zero => exact hwaits
      | succ m => exact hall m (Nat.lt_of_succ_lt_succ hm)
    · exact ⟨0, if_neg hwaits, nofun⟩

theorem handlerTurn_places {f : Frame} {rest : List Frame} (hheld : s.handler.held = f :: rest)
    (hroom : s.loop.insertQ.length < 8) :
    handlerTurn s = insertFrame f false { s with handler := { s.handler with held := rest } } := by
  simp only [handlerTurn, hheld, s.freePlaces_pos.mpr hroom, if_true]

theorem handlerTurn_takes (hheld : s.handler.held = []) : handlerTurn s = takeFor s.loop.requestQ.length s := by
  simp only [handlerTurn, hheld]

theorem takeFor_busy {n : Nat} (h : s.handlerFree = false) : takeFor n s = s := by
  cases n with
  | zero => rfl
  | succ n =>
    cases hq : s.loop.requestQ with
    | nil => exact takeFor_nil hq
    | cons f rest => rw [takeFor_step hq, if_neg (Bool.eq_false_iff.mp h)]

theorem handlerTurn_busy (hfree : s.handlerFree = false) (h : s.handler.held = [] ∨ 8 ≤ s.loop.insertQ.length) :
    handlerTurn s = s := by
  cases hheld : s.handler.held with
  | nil => rw [handlerTurn_takes hheld, takeFor_busy hfree]
  | cons f rest =>
    have hfull := h.resolve_left (by rw [hheld]; exact List.cons_ne_nil f rest)
    simp only [handlerTurn, hheld]
    exact if_neg fun hroom => absurd (s.freePlaces_pos.mp hroom) (Nat.not_lt.mpr hfull)

theorem handlerTurn_request {f : Frame} {rest : List Frame} (hfree : s.handlerFree = true) (hq : s.loop.requestQ = f :: rest) :
    handlerTurn s = if s.loop.insertQ.length < (s.takeRequest f rest).loop.insertQ.length then s.takeRequest f rest
      else takeFor rest.length (s.takeRequest f rest) := by
  rw [handlerTurn_takes ((s.handlerFree_iff.mp hfree).2.2), hq, List.length_cons, takeFor_step hq, if_pos hfree]

/-! ### The broadcast (R172) -/

theorem Warning.standsUnmasked_iff {e : Warning} : (e.stands && !e.masked) = true ↔
    e.enabled = true ∧ e.masked = false ∧ e.state ≠ .idle := by
  rw [Bool.and_eq_true, Warning.stands, Bool.and_eq_true, bne_iff_ne, Bool.not_eq_true']
  exact ⟨fun ⟨⟨he, hs⟩, hm⟩ => ⟨he, hm, hs⟩, fun ⟨he, hm, hs⟩ => ⟨⟨he, hs⟩, hm⟩⟩

theorem State.topPriority_none (h : ∀ w : Fin 32, ¬ ((s.warnings.entries[w]).stands && !(s.warnings.entries[w]).masked) = true) :
    s.topPriority = none := by
  have htop : s.topWarning (fun e => e.stands && !e.masked) = none :=
    State.topWarning_eq_none fun w hw => h w (State.topWarning_eq_some_iff.mp hw).1
  simp only [State.topPriority, htop]

theorem State.topPriority_some {w : Fin 32} {a : WarnAction}
    (h : s.topWarning (fun e => e.stands && !e.masked) = some w) (ha : (s.warnings.entries[w]).action = some a) :
    s.topPriority = some a.priority := by
  simp only [Fin.getElem_fin] at ha
  simp only [State.topPriority, h, Fin.getElem_fin, ha]

/-- The first byte of an event frame is one more than the class of the event. -/
theorem Event.payload_class (e : Event) (lost : Bool) : ((e.payload lost).getD 0 1 - 1).toNat = e.cls := by
  have hfirst : (e.payload lost).getD 0 1 = BitVec.ofNat 8 (e.cls + 1) := rfl
  have hclass : e.cls < 6 := by
    unfold Event.cls
    split <;> decide
  rw [hfirst, BitVec.toNat_sub, BitVec.toNat_ofNat]
  simp
  omega

theorem encChoice_byte (o : Option Nat) :
    ∃ b : Byte, encChoice o = [b] ∧ (o = none → b = 0xFF) ∧ ∀ n, o = some n → b = BitVec.ofNat 8 n := by
  cases o with
  | none => exact ⟨_, rfl, fun _ => rfl, nofun⟩
  | some n =>
    refine ⟨_, rfl, nofun, fun k hk => ?_⟩
    cases hk
    rfl

theorem broadcastExpiry_places (h : s.loop.insertQ.length < 6) : broadcastExpiry s =
    { s with loop := { s.loop with broadcast := some 500, insertQ := s.loop.insertQ ++
      [{ frame := mkFrame 0xE0 s.loop.node s.broadcastPayload, restart := false }] } } :=
  if_pos ((State.streamRoom_iff s).mpr h)

theorem broadcastExpiry_waits (h : ¬ s.loop.insertQ.length < 6) :
    broadcastExpiry s = { s with loop := { s.loop with broadcast := some 500 } } :=
  if_neg (mt (State.streamRoom_iff s).mp h)

theorem State.shown_invalid (h : s.odometer.valid = false) : s.shown = none := if_neg (Bool.eq_false_iff.mp h)

/-- A held response that is placed lets the handler go on. -/
theorem placeHeld_places {f : Frame} {rest : List Frame} (hheld : s.handler.held = f :: rest)
    (hroom : s.loop.insertQ.length < 8) :
    placeHeld s = pump (insertFrame f false { s with handler := { s.handler with held := rest } }) := by
  simp only [placeHeld, hheld, s.freePlaces_pos.mpr hroom, if_true]

theorem placeHeld_waits (h : s.handler.held = [] ∨ 8 ≤ s.loop.insertQ.length) : placeHeld s = s := by
  unfold placeHeld
  split
  · next f rest hheld =>
    have hfull := h.resolve_left (by rw [hheld]; exact List.cons_ne_nil f rest)
    exact if_neg fun hroom => absurd (s.freePlaces_pos.mp hroom) (Nat.not_lt.mpr hfull)
  · rfl

end Producers

/-- Settles O52: the report by its cases, each producer by its limit, and the offers by their rounds. -/
theorem producersPlaceByTheirLimits : Obligations.ProducersPlaceByTheirLimits := by
  unfold Obligations.ProducersPlaceByTheirLimits
  intro payload placed eventFrame
  have hpayload (e : Event) (lost : Bool) : payload e (if lost = true then 1 else 0) = e.payload lost := by
    cases e with
    | holdExpired n =>
      have hn : n.setWidth 8 = BitVec.ofNat 8 n.toNat := BitVec.eq_of_toNat_eq (by simp)
      simp only [payload, hn]
      cases lost <;> rfl
    | discontinuity fuel d => cases fuel <;> cases lost <;> rfl
    | _ => cases lost <;> rfl
  have hevent (s : State) (e : Event) (rest : List Event) :
      placeEvent e.payload { s with handler := { s.handler with events := rest } } =
        placed s (eventFrame s e) { s.handler with events := rest, eventsLost := false } := by
    simp only [placed, eventFrame, hpayload]
    rfl
  have hclass (e : Event) : ((payload e 0).getD 0 1 - 1).toNat = e.cls := by
    rw [show payload e 0 = e.payload false from hpayload e false]
    exact e.payload_class false
  refine ⟨fun e s => ?_, fun s hp => ?_, fun s => ?_⟩
  · intro x enabled
    have henabled : enabled ↔ s.handler.classes.getLsbD e.cls = true := by
      show s.handler.classes.getLsbD ((payload e 0).getD 0 1 - 1).toNat = true ↔ _
      rw [hclass]
    rw [henabled]
    rcases report_cases e s with ⟨hc, h⟩ | ⟨hc, hl, h⟩ | ⟨hc, hl, hq, h⟩ | ⟨hc, hl, hq, first, rest, he, h⟩
    · have hno := Bool.eq_false_iff.mp hc
      exact ⟨fun _ => h, fun hy => absurd hy hno, fun hy => absurd hy hno, fun _ _ hy => absurd hy hno⟩
    · exact ⟨fun hn => absurd hc hn, fun _ _ => h, fun _ hlt => absurd hl (Nat.not_le.mpr hlt),
        fun _ _ _ hlt => absurd hl (Nat.not_le.mpr hlt)⟩
    · exact ⟨fun hn => absurd hc hn, fun _ hle => absurd hl (Nat.not_lt.mpr hle), fun _ _ _ => h,
        fun _ _ _ _ hlt => absurd hq (Nat.not_le.mpr hlt)⟩
    · refine ⟨fun hn => absurd hc hn, fun _ hle => absurd hl (Nat.not_lt.mpr hle),
        fun _ _ hle => absurd hq (Nat.not_lt.mpr hle), fun first' rest' _ _ _ he' => ?_⟩
      obtain ⟨rfl, rfl⟩ := List.cons.inj (he.symm.trans he')
      exact h.trans (hevent s first rest)
  · intro l x placed lost room
    have hrun {i : Instr} {f : State → State} (hi : exec i s = live f s) : exec i s = .next (f s) :=
      hi.trans (live_powered f s hp)
    have hheld : exec .heldResponsePlaced s = .next (placeHeld s) := hrun rfl
    have hstart : exec .startUpReport s = .next (buildStartUp s) := hrun rfl
    have hbuild : exec .eventFrameBuild s = .next (buildEvent s) := hrun rfl
    have hdump : exec .dumpFrameBuild s = .next (buildDump s) := hrun rfl
    have hbroadcast : exec .broadcastTimerExpiry s = .next (broadcastExpiry s) := hrun rfl
    refine ⟨fun f rest hf hq => ⟨?_, fun hempty => ?_⟩, fun h => ?_, fun codes hcodes hroom => ?_, fun h => ?_,
      fun e rest he hroom => ?_, fun h => ?_, fun c hc hle hone hroom => ?_, fun h => ?_, fun hroom => ?_, fun hfull => ?_⟩
    · rw [hheld, placeHeld_places hf hq]
      rfl
    · rw [hheld, placeHeld_places hf hq]
      exact congrArg Host.Outcome.next (pump_empty hempty)
    · rw [hheld, placeHeld_waits h]
    · rw [hstart, buildStartUp_places hcodes hroom]
      simp only [placed, lost, placeEvent, startUpPayload, encBool]
      rfl
    · rw [hstart, buildStartUp_waits (h.imp id Nat.le_of_not_lt)]
    · rw [hbuild, buildEvent_places he hroom, hevent]
    · rw [hbuild, buildEvent_waits (h.imp id Nat.le_of_not_lt)]
    · rw [hdump, buildDump_places hc hroom]
      obtain ⟨hreads, hend⟩ := dumpWords_reads s.store (n := min 5 c.remaining) (a := c.next) (by omega)
      generalize (dumpWords s.store (min 5 c.remaining) c.next).1 = words at hreads hend ⊢
      generalize (dumpWords s.store (min 5 c.remaining) c.next).2 = failed at hend ⊢
      have hall : words.length = min 5 c.remaining → failed = none := fun h =>
        hend.elim And.right fun hfails => absurd h (Nat.ne_of_lt hfails.1)
      refine ⟨words, hend.elim (fun h => h.1.le) fun h => h.1.le, hreads, fun hlen => ⟨fun hleft => ?_, fun hleft => ?_⟩,
        fun hlen a ha => ?_⟩
      · rw [hall hlen, State.dumpPlaced, DumpContext.after_more hleft, dumpPayload_more hleft]
        rfl
      · rw [hall hlen, State.dumpPlaced, DumpContext.after_last hleft, dumpPayload_last hleft]
        rfl
      · obtain ⟨hword, hfailed⟩ := (hend.resolve_left fun h => Nat.ne_of_lt hlen h.1).2 a ha
        refine ⟨hword, ?_⟩
        rw [hfailed]
        rfl
    · rw [hdump, buildDump_waits (h.symm.imp Nat.le_of_not_lt id)]
    · obtain ⟨top, htop, hnone, hsome⟩ := encChoice_byte s.topPriority
      refine ⟨encMarked 2 enc2i s.roadSpeed, encMarked 3 enc3 s.shown, top, ?_⟩
      intro entry rank stands drives
      have hstands (w : Fin 32) : ((entry w).stands && !(entry w).masked) = true ↔ stands w := Warning.standsUnmasked_iff
      refine ⟨fun h => ?_, fun v h => ?_, fun h => ?_, fun w a hw hleast ha => ?_, fun h => ?_, fun v h => ?_, ?_⟩
      · have hspeed : s.roadSpeed = none := by
          by_contra hs
          obtain ⟨v, hv⟩ := Option.ne_none_iff_exists'.mp hs
          exact h v ((s.roadSpeed_eq_some v).mp hv)
        rw [hspeed]
        rfl
      · rw [(s.roadSpeed_eq_some v).mpr h]
        rfl
      · exact hnone (State.topPriority_none fun w hw => h w ((hstands w).mp hw))
      · refine hsome _ (State.topPriority_some (State.topWarning_eq_some_iff.mpr ⟨(hstands w).mpr hw, fun v hv => ?_⟩) ha)
        exact hleast v ((hstands v).mp hv)
      · rw [State.shown_invalid h]
        rfl
      · rw [h]
        rfl
      · rw [hbroadcast, broadcastExpiry_places hroom, State.broadcastPayload, htop]
        simp only [enc1, List.append_assoc, List.cons_append, List.nil_append]
        rfl
    · rw [hbroadcast, broadcastExpiry_waits hfull]
  · intro x
    refine ⟨s.producerWaits_iff, offerFor_rounds _ s, offer_quiet s, rfl, fun f rest hf hq => handlerTurn_places hf hq,
      handlerTurn_busy, fun hfree hq => ?_, fun f rest hfree hq => ?_⟩
    · rw [handlerTurn_takes (s.handlerFree_iff.mp hfree).2.2, takeFor_nil hq]
    · intro t
      have hturn := handlerTurn_request hfree hq
      exact ⟨fun hlt => hturn.trans (if_pos hlt), fun hle => hturn.trans (if_neg (Nat.not_lt.mpr hle))⟩

end Sys2Proof.Machine
end
